-- ==== Sys2Proof/Word.lean ====
section
/-!
DEFINITION. The word types of the part: a register is 32 bits wide (R7), an octet is 8 bits, and
octet strings are written in the order in which they are sent or stored.
-/

namespace Sys2Proof

/-- A register word (R7). -/
abbrev Word := BitVec 32

/-- One octet. -/
abbrev Byte := BitVec 8

/-- A string of octets, first octet first. -/
abbrev Octets := List Byte

end Sys2Proof
end

