-- ==== Sys2Proof/Forms.lean ====
section
/-!
DEFINITION. The types of the commands' operands, and of what a snapshot carries between two devices.
-/

namespace Sys2Proof

/-- A bus access as the fabric sees it (R551): the initiator's identity, whether the access is secure (R550), and its
width in bytes. -/
structure Access where
  init : Nat
  secure : Bool
  bytes : Nat
  deriving DecidableEq, Repr

/-- What starts an action that a register write and a Hedgerow task can both start: a write, with its access, or the run
of the task. -/
inductive Trigger where
  | write (a : Access)
  | task
  deriving DecidableEq, Repr

/-- Why a domain wakes, as `PWR_WAKESRC.CAUSE` codes it (R516). -/
inductive WakeCause where
  | access (init : Nat)
  | hedgerow
  | interrupt
  | reqWrite
  | group
  | mode
  | booking
  deriving DecidableEq, Repr

/-- What the boot ROM meets at the end of RESET: whether the flash cannot be read, and the main-engine cores that fail their
known-answer test, as bits (R590). -/
structure BootFaults where
  flashBad : Bool
  cores : Nat
  deriving DecidableEq, Repr

/-- What the security engine meets while a section is loaded: the main-engine cores that fail their known-answer test, as bits
(R590), and whether the fall-back engine meets a mismatch (R255). -/
structure EngineFaults where
  cores : Nat
  mism : Bool
  deriving DecidableEq, Repr

/-- A spatial signature: the complex gain of each of the 16 ports, as Gaussian integers (R146). -/
abbrev Sig := List (Int × Int)

/-- What requests the recalibration of a chain (R93). -/
inductive RecalCause where
  | write (a : Access) (w : BitVec 32)
  | temperature (chain : Nat) (degrees : Int)
  | enabled (chain : Nat)
  deriving DecidableEq, Repr

/-- What triggers an RF capture (R101): a write, the task, or an overflow (which acts within OVERFLOW). -/
inductive WordTrigger where
  | write (a : Access) (w : BitVec 32)
  | task
  deriving DecidableEq, Repr

/-- Why a write-back begins (R275): a record has reached its interval, a write of FLUSH, or the WRITEBACK task. -/
inductive WriteBackCause where
  | due (node : Nat)
  | write (a : Access) (w : BitVec 32)
  | task
  deriving DecidableEq, Repr

/-- Who asks Gorse for something (R235): the frame of a lane, the frame in flight of a downstream queue, or the Enh-Ack of a
booking. -/
inductive SecWho where
  | rx (lane : Nat)
  | tx (queue : Nat)
  | eack (booking : Nat)
  deriving DecidableEq, Repr

/-- What a channel access is for (R206, R216, R218): a downstream frame by its number, the empty answer to a POLL, or the beacon of a non-beacon PAN. -/
inductive AttemptFor where
  | down (id : Nat)
  | empty (node : Nat)
  | beacon
  deriving DecidableEq, Repr
/-- Who makes a DRAM request (R407): an engine on a port, by a 40-bit address, or a bus access on port 7, by a bus address in
the DRAM window. -/
inductive DramSource where
  | engine (port : Nat) (addr : Nat)
  | bus (acc : Access) (addr : Nat)
  deriving DecidableEq, Repr

/-- An error the ECC check of an access finds in a word: the word's DRAM offset, and the position of a single-bit error, 0–71;
none for an uncorrectable error (R404, R405). -/
structure EccError where
  word : Nat
  bit : Option Nat
  deriving DecidableEq, Repr

/-- The rails the supply monitors watch (R574). -/
inductive Rail where
  | core | aon | ana | io | vdd2 | vddq
  deriving DecidableEq, Repr

/-- How a token reaches Lapwing (R493): by a write of `LPW_TOK_CMD`, or as the oldest message of queue 63. -/
inductive TokenVia where
  | write (a : Access) (w : BitVec 32)
  | queue
  deriving DecidableEq, Repr

/-- The memory operations of an AMO (R547). -/
inductive AmoOp where
  | swap | add | xor | and | or | min | max | minu | maxu
  deriving DecidableEq, Repr

/-- An access to the application SRAM (R547, R556); its size is the access's own, and a written value is in its low bytes. -/
inductive SramOp where
  | read
  | write (v : BitVec 32)
  | lr
  | sc (v : BitVec 32)
  | amo (op : AmoOp) (v : BitVec 32)
  deriving DecidableEq, Repr

/-- What the (39,32) code finds in the word an access reads (R556). -/
inductive SramEcc where
  | clean | single | double
  deriving DecidableEq, Repr

namespace Machine

/-- A released frame in Sheaf's input buffer (R289): its MAC header, kept for the frame records of R336, its payload, the MSEQ
of its RELEASE record where it was mirrored, and TS64 of its mirror cut-off. -/
structure ShfFrame where
  sfdts : Nat
  lock : Bool
  mode : Nat
  pan : Nat
  ch : Nat
  rssi : Nat
  lqi : Nat
  node : Nat
  dec : Nat
  secured : Bool
  isData : Bool
  header : Octets
  payload : Octets
  mseq : Nat
  due : Nat := 0
  deriving DecidableEq, Repr

/-- The accumulation of a summary window (R305): its number j, the samples, the earliest and latest SFDTS, whether every
sample had lock flag 1, and per field the least, the greatest and the sum. -/
structure ShfWin where
  j : Nat
  count : Nat
  first : Nat
  last : Nat
  lock : Bool
  mins : List Int
  maxs : List Int
  sums : List Int
  deriving DecidableEq, Repr

/-- A flow (R297 to R305): the node and rule it is bound to, SEQ of its next record, each field's previous value and Rice
state, the stored rest, the DELTA records since its last anchor (none before the first), the SFDTS of its last sample, whether
a dropped batch owes an anchor with GAP, the records since its last BIND (none before the first), the windows, and its place
in the order of use. -/
structure Flow where
  node : Nat
  rule : Nat
  seq : Nat
  xr : List Int
  rice : List Nat
  rest : Octets
  deltas : Option Nat
  lastTs : Nat
  gapOwed : Bool
  sinceBind : Option Nat
  wins : List ShfWin
  used : Nat
  deriving DecidableEq, Repr

/-- An open batch (R308, R312): its record octets, their number, TS64 of the first append and WAIT in ms then, T0 and T'prev, whether some
record has LOCK 0, and the flows with a record in it. -/
structure Batch where
  octets : Octets
  nrec : Nat
  firstAt : Nat
  wait : Nat
  t0 : Option Nat
  tprev : Nat
  unlocked : Bool
  flows : List Nat
  deriving DecidableEq, Repr

/-- An empty batch. -/
def Batch.empty : Batch :=
  { octets := [], nrec := 0, firstAt := 0, wait := 0, t0 := none, tprev := 0, unlocked := false, flows := [] }

/-- A batch class (R312, R313): the open batch, the waiting batch with its BSEQ and whether a flush closed it, the next BSEQ,
and whether the next batch is the first since LOAD. -/
structure BatchClass where
  cur : Batch
  waiting : Option (Octets × Nat × Bool)
  bseq : Nat
  resumed : Bool
  deriving DecidableEq, Repr

/-- The window of a network queue (R339): HIGHSEQ once a message has set it, and the sequences marked, each with whether a
timeout marked it. -/
structure SeqWindow where
  queue : Nat
  high : Nat
  marks : List (Nat × Bool)
  deriving DecidableEq, Repr

/-- A downstream frame from its first start to its completion (R220, R221): its number, queue, descriptor index and
descriptor, PAN, destination node, mode, the MAC header and payload before securing with the header's length, the MPDU as
sent, DSN and counter; whether it is held, since when and after how many unacknowledged attempts; the attempts that reached
step 1 and TS64 of the last first chip; whether it waits for Gorse; the MSEQ its DSTART must be acknowledged to; and, once it
was moved to a held list, the advance of CI that waits for its DHOLD. -/
structure Down where
  id : Nat
  queue : Nat
  index : Nat
  desc : Octets
  pan : Nat
  node : Option Nat
  mode : Nat
  plain : Octets
  hdrLen : Nat
  mpdu : Octets
  dsn : Nat
  counter : Nat
  held : Bool
  heldFrom : Nat
  fails : Nat
  tries : Nat
  firstChip : Nat
  needsKey : Bool
  gate : Option Nat
  ciOwed : Option (Option Nat)
  /-- The key the frame was sealed with: a frame sent again is sealed with it (R247). -/
  key : Octets
  /-- The slot of its key and the generation captured when it was to be secured (R235). -/
  slot : Option (Nat × Nat)
  deriving DecidableEq, Repr

/-- What a SNAP frame of regions 1 to 6 ends (R371): a flow, a class, an input slot, an entry of a ring with its data, a ring's
indices, SEQ and whether its first message has gone, a HIGHSEQ window, a held frame, a PAN's BSN and DSN, a group slot's
reserved block, or a mirrored register. The manual gives the contents of the regions and not their layout. -/
inductive SnapItem where
  | flow (slot : Nat) (f : Flow)
  | cls (n : Nat) (c : BatchClass)
  | input (f : ShfFrame)
  | entry (queue index : Nat) (desc data : Octets)
  | ring (queue pi ci seq : Nat) (begun : Bool)
  | window (w : SeqWindow)
  | held (d : Down)
  | pan (pan bsn dsn : Nat)
  | group (slot : Nat) (block : Option Nat)
  | reg (addr : Nat) (w : Word)
  deriving DecidableEq, Repr

end Machine

end Sys2Proof
end

