-- ==== Sys2Proof/Syntax.lean ====
section
/-!
DEFINITION. The commands of the block: one constructor per row of the manual's table of operations and events. The first
operand `dt` of every command is the time that has passed since the command before it, in timebase cycles of 3.125 ns
(assumption 1). The other operands are what reaches the part from outside with that occurrence.
-/

namespace Sys2Proof

/-- The commands: the rows of spec/opcode_table.json, in its order. -/
inductive Instr where
  /-- A write to a register field that has no row of its own, applied by its access code, with error responses for bad width, offsets, windows or initiators (R10). -/
  | registerWrite (dt : Nat) (acc : Access) (a : Nat) (w : BitVec 32)
  /-- Every supply rail has stayed above its rising threshold for 1 ms, so RESET proceeds (R573). -/
  | powerGood (dt : Nat)
  /-- A rail stays below its falling threshold for 1 µs and requests a reset with cause POR (R574). -/
  | supplyMonitorReset (dt : Nat) (rail : Rail) (mv : Nat)
  /-- RESET_N is held low for 1 µs or more and resets the device with cause RESETN (R580). -/
  | resetN (dt : Nat) (low : Bool)
  /-- The backup check, OTP shadow read and life-cycle decision complete, and RESET goes to LOAD unless the device is SCRAPPED (R463). -/
  | resetEnd (dt : Nat) (backupBad : Bool) (vdd : Bool) (faults : BootFaults)
  /-- The header key hash and ECDSA signature check completes, passing or failing the load (R458). -/
  | signatureVerified (dt : Nat)
  /-- A section has been read, hashed, CRC-checked and applied or unwrapped at its destination (R461). -/
  | sectionLoaded (dt : Nat) (index : Nat) (nvm : Option Octets) (flashBad : Bool) (engine : EngineFaults)
  /-- LOAD has not ended 2,000 ms after it began and fails with TIMEOUT (R462). -/
  | loadTimeout (dt : Nat)
  /-- When the last self-test item ends, the results are judged, STDONE is raised and the mode changes or SAFE is entered (R465). -/
  | selftestJudge (dt : Nat) (decFail : Nat)
  /-- The sample PLL loses lock for over 10 µs or TCXO_IN stops for over 2 µs, so chains ramp down, lanes abort and the device resets (R62). -/
  | pllFault (dt : Nat) (tcxo : Bool)
  /-- No measurement arrives for 2 s, so ACQ goes to FREE or LOCKED goes to COAST and SRC_LOST is raised (R67). -/
  | sourceTimeout (dt : Nat)
  /-- TIM_COAST.COAST_S elapses in COAST without a measurement and the time rim enters FREE (R67). -/
  | coastExpiry (dt : Nat)
  /-- A mode change or TIM_CTRL.SRC write changes the active source, passing through COAST from LOCKED (R69). -/
  | activeSourceChange (dt : Nat) (wr : Option (Access × Word))
  /-- A write of GO applies the signed step to TS64 in FREE or ACQ, or sets REFUSED in LOCKED or COAST (R68). -/
  | stepGo (dt : Nat) (acc : Access) (w : Word)
  /-- A read of TIM_TS_LO returns TS64 [31:0] and latches [63:32] into TIM_TS_HI (R70). -/
  | tsLoRead (dt : Nat) (acc : Access)
  /-- TS64 reaches or passes a multiple of 320,000,000 ticks and the SECOND event fires (R72). -/
  | second (dt : Nat)
  /-- TS64 reaches or passes a multiple of 320,000 ticks and the MILLI event fires (R72). -/
  | milli (dt : Nat)
  /-- The CAPTURE task copies TS64 to TIM_CAP_LO and TIM_CAP_HI (R72). -/
  | capture (dt : Nat)
  /-- At the end of LOAD the voltage loop reads VOUT_MODE, STATUS_WORD and READ_VOUT and commands CODE 70 (R49). -/
  | loopStart (dt : Nat) (ack : Bool) (pecOk : Bool) (voutMode : Byte) (status : Nat) (vout : Nat)
  /-- The dwell expires with every canary at or above DOWN and the loop commands one code lower (R50). -/
  | stepDown (dt : Nat) (slacks : List Nat)
  /-- A canary reads below UP and the loop commands CODE + UPSTEP (R51). -/
  | stepUp (dt : Nat) (slacks : List Nat)
  /-- A canary below EMERG or at 0, a D1 miss, a D2 late decision or a stall sends the loop to EMERG at CODE 70 (R51). -/
  | emergency (dt : Nat) (slacks : List Nat)
  /-- A PMBus VOUT_COMMAND write completes, restarting the dwell and starting any pending command (R52). -/
  | voutCommandDone (dt : Nat) (ack : Bool)
  /-- The loop reads READ_VOUT and STATUS_WORD after a command, every 10 ms or on alert, and enters FROZEN on a fault (R54). -/
  | readbackCheck (dt : Nat) (ack : Bool) (pecOk : Bool) (status : Nat) (vout : Nat)
  /-- PMB_ALERT_N is asserted and a readback check follows within 150 µs (R54). -/
  | pmbAlert (dt : Nat)
  /-- A write of 1 to PWR_VL_ERR.FROZEN restarts the loop as at the end of LOAD (R55). -/
  | frozenRestart (dt : Nat) (acc : Access) (w : Word)
  /-- A write to PWR_VL_FORCE.HOLDMAX commands and holds CODE 70, or on clearing restarts the dwell (R50). -/
  | holdmax (dt : Nat) (acc : Access) (w : Word)
  /-- A D1 or D2 stage holds a request over 2 µs, setting STALL, logging the site and firing a Gorse alarm (R41). -/
  | stallAlarm (dt : Nat) (site : Nat)
  /-- A sample reaches a full rim-to-core FIFO, the port discards samples, aborts every lane with OVF and sets the flags (R57). -/
  | overflow (dt : Nat) (port : Nat)
  /-- The overflowed FIFO drains to 256 samples and accepts samples again, restarting detection (R57). -/
  | gapEnd (dt : Nat) (port : Nat)
  /-- A core-to-rim FIFO runs empty during a frame, which ramps down and ends as UNDERRUN (R59). -/
  | txUnderrun (dt : Nat) (chain : Nat)
  /-- ATTACK clipped samples occur within 1 µs and the port lowers GAIN by one step (R76). -/
  | agcStepDown (dt : Nat) (port : Nat) (clipped : Nat) (power : Int)
  /-- The wideband RMS stays 8 dB below target for DECAY and the port raises GAIN by one step (R76). -/
  | agcStepUp (dt : Nat) (port : Nat) (power : Int)
  /-- Step 1 of a transmission: FEM outputs go to PAT_TX, the switch goes to transmit and the port is blanked, or the booking ends SYNTH or LATE (R84). -/
  | txWindowOpen (dt : Nat) (chain : Nat) (loaded : Bool)
  /-- Step 2: the chain samples LEVEL, the ramp-up and the desense interval start (R81). -/
  | rampUp (dt : Nat) (chain : Nat)
  /-- Step 3: the first chip is sent and the output detector compares the level (R84). -/
  | txStart (dt : Nat) (chain : Nat) (diff : Int)
  /-- Step 4: at E the ramp-down begins (R82). -/
  | rampDown (dt : Nat) (chain : Nat)
  /-- Step 5: the output is off and the transmission outcome is given (R84). -/
  | txEnd (dt : Nat) (chain : Nat)
  /-- Step 6: the port outputs return to PAT_RX and the switch to receive (R84). -/
  | femReceive (dt : Nat) (chain : Nat)
  /-- Step 7: the desense interval ends and detection resumes on the channel (R88). -/
  | desenseEnd (dt : Nat) (chain : Nat)
  /-- Step 8: the port is unblanked (R84). -/
  | portUnblank (dt : Nat) (chain : Nat)
  /-- Start calibration ends, setting RIM_CAL_STAT, clearing run bits of failed ports and chains and raising CAL_DONE (R90). -/
  | calibrationEnd (dt : Nat) (loFail : Bool) (rxFail : Nat) (txFail : Nat) (iso : List Nat) (calnf : List Int) (degrees : List Int)
  /-- A write of TXCHAIN, a temperature change or a re-enable requests a chain recalibration (R93). -/
  | txchainRecalRequest (dt : Nat) (cause : RecalCause)
  /-- The link sequencer grants the chain when it has nothing booked for 1.2 ms and recalibration runs (R93). -/
  | recalGrant (dt : Nat) (chain : Nat)
  /-- A chain recalibration ends within 1.2 ms (R93). -/
  | recalDone (dt : Nat) (chain : Nat) (ok : Bool) (iso : List Nat) (degrees : Int)
  /-- A write of an RXPORT bit repeats items 2 to 5 for that port, one port at a time (R94). -/
  | rxportCalRequest (dt : Nat) (acc : Access) (w : Word)
  /-- A port's repeated calibration ends and its request bit clears (R94). -/
  | rxportCalDone (dt : Nat) (ok : Bool)
  /-- A write of RIM_CTRL.PILOT turns pilot tracking on, or off freezing the tracked values (R92). -/
  | pilot (dt : Nat) (acc : Access) (w : Word)
  /-- A write of RIM_PORT_RUN blanks or enables ports and removes chains from new bookings (R96). -/
  | portRunWrite (dt : Nat) (acc : Access) (w : Word)
  /-- The receive LO loses lock for over 1 µs, every lane aborts and detection is suspended (R97). -/
  | loUnlock (dt : Nat)
  /-- The receive LO locks again and detection resumes (R97). -/
  | loRelock (dt : Nat)
  /-- The LO has not relocked within 1 ms and Lapwing resets the device with cause RXLO (R97). -/
  | rxloTimeout (dt : Nat)
  /-- START begins an RF capture, or is refused with ERR or ignored while ACTIVE (R100). -/
  | capStart (dt : Nat) (acc : Access) (w : Word)
  /-- STOP or the CAP_STOP task ends the capture at the next block boundary with STOPPED (R101). -/
  | capStop (dt : Nat) (src : WordTrigger)
  /-- TRIG, the CAP_TRIG task or an overflow triggers an active RING capture once (R101). -/
  | capTrig (dt : Nat) (src : WordTrigger)
  /-- Each 100 ns the blocks of the selected ports are written or dropped, and the capture may end DONE (R100). -/
  | captureBlock (dt : Nat) (blocks : List (Nat × List (Int × Int) × Bool))
  /-- A 16 µs window ends and each qualifying channel takes a quiet-channel noise estimate (R135). -/
  | noiseWindowEnd (dt : Nat) (quiet : List (Nat × Int))
  /-- RESEED or the NF_RESEED task restarts every channel's noise floor at CALNF (R136). -/
  | nfReseed (dt : Nat) (src : WordTrigger)
  /-- A preamble is detected on a channel and claims a lane, pre-empting or being dropped (R141). -/
  | detection (dt : Nat) (ch : Nat) (timings : List Nat) (peaks : List Sig)
  /-- Two preamble symbols complete, the signature is projected and the first checkpoint is taken (R150). -/
  | estEnd (dt : Nat) (lane : Nat) (h : Sig) (offset : Int) (timing : Nat)
  /-- A lane finds its SFD, takes SFDTS and the second checkpoint is taken (R150). -/
  | sfdFound (dt : Nat) (lane : Nat) (sfd : Nat) (back : Nat) (snr : Int)
  /-- No SFD within 10 symbols of detection and the lane returns to IDLE (R143). -/
  | sfdTimeout (dt : Nat) (lane : Nat)
  /-- The lane checks the PHR and enters PSDU, binding a decoder in extended modes, or reports PHR_BAD (R115). -/
  | phrEnd (dt : Nat) (lane : Nat) (phr : Nat) (snr : Int) (corrs : List Nat)
  /-- At a lane's next symbol boundary after the channel's lane set changes, its weights change (R151). -/
  | mmseWeightChange (dt : Nat) (lane : Nat)
  /-- A payload symbol is despread and tested for signal loss, entering LOST after LOSSSYM failures (R145). -/
  | payloadSymbol (dt : Nat) (lane : Nat) (sym : Nat) (soft : List Int) (corr : Nat) (best : Sig) (h : Sig)
  /-- A despread or decoded octet is streamed to the link sequencer (R142). -/
  | octetRelease (dt : Nat) (lane : Nat)
  /-- The last chip of the last symbol arrives and the lane enters FINAL (R130). -/
  | lastChip (dt : Nat) (lane : Nat)
  /-- The declared end plus 2 payload symbols passes and a LOST lane reports TRUNC (R145). -/
  | lostEnd (dt : Nat) (lane : Nat)
  /-- Final despreading, traceback and FCS complete and the lane delivers its report (R143). -/
  | finalComplete (dt : Nat) (lane : Nat)
  /-- The link sequencer accepts a frame report and the lane returns to IDLE (R143). -/
  | reportAccepted (dt : Nat) (lane : Nat)
  /-- A block of soft bits reaches a context's input buffer, or overflows it (R164). -/
  | decoderBlock (dt : Nat) (lane : Nat)
  /-- A provisional octet is traced back at depth 16 and released to start the lookup (R167). -/
  | provisionalOctet (dt : Nat) (lane : Nat)
  /-- A final octet is traced back at depth 48 and released for parsing, Gorse and FCS (R167). -/
  | finalOctet (dt : Nat) (lane : Nat)
  /-- The decoder completes the final block and the traceback from state 0 (R171). -/
  | finalTraceback (dt : Nat) (lane : Nat)
  /-- The link sequencer hands a booking to the transmit path, which places, displaces or refuses it (R173). -/
  | booking (dt : Nat)
  /-- The link sequencer cancels a booking before step 1, which ends CANCELLED (R174). -/
  | cancel (dt : Nat)
  /-- A chain's synthesiser completes locking on the booked channel (R177). -/
  | synthLock (dt : Nat) (chain : Nat)
  /-- A booking's outcome reaches the link sequencer, driving retries, acknowledgement waits and completions (R174). -/
  | txOutcome (dt : Nat)
  /-- The TX_HALT task writes 0 to COD_TXLIM.MAXCH (R184). -/
  | txHalt (dt : Nat)
  /-- At the last chip of an OK frame the link sequencer decides it, books any acknowledgement and starts the commit and journal record (R191). -/
  | decision (dt : Nat) (lane : Nat)
  /-- 180 µs after the last chip the frame and acknowledgement are released or withheld together (R197). -/
  | mirrorCutOff (dt : Nat)
  /-- An acknowledgement frame received within the wait matches a sent frame's DSN (R209). -/
  | ackMatch (dt : Nat) (lane : Nat)
  /-- ACKWAIT symbols pass without a match and the frame is retried or completes NO_ACK (R209). -/
  | ackWaitEnd (dt : Nat)
  /-- A CSMA-CA back-off ends, the chain is booked and CCA starts (R206). -/
  | backoffEnd (dt : Nat) (pan : Nat) (who : AttemptFor)
  /-- The 8-symbol CCA ends idle or busy and the frame is sent, backed off again or fails access (R207). -/
  | ccaEnd (dt : Nat) (pan : Nat) (who : AttemptFor) (p0 : Nat) (p1 : Nat) (p2 : Nat) (p3 : Nat)
  /-- 2 ms before a beacon instant the PAN's beacon is booked, or missed if a step passed it (R210). -/
  | beaconBooking (dt : Nat) (pan : Nat)
  /-- A beacon request starts unslotted CSMA-CA for each running non-beacon PAN's beacon (R216). -/
  | bcnreqBeacon (dt : Nat) (pan : Nat)
  /-- The active period of a beacon-enabled PAN ends and no DATA booking starts until the next beacon (R215). -/
  | activePeriodEnd (dt : Nat) (pan : Nat)
  /-- After a POLL's acknowledgement the first held frame is booked with CSMA-CA (R218). -/
  | indirectSend (dt : Nat) (node : Nat)
  /-- A held frame reaches PERSIST and completes EXPIRED (R219). -/
  | heldExpiry (dt : Nat)
  /-- The scheduler starts an eligible queue's head frame, assigning DSN, mode and counter or completing it (R221). -/
  | downstreamStart (dt : Nat)
  /-- A write of LNK_DQ_ABORT aborts a downstream queue's frames (R223). -/
  | dqAbort (dt : Nat) (acc : Access) (w : BitVec 32)
  /-- Clearing or setting a PANRUN bit stops or starts a logical PAN (R188). -/
  | panrunWrite (dt : Nat) (acc : Access) (w : BitVec 32)
  /-- The ADM_NEXT task advances LNK_ADM.INDEX by 1 modulo 2^M (R214). -/
  | admNext (dt : Nat)
  /-- A software write of LNK_ADM sets the admission window and stops the pacer (R469). -/
  | admWrite (dt : Nat) (acc : Access) (w : BitVec 32)
  /-- The DQ_HALT task writes 0 to LNK_DQ_RUN (R226). -/
  | dqHalt (dt : Nat)
  /-- The link sequencer issues an RX, TX or EACK request to Gorse, which ends with one result (R235). -/
  | secRequest (dt : Nat) (who : SecWho)
  /-- A reservation record becomes durable, and mirrored in PRIMARY, so values of the block may be used (R246). -/
  | reservationDurable (dt : Nat)
  /-- Every 1 ms a refused reservation is tried again (R246). -/
  | reservationRetry (dt : Nat)
  /-- An armed alarm source fires and Gorse zeroises every key and clears RUN (R253). -/
  | faultAlarm (dt : Nat) (source : Nat) (live : Nat)
  /-- A write of SEC_CTRL.ZEROISE or the ZEROISE task fires alarm source SW (R252). -/
  | zeroise (dt : Nat) (trig : WordTrigger)
  /-- Lapwing clears SEC_ALARM, and when all bits are 0 Gorse re-derives the KWK and runs its known-answer test (R254). -/
  | alarmClear (dt : Nat) (acc : Access) (w : Word) (live : Nat) (katFail : Nat)
  /-- Lapwing sets RUN after rebuilding slots and the REBUILT event is raised (R254). -/
  | rebuilt (dt : Nat) (acc : Access) (w : Word)
  /-- A write of SEC_CTRL.ALOCK locks SEC_ALARM_EN until reset (R259). -/
  | alock (dt : Nat) (acc : Access) (w : Word)
  /-- Page operation 0 secures data with CCM* (R257). -/
  | pageCcmSecure (dt : Nat) (acc : Access) (page : Nat) (w : Word)
  /-- Page operation 1 verifies and decrypts data with CCM* (R257). -/
  | pageCcmUnsecure (dt : Nat) (acc : Access) (page : Nat) (w : Word)
  /-- Page operation 2 computes AES-CMAC (R257). -/
  | pageCmac (dt : Nat) (acc : Access) (page : Nat) (w : Word)
  /-- Page operation 3 encrypts one block with the page key (R257). -/
  | pageEcb (dt : Nat) (acc : Access) (page : Nat) (w : Word)
  /-- Page operation 4 wraps the page key under the KWK (R257). -/
  | pageWrap (dt : Nat) (acc : Access) (page : Nat) (w : Word)
  /-- Page operation 5 unwraps 24 octets into a slot (R257). -/
  | pageUnwrap (dt : Nat) (acc : Access) (page : Nat) (w : Word)
  /-- Page operation 6 derives a link key into a slot (R257). -/
  | pageDerive (dt : Nat) (acc : Access) (page : Nat) (w : Word)
  /-- Page operation 7 copies the page key into a slot (R257). -/
  | pageCopy (dt : Nat) (acc : Access) (page : Nat) (w : Word)
  /-- Page operation 8 erases a slot (R257). -/
  | pageErase (dt : Nat) (acc : Access) (page : Nat) (w : Word)
  /-- A GO with OP 9 to 15 or over-long lengths ends BADARG (R258). -/
  | pageBadarg (dt : Nat) (acc : Access) (page : Nat) (w : Word)
  /-- ABORT ends a running page operation ABORTED, or DONE with ABORT_LATE (R258). -/
  | pageAbort (dt : Nat) (acc : Access) (page : Nat) (w : Word) (finished : Bool)
  /-- CLEAR zeroises the page key, tag and nonce (R257). -/
  | pageClear (dt : Nat) (acc : Access) (page : Nat) (w : Word)
  /-- A page operation completes on the fall-back engine with one result (R258). -/
  | pageDone (dt : Nat) (fault : Bool) (memErr : Bool)
  /-- The source address is parsed and the context store looks it up, hitting or starting a fill (R269). -/
  | lookup (dt : Nat) (lane : Nat)
  /-- The map entry or buckets and the record return and are installed in the hot context (R269). -/
  | lookupFill (dt : Nat) (bad1 : Bool) (bad2 : Bool) (badRecord : Bool)
  /-- A dirty context reaches its write-back interval, or FLUSH or the WRITEBACK task, and its record is written back (R275). -/
  | writeBack (dt : Nat) (cause : WriteBackCause)
  /-- A write-back completes or is refused, leaving the record dirty (R275). -/
  | writeBackDone (dt : Nat) (node : Nat) (ok : Bool)
  /-- Command READ copies a coherent record to the staging buffer (R282). -/
  | ctxRead (dt : Nat) (acc : Access) (ch : Nat) (w : BitVec 32) (ecc : Bool)
  /-- Command CREATE makes or revives a record (R282). -/
  | ctxCreate (dt : Nat) (acc : Access) (ch : Nat) (w : BitVec 32) (ecc : Bool)
  /-- Command RESTORE makes a record with H fields overlaid from the journal state (R282). -/
  | ctxRestore (dt : Nat) (acc : Access) (ch : Nat) (w : BitVec 32) (ecc : Bool)
  /-- Command UPDATE writes masked fields, optionally moving the node to another PAN (R282). -/
  | ctxUpdate (dt : Nat) (acc : Access) (ch : Nat) (w : BitVec 32) (ecc : Bool)
  /-- Command REKEY writes a new key reference and restarts the counters (R282). -/
  | ctxRekey (dt : Nat) (acc : Access) (ch : Nat) (w : BitVec 32) (ecc : Bool)
  /-- Command RETIRE retires a record and unbinds its address (R282). -/
  | ctxRetire (dt : Nat) (acc : Access) (ch : Nat) (w : BitVec 32) (ecc : Bool)
  /-- Command PURGE zeroes a retired record (R283). -/
  | ctxPurge (dt : Nat) (acc : Access) (ch : Nat) (w : BitVec 32) (ecc : Bool)
  /-- Command ALLOC binds the lowest free short address (R284). -/
  | ctxAlloc (dt : Nat) (acc : Access) (ch : Nat) (w : BitVec 32) (ecc : Bool)
  /-- Command BIND binds a given short address (R282). -/
  | ctxBind (dt : Nat) (acc : Access) (ch : Nat) (w : BitVec 32) (ecc : Bool)
  /-- Command UNBIND moves a node's short address into quarantine (R282). -/
  | ctxUnbind (dt : Nat) (acc : Access) (ch : Nat) (w : BitVec 32) (ecc : Bool)
  /-- A command with OP 10 to 15 ends BADARG (R285). -/
  | ctxBadop (dt : Nat) (acc : Access) (ch : Nat) (w : BitVec 32) (ecc : Bool)
  /-- A context-store command ends with one result code once any index reset record is durable (R285). -/
  | cmdDone (dt : Nat)
  /-- A quarantined short address returns to free after CTX_QUAR seconds (R284). -/
  | quarantineExpiry (dt : Nat)
  /-- After journal recovery the context store rebuilds the node table warm or cold and raises REBUILT (R280). -/
  | tableRebuild (dt : Nat) (badHeader : Bool) (bad : List Nat)
  /-- Sheaf takes the next released frame, matches a rule and sends it raw, discards it or codes it in its flow (R297). -/
  | sheafProcess (dt : Nat) (err : Bool) (lost : Bool × Bool)
  /-- Room appears in a raw queue and the waiting frame is written (R290). -/
  | rawQueueRoom (dt : Nat)
  /-- TS64 reaches the first append plus WAIT and the open batch closes (R312). -/
  | batchAgeClose (dt : Nat) (cls : Nat)
  /-- SHF_CTRL.FLUSH or the FLUSH task closes every non-empty open batch (R312). -/
  | flush (dt : Nat) (trigger : WordTrigger)
  /-- Every batch a flush closed has been written or dropped (R312). -/
  | flushDone (dt : Nat)
  /-- TS64 passes a summary window end plus 0.2 s and its records are appended (R305). -/
  | window (dt : Nat)
  /-- Room appears in a batch queue and the waiting batch is written (R313). -/
  | waitingBatchWrite (dt : Nat) (cls : Nat)
  /-- An Ethernet port's link comes up (R320). -/
  | linkUp (dt : Nat) (port : Nat) (signalled : Nat) (full : Bool)
  /-- An Ethernet port's link goes down, with failover when it was active (R320). -/
  | linkDown (dt : Nat) (port : Nat)
  /-- 1 s after the preferred port's link returns, traffic reverts to it (R320). -/
  | revert (dt : Nat)
  /-- A received Ethernet frame is filtered and handled as ARP, ICMP, PAUSE, PTP or a Weavan message (R327). -/
  | ethernetReceive (dt : Nat) (port : Nat) (frame : Octets) (code : Bool)
  /-- An MDIO clause 45 address transaction (R322). -/
  | mdioAddress (dt : Nat) (acc : Access) (port : Nat) (w : BitVec 32)
  /-- An MDIO write transaction (R322). -/
  | mdioWrite (dt : Nat) (acc : Access) (port : Nat) (w : BitVec 32)
  /-- An MDIO read transaction (R322). -/
  | mdioRead (dt : Nat) (acc : Access) (port : Nat) (w : BitVec 32)
  /-- An MDIO clause 45 read with increment (R322). -/
  | mdioReadIncrement (dt : Nat) (acc : Access) (port : Nat) (w : BitVec 32)
  /-- An MDIO transaction completes and MDIOnDONE is raised (R322). -/
  | mdioDone (dt : Nat) (port : Nat) (value : Option Nat)
  /-- On port activation or every ARPREF seconds the next hop is resolved (R324). -/
  | nextHopResolve (dt : Nat)
  /-- A resolution try goes 1 s unanswered, is retried or after three raises NHFAIL (R324). -/
  | resolveTryTimeout (dt : Nat)
  /-- A DOWN segment is checked against the window and reassembled into a message (R339). -/
  | downSegment (dt : Nat) (m : Octets)
  /-- A context stays open SEGTO ms and is discarded with its SEQ marked (R340). -/
  | reassemblyTimeout (dt : Nat)
  /-- The active port, free, starts the next message by precedence and round robin (R342). -/
  | upstreamSend (dt : Nat)
  /-- The last octet of a message leaves the port and the queue's CI advances (R342). -/
  | messageSent (dt : Nat)
  /-- Every STATINT × 10 ms a STATUS message is queued (R345). -/
  | statusTimer (dt : Nat)
  /-- The STATUS_SEND task or UPL_CTRL.STATUS queues a STATUS message (R345). -/
  | statusSend (dt : Nat) (trigger : WordTrigger)
  /-- Software advances a queue's producer index, or raises RINGERR (R332). -/
  | piWrite (dt : Nat) (acc : Access) (q : Nat) (w : BitVec 32)
  /-- Software advances a queue's consumer index, or raises RINGERR (R332). -/
  | ciWrite (dt : Nat) (acc : Access) (q : Nat) (w : BitVec 32)
  /-- A PTP Sync is received and timestamped (R350). -/
  | sync (dt : Nat) (m : Octets)
  /-- A PTP Follow_Up supplies t1 of its Sync (R350). -/
  | followUp (dt : Nat) (m : Octets)
  /-- A Delay_Resp gives t3, t4 and the mean path delay, forming an offset and servo update (R350). -/
  | delayResp (dt : Nat) (m : Octets)
  /-- An Announce is qualified and the best master is selected (R349). -/
  | announce (dt : Nat) (m : Octets)
  /-- At a random instant a Delay_Req is sent and timestamped (R350). -/
  | delayReq (dt : Nat)
  /-- 3 announce intervals pass without an Announce and the port returns to LISTENING with PTPTO (R349). -/
  | announceTimeout (dt : Nat)
  /-- Every 10 µs each device sends HEART on each lane (R356). -/
  | heartSend (dt : Nat)
  /-- A HEART frame is received, counting towards lane up and giving a time exchange (R359). -/
  | heart (dt : Nat) (lane : Nat) (frame : Octets)
  /-- 30 µs pass without a valid HEART or block lock is lost for 1 µs, and the lane or link is lost (R360). -/
  | laneLoss (dt : Nat) (lane : Nat) (block : Bool)
  /-- A Stile ACK advances MACK and XACK and releases held frames (R358). -/
  | ack (dt : Nat) (lane : Nat) (frame : Octets)
  /-- A frame unacknowledged for 20 µs is sent again on the other lane (R358). -/
  | resendTimeout (dt : Nat)
  /-- Every 1 ms until the election ends, ELECT is sent on both lanes (R363). -/
  | electSend (dt : Nat)
  /-- An ELECT frame is received and the pairing test and election decide (R365). -/
  | elect (dt : Nat) (lane : Nat) (frame : Octets)
  /-- 60 ms pass without ELECT and SELFTEST goes to SOLO (R365). -/
  | electionTimeout (dt : Nat)
  /-- CMD REQUEST asks the primary to yield (R374). -/
  | request (dt : Nat) (lane : Nat) (frame : Octets)
  /-- CMD YIELD with H makes the partner enter TAKEOVER (R375). -/
  | yield (dt : Nat) (lane : Nat) (frame : Octets)
  /-- CMD YIELD_DONE gives the old primary's last MSEQ and the new primary takes over (R375). -/
  | yieldDone (dt : Nat) (lane : Nat) (frame : Octets)
  /-- CMD RESIGN from the partner marks the link lost and starts an attached takeover when in SYNC (R376). -/
  | resign (dt : Nat) (lane : Nat) (frame : Octets)
  /-- A DECIDE record is applied and held pending by the standby (R370). -/
  | decide (dt : Nat) (lane : Nat) (frame : Octets)
  /-- A WITHHOLD record restores the node's counters on the standby (R370). -/
  | withhold (dt : Nat) (lane : Nat) (frame : Octets)
  /-- A RELEASE record releases a pending DECIDE and feeds the standby's Sheaf (R370). -/
  | release (dt : Nat) (lane : Nat) (frame : Octets)
  /-- A RESV record is applied and journalled (R367). -/
  | resv (dt : Nat) (lane : Nat) (frame : Octets)
  /-- A DSTART record mirrors the first start of a downstream frame (R367). -/
  | dstart (dt : Nat) (lane : Nat) (frame : Octets)
  /-- A DHOLD record mirrors a frame moved to a held list (R367). -/
  | dhold (dt : Nat) (lane : Nat) (frame : Octets)
  /-- A DDONE record mirrors a downstream completion (R367). -/
  | ddone (dt : Nat) (lane : Nat) (frame : Octets)
  /-- A QIN record mirrors a descriptor entering a downstream ring (R367). -/
  | qin (dt : Nat) (lane : Nat) (frame : Octets)
  /-- A CTXCMD record applies a context-store command on the standby (R367). -/
  | ctxcmd (dt : Nat) (lane : Nat) (frame : Octets)
  /-- A SHFCLOSE record places a batch closure in the standby's Sheaf (R367). -/
  | shfclose (dt : Nat) (lane : Nat) (frame : Octets)
  /-- A SHFWIN record places a summary window emission in the standby's Sheaf (R367). -/
  | shfwin (dt : Nat) (lane : Nat) (frame : Octets)
  /-- A USENT record advances a shadow upstream queue (R367). -/
  | usent (dt : Nat) (lane : Nat) (frame : Octets)
  /-- A BEACON record mirrors a beacon's BSN and instant (R367). -/
  | beacon (dt : Nat) (lane : Nat) (frame : Octets)
  /-- A REG record applies a mirrored register value (R367). -/
  | reg (dt : Nat) (lane : Nat) (frame : Octets)
  /-- A FRAME bulk item delivers a Sheaf input frame to the standby (R368). -/
  | frame (dt : Nat) (lane : Nat) (frame : Octets)
  /-- A QMSG bulk item delivers a downstream descriptor and payload (R368). -/
  | qmsg (dt : Nat) (lane : Nat) (frame : Octets)
  /-- A CTXBUF bulk item delivers a staging buffer (R368). -/
  | ctxbuf (dt : Nat) (lane : Nat) (frame : Octets)
  /-- A JSUM item arrives and the serving device merges counters and blocks, then sends the snapshot (R371). -/
  | jsum (dt : Nat) (lane : Nat) (frame : Octets)
  /-- A SNAP item delivers snapshot data of a region (R371). -/
  | snap (dt : Nat) (lane : Nat) (frame : Octets) (content : List Machine.SnapItem)
  /-- SNAPEND ends the snapshot and the joiner applies buffered records and reaches SYNC (R371). -/
  | snapend (dt : Nat) (lane : Nat) (frame : Octets)
  /-- The joiner finishes step 5, writes a checkpoint, reports SYNC and the partner goes to PRIMARY (R371). -/
  | joinApplied (dt : Nat)
  /-- Every 10 ms the standby delivers the mean Stile offset as a discipline measurement (R362). -/
  | timeTransfer (dt : Nat)
  /-- At T + 3 ms the standby judges a beacon instant heard or missed (R373). -/
  | beaconInstantJudged (dt : Nat) (pan : Nat)
  /-- At each SUPINT instant the primary sends a supervision beacon and the standby judges the previous one (R373). -/
  | supervisionInstant (dt : Nat)
  /-- STL_CTRL.HANDOVER, the HANDOVER task, REQUEST or mains loss starts a planned handover (R375). -/
  | handover (dt : Nat) (trigger : WordTrigger)
  /-- TS64 reaches H and decision authority moves to the new primary (R375). -/
  | handoverInstant (dt : Nat)
  /-- 200 µs after H the old primary closes batches, sends YIELD_DONE and enters STANDBY (R375). -/
  | oldPrimaryYield (dt : Nat)
  /-- The takeover steps complete and TAKEOVER goes to SOLO or PRIMARY (R376). -/
  | takeoverComplete (dt : Nat)
  /-- An event arrives at each enabled channel naming it, is stamped and held pending or dropped (R386). -/
  | eventArrival (dt : Nat)
  /-- A channel delivers its pending event to its destinations, applying hop count and arbitration (R386). -/
  | eventDelivery (dt : Nat) (ch : Nat)
  /-- A write of HDG_FIRE_LO or HDG_FIRE_HI injects events into channels or is denied (R392). -/
  | fire (dt : Nat) (acc : Access) (hi : Bool) (w : Word)
  /-- A request reaches the DRAM controller on a port (R407). -/
  | dramRequest (dt : Nat) (source : DramSource) (len : Nat) (data : Option Octets)
  /-- A free channel issues its next command by precedence, with ECC check, correction and write-back (R409). -/
  | dramCommandIssue (dt : Nat) (errors : List EccError)
  /-- A request waits TARGET / 2 and becomes urgent (R408). -/
  | requestUrgent (dt : Nat) (id : Nat)
  /-- A request waits TARGET and is counted late (R408). -/
  | requestLate (dt : Nat) (id : Nat)
  /-- A refresh falls due and is issued, postponed or forced (R411). -/
  | refreshDue (dt : Nat) (rank : Nat)
  /-- Every 1 ms MR4 is read and the refresh interval chosen (R410). -/
  | mr4Poll (dt : Nat) (w : Word)
  /-- Every 64 ms ZQ calibration is started (R412). -/
  | zqCalibration (dt : Nat)
  /-- Every 1 ms the DQS oscillator is read and write DQ delay retrained on drift (R412). -/
  | dqsOscillatorRead (dt : Nat) (reading : Int)
  /-- The patrol scrubber reads the next word and fixes correctable errors (R406). -/
  | scrub (dt : Nat) (bit : Option (Option Nat))
  /-- DRAM training runs its seven steps and ends READY, ZEROFILL or FAILED (R414). -/
  | training (dt : Nat) (failed : Option (Nat × Bool)) (mr4 : Word)
  /-- The zero-fill of physical capacity ends and STATE becomes READY (R416). -/
  | zerofillDone (dt : Nat)
  /-- DMC_CTRL.SR requests self-refresh entry, refused in serving modes (R417). -/
  | selfRefresh (dt : Nat) (acc : Access) (w : Word)
  /-- Every port idle for IDLESR × 10 µs with AUTOSR enters self-refresh (R417). -/
  | autoSelfRefresh (dt : Nat)
  /-- Self-refresh entry completes with CK and PLL stopped (R417). -/
  | selfRefreshEntryDone (dt : Nat)
  /-- SRX, an access or a mode change starts self-refresh exit (R419). -/
  | selfRefreshExit (dt : Nat) (acc : Access) (w : Word)
  /-- Self-refresh exit completes and waiting accesses proceed (R419). -/
  | selfRefreshExitDone (dt : Nat)
  /-- FLS_CMD PROGRAM reads the source, blank-checks and programs a page (R426). -/
  | program (dt : Nat) (acc : Access) (w : Word) (srcErr : Bool)
  /-- FLS_CMD ERASE erases a block (R426). -/
  | erase (dt : Nat) (acc : Access) (w : Word)
  /-- FLS_CMD SUSPEND suspends an erase (R432). -/
  | suspend (dt : Nat) (acc : Access) (w : Word)
  /-- FLS_CMD RESUME continues a suspended erase (R432). -/
  | resume (dt : Nat) (acc : Access) (w : Word)
  /-- FLS_CMD ABORT stops a program or erase (R433). -/
  | abortFlash (dt : Nat) (acc : Access) (w : Word) (finished : Bool)
  /-- FLS_CMD UNLOCK compares the password for a region (R435). -/
  | unlockRegion (dt : Nat) (acc : Access) (w : Word)
  /-- FLS_CMD LOCK relocks a region (R435). -/
  | lockRegion (dt : Nat) (acc : Access) (w : Word)
  /-- FLS_CMD SETREGION writes a region's setting and password (R436). -/
  | setregion (dt : Nat) (acc : Access) (w : Word)
  /-- An FLS_CMD with an undefined OP ends BADARG (R426). -/
  | flashBadarg (dt : Nat) (acc : Access) (w : Word)
  /-- The intent record's word 0 becomes durable and the erase or upper-page program starts (R429). -/
  | flashOperationStart (dt : Nat)
  /-- A program ends, its intent record is closed and DONE is raised (R429). -/
  | progDone (dt : Nat)
  /-- An erase ends, its intent record is closed and DONE is raised (R429). -/
  | eraseDone (dt : Nat)
  /-- The 1 ms password comparison ends with unlock, PWDFAIL or LOCKOUT (R435). -/
  | passwordCompareEnd (dt : Nat)
  /-- A SETREGION completes within 5 ms (R436). -/
  | setregionDone (dt : Nat)
  /-- A read of the flash window is served, corrected, or refused during an operation or by RP (R431). -/
  | flashRead (dt : Nat) (acc : Access) (o : Nat) (n : Nat) (bad : Bool) (corrected : Bool)
  /-- Lapwing programs a one-time word (R439). -/
  | otpProgram (dt : Nat) (acc : Access) (w : Word) (mv : Nat)
  /-- OTP programming ends with one result and the shadow updates (R439). -/
  | otpProgramDone (dt : Nat) (ok : Bool)
  /-- The journal accepts a record, or refuses it, writing carry records and checkpoint words (R441). -/
  | journalRecord (dt : Nat)
  /-- A journal record's commit word is written and the record is durable (R442). -/
  | recordDurable (dt : Nat)
  /-- Recovery finds the head, replays the log, writes the recovery table and sets READY or FAILED (R447). -/
  | journalRecovery (dt : Nat) (err : Bool) (time : Nat)
  /-- JNL_CTRL.RESTATE writes a STATE record for every index and group slot (R448). -/
  | restate (dt : Nat) (acc : Access) (w : Word)
  /-- JNL_CTRL.FORMAT zeroes the journal in the allowed life-cycle states (R449). -/
  | formatJournal (dt : Nat) (acc : Access) (w : Word)
  /-- JNL_SLOTCMD GO writes a SLOT record with JNL_ISEQ (R443). -/
  | slotRecord (dt : Nat) (acc : Access) (w : Word)
  /-- Every STEP ms the pacer advances INDEX or ends pacing with PACEDONE (R468). -/
  | pacerStep (dt : Nat)
  /-- CFG_PACECTL.STOP stops the pacer and raises PACESTOP (R469). -/
  | pacerStop (dt : Nat) (acc : Access) (w : Word)
  /-- GO or CHKu_START starts a check-value unit (R474). -/
  | chkStart (dt : Nat) (unit : Nat) (trigger : WordTrigger)
  /-- ABORT ends a check-value run (R474). -/
  | chkAbort (dt : Nat) (acc : Access) (unit : Nat) (w : Word) (finished : Bool)
  /-- A check-value run completes with DONE, MISMATCH, BUSERR or BADARG (R473). -/
  | chkDone (dt : Nat) (unit : Nat)
  /-- A write of KEY 0xA5 to LPW_RSTCMD resets the device with cause CMD (R480). -/
  | resetCommand (dt : Nat) (acc : Access) (w : Word)
  /-- LPW_RSTCMD with MAKER in life-cycle MAKER latches a maker request across the reset (R496). -/
  | makerRequest (dt : Nat) (acc : Access) (w : Word)
  /-- KEY 0x4B to LPW_WDT_KICK restarts the device watchdog (R483). -/
  | watchdogKick (dt : Nat) (acc : Access) (w : Word)
  /-- WARN ms before expiry the watchdog raises WDOG_WARN and logs it (R483). -/
  | wdogWarn (dt : Nat)
  /-- The device watchdog expires and the device resets with cause WDOG (R483). -/
  | watchdogExpiry (dt : Nat)
  /-- A core's KEY 0x4B write restarts its supervisor watchdog (R484). -/
  | supervisorKick (dt : Nat) (core : Nat) (acc : Access) (w : Word)
  /-- A supervisor watchdog expires and its core is reset or held (R484). -/
  | supervisorExpiry (dt : Nat) (core : Nat)
  /-- Lapwing writes HELD to release a held core (R484). -/
  | heldRelease (dt : Nat) (core : Nat) (acc : Access) (w : Word)
  /-- The LOG_MARK task writes log entry 0x0380 (R498). -/
  | logMark (dt : Nat)
  /-- Every 1 ms Lapwing samples temperatures and supplies and sets threshold flags (R482). -/
  | sensorSample (dt : Nat) (temps : List Int) (mv : List Nat)
  /-- LPW_UPD_CMD VERIFY checks the staged image (R487). -/
  | verify (dt : Nat) (acc : Access) (w : Word)
  /-- VERIFY ends, setting VERIFIED on success (R487). -/
  | verifyDone (dt : Nat) (nvm : List (Nat × Octets)) (flashBad : Bool)
  /-- LPW_UPD_CMD ACTIVATE enters UPDATE and flushes (R488). -/
  | activate (dt : Nat) (acc : Access) (w : Word)
  /-- An LPW_UPD_CMD with an undefined OP ends BADARG (R488). -/
  | updateBadarg (dt : Nat) (acc : Access) (w : Word)
  /-- Flushes and queues drain, or 20 ms pass, and the SLOT record is written and the device resets (R488). -/
  | updateDrained (dt : Nat)
  /-- LPW_SPIX_CMD GO issues one command to the configuration NVM (R486). -/
  | spixCommand (dt : Nat) (acc : Access) (w : Word)
  /-- The pass-through command completes (R486). -/
  | spixdone (dt : Nat) (data : Octets)
  /-- LPW_LC_CMD with TARGET MAKER moves BLANK to MAKER (R490). -/
  | lcMaker (dt : Nat) (acc : Access) (w : Word)
  /-- LPW_LC_CMD with TARGET FIELD moves MAKER to FIELD (R490). -/
  | lcField (dt : Nat) (acc : Access) (w : Word)
  /-- LPW_LC_CMD with TARGET SCRAPPED scraps a BLANK or MAKER device (R490). -/
  | lcScrapped (dt : Nat) (acc : Access) (w : Word)
  /-- The life-cycle bit is programmed in all copies, logged, and the device resets with cause LCTRANS (R491). -/
  | lcTransitionDone (dt : Nat) (copies : Nat)
  /-- A CDEBUG token is checked and opens application-core debug (R494). -/
  | cdebug (dt : Nat) (via : TokenVia)
  /-- A RETURN token is checked and moves FIELD to RETURN (R494). -/
  | returnToken (dt : Nat) (via : TokenVia)
  /-- A SCRAP token is checked and scraps the device (R494). -/
  | scrap (dt : Nat) (via : TokenVia)
  /-- An MDEBUG token is checked and opens debug in RETURN (R494). -/
  | mdebug (dt : Nat) (via : TokenVia)
  /-- A REMAKE token is checked and moves RETURN to MAKER (R494). -/
  | remake (dt : Nat) (via : TokenVia)
  /-- A token check ends with one result and the challenge is renewed (R494). -/
  | tokdone (dt : Nat)
  /-- A debug window reaches the end of DUR and closes (R495). -/
  | debugWindowEnd (dt : Nat)
  /-- A write of PWR_DOMn sets REQ and LOCKOFF or is refused (R502). -/
  | domainReqWrite (dt : Nat) (acc : Access) (n : Nat) (w : Word)
  /-- A domain idle for IDLE × 10 µs begins entry to retention or off (R503). -/
  | domainIdle (dt : Nat) (n : Nat)
  /-- A domain's entry completes with its pad latch closed (R503). -/
  | domainEntryDone (dt : Nat) (n : Nat)
  /-- An access, delivery, interrupt, booking or mode need wakes a domain (R505). -/
  | domainWake (dt : Nat) (n : Nat) (cause : WakeCause)
  /-- A woken domain is on, the latch opens and the wake is recorded (R516). -/
  | wake (dt : Nat) (n : Nat)
  /-- A bus access stalls 200 µs and receives an error response (R508). -/
  | busTimeout (dt : Nat)
  /-- A write of RELEASE opens a kept pad latch (R511). -/
  | domainRelease (dt : Nat) (acc : Access) (n : Nat) (w : Word)
  /-- A group's GO starts PREPARE and members vote (R512). -/
  | groupGo (dt : Nat) (acc : Access) (g : Nat) (w : Word)
  /-- The last member votes and the group commits or is refused (R512). -/
  | groupVoteEnd (dt : Nat) (g : Nat) (busy : List Nat)
  /-- Every member stops in turn and the group reaches DONE (R513). -/
  | groupCommit (dt : Nat) (g : Nat)
  /-- A late refusal restores stopped members and ends REFUSED (R514). -/
  | groupRefused (dt : Nat) (g : Nat) (late : Option Nat)
  /-- A group ABORT ends it as a refusal (R515). -/
  | groupAbort (dt : Nat) (acc : Access) (g : Nat) (w : Word)
  /-- A half-cycle RMS value is taken and the mains state, sag and swell are updated (R522). -/
  | halfCycle (dt : Nat) (urms : Nat)
  /-- A positive-going zero crossing is timestamped (R521). -/
  | zeroCrossing (dt : Nat) (ago : Nat)
  /-- Every 200 ms the frequency is updated and FREQDEV judged (R521). -/
  | frequencyUpdate (dt : Nat) (mhz : Nat)
  /-- No zero crossing for 2 cycles or an open input marks the signal LOST (R521). -/
  | signalLoss (dt : Nat) (shut : Bool)
  /-- RESTORE × 100 ms pass stable and the mains state becomes GOOD (R522). -/
  | restoreTimer (dt : Nat)
  /-- Every 100 µs the store energies are computed and the store state checked (R526). -/
  | storeSample (dt : Nat) (uv : Nat) (shunt : Int) (below : Bool)
  /-- VIN_SENSE falls below the bus and the input FETs open, so the store supplies the bus (R525). -/
  | inputFetOpen (dt : Nat) (vin : Nat) (bus : Nat)
  /-- VIN_SENSE rises above the bus and the input FETs close (R525). -/
  | inputFetClose (dt : Nat) (vin : Nat) (bus : Nat)
  /-- The input FETs stay closed CHGDLY × 10 ms and charging begins (R527). -/
  | chargeDelayEnd (dt : Nat)
  /-- Charge current exceeds 1.5 × ICHG and HU_CHG turns off (R528). -/
  | chargeTrip (dt : Nat) (shunt : Int)
  /-- HU_SVC_N goes low and the store bleeds (R527). -/
  | serviceSwitch (dt : Nat) (low : Bool)
  /-- PWR_HU_CTRL.BLEED starts a timed bleed (R527). -/
  | bleed (dt : Nat) (acc : Access) (w : Word)
  /-- PWR_HU_CTRL.CLRFAULT returns a bled store from FAULT to WAIT (R527). -/
  | clrfault (dt : Nat) (acc : Access) (w : Word)
  /-- V has not reached BLEEDV within BLEEDT of the bleed start (R527). -/
  | bleedfail (dt : Nat)
  /-- HOLDMAX seconds pass in HOLDOVER and the device enters LASTGASP (R533). -/
  | holdoverLimit (dt : Nat)
  /-- Every STATGAP × 10 ms in LASTGASP a STATUS message is sent (R534). -/
  | lastgaspStatus (dt : Nat)
  /-- LGTIME ms pass in LASTGASP and the device resets with cause LASTGASP (R534). -/
  | lastgaspTimeLimit (dt : Nat)
  /-- The backup domain switches between VDD_AON and VBAT (R537). -/
  | supplySwitch (dt : Nat) (aon : Nat) (vbat : Nat)
  /-- The backup node falls below 1.35 V, clearing bytes and restarting the calendar (R537). -/
  | backupPor (dt : Nat) (mv : Nat)
  /-- The prescaler ticks and the calendar advances one second (R539). -/
  | rtcSecond (dt : Nat)
  /-- The 32 kHz oscillator shows no edge for 1 ms and OSF is set (R540). -/
  | osf (dt : Nat)
  /-- BKP_SET_CMD GO checks and applies a time or date set (R541). -/
  | calendarSet (dt : Nat) (acc : Access) (w : Word)
  /-- A read of a context's claim register returns and claims the highest pending ID (R558). -/
  | plicClaim (dt : Nat) (acc : Access) (ctx : Nat)
  /-- A write of a context's complete register completes a claimed ID (R558). -/
  | plicComplete (dt : Nat) (acc : Access) (ctx : Nat) (w : Word)
  /-- A write of APP_MTIMECMPc_HI commits both compare halves (R548). -/
  | mtimecmpWrite (dt : Nat) (acc : Access) (core : Nat) (w : Word)
  /-- The IRQk task or an APP_SWIRQ write sets an application interrupt bit (R560). -/
  | irq (dt : Nat) (k : Nat) (trigger : WordTrigger)
  /-- The TAP instruction EXTEST is selected (R586). -/
  | extest (dt : Nat) (capture : List Bool) (tdi : List Bool)
  /-- The TAP instruction SAMPLE/PRELOAD is selected (R586). -/
  | samplePreload (dt : Nat) (capture : List Bool) (tdi : List Bool)
  /-- The TAP instruction CLAMP is selected (R586). -/
  | clamp (dt : Nat) (tdi : List Bool)
  /-- The TAP instruction HIGHZ is selected (R586). -/
  | highz (dt : Nat) (tdi : List Bool)
  /-- The TAP instruction DTMCS is selected for the debug transport (R586). -/
  | dtmcs (dt : Nat) (w : BitVec 32)
  /-- The TAP instruction DMI accesses the debug module (R586). -/
  | dmi (dt : Nat) (op : Nat) (addr : Nat) (data : BitVec 32)
  /-- The TAP instruction BYPASS, or any unlisted opcode, is selected (R586). -/
  | bypass (dt : Nat) (opcode : Nat) (tdi : List Bool)
  /-- A register read with behaviour of its own: an RC field returns its value and clears, a read latches a companion word, or a bad-width or unassigned read gets an error response (R10). -/
  | registerRead (dt : Nat) (acc : Access) (a : Nat)
  /-- An access to the application SRAM is served with SEC-DED correction and write-back, partial-word read-modify-write, error response on a double-bit error, and LR/SC reservation and AMO effects (R556). -/
  | appSramAccess (dt : Nat) (acc : Access) (a : Nat) (op : SramOp) (ecc : SramEcc)
  /-- TS64 reaches APP_MTIMECMPc and the hart's machine timer interrupt becomes pending, which can wake its domain by R509 (R548). -/
  | mtip (dt : Nat) (core : Nat)
  /-- The journal format completes within 200 ms, JNL_STAT leaves FORMATTING, FORMAT reads 0 and FMTDONE is raised (R449). -/
  | fmtdone (dt : Nat)
  /-- RESTATE completes within 20 ms once every STATE record is written, RESTATE reads 0 and RESTATED is raised (R448). -/
  | restated (dt : Nat)
  /-- A valid calendar set reaches the backup domain within 61 µs of GO and is applied atomically, clearing BUSY and resetting the prescaler when TIME is set (R541). -/
  | calendarSetApplied (dt : Nat)
  deriving DecidableEq, Repr

end Sys2Proof
end

