-- ==== Sys2Proof/Decode.lean ====
section
/-!
DEFINITION. Commands spelled by bits. The manual gives no command a bit encoding: no row of the command table has bits.
-/

namespace Sys2Proof

/-- The command that a word spells by the table's bits: none, since no row gives any.
DESIGN CHOICE, safe: log 10. -/
def decodeTableWord (nbits w : Nat) : Option Instr :=
  match nbits, w with
  | _, _ => none

end Sys2Proof
end

