-- ==== Sys2Proof/Machine/Octets.lean ====
section
/-!
DEFINITION. Octet strings and numbers: the byte orders of R15 (little-endian) and of the formats sent most significant octet
first.
-/

namespace Sys2Proof.Machine

/-- The octet of a number's low eight bits. -/
def octet (n : Nat) : Byte := BitVec.ofNat 8 n

/-- A number as `n` octets, little-endian. -/
def le : Nat → Nat → Octets
  | 0, _ => []
  | n + 1, v => octet v :: le n (v / 256)

/-- A number as `n` octets, most significant first. -/
def be (n v : Nat) : Octets := (le n v).reverse

/-- The number that octets spell, little-endian. -/
def leNat : Octets → Nat
  | [] => 0
  | b :: bs => b.toNat + 256 * leNat bs

/-- The number that octets spell, most significant first. -/
def beNat (os : Octets) : Nat := leNat os.reverse

/-- The octet at a place, 0 beyond the end. -/
def octAt (os : Octets) (i : Nat) : Nat := ((os[i]?).getD 0).toNat

/-- `n` octets from place `i`. -/
def slice (os : Octets) (i n : Nat) : Octets := (os.drop i).take n

/-- The little-endian number in `n` octets at place `i`. -/
def leAt (os : Octets) (i n : Nat) : Nat := leNat (slice os i n)

/-- The number in `n` octets at place `i`, most significant first. -/
def beAt (os : Octets) (i n : Nat) : Nat := beNat (slice os i n)

/-- `n` zero octets. -/
def zeros (n : Nat) : Octets := List.replicate n 0

/-- Replace the octets from place `i` on by others, keeping the length. -/
def patch (os : Octets) (i : Nat) (vs : Octets) : Octets :=
  (os.take i ++ vs ++ os.drop (i + vs.length)).take os.length

/-- The exclusive or of two octet strings, as long as the shorter. -/
def xorOctets (a b : Octets) : Octets := List.zipWith (fun x y => x ^^^ y) a b

/-- Fill up with zero octets to a length. -/
def padTo (n : Nat) (os : Octets) : Octets := os ++ zeros (n - os.length)

/-- The bits of an octet, least significant first. -/
def octetBits (b : Byte) : List Bool := (List.range 8).map (fun i => b.getLsbD i)

/-- The bits of an octet string, each octet's least significant bit first. -/
def bitsOf (os : Octets) : List Bool := os.flatMap octetBits

/-- The number that bits spell, least significant first. -/
def bitsNat : List Bool → Nat
  | [] => 0
  | b :: bs => (if b then 1 else 0) + 2 * bitsNat bs

/-- A number as `n` bits, least significant first. -/
def natBits (n v : Nat) : List Bool := (List.range n).map (fun i => v / 2 ^ i % 2 == 1)

end Sys2Proof.Machine
end

