-- ==== Sys2Proof/Config.lean ====
section
/-!
DEFINITION. What an implementation fixes and the manual leaves open. Each is an opaque constant: no proof can see
its value. NOTES.md and the assumption log name every one of them.
-/

namespace Sys2Proof.Config

/-- The syndrome the (72,64) code reports for an error in a given bit of a word (R403 names the code and not its
matrix). Arguments: the bit in error, or 72 for a double error. Assumption 12. DESIGN CHOICE, safe: log 12. -/
opaque eccSyndrome : Nat → BitVec 8

/-- The check byte the (72,64) code gives a 64-bit word: its matrix is not published (R404). Assumption 12. DESIGN CHOICE, safe: log
12. -/
opaque eccCheck : Nat → BitVec 8

/-- The n-th value the part's random source gives where the manual asks for a random number and no command carries it.
Assumption 13. -/
opaque freeRandom : Nat → Nat

/-- The n-th value of a result the manual states no value for. Assumption 13. DESIGN CHOICE, safe: log 13. -/
opaque freeValue : Nat → Nat

/-- The contents of the boot ROM, which the manual does not give, by offset. Assumption 13. -/
opaque bootRom : Nat → BitVec 8

/-- The octets that a piece of a snapshot's regions 1 to 6 travels as, which the manual does not give. Assumption 39.
DESIGN CHOICE, safe: log 39. -/
opaque snapEncode : Machine.SnapItem → Octets

/-- The MAC header of an accepted frame, by octet, and whether it is a data frame, as a standby knows them from its FRAME item,
which carries the payload alone (R368). Assumption 192. DESIGN CHOICE, safe: log 192. -/
opaque frameHeader : Octets → Nat → BitVec 8
opaque frameIsData : Octets → Bool

/-- How far below the permitted charge current HU_CHG closes again, in mA, by the current permitted, which the manual does not give
(R528). Assumption 202. DESIGN CHOICE, safe: log 202. -/
opaque chargeBand : Nat → Nat

/-- The pages of 4 KiB of Lapwing SRAM at which the ring (0) and the slots (1) of queues 62 and 63 stand in SAFE, which the manual does
not give (R466). Assumption 201. DESIGN CHOICE, safe: log 201. -/
opaque safePage : Nat → Nat → Fin 56

/-- The fields of the debug transport and the debug module that the debug specification leaves to an implementation, by
register (0 `dtmcs`, 1 `dmstatus`, 2 `hartinfo`). Assumption 34. -/
opaque dtmLayout : Nat → BitVec 32

/-- The DC offset, the I/Q imbalance and the alignment of a port at an instant, which the manual gives no numbers for (R92).
Assumption 174. DESIGN CHOICE, safe: log 174. -/
opaque tracking : Nat → Nat → Nat

end Sys2Proof.Config
end

