-- ==== Sys2Proof/Machine/Fields.lean ====
section
/-!
DEFINITION. The register fields of the part, each under the name the manual's field tables give it (R17), as an
address and a bit range. A register the manual shows as a group member n (a port, a lane, a channel, a PAN, a page, a
queue, a domain) is a function of n. A register without a field table is one field under its own name. Written from
the register tables of chapters 02 to 20.
-/

namespace Sys2Proof.Machine

/-- A field of a register: the register's address, the field's lowest bit and its width in bits. -/
structure Fld where
  addr : Nat
  lo : Nat
  width : Nat
  deriving DecidableEq, Repr

/-- The whole register a field lies in. -/
def Fld.whole (f : Fld) : Fld := ⟨f.addr, 0, 32⟩

abbrev PWR_VL_CFG_EN : Fld := ⟨0x20010400, 0, 1⟩
abbrev PWR_VL_CFG_VMIN : Fld := ⟨0x20010400, 8, 7⟩
abbrev PWR_VL_CFG_ADDR : Fld := ⟨0x20010400, 24, 7⟩
abbrev PWR_VL_CFG_PEC : Fld := ⟨0x20010400, 31, 1⟩
abbrev PWR_VL_THRESH_DOWN : Fld := ⟨0x20010404, 0, 8⟩
abbrev PWR_VL_THRESH_UP : Fld := ⟨0x20010404, 8, 8⟩
abbrev PWR_VL_THRESH_EMERG : Fld := ⟨0x20010404, 16, 8⟩
abbrev PWR_VL_TIME_DWELL : Fld := ⟨0x20010408, 0, 16⟩
abbrev PWR_VL_TIME_UPSTEP : Fld := ⟨0x20010408, 16, 5⟩
abbrev PWR_VL_STAT_CODE : Fld := ⟨0x2001040C, 0, 7⟩
abbrev PWR_VL_STAT_STATE : Fld := ⟨0x2001040C, 8, 3⟩
abbrev PWR_VL_STAT_MINSLACK : Fld := ⟨0x2001040C, 16, 8⟩
abbrev PWR_VL_STAT_MINSITE : Fld := ⟨0x2001040C, 24, 3⟩
abbrev PWR_VL_VOUT_MV : Fld := ⟨0x20010410, 0, 16⟩
abbrev PWR_VL_VOUT_STATUS : Fld := ⟨0x20010410, 16, 16⟩
abbrev PWR_VL_ERR_NACK : Fld := ⟨0x20010414, 0, 1⟩
abbrev PWR_VL_ERR_PEC : Fld := ⟨0x20010414, 1, 1⟩
abbrev PWR_VL_ERR_MISMATCH : Fld := ⟨0x20010414, 2, 1⟩
abbrev PWR_VL_ERR_STATUS_FAULT : Fld := ⟨0x20010414, 3, 1⟩
abbrev PWR_VL_ERR_FORMAT : Fld := ⟨0x20010414, 4, 1⟩
abbrev PWR_VL_ERR_D1_MISS : Fld := ⟨0x20010414, 5, 1⟩
abbrev PWR_VL_ERR_D2_LATE : Fld := ⟨0x20010414, 6, 1⟩
abbrev PWR_VL_ERR_STALL : Fld := ⟨0x20010414, 7, 1⟩
abbrev PWR_VL_ERR_FROZEN : Fld := ⟨0x20010414, 8, 1⟩
abbrev PWR_VL_FORCE_HOLDMAX : Fld := ⟨0x20010418, 0, 1⟩
abbrev PWR_VL_CNT_DOWNS : Fld := ⟨0x2001041C, 0, 16⟩
abbrev PWR_VL_CNT_UPS : Fld := ⟨0x2001041C, 16, 8⟩
abbrev PWR_VL_CNT_EMERGS : Fld := ⟨0x2001041C, 24, 8⟩
abbrev PWR_CANARYn_SLACK (n : Nat) : Fld := ⟨0x20010420 + 4 * n, 0, 8⟩
abbrev PWR_CANARYn_LOW (n : Nat) : Fld := ⟨0x20010420 + 4 * n, 8, 8⟩
abbrev PWR_CANARYn_CLASS (n : Nat) : Fld := ⟨0x20010420 + 4 * n, 16, 2⟩
abbrev TIM_CTRL_SRC : Fld := ⟨0x20120000, 0, 2⟩
abbrev TIM_LOCKCFG_LOCK_THR : Fld := ⟨0x20120004, 0, 16⟩
abbrev TIM_LOCKCFG_UNLOCK_THR : Fld := ⟨0x20120004, 16, 16⟩
abbrev TIM_COAST_COAST_S : Fld := ⟨0x20120008, 0, 16⟩
abbrev TIM_COAST_LOCK_N : Fld := ⟨0x20120008, 16, 4⟩
abbrev TIM_STAT_STATE : Fld := ⟨0x2012000C, 0, 2⟩
abbrev TIM_STAT_LOCK : Fld := ⟨0x2012000C, 2, 1⟩
abbrev TIM_STAT_ACTSRC : Fld := ⟨0x2012000C, 3, 2⟩
abbrev TIM_STAT_PLL_LOCK : Fld := ⟨0x2012000C, 5, 1⟩
abbrev TIM_STAT_TCXO_OK : Fld := ⟨0x2012000C, 6, 1⟩
abbrev TIM_TS_LO : Fld := ⟨0x20120010, 0, 32⟩
abbrev TIM_TS_HI : Fld := ⟨0x20120014, 0, 32⟩
abbrev TIM_STEP_LO : Fld := ⟨0x20120018, 0, 32⟩
abbrev TIM_STEP_HI : Fld := ⟨0x2012001C, 0, 32⟩
abbrev TIM_STEP_CMD_GO : Fld := ⟨0x20120020, 0, 1⟩
abbrev TIM_STEP_CMD_REFUSED : Fld := ⟨0x20120020, 1, 1⟩
abbrev TIM_RATE_RATE : Fld := ⟨0x20120024, 0, 32⟩
abbrev TIM_OFFSET_OFFSET : Fld := ⟨0x20120028, 0, 32⟩
abbrev TIM_CAP_LO_CAP : Fld := ⟨0x2012002C, 0, 32⟩
abbrev TIM_CAP_HI_CAP : Fld := ⟨0x20120030, 0, 32⟩
abbrev TIM_INT_STAT_LOCKED : Fld := ⟨0x20120034, 0, 1⟩
abbrev TIM_INT_STAT_UNLOCKED : Fld := ⟨0x20120034, 1, 1⟩
abbrev TIM_INT_STAT_STEPPED : Fld := ⟨0x20120034, 2, 1⟩
abbrev TIM_INT_STAT_SRC_LOST : Fld := ⟨0x20120034, 3, 1⟩
abbrev TIM_INT_STAT_PLL_FAULT : Fld := ⟨0x20120034, 4, 1⟩
abbrev TIM_INT_EN_LOCKED : Fld := ⟨0x20120038, 0, 1⟩
abbrev TIM_INT_EN_UNLOCKED : Fld := ⟨0x20120038, 1, 1⟩
abbrev TIM_INT_EN_STEPPED : Fld := ⟨0x20120038, 2, 1⟩
abbrev TIM_INT_EN_SRC_LOST : Fld := ⟨0x20120038, 3, 1⟩
abbrev TIM_INT_EN_PLL_FAULT : Fld := ⟨0x20120038, 4, 1⟩
abbrev TIM_CNT_STEPS : Fld := ⟨0x2012003C, 0, 8⟩
abbrev TIM_CNT_UNLOCKS : Fld := ⟨0x2012003C, 8, 8⟩
abbrev TIM_CNT_SRCLOSS : Fld := ⟨0x2012003C, 16, 8⟩
abbrev RIM_PORT_EN_RXEN : Fld := ⟨0x200E0000, 0, 16⟩
abbrev RIM_PORT_EN_TXEN : Fld := ⟨0x200E0000, 16, 8⟩
abbrev RIM_PORT_RUN_RXRUN : Fld := ⟨0x200E0004, 0, 16⟩
abbrev RIM_PORT_RUN_TXRUN : Fld := ⟨0x200E0004, 16, 8⟩
abbrev RIM_FEM_PAT_OFF : Fld := ⟨0x200E0008, 0, 2⟩
abbrev RIM_FEM_PAT_RX : Fld := ⟨0x200E0008, 2, 2⟩
abbrev RIM_FEM_PAT_TX : Fld := ⟨0x200E0008, 4, 2⟩
abbrev RIM_FEM_PAT_CAL : Fld := ⟨0x200E0008, 6, 2⟩
abbrev RIM_FEM_LEAD : Fld := ⟨0x200E0008, 8, 8⟩
abbrev RIM_FEM_LAG : Fld := ⟨0x200E0008, 16, 8⟩
abbrev RIM_TXCFG_RAMP : Fld := ⟨0x200E000C, 0, 4⟩
abbrev RIM_TXCFG_CALCH : Fld := ⟨0x200E000C, 8, 5⟩
abbrev RIM_TXCFG_TEMPDELTA : Fld := ⟨0x200E000C, 16, 8⟩
abbrev RIM_AGC_TARGET : Fld := ⟨0x200E0010, 0, 4⟩
abbrev RIM_AGC_ATTACK : Fld := ⟨0x200E0010, 4, 4⟩
abbrev RIM_AGC_DECAY : Fld := ⟨0x200E0010, 8, 8⟩
abbrev RIM_AGC_FIX_FIX : Fld := ⟨0x200E0014, 0, 16⟩
abbrev RIM_AGC_FIX_STEP : Fld := ⟨0x200E0014, 16, 4⟩
abbrev RIM_CTRL_PILOT : Fld := ⟨0x200E0018, 0, 1⟩
abbrev RIM_STAT_LO_LOCK : Fld := ⟨0x200E001C, 0, 1⟩
abbrev RIM_STAT_CALBUSY : Fld := ⟨0x200E001C, 1, 1⟩
abbrev RIM_STAT_TXACT : Fld := ⟨0x200E001C, 16, 8⟩
abbrev RIM_STAT_TXCAL : Fld := ⟨0x200E001C, 24, 8⟩
abbrev RIM_TXLVLn_LEVEL (n : Nat) : Fld := ⟨0x200E0020 + 4 * n, 0, 6⟩
abbrev RIM_CAL_CMD_RXPORT : Fld := ⟨0x200E0040, 0, 16⟩
abbrev RIM_CAL_CMD_TXCHAIN : Fld := ⟨0x200E0040, 16, 8⟩
abbrev RIM_CAL_STAT_RXFAIL : Fld := ⟨0x200E0044, 0, 16⟩
abbrev RIM_CAL_STAT_TXFAIL : Fld := ⟨0x200E0044, 16, 8⟩
abbrev RIM_CAL_STAT_DONE : Fld := ⟨0x200E0044, 24, 1⟩
abbrev RIM_GAIN_LO_GAIN0 : Fld := ⟨0x200E0048, 0, 4⟩
abbrev RIM_GAIN_LO_GAIN1 : Fld := ⟨0x200E0048, 4, 4⟩
abbrev RIM_GAIN_LO_GAIN2 : Fld := ⟨0x200E0048, 8, 4⟩
abbrev RIM_GAIN_LO_GAIN3 : Fld := ⟨0x200E0048, 12, 4⟩
abbrev RIM_GAIN_LO_GAIN4 : Fld := ⟨0x200E0048, 16, 4⟩
abbrev RIM_GAIN_LO_GAIN5 : Fld := ⟨0x200E0048, 20, 4⟩
abbrev RIM_GAIN_LO_GAIN6 : Fld := ⟨0x200E0048, 24, 4⟩
abbrev RIM_GAIN_LO_GAIN7 : Fld := ⟨0x200E0048, 28, 4⟩
abbrev RIM_GAIN_HI_GAIN0 : Fld := ⟨0x200E004C, 0, 4⟩
abbrev RIM_GAIN_HI_GAIN1 : Fld := ⟨0x200E004C, 4, 4⟩
abbrev RIM_GAIN_HI_GAIN2 : Fld := ⟨0x200E004C, 8, 4⟩
abbrev RIM_GAIN_HI_GAIN3 : Fld := ⟨0x200E004C, 12, 4⟩
abbrev RIM_GAIN_HI_GAIN4 : Fld := ⟨0x200E004C, 16, 4⟩
abbrev RIM_GAIN_HI_GAIN5 : Fld := ⟨0x200E004C, 20, 4⟩
abbrev RIM_GAIN_HI_GAIN6 : Fld := ⟨0x200E004C, 24, 4⟩
abbrev RIM_GAIN_HI_GAIN7 : Fld := ⟨0x200E004C, 28, 4⟩
abbrev RIM_PWRn_PWR0 (n : Nat) : Fld := ⟨0x200E0050 + 4 * n, 0, 8⟩
abbrev RIM_PWRn_PWR1 (n : Nat) : Fld := ⟨0x200E0050 + 4 * n, 8, 8⟩
abbrev RIM_PWRn_PWR2 (n : Nat) : Fld := ⟨0x200E0050 + 4 * n, 16, 8⟩
abbrev RIM_PWRn_PWR3 (n : Nat) : Fld := ⟨0x200E0050 + 4 * n, 24, 8⟩
abbrev RIM_FLAG_OVF : Fld := ⟨0x200E0060, 0, 16⟩
abbrev RIM_FLAG_UNDR : Fld := ⟨0x200E0060, 16, 8⟩
abbrev RIM_FLAG_TXPWR : Fld := ⟨0x200E0060, 24, 8⟩
abbrev RIM_OVF_CNTn_PORT2N (n : Nat) : Fld := ⟨0x200E0070 + 4 * n, 0, 16⟩
abbrev RIM_OVF_CNTn_PORT2N1 (n : Nat) : Fld := ⟨0x200E0070 + 4 * n, 16, 16⟩
abbrev RIM_CLIP_CNTn_PORT2N (n : Nat) : Fld := ⟨0x200E0090 + 4 * n, 0, 16⟩
abbrev RIM_CLIP_CNTn_PORT2N1 (n : Nat) : Fld := ⟨0x200E0090 + 4 * n, 16, 16⟩
abbrev RIM_CAP_CTRL_START : Fld := ⟨0x200E00B0, 0, 1⟩
abbrev RIM_CAP_CTRL_STOP : Fld := ⟨0x200E00B0, 1, 1⟩
abbrev RIM_CAP_CTRL_TRIG : Fld := ⟨0x200E00B0, 2, 1⟩
abbrev RIM_CAP_CTRL_MODE : Fld := ⟨0x200E00B0, 4, 1⟩
abbrev RIM_CAP_CTRL_OVFTRIG : Fld := ⟨0x200E00B0, 5, 1⟩
abbrev RIM_CAP_CTRL_PORTS : Fld := ⟨0x200E00B0, 16, 16⟩
abbrev RIM_CAP_BASE_LO_ADDR : Fld := ⟨0x200E00B4, 12, 20⟩
abbrev RIM_CAP_BASE_HI_ADDR : Fld := ⟨0x200E00B8, 0, 8⟩
abbrev RIM_CAP_SIZE_SIZE : Fld := ⟨0x200E00BC, 12, 20⟩
abbrev RIM_CAP_POST_POST : Fld := ⟨0x200E00C0, 0, 24⟩
abbrev RIM_CAP_STAT_ACTIVE : Fld := ⟨0x200E00C4, 0, 1⟩
abbrev RIM_CAP_STAT_TRIGGERED : Fld := ⟨0x200E00C4, 1, 1⟩
abbrev RIM_CAP_STAT_DONE : Fld := ⟨0x200E00C4, 2, 1⟩
abbrev RIM_CAP_STAT_ERR : Fld := ⟨0x200E00C4, 3, 1⟩
abbrev RIM_CAP_STAT_WRAPPED : Fld := ⟨0x200E00C4, 4, 1⟩
abbrev RIM_CAP_STAT_STOPPED : Fld := ⟨0x200E00C4, 5, 1⟩
abbrev RIM_CAP_WRPTR_OFFSET : Fld := ⟨0x200E00C8, 0, 32⟩
abbrev RIM_CAP_DROP_DROP : Fld := ⟨0x200E00CC, 0, 32⟩
abbrev RIM_INT_STAT_OVF : Fld := ⟨0x200E00D0, 0, 1⟩
abbrev RIM_INT_STAT_UNDR : Fld := ⟨0x200E00D0, 1, 1⟩
abbrev RIM_INT_STAT_CALDONE : Fld := ⟨0x200E00D0, 2, 1⟩
abbrev RIM_INT_STAT_CALFAIL : Fld := ⟨0x200E00D0, 3, 1⟩
abbrev RIM_INT_STAT_CAPDONE : Fld := ⟨0x200E00D0, 4, 1⟩
abbrev RIM_INT_STAT_TXPWR : Fld := ⟨0x200E00D0, 5, 1⟩
abbrev RIM_INT_STAT_ISOLOW : Fld := ⟨0x200E00D0, 6, 1⟩
abbrev RIM_INT_STAT_LOUNLOCK : Fld := ⟨0x200E00D0, 7, 1⟩
abbrev RIM_INT_EN_OVF : Fld := ⟨0x200E00D4, 0, 1⟩
abbrev RIM_INT_EN_UNDR : Fld := ⟨0x200E00D4, 1, 1⟩
abbrev RIM_INT_EN_CALDONE : Fld := ⟨0x200E00D4, 2, 1⟩
abbrev RIM_INT_EN_CALFAIL : Fld := ⟨0x200E00D4, 3, 1⟩
abbrev RIM_INT_EN_CAPDONE : Fld := ⟨0x200E00D4, 4, 1⟩
abbrev RIM_INT_EN_TXPWR : Fld := ⟨0x200E00D4, 5, 1⟩
abbrev RIM_INT_EN_ISOLOW : Fld := ⟨0x200E00D4, 6, 1⟩
abbrev RIM_INT_EN_LOUNLOCK : Fld := ⟨0x200E00D4, 7, 1⟩
abbrev RIM_ISOn_ISO0 (n : Nat) : Fld := ⟨0x200E0100 + 4 * n, 0, 8⟩
abbrev RIM_ISOn_ISO1 (n : Nat) : Fld := ⟨0x200E0100 + 4 * n, 8, 8⟩
abbrev RIM_ISOn_ISO2 (n : Nat) : Fld := ⟨0x200E0100 + 4 * n, 16, 8⟩
abbrev RIM_ISOn_ISO3 (n : Nat) : Fld := ⟨0x200E0100 + 4 * n, 24, 8⟩
abbrev LNP_CHEN_CHEN : Fld := ⟨0x200C0000, 0, 16⟩
abbrev LNP_DET_THR : Fld := ⟨0x200C0004, 0, 8⟩
abbrev LNP_DET_DETSYM : Fld := ⟨0x200C0004, 8, 3⟩
abbrev LNP_SEP_SEPMAX : Fld := ⟨0x200C0008, 0, 7⟩
abbrev LNP_SEP_CAPM : Fld := ⟨0x200C0008, 8, 4⟩
abbrev LNP_SEP_CORX : Fld := ⟨0x200C0008, 16, 1⟩
abbrev LNP_SEP_CAPEN : Fld := ⟨0x200C0008, 17, 1⟩
abbrev LNP_LANE_LOSSSYM : Fld := ⟨0x200C000C, 0, 4⟩
abbrev LNP_LANE_SIGUSE : Fld := ⟨0x200C000C, 8, 1⟩
abbrev LNP_LANE_SIGMIX : Fld := ⟨0x200C000C, 16, 7⟩
abbrev LNP_STAT_BUSY : Fld := ⟨0x200C0010, 0, 7⟩
abbrev LNP_STAT_NFREADY : Fld := ⟨0x200C0010, 16, 1⟩
abbrev LNP_PEAK_PEAK : Fld := ⟨0x200C0014, 0, 7⟩
abbrev LNP_BUSY_LO_BUSY : Fld := ⟨0x200C0018, 0, 32⟩
abbrev LNP_BUSY_HI_BUSY : Fld := ⟨0x200C001C, 0, 32⟩
abbrev LNP_OCC_LO_OCC0 : Fld := ⟨0x200C0020, 0, 3⟩
abbrev LNP_OCC_LO_OCC1 : Fld := ⟨0x200C0020, 4, 3⟩
abbrev LNP_OCC_LO_OCC2 : Fld := ⟨0x200C0020, 8, 3⟩
abbrev LNP_OCC_LO_OCC3 : Fld := ⟨0x200C0020, 12, 3⟩
abbrev LNP_OCC_LO_OCC4 : Fld := ⟨0x200C0020, 16, 3⟩
abbrev LNP_OCC_LO_OCC5 : Fld := ⟨0x200C0020, 20, 3⟩
abbrev LNP_OCC_LO_OCC6 : Fld := ⟨0x200C0020, 24, 3⟩
abbrev LNP_OCC_LO_OCC7 : Fld := ⟨0x200C0020, 28, 3⟩
abbrev LNP_OCC_HI_OCC0 : Fld := ⟨0x200C0024, 0, 3⟩
abbrev LNP_OCC_HI_OCC1 : Fld := ⟨0x200C0024, 4, 3⟩
abbrev LNP_OCC_HI_OCC2 : Fld := ⟨0x200C0024, 8, 3⟩
abbrev LNP_OCC_HI_OCC3 : Fld := ⟨0x200C0024, 12, 3⟩
abbrev LNP_OCC_HI_OCC4 : Fld := ⟨0x200C0024, 16, 3⟩
abbrev LNP_OCC_HI_OCC5 : Fld := ⟨0x200C0024, 20, 3⟩
abbrev LNP_OCC_HI_OCC6 : Fld := ⟨0x200C0024, 24, 3⟩
abbrev LNP_OCC_HI_OCC7 : Fld := ⟨0x200C0024, 28, 3⟩
abbrev LNP_NFCTL_RESEED : Fld := ⟨0x200C0028, 0, 1⟩
abbrev LNP_INT_STAT_LANE_FULL : Fld := ⟨0x200C0030, 0, 1⟩
abbrev LNP_INT_STAT_PREEMPT : Fld := ⟨0x200C0030, 1, 1⟩
abbrev LNP_INT_STAT_CH_FULL : Fld := ⟨0x200C0030, 2, 1⟩
abbrev LNP_INT_STAT_NOSEP : Fld := ⟨0x200C0030, 3, 1⟩
abbrev LNP_INT_STAT_CAPTURE : Fld := ⟨0x200C0030, 4, 1⟩
abbrev LNP_INT_STAT_TRUNC : Fld := ⟨0x200C0030, 5, 1⟩
abbrev LNP_INT_STAT_OVF : Fld := ⟨0x200C0030, 6, 1⟩
abbrev LNP_INT_STAT_NFREADY : Fld := ⟨0x200C0030, 7, 1⟩
abbrev LNP_INT_EN_LANE_FULL : Fld := ⟨0x200C0034, 0, 1⟩
abbrev LNP_INT_EN_PREEMPT : Fld := ⟨0x200C0034, 1, 1⟩
abbrev LNP_INT_EN_CH_FULL : Fld := ⟨0x200C0034, 2, 1⟩
abbrev LNP_INT_EN_NOSEP : Fld := ⟨0x200C0034, 3, 1⟩
abbrev LNP_INT_EN_CAPTURE : Fld := ⟨0x200C0034, 4, 1⟩
abbrev LNP_INT_EN_TRUNC : Fld := ⟨0x200C0034, 5, 1⟩
abbrev LNP_INT_EN_OVF : Fld := ⟨0x200C0034, 6, 1⟩
abbrev LNP_INT_EN_NFREADY : Fld := ⟨0x200C0034, 7, 1⟩
abbrev LNP_NFn_NF (n : Nat) : Fld := ⟨0x200C0040 + 4 * n, 0, 8⟩
abbrev LNP_NFn_QEST (n : Nat) : Fld := ⟨0x200C0040 + 4 * n, 8, 7⟩
abbrev LNP_NFn_VALID (n : Nat) : Fld := ⟨0x200C0040 + 4 * n, 15, 1⟩
abbrev LNP_NFn_CALNF (n : Nat) : Fld := ⟨0x200C0040 + 4 * n, 16, 8⟩
abbrev LNP_LANEn_STATE (n : Nat) : Fld := ⟨0x200C0200 + 4 * n, 0, 3⟩
abbrev LNP_LANEn_CH (n : Nat) : Fld := ⟨0x200C0200 + 4 * n, 3, 5⟩
abbrev LNP_LANEn_MODE (n : Nat) : Fld := ⟨0x200C0200 + 4 * n, 8, 3⟩
abbrev LNP_LANEn_COREC (n : Nat) : Fld := ⟨0x200C0200 + 4 * n, 11, 1⟩
abbrev LNP_LANEn_RSSI (n : Nat) : Fld := ⟨0x200C0200 + 4 * n, 16, 8⟩
abbrev LNP_CNT_DET : Fld := ⟨0x200C0100, 0, 32⟩
abbrev LNP_CNT_SFDTO : Fld := ⟨0x200C0104, 0, 32⟩
abbrev LNP_CNT_LANEFULL : Fld := ⟨0x200C0108, 0, 32⟩
abbrev LNP_CNT_PREEMPT : Fld := ⟨0x200C010C, 0, 32⟩
abbrev LNP_CNT_CHFULL : Fld := ⟨0x200C0110, 0, 32⟩
abbrev LNP_CNT_NOSEP : Fld := ⟨0x200C0114, 0, 32⟩
abbrev LNP_CNT_CAPTURE : Fld := ⟨0x200C0118, 0, 32⟩
abbrev LNP_CNT_CORX : Fld := ⟨0x200C011C, 0, 32⟩
abbrev LNP_CNT_OK : Fld := ⟨0x200C0120, 0, 32⟩
abbrev LNP_CNT_FCS : Fld := ⟨0x200C0124, 0, 32⟩
abbrev LNP_CNT_PHR : Fld := ⟨0x200C0128, 0, 32⟩
abbrev LNP_CNT_TRUNC : Fld := ⟨0x200C012C, 0, 32⟩
abbrev LNP_CNT_OVF : Fld := ⟨0x200C0130, 0, 32⟩
abbrev LNP_CNT_TXBLANK : Fld := ⟨0x200C0134, 0, 32⟩
abbrev LNP_CNT_LOUNLK : Fld := ⟨0x200C0138, 0, 32⟩
abbrev LNP_CNT_DESENSE : Fld := ⟨0x200C013C, 0, 32⟩
abbrev COD_DEC_RUN_RUN : Fld := ⟨0x200D0000, 0, 16⟩
abbrev COD_DEC_RUN_FAIL : Fld := ⟨0x200D0000, 16, 16⟩
abbrev COD_DEC_STAT_BOUND : Fld := ⟨0x200D0004, 0, 7⟩
abbrev COD_DEC_OCC_LO_OCC0 : Fld := ⟨0x200D0008, 0, 3⟩
abbrev COD_DEC_OCC_LO_OCC1 : Fld := ⟨0x200D0008, 4, 3⟩
abbrev COD_DEC_OCC_LO_OCC2 : Fld := ⟨0x200D0008, 8, 3⟩
abbrev COD_DEC_OCC_LO_OCC3 : Fld := ⟨0x200D0008, 12, 3⟩
abbrev COD_DEC_OCC_LO_OCC4 : Fld := ⟨0x200D0008, 16, 3⟩
abbrev COD_DEC_OCC_LO_OCC5 : Fld := ⟨0x200D0008, 20, 3⟩
abbrev COD_DEC_OCC_LO_OCC6 : Fld := ⟨0x200D0008, 24, 3⟩
abbrev COD_DEC_OCC_LO_OCC7 : Fld := ⟨0x200D0008, 28, 3⟩
abbrev COD_DEC_OCC_HI_OCC0 : Fld := ⟨0x200D000C, 0, 3⟩
abbrev COD_DEC_OCC_HI_OCC1 : Fld := ⟨0x200D000C, 4, 3⟩
abbrev COD_DEC_OCC_HI_OCC2 : Fld := ⟨0x200D000C, 8, 3⟩
abbrev COD_DEC_OCC_HI_OCC3 : Fld := ⟨0x200D000C, 12, 3⟩
abbrev COD_DEC_OCC_HI_OCC4 : Fld := ⟨0x200D000C, 16, 3⟩
abbrev COD_DEC_OCC_HI_OCC5 : Fld := ⟨0x200D000C, 20, 3⟩
abbrev COD_DEC_OCC_HI_OCC6 : Fld := ⟨0x200D000C, 24, 3⟩
abbrev COD_DEC_OCC_HI_OCC7 : Fld := ⟨0x200D000C, 28, 3⟩
abbrev COD_TXCFG_SIGSEL : Fld := ⟨0x200D0010, 0, 1⟩
abbrev COD_TXCFG_WIDE : Fld := ⟨0x200D0010, 1, 1⟩
abbrev COD_TXLIM_MAXCH : Fld := ⟨0x200D0014, 0, 4⟩
abbrev COD_TXLIM_EFF : Fld := ⟨0x200D0014, 8, 4⟩
abbrev COD_TX_STAT_IDLE : Fld := ⟨0x200D0018, 0, 8⟩
abbrev COD_TX_STAT_BOOKED : Fld := ⟨0x200D0018, 8, 8⟩
abbrev COD_TX_STAT_ACTIVE : Fld := ⟨0x200D0018, 16, 8⟩
abbrev COD_TX_STAT_TUNING : Fld := ⟨0x200D0018, 24, 8⟩
abbrev COD_CHn_CH (n : Nat) : Fld := ⟨0x200D0020 + 4 * n, 0, 5⟩
abbrev COD_CHn_LOCK (n : Nat) : Fld := ⟨0x200D0020 + 4 * n, 5, 1⟩
abbrev COD_CHn_STATE (n : Nat) : Fld := ⟨0x200D0020 + 4 * n, 8, 3⟩
abbrev COD_CHn_CLASS (n : Nat) : Fld := ⟨0x200D0020 + 4 * n, 12, 2⟩
abbrev COD_CHn_SYNFAIL (n : Nat) : Fld := ⟨0x200D0020 + 4 * n, 16, 2⟩
abbrev COD_INT_STAT_NODEC : Fld := ⟨0x200D0040, 0, 1⟩
abbrev COD_INT_STAT_DECOVF : Fld := ⟨0x200D0040, 1, 1⟩
abbrev COD_INT_STAT_DECFAIL : Fld := ⟨0x200D0040, 2, 1⟩
abbrev COD_INT_STAT_NOCHAIN : Fld := ⟨0x200D0040, 3, 1⟩
abbrev COD_INT_STAT_DISPLACED : Fld := ⟨0x200D0040, 4, 1⟩
abbrev COD_INT_STAT_SYNTH : Fld := ⟨0x200D0040, 5, 1⟩
abbrev COD_INT_STAT_LATE : Fld := ⟨0x200D0040, 6, 1⟩
abbrev COD_INT_STAT_CHOUT : Fld := ⟨0x200D0040, 7, 1⟩
abbrev COD_INT_EN_NODEC : Fld := ⟨0x200D0044, 0, 1⟩
abbrev COD_INT_EN_DECOVF : Fld := ⟨0x200D0044, 1, 1⟩
abbrev COD_INT_EN_DECFAIL : Fld := ⟨0x200D0044, 2, 1⟩
abbrev COD_INT_EN_NOCHAIN : Fld := ⟨0x200D0044, 3, 1⟩
abbrev COD_INT_EN_DISPLACED : Fld := ⟨0x200D0044, 4, 1⟩
abbrev COD_INT_EN_SYNTH : Fld := ⟨0x200D0044, 5, 1⟩
abbrev COD_INT_EN_LATE : Fld := ⟨0x200D0044, 6, 1⟩
abbrev COD_INT_EN_CHOUT : Fld := ⟨0x200D0044, 7, 1⟩
abbrev COD_CNT_BIND : Fld := ⟨0x200D0100, 0, 32⟩
abbrev COD_CNT_NODEC : Fld := ⟨0x200D0104, 0, 32⟩
abbrev COD_CNT_DECOVF : Fld := ⟨0x200D0108, 0, 32⟩
abbrev COD_CNT_REVISE : Fld := ⟨0x200D010C, 0, 32⟩
abbrev COD_CNT_TXREQ : Fld := ⟨0x200D0110, 0, 32⟩
abbrev COD_CNT_SENT : Fld := ⟨0x200D0114, 0, 32⟩
abbrev COD_CNT_NOCHAIN : Fld := ⟨0x200D0118, 0, 32⟩
abbrev COD_CNT_DISPLACED : Fld := ⟨0x200D011C, 0, 32⟩
abbrev COD_CNT_LATE : Fld := ⟨0x200D0120, 0, 32⟩
abbrev COD_CNT_SYNTH : Fld := ⟨0x200D0124, 0, 32⟩
abbrev COD_CNT_CANCEL : Fld := ⟨0x200D0128, 0, 32⟩
abbrev COD_CNT_RETUNE : Fld := ⟨0x200D012C, 0, 32⟩
abbrev LNK_CTRL_PANRUN : Fld := ⟨0x200B0000, 0, 16⟩
abbrev LNK_CTRL_ASSOC : Fld := ⟨0x200B0000, 16, 16⟩
abbrev LNK_CFG_DUPWIN : Fld := ⟨0x200B0004, 0, 8⟩
abbrev LNK_CFG_HELDMAX : Fld := ⟨0x200B0004, 8, 8⟩
abbrev LNK_STAT_ACKS : Fld := ⟨0x200B0008, 0, 4⟩
abbrev LNK_STAT_HELD : Fld := ⟨0x200B0008, 8, 17⟩
abbrev LNK_ADM_M : Fld := ⟨0x200B000C, 0, 5⟩
abbrev LNK_ADM_INDEX : Fld := ⟨0x200B000C, 5, 18⟩
abbrev LNK_ADM_ENFORCE : Fld := ⟨0x200B000C, 23, 1⟩
abbrev LNK_ADM_PAN_PANS : Fld := ⟨0x200B0010, 0, 16⟩
abbrev LNK_DQ_RUN_RUN : Fld := ⟨0x200B0014, 0, 32⟩
abbrev LNK_DQ_ABORT_ABORT : Fld := ⟨0x200B0018, 0, 32⟩
abbrev LNK_INT_STAT_QFULL : Fld := ⟨0x200B0020, 0, 1⟩
abbrev LNK_INT_STAT_REPLAY : Fld := ⟨0x200B0020, 1, 1⟩
abbrev LNK_INT_STAT_MICFAIL : Fld := ⟨0x200B0020, 2, 1⟩
abbrev LNK_INT_STAT_REL_MIRROR : Fld := ⟨0x200B0020, 3, 1⟩
abbrev LNK_INT_STAT_REL_JRNL : Fld := ⟨0x200B0020, 4, 1⟩
abbrev LNK_INT_STAT_BCNMISS : Fld := ⟨0x200B0020, 5, 1⟩
abbrev LNK_INT_STAT_CAF : Fld := ⟨0x200B0020, 6, 1⟩
abbrev LNK_INT_STAT_NOACK : Fld := ⟨0x200B0020, 7, 1⟩
abbrev LNK_INT_STAT_EXPIRED : Fld := ⟨0x200B0020, 8, 1⟩
abbrev LNK_INT_STAT_HELDFULL : Fld := ⟨0x200B0020, 9, 1⟩
abbrev LNK_INT_STAT_ABORTDONE : Fld := ⟨0x200B0020, 10, 1⟩
abbrev LNK_INT_STAT_CTREND : Fld := ⟨0x200B0020, 11, 1⟩
abbrev LNK_INT_STAT_ADMREJ : Fld := ⟨0x200B0020, 12, 1⟩
abbrev LNK_INT_STAT_UNSUPP : Fld := ⟨0x200B0020, 13, 1⟩
abbrev LNK_INT_STAT_D2LATE : Fld := ⟨0x200B0020, 14, 1⟩
abbrev LNK_INT_STAT_KEYFAIL : Fld := ⟨0x200B0020, 15, 1⟩
abbrev LNK_INT_EN_QFULL : Fld := ⟨0x200B0024, 0, 1⟩
abbrev LNK_INT_EN_REPLAY : Fld := ⟨0x200B0024, 1, 1⟩
abbrev LNK_INT_EN_MICFAIL : Fld := ⟨0x200B0024, 2, 1⟩
abbrev LNK_INT_EN_REL_MIRROR : Fld := ⟨0x200B0024, 3, 1⟩
abbrev LNK_INT_EN_REL_JRNL : Fld := ⟨0x200B0024, 4, 1⟩
abbrev LNK_INT_EN_BCNMISS : Fld := ⟨0x200B0024, 5, 1⟩
abbrev LNK_INT_EN_CAF : Fld := ⟨0x200B0024, 6, 1⟩
abbrev LNK_INT_EN_NOACK : Fld := ⟨0x200B0024, 7, 1⟩
abbrev LNK_INT_EN_EXPIRED : Fld := ⟨0x200B0024, 8, 1⟩
abbrev LNK_INT_EN_HELDFULL : Fld := ⟨0x200B0024, 9, 1⟩
abbrev LNK_INT_EN_ABORTDONE : Fld := ⟨0x200B0024, 10, 1⟩
abbrev LNK_INT_EN_CTREND : Fld := ⟨0x200B0024, 11, 1⟩
abbrev LNK_INT_EN_ADMREJ : Fld := ⟨0x200B0024, 12, 1⟩
abbrev LNK_INT_EN_UNSUPP : Fld := ⟨0x200B0024, 13, 1⟩
abbrev LNK_INT_EN_D2LATE : Fld := ⟨0x200B0024, 14, 1⟩
abbrev LNK_INT_EN_KEYFAIL : Fld := ⟨0x200B0024, 15, 1⟩
abbrev LNK_DQn_PAN (n : Nat) : Fld := ⟨0x200B0100 + 4 * n, 0, 4⟩
abbrev LNK_DQn_PRIO (n : Nat) : Fld := ⟨0x200B0100 + 4 * n, 4, 2⟩
abbrev LNK_DQn_WEIGHT (n : Nat) : Fld := ⟨0x200B0100 + 4 * n, 8, 8⟩
abbrev LNK_DQSn_INFLIGHT (n : Nat) : Fld := ⟨0x200B0180 + 4 * n, 0, 1⟩
abbrev LNK_DQSn_ABORTING (n : Nat) : Fld := ⟨0x200B0180 + 4 * n, 1, 1⟩
abbrev LNK_DQSn_DSN (n : Nat) : Fld := ⟨0x200B0180 + 4 * n, 8, 8⟩
abbrev LNK_DQSn_HELD (n : Nat) : Fld := ⟨0x200B0180 + 4 * n, 16, 16⟩
abbrev LNK_PANn_ID_PANID (n : Nat) : Fld := ⟨0x200B0400 + 0x40 * n, 0, 16⟩
abbrev LNK_PANn_ID_SADDR (n : Nat) : Fld := ⟨0x200B0400 + 0x40 * n, 16, 16⟩
abbrev LNK_PANn_EUI_LO (n : Nat) : Fld := ⟨0x200B0404 + 0x40 * n, 0, 32⟩
abbrev LNK_PANn_EUI_HI (n : Nat) : Fld := ⟨0x200B0408 + 0x40 * n, 0, 32⟩
abbrev LNK_PANn_CFG_CH (n : Nat) : Fld := ⟨0x200B040C + 0x40 * n, 0, 5⟩
abbrev LNK_PANn_CFG_BO (n : Nat) : Fld := ⟨0x200B040C + 0x40 * n, 5, 4⟩
abbrev LNK_PANn_CFG_SO (n : Nat) : Fld := ⟨0x200B040C + 0x40 * n, 9, 4⟩
abbrev LNK_PANn_CFG_EACKSEC (n : Nat) : Fld := ⟨0x200B040C + 0x40 * n, 13, 1⟩
abbrev LNK_PANn_CFG_FPALL (n : Nat) : Fld := ⟨0x200B040C + 0x40 * n, 14, 1⟩
abbrev LNK_PANn_CFG_ACKPRI (n : Nat) : Fld := ⟨0x200B040C + 0x40 * n, 15, 2⟩
abbrev LNK_PANn_CFG_MINSEC (n : Nat) : Fld := ⟨0x200B040C + 0x40 * n, 17, 3⟩
abbrev LNK_PANn_CFG_ALLOW2003 (n : Nat) : Fld := ⟨0x200B040C + 0x40 * n, 20, 1⟩
abbrev LNK_PANn_CFG_COORDDST (n : Nat) : Fld := ⟨0x200B040C + 0x40 * n, 21, 1⟩
abbrev LNK_PANn_CFG_MODES (n : Nat) : Fld := ⟨0x200B040C + 0x40 * n, 23, 5⟩
abbrev LNK_PANn_CSMA_MINBE (n : Nat) : Fld := ⟨0x200B0410 + 0x40 * n, 0, 4⟩
abbrev LNK_PANn_CSMA_MAXBE (n : Nat) : Fld := ⟨0x200B0410 + 0x40 * n, 4, 4⟩
abbrev LNK_PANn_CSMA_MAXBO (n : Nat) : Fld := ⟨0x200B0410 + 0x40 * n, 8, 3⟩
abbrev LNK_PANn_CSMA_MAXRETRY (n : Nat) : Fld := ⟨0x200B0410 + 0x40 * n, 12, 3⟩
abbrev LNK_PANn_CSMA_CCAMODE (n : Nat) : Fld := ⟨0x200B0410 + 0x40 * n, 16, 2⟩
abbrev LNK_PANn_CSMA_CCATHR (n : Nat) : Fld := ⟨0x200B0410 + 0x40 * n, 24, 8⟩
abbrev LNK_PANn_TIME_ACKWAIT (n : Nat) : Fld := ⟨0x200B0414 + 0x40 * n, 0, 8⟩
abbrev LNK_PANn_TIME_PERSIST (n : Nat) : Fld := ⟨0x200B0414 + 0x40 * n, 8, 16⟩
abbrev LNK_PANn_TIME_INDWAIT (n : Nat) : Fld := ⟨0x200B0414 + 0x40 * n, 24, 8⟩
abbrev LNK_PANn_BCN_OFF (n : Nat) : Fld := ⟨0x200B0418 + 0x40 * n, 0, 24⟩
abbrev LNK_PANn_LEN_RXMAX (n : Nat) : Fld := ⟨0x200B041C + 0x40 * n, 0, 11⟩
abbrev LNK_PANn_LEN_TXMAX (n : Nat) : Fld := ⟨0x200B041C + 0x40 * n, 16, 11⟩
abbrev LNK_PANn_STAT_BSN (n : Nat) : Fld := ⟨0x200B0420 + 0x40 * n, 0, 8⟩
abbrev LNK_PANn_STAT_DSN (n : Nat) : Fld := ⟨0x200B0420 + 0x40 * n, 8, 8⟩
abbrev LNK_PANn_STAT_BCNMISS (n : Nat) : Fld := ⟨0x200B0420 + 0x40 * n, 16, 8⟩
abbrev LNK_PANn_BCNTS_TS32 (n : Nat) : Fld := ⟨0x200B0424 + 0x40 * n, 0, 32⟩
abbrev LNK_CNT_ACKSENT : Fld := ⟨0x200B0880, 0, 32⟩
abbrev LNK_CNT_ACKW_PRIO : Fld := ⟨0x200B0884, 0, 32⟩
abbrev LNK_CNT_ACKW_TXFAIL : Fld := ⟨0x200B0888, 0, 32⟩
abbrev LNK_CNT_REL_MIRROR : Fld := ⟨0x200B088C, 0, 32⟩
abbrev LNK_CNT_REL_JRNL : Fld := ⟨0x200B0890, 0, 32⟩
abbrev LNK_CNT_DQ_SUCCESS : Fld := ⟨0x200B0894, 0, 32⟩
abbrev LNK_CNT_DQ_NOACK : Fld := ⟨0x200B0898, 0, 32⟩
abbrev LNK_CNT_DQ_CAF : Fld := ⟨0x200B089C, 0, 32⟩
abbrev LNK_CNT_DQ_EXPIRED : Fld := ⟨0x200B08A0, 0, 32⟩
abbrev LNK_CNT_DQ_ABORTED : Fld := ⟨0x200B08A4, 0, 32⟩
abbrev LNK_CNT_DQ_OTHER : Fld := ⟨0x200B08A8, 0, 32⟩
abbrev LNK_CNT_BCNSENT : Fld := ⟨0x200B08AC, 0, 32⟩
abbrev LNK_CNT_BCNMISS : Fld := ⟨0x200B08B0, 0, 32⟩
abbrev LNK_CNT_D2LATE : Fld := ⟨0x200B08B4, 0, 32⟩
abbrev SEC_CTRL_RUN : Fld := ⟨0x20090000, 0, 1⟩
abbrev SEC_CTRL_ZEROISE : Fld := ⟨0x20090000, 1, 1⟩
abbrev SEC_CTRL_ALOCK : Fld := ⟨0x20090000, 2, 1⟩
abbrev SEC_LIMIT_LIMIT : Fld := ⟨0x20090004, 0, 32⟩
abbrev SEC_STAT_KWKVALID : Fld := ⟨0x20090008, 0, 1⟩
abbrev SEC_STAT_REBUILD : Fld := ⟨0x20090008, 1, 1⟩
abbrev SEC_STAT_FBBUSY : Fld := ⟨0x20090008, 2, 1⟩
abbrev SEC_STAT_CORES : Fld := ⟨0x20090008, 4, 8⟩
abbrev SEC_STAT_VALID : Fld := ⟨0x20090008, 12, 10⟩
abbrev SEC_KCV_KCV : Fld := ⟨0x2009000C, 0, 24⟩
abbrev SEC_KCV_VALID : Fld := ⟨0x2009000C, 31, 1⟩
abbrev SEC_ALARM_GLITCH : Fld := ⟨0x20090010, 0, 1⟩
abbrev SEC_ALARM_TEMP : Fld := ⟨0x20090010, 1, 1⟩
abbrev SEC_ALARM_LIGHT : Fld := ⟨0x20090010, 2, 1⟩
abbrev SEC_ALARM_SHIELD : Fld := ⟨0x20090010, 3, 1⟩
abbrev SEC_ALARM_STALL : Fld := ⟨0x20090010, 4, 1⟩
abbrev SEC_ALARM_SW : Fld := ⟨0x20090010, 5, 1⟩
abbrev SEC_ALARM_LIVE_GLITCH : Fld := ⟨0x20090014, 0, 1⟩
abbrev SEC_ALARM_LIVE_TEMP : Fld := ⟨0x20090014, 1, 1⟩
abbrev SEC_ALARM_LIVE_LIGHT : Fld := ⟨0x20090014, 2, 1⟩
abbrev SEC_ALARM_LIVE_SHIELD : Fld := ⟨0x20090014, 3, 1⟩
abbrev SEC_ALARM_LIVE_STALL : Fld := ⟨0x20090014, 4, 1⟩
abbrev SEC_ALARM_LIVE_SW : Fld := ⟨0x20090014, 5, 1⟩
abbrev SEC_ALARM_EN_GLITCH : Fld := ⟨0x20090018, 0, 1⟩
abbrev SEC_ALARM_EN_TEMP : Fld := ⟨0x20090018, 1, 1⟩
abbrev SEC_ALARM_EN_LIGHT : Fld := ⟨0x20090018, 2, 1⟩
abbrev SEC_ALARM_EN_SHIELD : Fld := ⟨0x20090018, 3, 1⟩
abbrev SEC_ALARM_EN_STALL : Fld := ⟨0x20090018, 4, 1⟩
abbrev SEC_ALARM_EN_SW : Fld := ⟨0x20090018, 5, 1⟩
abbrev SEC_ALARM_CNT_COUNT : Fld := ⟨0x2009001C, 0, 16⟩
abbrev SEC_INT_STAT_ALARM : Fld := ⟨0x20090020, 0, 1⟩
abbrev SEC_INT_STAT_WARN : Fld := ⟨0x20090020, 1, 1⟩
abbrev SEC_INT_STAT_EXHAUSTED : Fld := ⟨0x20090020, 2, 1⟩
abbrev SEC_INT_STAT_KEYCHG : Fld := ⟨0x20090020, 3, 1⟩
abbrev SEC_INT_STAT_FBFAULT : Fld := ⟨0x20090020, 4, 1⟩
abbrev SEC_INT_STAT_KATFAIL : Fld := ⟨0x20090020, 5, 1⟩
abbrev SEC_INT_STAT_RESVFAIL : Fld := ⟨0x20090020, 6, 1⟩
abbrev SEC_INT_STAT_PAGEDONE : Fld := ⟨0x20090020, 8, 8⟩
abbrev SEC_INT_EN_ALARM : Fld := ⟨0x20090024, 0, 1⟩
abbrev SEC_INT_EN_WARN : Fld := ⟨0x20090024, 1, 1⟩
abbrev SEC_INT_EN_EXHAUSTED : Fld := ⟨0x20090024, 2, 1⟩
abbrev SEC_INT_EN_KEYCHG : Fld := ⟨0x20090024, 3, 1⟩
abbrev SEC_INT_EN_FBFAULT : Fld := ⟨0x20090024, 4, 1⟩
abbrev SEC_INT_EN_KATFAIL : Fld := ⟨0x20090024, 5, 1⟩
abbrev SEC_INT_EN_RESVFAIL : Fld := ⟨0x20090024, 6, 1⟩
abbrev SEC_INT_EN_PAGEDONE : Fld := ⟨0x20090024, 8, 8⟩
abbrev SEC_QSTAT_RX : Fld := ⟨0x20090028, 0, 7⟩
abbrev SEC_QSTAT_TX : Fld := ⟨0x20090028, 8, 6⟩
abbrev SEC_SLOT_SEL_SLOT : Fld := ⟨0x2009002C, 0, 10⟩
abbrev SEC_SLOT_INFO_GEN : Fld := ⟨0x20090030, 0, 24⟩
abbrev SEC_SLOT_INFO_VALID : Fld := ⟨0x20090030, 24, 1⟩
abbrev SEC_SLOT_INFO_KIND : Fld := ⟨0x20090030, 25, 2⟩
abbrev SEC_SLOT_INFO_PAN : Fld := ⟨0x20090030, 28, 4⟩
abbrev SEC_CNT_RX : Fld := ⟨0x20090040, 0, 32⟩
abbrev SEC_CNT_TX : Fld := ⟨0x20090044, 0, 32⟩
abbrev SEC_CNT_MICFAIL : Fld := ⟨0x20090048, 0, 32⟩
abbrev SEC_CNT_KEYCHG : Fld := ⟨0x2009004C, 0, 32⟩
abbrev SEC_CNT_NOKEY : Fld := ⟨0x20090050, 0, 32⟩
abbrev SEC_CNT_RESV : Fld := ⟨0x20090054, 0, 32⟩
abbrev SEC_CNT_NORESV : Fld := ⟨0x20090058, 0, 32⟩
abbrev SEC_CNT_EXHAUST : Fld := ⟨0x2009005C, 0, 32⟩
abbrev SEC_CNT_FBOPS : Fld := ⟨0x20090060, 0, 32⟩
abbrev SEC_CNT_FBMISM : Fld := ⟨0x20090064, 0, 32⟩
abbrev CTX_CTRL_FLUSH : Fld := ⟨0x200A0000, 0, 1⟩
abbrev CTX_CFG_WBINT : Fld := ⟨0x200A0004, 0, 8⟩
abbrev CTX_CFG_SIGSNR : Fld := ⟨0x200A0004, 8, 8⟩
abbrev CTX_CFG_PINMAX : Fld := ⟨0x200A0004, 16, 9⟩
abbrev CTX_CFG_LQISH : Fld := ⟨0x200A0004, 25, 3⟩
abbrev CTX_QUAR_SEC : Fld := ⟨0x200A0008, 0, 12⟩
abbrev CTX_TBL_ADDR : Fld := ⟨0x200A000C, 0, 14⟩
abbrev CTX_MAP_ADDR : Fld := ⟨0x200A0010, 0, 18⟩
abbrev CTX_EUIX_ADDR : Fld := ⟨0x200A0014, 0, 17⟩
abbrev CTX_HDR_ADDR : Fld := ⟨0x200A0018, 0, 28⟩
abbrev CTX_STAT_TABLE : Fld := ⟨0x200A0020, 0, 2⟩
abbrev CTX_STAT_WARM : Fld := ⟨0x200A0020, 2, 1⟩
abbrev CTX_STAT_HOT : Fld := ⟨0x200A0020, 4, 10⟩
abbrev CTX_STAT_DIRTY : Fld := ⟨0x200A0020, 14, 10⟩
abbrev CTX_PIN_INUSE : Fld := ⟨0x200A0024, 0, 10⟩
abbrev CTX_PIN_SWPIN : Fld := ⟨0x200A0024, 16, 9⟩
abbrev CTX_NODES_VALID : Fld := ⟨0x200A0028, 0, 19⟩
abbrev CTX_NODES_RETIRED : Fld := ⟨0x200A0028, 19, 13⟩
abbrev CTX_INT_STAT_CMDA : Fld := ⟨0x200A0030, 0, 1⟩
abbrev CTX_INT_STAT_CMDB : Fld := ⟨0x200A0030, 1, 1⟩
abbrev CTX_INT_STAT_CTXERR : Fld := ⟨0x200A0030, 2, 1⟩
abbrev CTX_INT_STAT_REBUILT : Fld := ⟨0x200A0030, 3, 1⟩
abbrev CTX_INT_STAT_BADREC : Fld := ⟨0x200A0030, 4, 1⟩
abbrev CTX_INT_STAT_QUARFULL : Fld := ⟨0x200A0030, 5, 1⟩
abbrev CTX_INT_STAT_EUIFULL : Fld := ⟨0x200A0030, 6, 1⟩
abbrev CTX_INT_EN_CMDA : Fld := ⟨0x200A0034, 0, 1⟩
abbrev CTX_INT_EN_CMDB : Fld := ⟨0x200A0034, 1, 1⟩
abbrev CTX_INT_EN_CTXERR : Fld := ⟨0x200A0034, 2, 1⟩
abbrev CTX_INT_EN_REBUILT : Fld := ⟨0x200A0034, 3, 1⟩
abbrev CTX_INT_EN_BADREC : Fld := ⟨0x200A0034, 4, 1⟩
abbrev CTX_INT_EN_QUARFULL : Fld := ⟨0x200A0034, 5, 1⟩
abbrev CTX_INT_EN_EUIFULL : Fld := ⟨0x200A0034, 6, 1⟩
abbrev CTX_PBM_SEL_WORD : Fld := ⟨0x200A0038, 0, 13⟩
abbrev CTX_PBM_DATA_BITS : Fld := ⟨0x200A003C, 0, 32⟩
abbrev CTX_SARn_MIN (n : Nat) : Fld := ⟨0x200A0040 + 4 * n, 0, 16⟩
abbrev CTX_SARn_MAX (n : Nat) : Fld := ⟨0x200A0040 + 4 * n, 16, 16⟩
abbrev CTX_CMDA_OP : Fld := ⟨0x200A0100, 0, 4⟩
abbrev CTX_CMDA_INDEX : Fld := ⟨0x200A0100, 4, 18⟩
abbrev CTX_CMDA_GO : Fld := ⟨0x200A0100, 31, 1⟩
abbrev CTX_ARGA_SADDR : Fld := ⟨0x200A0104, 0, 16⟩
abbrev CTX_ARGA_PAN : Fld := ⟨0x200A0104, 16, 4⟩
abbrev CTX_ARGA_MASK : Fld := ⟨0x200A0104, 20, 5⟩
abbrev CTX_STGA_LO_ADDR : Fld := ⟨0x200A0108, 8, 24⟩
abbrev CTX_STGA_HI_ADDR : Fld := ⟨0x200A010C, 0, 8⟩
abbrev CTX_RESA_BUSY : Fld := ⟨0x200A0110, 0, 1⟩
abbrev CTX_RESA_RESULT : Fld := ⟨0x200A0110, 1, 4⟩
abbrev CTX_RESA_REVIVED : Fld := ⟨0x200A0110, 5, 1⟩
abbrev CTX_RESA_INDEX : Fld := ⟨0x200A0110, 6, 18⟩
abbrev CTX_RESVALA_SADDR : Fld := ⟨0x200A0114, 0, 16⟩
abbrev CTX_CMDB_OP : Fld := ⟨0x200A0120, 0, 4⟩
abbrev CTX_CMDB_INDEX : Fld := ⟨0x200A0120, 4, 18⟩
abbrev CTX_CMDB_GO : Fld := ⟨0x200A0120, 31, 1⟩
abbrev CTX_ARGB_SADDR : Fld := ⟨0x200A0124, 0, 16⟩
abbrev CTX_ARGB_PAN : Fld := ⟨0x200A0124, 16, 4⟩
abbrev CTX_ARGB_MASK : Fld := ⟨0x200A0124, 20, 5⟩
abbrev CTX_STGB_LO_ADDR : Fld := ⟨0x200A0128, 8, 24⟩
abbrev CTX_STGB_HI_ADDR : Fld := ⟨0x200A012C, 0, 8⟩
abbrev CTX_RESB_BUSY : Fld := ⟨0x200A0130, 0, 1⟩
abbrev CTX_RESB_RESULT : Fld := ⟨0x200A0130, 1, 4⟩
abbrev CTX_RESB_REVIVED : Fld := ⟨0x200A0130, 5, 1⟩
abbrev CTX_RESB_INDEX : Fld := ⟨0x200A0130, 6, 18⟩
abbrev CTX_RESVALB_SADDR : Fld := ⟨0x200A0134, 0, 16⟩
abbrev CTX_CNT_HIT : Fld := ⟨0x200A0200, 0, 32⟩
abbrev CTX_CNT_MISS : Fld := ⟨0x200A0204, 0, 32⟩
abbrev CTX_CNT_EVICT : Fld := ⟨0x200A0208, 0, 32⟩
abbrev CTX_CNT_WBACK : Fld := ⟨0x200A020C, 0, 32⟩
abbrev CTX_CNT_CTXERR : Fld := ⟨0x200A0210, 0, 32⟩
abbrev CTX_CNT_CMD : Fld := ⟨0x200A0214, 0, 32⟩
abbrev CTX_CNT_CMDREJ : Fld := ⟨0x200A0218, 0, 32⟩
abbrev CTX_CNT_BADREC : Fld := ⟨0x200A021C, 0, 32⟩
abbrev CTX_CNT_QUAREARLY : Fld := ⟨0x200A0220, 0, 32⟩
abbrev CTX_CNT_SIGUPD : Fld := ⟨0x200A0224, 0, 32⟩
abbrev SHF_CTRL_FLUSH : Fld := ⟨0x200F0000, 0, 1⟩
abbrev SHF_CFG_TSHIFT : Fld := ⟨0x200F0004, 0, 6⟩
abbrev SHF_CFG_DEFRAWQ : Fld := ⟨0x200F0004, 8, 3⟩
abbrev SHF_CFG_MAXLEN : Fld := ⟨0x200F0004, 16, 11⟩
abbrev SHF_FLOWCFG_FLOWS : Fld := ⟨0x200F0008, 0, 17⟩
abbrev SHF_FLOWCFG_MINIDLE : Fld := ⟨0x200F0008, 24, 8⟩
abbrev SHF_FLOWBASE_ADDR : Fld := ⟨0x200F000C, 0, 16⟩
abbrev SHF_INBASE_ADDR : Fld := ⟨0x200F0010, 0, 16⟩
abbrev SHF_STAT_BOUND : Fld := ⟨0x200F0014, 0, 17⟩
abbrev SHF_STAT_INBUF : Fld := ⟨0x200F0014, 18, 14⟩
abbrev SHF_RTAG_RTAG : Fld := ⟨0x200F0018, 0, 16⟩
abbrev SHF_RTAG_NRULES : Fld := ⟨0x200F0018, 16, 11⟩
abbrev SHF_RULE_SEL_RULE : Fld := ⟨0x200F001C, 0, 10⟩
abbrev SHF_RULE_SEL_WORD : Fld := ⟨0x200F001C, 10, 4⟩
abbrev SHF_RULE_DATA_DATA : Fld := ⟨0x200F0020, 0, 32⟩
abbrev SHF_PENDQ_PEND : Fld := ⟨0x200F0024, 0, 16⟩
abbrev SHF_INT_STAT_BDROP : Fld := ⟨0x200F0030, 0, 1⟩
abbrev SHF_INT_STAT_LOST : Fld := ⟨0x200F0030, 1, 1⟩
abbrev SHF_INT_STAT_NOFLOW : Fld := ⟨0x200F0030, 2, 1⟩
abbrev SHF_INT_STAT_SHAPE : Fld := ⟨0x200F0030, 3, 1⟩
abbrev SHF_INT_STAT_BIG : Fld := ⟨0x200F0030, 4, 1⟩
abbrev SHF_INT_STAT_NOMATCH : Fld := ⟨0x200F0030, 5, 1⟩
abbrev SHF_INT_STAT_EVICT : Fld := ⟨0x200F0030, 6, 1⟩
abbrev SHF_INT_STAT_FLUSHDONE : Fld := ⟨0x200F0030, 7, 1⟩
abbrev SHF_INT_EN_BDROP : Fld := ⟨0x200F0034, 0, 1⟩
abbrev SHF_INT_EN_LOST : Fld := ⟨0x200F0034, 1, 1⟩
abbrev SHF_INT_EN_NOFLOW : Fld := ⟨0x200F0034, 2, 1⟩
abbrev SHF_INT_EN_SHAPE : Fld := ⟨0x200F0034, 3, 1⟩
abbrev SHF_INT_EN_BIG : Fld := ⟨0x200F0034, 4, 1⟩
abbrev SHF_INT_EN_NOMATCH : Fld := ⟨0x200F0034, 5, 1⟩
abbrev SHF_INT_EN_EVICT : Fld := ⟨0x200F0034, 6, 1⟩
abbrev SHF_INT_EN_FLUSHDONE : Fld := ⟨0x200F0034, 7, 1⟩
abbrev SHF_CLSn_WAIT (n : Nat) : Fld := ⟨0x200F0040 + 4 * n, 0, 16⟩
abbrev SHF_BSEQn_BSEQ (n : Nat) : Fld := ⟨0x200F0080 + 4 * n, 0, 32⟩
abbrev SHF_CNT_IN : Fld := ⟨0x200F0100, 0, 32⟩
abbrev SHF_CNT_RAW : Fld := ⟨0x200F0104, 0, 32⟩
abbrev SHF_CNT_DISCARD : Fld := ⟨0x200F0108, 0, 32⟩
abbrev SHF_CNT_NOMATCH : Fld := ⟨0x200F010C, 0, 32⟩
abbrev SHF_CNT_NOFLOW : Fld := ⟨0x200F0110, 0, 32⟩
abbrev SHF_CNT_SHAPE : Fld := ⟨0x200F0114, 0, 32⟩
abbrev SHF_CNT_BIG : Fld := ⟨0x200F0118, 0, 32⟩
abbrev SHF_CNT_ANCHOR : Fld := ⟨0x200F011C, 0, 32⟩
abbrev SHF_CNT_DELTA : Fld := ⟨0x200F0120, 0, 32⟩
abbrev SHF_CNT_ESCAPE : Fld := ⟨0x200F0124, 0, 32⟩
abbrev SHF_CNT_SUMMARY : Fld := ⟨0x200F0128, 0, 32⟩
abbrev SHF_CNT_BATCH : Fld := ⟨0x200F012C, 0, 32⟩
abbrev SHF_CNT_BDROP : Fld := ⟨0x200F0130, 0, 32⟩
abbrev SHF_CNT_LOST : Fld := ⟨0x200F0134, 0, 32⟩
abbrev SHF_CNT_EVICT : Fld := ⟨0x200F0138, 0, 32⟩
abbrev UPL_CTRL_RUN : Fld := ⟨0x20100000, 0, 2⟩
abbrev UPL_CTRL_STATUS : Fld := ⟨0x20100000, 2, 1⟩
abbrev UPL_CFG_MODE0 : Fld := ⟨0x20100004, 0, 2⟩
abbrev UPL_CFG_MODE1 : Fld := ⟨0x20100004, 2, 2⟩
abbrev UPL_CFG_IPV6 : Fld := ⟨0x20100004, 4, 1⟩
abbrev UPL_CFG_VLANEN : Fld := ⟨0x20100004, 5, 1⟩
abbrev UPL_CFG_UDPCS4 : Fld := ⟨0x20100004, 6, 1⟩
abbrev UPL_CFG_REVERT : Fld := ⟨0x20100004, 7, 1⟩
abbrev UPL_CFG_PREF : Fld := ⟨0x20100004, 8, 1⟩
abbrev UPL_CFG_TTL : Fld := ⟨0x20100004, 16, 8⟩
abbrev UPL_CFG_DSCP : Fld := ⟨0x20100004, 24, 6⟩
abbrev UPL_VLAN_VID : Fld := ⟨0x20100008, 0, 12⟩
abbrev UPL_VLAN_PCPD : Fld := ⟨0x20100008, 12, 3⟩
abbrev UPL_VLAN_PCPM : Fld := ⟨0x20100008, 16, 3⟩
abbrev UPL_VLAN_PCPT : Fld := ⟨0x20100008, 20, 3⟩
abbrev UPL_UDP_LPORT : Fld := ⟨0x2010000C, 0, 16⟩
abbrev UPL_UDP_RPORT : Fld := ⟨0x2010000C, 16, 16⟩
abbrev UPL_MAC_LO_MAC : Fld := ⟨0x20100010, 0, 32⟩
abbrev UPL_MAC_HI_MAC : Fld := ⟨0x20100014, 0, 16⟩
abbrev UPL_DEVIPn (n : Nat) : Fld := ⟨0x20100018 + 4 * n, 0, 32⟩
abbrev UPL_SVCIPn (n : Nat) : Fld := ⟨0x20100028 + 4 * n, 0, 32⟩
abbrev UPL_RIPn (n : Nat) : Fld := ⟨0x20100038 + 4 * n, 0, 32⟩
abbrev UPL_GWIPn (n : Nat) : Fld := ⟨0x20100048 + 4 * n, 0, 32⟩
abbrev UPL_PREFIX_LEN : Fld := ⟨0x20100058, 0, 8⟩
abbrev UPL_TIME_SEGTO : Fld := ⟨0x2010005C, 0, 8⟩
abbrev UPL_TIME_STATINT : Fld := ⟨0x2010005C, 8, 8⟩
abbrev UPL_TIME_ARPREF : Fld := ⟨0x2010005C, 16, 8⟩
abbrev UPL_SYSID_SYSID : Fld := ⟨0x20100060, 0, 16⟩
abbrev UPL_STAT_LINK : Fld := ⟨0x20100064, 0, 2⟩
abbrev UPL_STAT_ACTIVE : Fld := ⟨0x20100064, 2, 1⟩
abbrev UPL_STAT_NHVALID : Fld := ⟨0x20100064, 3, 1⟩
abbrev UPL_STAT_SVCOWN : Fld := ⟨0x20100064, 4, 1⟩
abbrev UPL_STAT_REASM : Fld := ⟨0x20100064, 8, 7⟩
abbrev UPL_STAT_SPEED0 : Fld := ⟨0x20100064, 16, 2⟩
abbrev UPL_STAT_SPEED1 : Fld := ⟨0x20100064, 18, 2⟩
abbrev UPL_NH_LO_MAC : Fld := ⟨0x20100068, 0, 32⟩
abbrev UPL_NH_HI_MAC : Fld := ⟨0x2010006C, 0, 16⟩
abbrev UPL_INT_STAT_LINK0 : Fld := ⟨0x20100070, 0, 1⟩
abbrev UPL_INT_STAT_LINK1 : Fld := ⟨0x20100070, 1, 1⟩
abbrev UPL_INT_STAT_FAILOVER : Fld := ⟨0x20100070, 2, 1⟩
abbrev UPL_INT_STAT_NOPORT : Fld := ⟨0x20100070, 3, 1⟩
abbrev UPL_INT_STAT_DQFULL : Fld := ⟨0x20100070, 4, 1⟩
abbrev UPL_INT_STAT_SEG_TIMEOUT : Fld := ⟨0x20100070, 5, 1⟩
abbrev UPL_INT_STAT_ORPHAN : Fld := ⟨0x20100070, 6, 1⟩
abbrev UPL_INT_STAT_BADHDR : Fld := ⟨0x20100070, 7, 1⟩
abbrev UPL_INT_STAT_EVDROP : Fld := ⟨0x20100070, 8, 1⟩
abbrev UPL_INT_STAT_NHFAIL : Fld := ⟨0x20100070, 9, 1⟩
abbrev UPL_INT_STAT_MDIO0DONE : Fld := ⟨0x20100070, 10, 1⟩
abbrev UPL_INT_STAT_MDIO1DONE : Fld := ⟨0x20100070, 11, 1⟩
abbrev UPL_INT_STAT_PTPSTATE : Fld := ⟨0x20100070, 12, 1⟩
abbrev UPL_INT_STAT_GMCHANGE : Fld := ⟨0x20100070, 13, 1⟩
abbrev UPL_INT_STAT_PTPTO : Fld := ⟨0x20100070, 14, 1⟩
abbrev UPL_INT_STAT_RINGERR : Fld := ⟨0x20100070, 15, 1⟩
abbrev UPL_INT_EN_LINK0 : Fld := ⟨0x20100074, 0, 1⟩
abbrev UPL_INT_EN_LINK1 : Fld := ⟨0x20100074, 1, 1⟩
abbrev UPL_INT_EN_FAILOVER : Fld := ⟨0x20100074, 2, 1⟩
abbrev UPL_INT_EN_NOPORT : Fld := ⟨0x20100074, 3, 1⟩
abbrev UPL_INT_EN_DQFULL : Fld := ⟨0x20100074, 4, 1⟩
abbrev UPL_INT_EN_SEG_TIMEOUT : Fld := ⟨0x20100074, 5, 1⟩
abbrev UPL_INT_EN_ORPHAN : Fld := ⟨0x20100074, 6, 1⟩
abbrev UPL_INT_EN_BADHDR : Fld := ⟨0x20100074, 7, 1⟩
abbrev UPL_INT_EN_EVDROP : Fld := ⟨0x20100074, 8, 1⟩
abbrev UPL_INT_EN_NHFAIL : Fld := ⟨0x20100074, 9, 1⟩
abbrev UPL_INT_EN_MDIO0DONE : Fld := ⟨0x20100074, 10, 1⟩
abbrev UPL_INT_EN_MDIO1DONE : Fld := ⟨0x20100074, 11, 1⟩
abbrev UPL_INT_EN_PTPSTATE : Fld := ⟨0x20100074, 12, 1⟩
abbrev UPL_INT_EN_GMCHANGE : Fld := ⟨0x20100074, 13, 1⟩
abbrev UPL_INT_EN_PTPTO : Fld := ⟨0x20100074, 14, 1⟩
abbrev UPL_INT_EN_RINGERR : Fld := ⟨0x20100074, 15, 1⟩
abbrev UPL_MDIOp_CMD_REG (n : Nat) : Fld := ⟨0x20100080 + 0x10 * n, 0, 5⟩
abbrev UPL_MDIOp_CMD_PHY (n : Nat) : Fld := ⟨0x20100080 + 0x10 * n, 5, 5⟩
abbrev UPL_MDIOp_CMD_OP (n : Nat) : Fld := ⟨0x20100080 + 0x10 * n, 10, 2⟩
abbrev UPL_MDIOp_CMD_C45 (n : Nat) : Fld := ⟨0x20100080 + 0x10 * n, 12, 1⟩
abbrev UPL_MDIOp_CMD_DIV (n : Nat) : Fld := ⟨0x20100080 + 0x10 * n, 16, 6⟩
abbrev UPL_MDIOp_CMD_GO (n : Nat) : Fld := ⟨0x20100080 + 0x10 * n, 31, 1⟩
abbrev UPL_MDIOp_DATA_DATA (n : Nat) : Fld := ⟨0x20100084 + 0x10 * n, 0, 16⟩
abbrev UPL_PTP_CFG_DOMAIN : Fld := ⟨0x20100200, 0, 8⟩
abbrev UPL_PTP_CFG_TRANSPORT : Fld := ⟨0x20100200, 8, 2⟩
abbrev UPL_PTP_CFG_DLYSHIFT : Fld := ⟨0x20100200, 16, 4⟩
abbrev UPL_PTP_CFG_EN : Fld := ⟨0x20100200, 20, 1⟩
abbrev UPL_PTP_SERVO_KP : Fld := ⟨0x20100204, 0, 8⟩
abbrev UPL_PTP_SERVO_KI : Fld := ⟨0x20100204, 8, 8⟩
abbrev UPL_PTP_SERVO_DLYOUT : Fld := ⟨0x20100204, 16, 16⟩
abbrev UPL_PTP_ASYM_INGRESS : Fld := ⟨0x20100208, 0, 16⟩
abbrev UPL_PTP_ASYM_EGRESS : Fld := ⟨0x20100208, 16, 16⟩
abbrev UPL_PTP_STAT_STATE : Fld := ⟨0x2010020C, 0, 4⟩
abbrev UPL_PTP_STAT_TWOSTEP : Fld := ⟨0x2010020C, 4, 1⟩
abbrev UPL_PTP_STAT_FM : Fld := ⟨0x2010020C, 5, 3⟩
abbrev UPL_PTP_STAT_UTCOFF : Fld := ⟨0x2010020C, 16, 16⟩
abbrev UPL_PTP_GM_LO : Fld := ⟨0x20100210, 0, 32⟩
abbrev UPL_PTP_GM_HI : Fld := ⟨0x20100214, 0, 32⟩
abbrev UPL_PTP_PAR_LO : Fld := ⟨0x20100218, 0, 32⟩
abbrev UPL_PTP_PAR_HI : Fld := ⟨0x2010021C, 0, 32⟩
abbrev UPL_PTP_MPD_DM : Fld := ⟨0x20100220, 0, 32⟩
abbrev UPL_PTP_FILT_LO : Fld := ⟨0x20100224, 0, 32⟩
abbrev UPL_PTP_FILT_HI : Fld := ⟨0x20100228, 0, 32⟩
abbrev UPL_PTP_FILT_EN_FILTEN : Fld := ⟨0x2010022C, 0, 1⟩
abbrev UPL_CNT_RX0 : Fld := ⟨0x20100400, 0, 32⟩
abbrev UPL_CNT_RX1 : Fld := ⟨0x20100404, 0, 32⟩
abbrev UPL_CNT_TX0 : Fld := ⟨0x20100408, 0, 32⟩
abbrev UPL_CNT_TX1 : Fld := ⟨0x2010040C, 0, 32⟩
abbrev UPL_CNT_RXERR : Fld := ⟨0x20100410, 0, 32⟩
abbrev UPL_CNT_FILTER : Fld := ⟨0x20100414, 0, 32⟩
abbrev UPL_CNT_BADHDR : Fld := ⟨0x20100418, 0, 32⟩
abbrev UPL_CNT_DQFULL : Fld := ⟨0x2010041C, 0, 32⟩
abbrev UPL_CNT_SEGTO : Fld := ⟨0x20100420, 0, 32⟩
abbrev UPL_CNT_ORPHAN : Fld := ⟨0x20100424, 0, 32⟩
abbrev UPL_CNT_DUPSEG : Fld := ⟨0x20100428, 0, 32⟩
abbrev UPL_CNT_STALE : Fld := ⟨0x2010042C, 0, 32⟩
abbrev UPL_CNT_MODEDROP : Fld := ⟨0x20100430, 0, 32⟩
abbrev UPL_CNT_EVDROP : Fld := ⟨0x20100434, 0, 32⟩
abbrev UPL_CNT_FAILOVER : Fld := ⟨0x20100438, 0, 32⟩
abbrev UPL_CNT_DLYOUT : Fld := ⟨0x2010043C, 0, 32⟩
abbrev STL_CTRL_HANDOVER : Fld := ⟨0x20110000, 0, 1⟩
abbrev STL_CFG_EN : Fld := ⟨0x20110004, 0, 1⟩
abbrev STL_CFG_PRIO : Fld := ⟨0x20110004, 4, 4⟩
abbrev STL_CFG_MISSN : Fld := ⟨0x20110004, 8, 4⟩
abbrev STL_CFG_LOSTN : Fld := ⟨0x20110004, 12, 4⟩
abbrev STL_CFG_MINRX : Fld := ⟨0x20110004, 16, 8⟩
abbrev STL_SUP_SUPPAN : Fld := ⟨0x20110008, 0, 4⟩
abbrev STL_SUP_SUPEN : Fld := ⟨0x20110008, 4, 1⟩
abbrev STL_SUP_SUPINT : Fld := ⟨0x20110008, 8, 8⟩
abbrev STL_COMPAT_COMPAT : Fld := ⟨0x2011000C, 0, 16⟩
abbrev STL_TT_KP : Fld := ⟨0x20110010, 0, 8⟩
abbrev STL_TT_KI : Fld := ⟨0x20110010, 8, 8⟩
abbrev STL_TT_ASYM : Fld := ⟨0x20110010, 16, 16⟩
abbrev STL_STAT_LANE : Fld := ⟨0x20110014, 0, 2⟩
abbrev STL_STAT_LINK : Fld := ⟨0x20110014, 2, 1⟩
abbrev STL_STAT_AUTH : Fld := ⟨0x20110014, 3, 1⟩
abbrev STL_STAT_SYNC : Fld := ⟨0x20110014, 4, 3⟩
abbrev STL_STAT_PEERSERV : Fld := ⟨0x20110014, 7, 1⟩
abbrev STL_STAT_PEERMODE : Fld := ⟨0x20110014, 8, 4⟩
abbrev STL_STAT_PEERMAINS : Fld := ⟨0x20110014, 12, 1⟩
abbrev STL_STAT_MISSED : Fld := ⟨0x20110014, 16, 8⟩
abbrev STL_PEPOCH_PEPOCH : Fld := ⟨0x20110018, 0, 32⟩
abbrev STL_PEER_EUI_LO_EUI : Fld := ⟨0x2011001C, 0, 32⟩
abbrev STL_PEER_EUI_HI_EUI : Fld := ⟨0x20110020, 0, 32⟩
abbrev STL_MSEQ_MSEQ : Fld := ⟨0x20110024, 0, 32⟩
abbrev STL_MACK_MACK : Fld := ⟨0x20110028, 0, 32⟩
abbrev STL_RTT_LAST : Fld := ⟨0x2011002C, 0, 16⟩
abbrev STL_RTT_MAX : Fld := ⟨0x2011002C, 16, 16⟩
abbrev STL_OFFSET_OFFSET : Fld := ⟨0x20110030, 0, 32⟩
abbrev STL_JOIN_DONE : Fld := ⟨0x20110034, 0, 24⟩
abbrev STL_DETACH_SEC : Fld := ⟨0x20110038, 0, 32⟩
abbrev STL_INT_STAT_LANELOSS : Fld := ⟨0x20110040, 0, 1⟩
abbrev STL_INT_STAT_LINKLOSS : Fld := ⟨0x20110040, 1, 1⟩
abbrev STL_INT_STAT_LINKUP : Fld := ⟨0x20110040, 2, 1⟩
abbrev STL_INT_STAT_SYNC : Fld := ⟨0x20110040, 3, 1⟩
abbrev STL_INT_STAT_TAKEOVER : Fld := ⟨0x20110040, 4, 1⟩
abbrev STL_INT_STAT_HANDOVER : Fld := ⟨0x20110040, 5, 1⟩
abbrev STL_INT_STAT_DETACHED : Fld := ⟨0x20110040, 6, 1⟩
abbrev STL_INT_STAT_SPLITGUARD : Fld := ⟨0x20110040, 7, 1⟩
abbrev STL_INT_STAT_SUPMISS : Fld := ⟨0x20110040, 8, 1⟩
abbrev STL_INT_STAT_DEAF : Fld := ⟨0x20110040, 9, 1⟩
abbrev STL_INT_STAT_MISMATCH : Fld := ⟨0x20110040, 10, 1⟩
abbrev STL_INT_STAT_DIVERGE : Fld := ⟨0x20110040, 11, 1⟩
abbrev STL_INT_STAT_SPLIT : Fld := ⟨0x20110040, 12, 1⟩
abbrev STL_INT_STAT_JOINFAIL : Fld := ⟨0x20110040, 13, 1⟩
abbrev STL_INT_EN_LANELOSS : Fld := ⟨0x20110044, 0, 1⟩
abbrev STL_INT_EN_LINKLOSS : Fld := ⟨0x20110044, 1, 1⟩
abbrev STL_INT_EN_LINKUP : Fld := ⟨0x20110044, 2, 1⟩
abbrev STL_INT_EN_SYNC : Fld := ⟨0x20110044, 3, 1⟩
abbrev STL_INT_EN_TAKEOVER : Fld := ⟨0x20110044, 4, 1⟩
abbrev STL_INT_EN_HANDOVER : Fld := ⟨0x20110044, 5, 1⟩
abbrev STL_INT_EN_DETACHED : Fld := ⟨0x20110044, 6, 1⟩
abbrev STL_INT_EN_SPLITGUARD : Fld := ⟨0x20110044, 7, 1⟩
abbrev STL_INT_EN_SUPMISS : Fld := ⟨0x20110044, 8, 1⟩
abbrev STL_INT_EN_DEAF : Fld := ⟨0x20110044, 9, 1⟩
abbrev STL_INT_EN_MISMATCH : Fld := ⟨0x20110044, 10, 1⟩
abbrev STL_INT_EN_DIVERGE : Fld := ⟨0x20110044, 11, 1⟩
abbrev STL_INT_EN_SPLIT : Fld := ⟨0x20110044, 12, 1⟩
abbrev STL_INT_EN_JOINFAIL : Fld := ⟨0x20110044, 13, 1⟩
abbrev STL_CNT_CRCERR : Fld := ⟨0x20110100, 0, 32⟩
abbrev STL_CNT_RESEND : Fld := ⟨0x20110104, 0, 32⟩
abbrev STL_CNT_LANELOSS : Fld := ⟨0x20110108, 0, 32⟩
abbrev STL_CNT_LINKLOSS : Fld := ⟨0x2011010C, 0, 32⟩
abbrev STL_CNT_COMMIT : Fld := ⟨0x20110110, 0, 32⟩
abbrev STL_CNT_DIVERGE : Fld := ⟨0x20110114, 0, 32⟩
abbrev STL_CNT_SUPMISS : Fld := ⟨0x20110118, 0, 32⟩
abbrev STL_CNT_TAKEOVER : Fld := ⟨0x2011011C, 0, 32⟩
abbrev STL_CNT_HANDOVER : Fld := ⟨0x20110120, 0, 32⟩
abbrev STL_CNT_JOIN : Fld := ⟨0x20110124, 0, 32⟩
abbrev HDG_FIRE_LO_FIRE : Fld := ⟨0x20070000, 0, 32⟩
abbrev HDG_FIRE_HI_FIRE : Fld := ⟨0x20070004, 0, 32⟩
abbrev HDG_INT_STAT_LOOP_C0 : Fld := ⟨0x20070010, 0, 1⟩
abbrev HDG_INT_STAT_LOOP_C1 : Fld := ⟨0x20070010, 1, 1⟩
abbrev HDG_INT_STAT_LOOP_SH : Fld := ⟨0x20070010, 2, 1⟩
abbrev HDG_INT_STAT_OVERRUN : Fld := ⟨0x20070010, 3, 1⟩
abbrev HDG_INT_STAT_DROP : Fld := ⟨0x20070010, 4, 1⟩
abbrev HDG_INT_STAT_WATCH0 : Fld := ⟨0x20070010, 5, 1⟩
abbrev HDG_INT_STAT_WATCH1 : Fld := ⟨0x20070010, 6, 1⟩
abbrev HDG_INT_STAT_DENIED : Fld := ⟨0x20070010, 7, 1⟩
abbrev HDG_INT_EN_LOOP_C0 : Fld := ⟨0x20070014, 0, 1⟩
abbrev HDG_INT_EN_LOOP_C1 : Fld := ⟨0x20070014, 1, 1⟩
abbrev HDG_INT_EN_LOOP_SH : Fld := ⟨0x20070014, 2, 1⟩
abbrev HDG_INT_EN_OVERRUN : Fld := ⟨0x20070014, 3, 1⟩
abbrev HDG_INT_EN_DROP : Fld := ⟨0x20070014, 4, 1⟩
abbrev HDG_INT_EN_WATCH0 : Fld := ⟨0x20070014, 5, 1⟩
abbrev HDG_INT_EN_WATCH1 : Fld := ⟨0x20070014, 6, 1⟩
abbrev HDG_INT_EN_DENIED : Fld := ⟨0x20070014, 7, 1⟩
abbrev HDG_TASK_SEL_TASK : Fld := ⟨0x20070018, 0, 12⟩
abbrev HDG_TASK_STAT_VALID : Fld := ⟨0x2007001C, 0, 1⟩
abbrev HDG_TASK_STAT_BUSY : Fld := ⟨0x2007001C, 1, 1⟩
abbrev HDG_TASK_STAT_COALESCE : Fld := ⟨0x2007001C, 2, 1⟩
abbrev HDG_TASK_STAT_OVERRUN : Fld := ⟨0x2007001C, 3, 1⟩
abbrev HDG_TASK_STAT_CCOUNT : Fld := ⟨0x2007001C, 8, 8⟩
abbrev HDG_TASK_STAT_OCOUNT : Fld := ⟨0x2007001C, 16, 8⟩
abbrev HDG_STAT_ENABLED : Fld := ⟨0x20070020, 0, 9⟩
abbrev HDG_STAT_PEND : Fld := ⟨0x20070020, 16, 12⟩
abbrev HDG_FLAGn (n : Nat) : Fld := ⟨0x20070100 + 4 * n, 0, 32⟩
abbrev HDG_WATCHn (n : Nat) : Fld := ⟨0x20070120 + 4 * n, 0, 32⟩
abbrev HDG_LOOPn (n : Nat) : Fld := ⟨0x20070140 + 4 * n, 0, 32⟩
abbrev HDG_CHn_CFG_SRC (n : Nat) : Fld := ⟨0x20071000 + 0x20 * n, 0, 12⟩
abbrev HDG_CHn_CFG_EN (n : Nat) : Fld := ⟨0x20071000 + 0x20 * n, 12, 1⟩
abbrev HDG_CHn_CFG_SECURE (n : Nat) : Fld := ⟨0x20071000 + 0x20 * n, 13, 1⟩
abbrev HDG_CHn_CFG_OWNER (n : Nat) : Fld := ⟨0x20071000 + 0x20 * n, 14, 3⟩
abbrev HDG_CHn_DST01_TASK0 (n : Nat) : Fld := ⟨0x20071004 + 0x20 * n, 0, 12⟩
abbrev HDG_CHn_DST01_V0 (n : Nat) : Fld := ⟨0x20071004 + 0x20 * n, 15, 1⟩
abbrev HDG_CHn_DST01_TASK1 (n : Nat) : Fld := ⟨0x20071004 + 0x20 * n, 16, 12⟩
abbrev HDG_CHn_DST01_V1 (n : Nat) : Fld := ⟨0x20071004 + 0x20 * n, 31, 1⟩
abbrev HDG_CHn_DST23_TASK2 (n : Nat) : Fld := ⟨0x20071008 + 0x20 * n, 0, 12⟩
abbrev HDG_CHn_DST23_V2 (n : Nat) : Fld := ⟨0x20071008 + 0x20 * n, 15, 1⟩
abbrev HDG_CHn_DST23_TASK3 (n : Nat) : Fld := ⟨0x20071008 + 0x20 * n, 16, 12⟩
abbrev HDG_CHn_DST23_V3 (n : Nat) : Fld := ⟨0x20071008 + 0x20 * n, 31, 1⟩
abbrev HDG_CHn_STAT_LOCK (n : Nat) : Fld := ⟨0x2007100C + 0x20 * n, 0, 1⟩
abbrev HDG_CHn_STAT_SW (n : Nat) : Fld := ⟨0x2007100C + 0x20 * n, 1, 1⟩
abbrev HDG_CHn_STAT_PEND (n : Nat) : Fld := ⟨0x2007100C + 0x20 * n, 4, 4⟩
abbrev HDG_CHn_STAT_HOPMAX (n : Nat) : Fld := ⟨0x2007100C + 0x20 * n, 8, 4⟩
abbrev HDG_CHn_TS_LO_TS (n : Nat) : Fld := ⟨0x20071010 + 0x20 * n, 0, 32⟩
abbrev HDG_CHn_TS_HI_TS (n : Nat) : Fld := ⟨0x20071014 + 0x20 * n, 0, 32⟩
abbrev HDG_CHn_CNT_ARRIVALS (n : Nat) : Fld := ⟨0x20071018 + 0x20 * n, 0, 24⟩
abbrev HDG_CHn_CNT_DROPS (n : Nat) : Fld := ⟨0x20071018 + 0x20 * n, 24, 8⟩
abbrev DMC_CTRL_SR : Fld := ⟨0x20080000, 0, 1⟩
abbrev DMC_CTRL_SRX : Fld := ⟨0x20080000, 1, 1⟩
abbrev DMC_CFG_DENSITY : Fld := ⟨0x20080004, 0, 1⟩
abbrev DMC_CFG_RANKS : Fld := ⟨0x20080004, 1, 1⟩
abbrev DMC_CFG_RATE : Fld := ⟨0x20080004, 2, 2⟩
abbrev DMC_CFG_ORDER : Fld := ⟨0x20080004, 4, 2⟩
abbrev DMC_CFG_AUTOSR : Fld := ⟨0x20080004, 6, 1⟩
abbrev DMC_CFG_IDLESR : Fld := ⟨0x20080004, 8, 8⟩
abbrev DMC_SCRUB_HOURS : Fld := ⟨0x20080008, 0, 8⟩
abbrev DMC_STAT_STATE : Fld := ⟨0x2008000C, 0, 3⟩
abbrev DMC_STAT_RETAINED : Fld := ⟨0x2008000C, 3, 1⟩
abbrev DMC_STAT_THERM : Fld := ⟨0x2008000C, 4, 1⟩
abbrev DMC_STAT_VCAP : Fld := ⟨0x2008000C, 8, 8⟩
abbrev DMC_STAT_POST0 : Fld := ⟨0x2008000C, 16, 4⟩
abbrev DMC_STAT_POST1 : Fld := ⟨0x2008000C, 20, 4⟩
abbrev DMC_STAT_REFRATE : Fld := ⟨0x2008000C, 24, 2⟩
abbrev DMC_TRAIN_PASS : Fld := ⟨0x20080010, 0, 7⟩
abbrev DMC_TRAIN_FAILSTEP : Fld := ⟨0x20080010, 7, 3⟩
abbrev DMC_TRAIN_FAILCH : Fld := ⟨0x20080010, 10, 1⟩
abbrev DMC_MR4_MR4 : Fld := ⟨0x20080014, 0, 32⟩
abbrev DMC_INT_STAT_CE : Fld := ⟨0x20080018, 0, 1⟩
abbrev DMC_INT_STAT_UE : Fld := ⟨0x20080018, 1, 1⟩
abbrev DMC_INT_STAT_LATE : Fld := ⟨0x20080018, 2, 1⟩
abbrev DMC_INT_STAT_P0LATE : Fld := ⟨0x20080018, 3, 1⟩
abbrev DMC_INT_STAT_ADDRERR : Fld := ⟨0x20080018, 4, 1⟩
abbrev DMC_INT_STAT_THERM : Fld := ⟨0x20080018, 5, 1⟩
abbrev DMC_INT_STAT_TRAINFAIL : Fld := ⟨0x20080018, 6, 1⟩
abbrev DMC_INT_STAT_SRREFUSED : Fld := ⟨0x20080018, 7, 1⟩
abbrev DMC_INT_EN_CE : Fld := ⟨0x2008001C, 0, 1⟩
abbrev DMC_INT_EN_UE : Fld := ⟨0x2008001C, 1, 1⟩
abbrev DMC_INT_EN_LATE : Fld := ⟨0x2008001C, 2, 1⟩
abbrev DMC_INT_EN_P0LATE : Fld := ⟨0x2008001C, 3, 1⟩
abbrev DMC_INT_EN_ADDRERR : Fld := ⟨0x2008001C, 4, 1⟩
abbrev DMC_INT_EN_THERM : Fld := ⟨0x2008001C, 5, 1⟩
abbrev DMC_INT_EN_TRAINFAIL : Fld := ⟨0x2008001C, 6, 1⟩
abbrev DMC_INT_EN_SRREFUSED : Fld := ⟨0x2008001C, 7, 1⟩
abbrev DMC_CE_LO_OFFSET : Fld := ⟨0x20080020, 0, 32⟩
abbrev DMC_CE_HI_OFFSET : Fld := ⟨0x20080024, 0, 8⟩
abbrev DMC_CE_INFO_SYNDROME : Fld := ⟨0x20080028, 0, 8⟩
abbrev DMC_CE_INFO_CH : Fld := ⟨0x20080028, 8, 1⟩
abbrev DMC_CE_INFO_RANK : Fld := ⟨0x20080028, 9, 1⟩
abbrev DMC_CE_INFO_BANK : Fld := ⟨0x20080028, 10, 3⟩
abbrev DMC_CE_INFO_PORT : Fld := ⟨0x20080028, 13, 4⟩
abbrev DMC_CE_INFO_BIT : Fld := ⟨0x20080028, 17, 7⟩
abbrev DMC_CE_INFO_VALID : Fld := ⟨0x20080028, 31, 1⟩
abbrev DMC_UE_LO_OFFSET : Fld := ⟨0x2008002C, 0, 32⟩
abbrev DMC_UE_HI_OFFSET : Fld := ⟨0x20080030, 0, 8⟩
abbrev DMC_UE_INFO_SYNDROME : Fld := ⟨0x20080034, 0, 8⟩
abbrev DMC_UE_INFO_CH : Fld := ⟨0x20080034, 8, 1⟩
abbrev DMC_UE_INFO_RANK : Fld := ⟨0x20080034, 9, 1⟩
abbrev DMC_UE_INFO_BANK : Fld := ⟨0x20080034, 10, 3⟩
abbrev DMC_UE_INFO_PORT : Fld := ⟨0x20080034, 13, 4⟩
abbrev DMC_UE_INFO_BIT : Fld := ⟨0x20080034, 17, 7⟩
abbrev DMC_UE_INFO_VALID : Fld := ⟨0x20080034, 31, 1⟩
abbrev DMC_PORTn_TARGET (n : Nat) : Fld := ⟨0x20080040 + 4 * n, 0, 12⟩
abbrev DMC_PORTn_PLAT (n : Nat) : Fld := ⟨0x20080040 + 4 * n, 16, 12⟩
abbrev DMC_CNT_CE : Fld := ⟨0x20080100, 0, 32⟩
abbrev DMC_CNT_UE : Fld := ⟨0x20080104, 0, 32⟩
abbrev DMC_CNT_SCRUBFIX : Fld := ⟨0x20080108, 0, 32⟩
abbrev DMC_CNT_RMW : Fld := ⟨0x2008010C, 0, 32⟩
abbrev DMC_CNT_LATE : Fld := ⟨0x20080110, 0, 32⟩
abbrev DMC_CNT_P0LATE : Fld := ⟨0x20080114, 0, 32⟩
abbrev DMC_CNT_REFFORCED : Fld := ⟨0x20080118, 0, 32⟩
abbrev DMC_CNT_SRENTRY : Fld := ⟨0x2008011C, 0, 32⟩
abbrev FLS_CMD_OP : Fld := ⟨0x20050000, 0, 4⟩
abbrev FLS_CMD_BLOCK : Fld := ⟨0x20050000, 4, 5⟩
abbrev FLS_CMD_PAGE : Fld := ⟨0x20050000, 9, 6⟩
abbrev FLS_CMD_REGION : Fld := ⟨0x20050000, 15, 2⟩
abbrev FLS_CMD_GO : Fld := ⟨0x20050000, 31, 1⟩
abbrev FLS_SRC_LO_ADDR : Fld := ⟨0x20050004, 3, 29⟩
abbrev FLS_SRC_HI_ADDR : Fld := ⟨0x20050008, 0, 8⟩
abbrev FLS_STAT_BUSY : Fld := ⟨0x2005000C, 0, 1⟩
abbrev FLS_STAT_SUSP : Fld := ⟨0x2005000C, 1, 1⟩
abbrev FLS_STAT_SBLOCK : Fld := ⟨0x2005000C, 2, 5⟩
abbrev FLS_STAT_RESULT : Fld := ⟨0x2005000C, 7, 4⟩
abbrev FLS_STAT_ABORT_LATE : Fld := ⟨0x2005000C, 11, 1⟩
abbrev FLS_STAT_SUSPREAD : Fld := ⟨0x2005000C, 12, 1⟩
abbrev FLS_STAT_FAILS : Fld := ⟨0x2005000C, 16, 4⟩
abbrev FLS_PWD_LO_PWD : Fld := ⟨0x20050010, 0, 32⟩
abbrev FLS_PWD_HI_PWD : Fld := ⟨0x20050014, 0, 32⟩
abbrev FLS_REGWR_START : Fld := ⟨0x20050018, 0, 5⟩
abbrev FLS_REGWR_END : Fld := ⟨0x20050018, 8, 5⟩
abbrev FLS_REGWR_WP : Fld := ⟨0x20050018, 16, 1⟩
abbrev FLS_REGWR_RP : Fld := ⟨0x20050018, 17, 1⟩
abbrev FLS_REGWR_CORE : Fld := ⟨0x20050018, 18, 1⟩
abbrev FLS_REGWR_UNLOCKED : Fld := ⟨0x20050018, 24, 1⟩
abbrev FLS_REGWR_VALID : Fld := ⟨0x20050018, 31, 1⟩
abbrev FLS_RECOV_VALID : Fld := ⟨0x2005001C, 0, 1⟩
abbrev FLS_RECOV_KIND : Fld := ⟨0x2005001C, 1, 1⟩
abbrev FLS_RECOV_BLOCK : Fld := ⟨0x2005001C, 2, 5⟩
abbrev FLS_RECOV_PAGE : Fld := ⟨0x2005001C, 7, 6⟩
abbrev FLS_RECOV_LOWER : Fld := ⟨0x2005001C, 13, 6⟩
abbrev FLS_ECCADDR_OFFSET : Fld := ⟨0x20050020, 0, 23⟩
abbrev FLS_INT_STAT_DONE : Fld := ⟨0x20050024, 0, 1⟩
abbrev FLS_INT_STAT_SUSPREAD : Fld := ⟨0x20050024, 1, 1⟩
abbrev FLS_INT_STAT_BUSYREAD : Fld := ⟨0x20050024, 2, 1⟩
abbrev FLS_INT_STAT_ECCERR : Fld := ⟨0x20050024, 3, 1⟩
abbrev FLS_INT_STAT_PWDFAIL : Fld := ⟨0x20050024, 4, 1⟩
abbrev FLS_INT_STAT_LOCKOUT : Fld := ⟨0x20050024, 5, 1⟩
abbrev FLS_INT_STAT_CMDREJ : Fld := ⟨0x20050024, 6, 1⟩
abbrev FLS_INT_STAT_RECOV : Fld := ⟨0x20050024, 7, 1⟩
abbrev FLS_INT_STAT_OTPDONE : Fld := ⟨0x20050024, 8, 1⟩
abbrev FLS_INT_STAT_OTPERR : Fld := ⟨0x20050024, 9, 1⟩
abbrev FLS_INT_EN_DONE : Fld := ⟨0x20050028, 0, 1⟩
abbrev FLS_INT_EN_SUSPREAD : Fld := ⟨0x20050028, 1, 1⟩
abbrev FLS_INT_EN_BUSYREAD : Fld := ⟨0x20050028, 2, 1⟩
abbrev FLS_INT_EN_ECCERR : Fld := ⟨0x20050028, 3, 1⟩
abbrev FLS_INT_EN_PWDFAIL : Fld := ⟨0x20050028, 4, 1⟩
abbrev FLS_INT_EN_LOCKOUT : Fld := ⟨0x20050028, 5, 1⟩
abbrev FLS_INT_EN_CMDREJ : Fld := ⟨0x20050028, 6, 1⟩
abbrev FLS_INT_EN_RECOV : Fld := ⟨0x20050028, 7, 1⟩
abbrev FLS_INT_EN_OTPDONE : Fld := ⟨0x20050028, 8, 1⟩
abbrev FLS_INT_EN_OTPERR : Fld := ⟨0x20050028, 9, 1⟩
abbrev FLS_CNT_CORR : Fld := ⟨0x2005002C, 0, 16⟩
abbrev FLS_CNT_UNCORR : Fld := ⟨0x2005002C, 16, 16⟩
abbrev FLS_REGn_START (n : Nat) : Fld := ⟨0x20050030 + 4 * n, 0, 5⟩
abbrev FLS_REGn_END (n : Nat) : Fld := ⟨0x20050030 + 4 * n, 8, 5⟩
abbrev FLS_REGn_WP (n : Nat) : Fld := ⟨0x20050030 + 4 * n, 16, 1⟩
abbrev FLS_REGn_RP (n : Nat) : Fld := ⟨0x20050030 + 4 * n, 17, 1⟩
abbrev FLS_REGn_CORE (n : Nat) : Fld := ⟨0x20050030 + 4 * n, 18, 1⟩
abbrev FLS_REGn_UNLOCKED (n : Nat) : Fld := ⟨0x20050030 + 4 * n, 24, 1⟩
abbrev FLS_REGn_VALID (n : Nat) : Fld := ⟨0x20050030 + 4 * n, 31, 1⟩
abbrev OTP_CMD_WORD : Fld := ⟨0x20058000, 0, 9⟩
abbrev OTP_CMD_GO : Fld := ⟨0x20058000, 31, 1⟩
abbrev OTP_WDATA_DATA : Fld := ⟨0x20058004, 0, 32⟩
abbrev OTP_RSEL_WORD : Fld := ⟨0x20058008, 0, 9⟩
abbrev OTP_RDATA_DATA : Fld := ⟨0x2005800C, 0, 32⟩
abbrev OTP_STAT_BUSY : Fld := ⟨0x20058010, 0, 1⟩
abbrev OTP_STAT_RESULT : Fld := ⟨0x20058010, 1, 3⟩
abbrev OTP_STAT_RSTATE : Fld := ⟨0x20058010, 4, 2⟩
abbrev OTP_LC_STATE : Fld := ⟨0x20058014, 0, 3⟩
abbrev OTP_LC_SLOT : Fld := ⟨0x20058014, 3, 2⟩
abbrev OTP_LC_N : Fld := ⟨0x20058014, 5, 4⟩
abbrev OTP_LC_KVALID : Fld := ⟨0x20058014, 9, 1⟩
abbrev JNL_CTRL_RESTATE : Fld := ⟨0x20060000, 0, 1⟩
abbrev JNL_CTRL_FORMAT : Fld := ⟨0x20060000, 1, 1⟩
abbrev JNL_CFG_RECBASE : Fld := ⟨0x20060004, 0, 28⟩
abbrev JNL_STAT_STATE : Fld := ⟨0x20060008, 0, 2⟩
abbrev JNL_HEAD_SLOT : Fld := ⟨0x2006000C, 0, 18⟩
abbrev JNL_HEAD_WRAP : Fld := ⟨0x2006000C, 18, 14⟩
abbrev JNL_SWEEP_INDEX : Fld := ⟨0x20060010, 0, 18⟩
abbrev JNL_SWEEP_LAG : Fld := ⟨0x20060010, 20, 10⟩
abbrev JNL_REC_REPLAYED : Fld := ⟨0x20060014, 0, 19⟩
abbrev JNL_REC_TIME : Fld := ⟨0x20060014, 19, 10⟩
abbrev JNL_REC_FALLBACK : Fld := ⟨0x20060014, 29, 1⟩
abbrev JNL_SLOTCMD_SLOT : Fld := ⟨0x20060018, 0, 2⟩
abbrev JNL_SLOTCMD_GO : Fld := ⟨0x20060018, 31, 1⟩
abbrev JNL_ISEQ_ISEQ : Fld := ⟨0x2006001C, 0, 32⟩
abbrev JNL_UEADDR_OFFSET : Fld := ⟨0x20060020, 0, 23⟩
abbrev JNL_INT_STAT_RECDONE : Fld := ⟨0x20060024, 0, 1⟩
abbrev JNL_INT_STAT_FMTDONE : Fld := ⟨0x20060024, 1, 1⟩
abbrev JNL_INT_STAT_RESTATED : Fld := ⟨0x20060024, 2, 1⟩
abbrev JNL_INT_STAT_UEWORD : Fld := ⟨0x20060024, 3, 1⟩
abbrev JNL_INT_STAT_REFUSED : Fld := ⟨0x20060024, 4, 1⟩
abbrev JNL_INT_STAT_LAG : Fld := ⟨0x20060024, 5, 1⟩
abbrev JNL_INT_STAT_WRAP : Fld := ⟨0x20060024, 6, 1⟩
abbrev JNL_INT_EN_RECDONE : Fld := ⟨0x20060028, 0, 1⟩
abbrev JNL_INT_EN_FMTDONE : Fld := ⟨0x20060028, 1, 1⟩
abbrev JNL_INT_EN_RESTATED : Fld := ⟨0x20060028, 2, 1⟩
abbrev JNL_INT_EN_UEWORD : Fld := ⟨0x20060028, 3, 1⟩
abbrev JNL_INT_EN_REFUSED : Fld := ⟨0x20060028, 4, 1⟩
abbrev JNL_INT_EN_LAG : Fld := ⟨0x20060028, 5, 1⟩
abbrev JNL_INT_EN_WRAP : Fld := ⟨0x20060028, 6, 1⟩
abbrev JNL_CNT_RECORDS_COUNT : Fld := ⟨0x20060030, 0, 32⟩
abbrev JNL_CNT_VOIDS_COUNT : Fld := ⟨0x20060034, 0, 32⟩
abbrev JNL_CNT_CARRIES_COUNT : Fld := ⟨0x20060038, 0, 32⟩
abbrev JNL_CNT_UEWORDS_COUNT : Fld := ⟨0x2006003C, 0, 32⟩
abbrev CAP_IDENT_FAMILY : Fld := ⟨0x20000000, 0, 16⟩
abbrev CAP_IDENT_PART : Fld := ⟨0x20000000, 16, 16⟩
abbrev CAP_REV_REV : Fld := ⟨0x20000004, 0, 8⟩
abbrev CAP_EUI_LO_EUI : Fld := ⟨0x20000008, 0, 32⟩
abbrev CAP_EUI_HI_EUI : Fld := ⟨0x2000000C, 0, 32⟩
abbrev CAP_HEAD_OFFSET : Fld := ⟨0x20000010, 0, 16⟩
abbrev CAP_SERIAL_SERIAL : Fld := ⟨0x20000014, 0, 32⟩
abbrev CFG_STAT_STATE : Fld := ⟨0x20040000, 0, 3⟩
abbrev CFG_STAT_SLOT : Fld := ⟨0x20040000, 3, 1⟩
abbrev CFG_STAT_KEYSEL : Fld := ⟨0x20040000, 4, 1⟩
abbrev CFG_STAT_FAIL : Fld := ⟨0x20040000, 8, 4⟩
abbrev CFG_STAT_FAILSEC : Fld := ⟨0x20040000, 16, 6⟩
abbrev CFG_IMGSEQ_ISEQ : Fld := ⟨0x20040004, 0, 32⟩
abbrev CFG_NVM_WIDTH : Fld := ⟨0x20040008, 0, 2⟩
abbrev CFG_NVM_ADDR4 : Fld := ⟨0x20040008, 2, 1⟩
abbrev CFG_NVM_DUMMY : Fld := ⟨0x20040008, 3, 5⟩
abbrev CFG_NVM_OPCODE : Fld := ⟨0x20040008, 8, 8⟩
abbrev CFG_NVM_DIV : Fld := ⟨0x20040008, 16, 4⟩
abbrev CFG_TIMES_LOADMS : Fld := ⟨0x2004000C, 0, 16⟩
abbrev CFG_TIMES_SIGUS : Fld := ⟨0x2004000C, 16, 16⟩
abbrev CFG_STMIN_MINRX : Fld := ⟨0x20040010, 0, 5⟩
abbrev CFG_STMIN_MINTX : Fld := ⟨0x20040010, 8, 4⟩
abbrev CFG_STMIN_MINDEC : Fld := ⟨0x20040010, 16, 5⟩
abbrev CFG_STRES_RX : Fld := ⟨0x20040014, 0, 1⟩
abbrev CFG_STRES_TX : Fld := ⟨0x20040014, 1, 1⟩
abbrev CFG_STRES_DEC : Fld := ⟨0x20040014, 2, 1⟩
abbrev CFG_STRES_SEC : Fld := ⟨0x20040014, 3, 1⟩
abbrev CFG_STRES_DRAM : Fld := ⟨0x20040014, 4, 1⟩
abbrev CFG_STRES_JNL : Fld := ⟨0x20040014, 5, 1⟩
abbrev CFG_STRES_CTX : Fld := ⟨0x20040014, 6, 1⟩
abbrev CFG_STRES_PAIR : Fld := ⟨0x20040014, 7, 1⟩
abbrev CFG_STRES_LO : Fld := ⟨0x20040014, 8, 1⟩
abbrev CFG_STRES_RXOK : Fld := ⟨0x20040014, 16, 5⟩
abbrev CFG_STRES_TXOK : Fld := ⟨0x20040014, 24, 4⟩
abbrev CFG_PACE_EN : Fld := ⟨0x20040018, 0, 1⟩
abbrev CFG_PACE_ALWAYS : Fld := ⟨0x20040018, 1, 1⟩
abbrev CFG_PACE_M : Fld := ⟨0x20040018, 2, 5⟩
abbrev CFG_PACE_STEP : Fld := ⟨0x20040018, 8, 16⟩
abbrev CFG_PACECTL_STOP : Fld := ⟨0x2004001C, 0, 1⟩
abbrev CFG_PACECTL_ACTIVE : Fld := ⟨0x2004001C, 1, 1⟩
abbrev CFG_INT_STAT_CHKDONE0 : Fld := ⟨0x20040030, 0, 1⟩
abbrev CFG_INT_STAT_CHKDONE1 : Fld := ⟨0x20040030, 1, 1⟩
abbrev CFG_INT_STAT_CHKDONE2 : Fld := ⟨0x20040030, 2, 1⟩
abbrev CFG_INT_STAT_CHKDONE3 : Fld := ⟨0x20040030, 3, 1⟩
abbrev CFG_INT_STAT_CHKMIS0 : Fld := ⟨0x20040030, 4, 1⟩
abbrev CFG_INT_STAT_CHKMIS1 : Fld := ⟨0x20040030, 5, 1⟩
abbrev CFG_INT_STAT_CHKMIS2 : Fld := ⟨0x20040030, 6, 1⟩
abbrev CFG_INT_STAT_CHKMIS3 : Fld := ⟨0x20040030, 7, 1⟩
abbrev CFG_INT_STAT_PACEDONE : Fld := ⟨0x20040030, 8, 1⟩
abbrev CFG_INT_STAT_PACESTOP : Fld := ⟨0x20040030, 9, 1⟩
abbrev CFG_INT_STAT_STDONE : Fld := ⟨0x20040030, 10, 1⟩
abbrev CFG_INT_EN_CHKDONE0 : Fld := ⟨0x20040034, 0, 1⟩
abbrev CFG_INT_EN_CHKDONE1 : Fld := ⟨0x20040034, 1, 1⟩
abbrev CFG_INT_EN_CHKDONE2 : Fld := ⟨0x20040034, 2, 1⟩
abbrev CFG_INT_EN_CHKDONE3 : Fld := ⟨0x20040034, 3, 1⟩
abbrev CFG_INT_EN_CHKMIS0 : Fld := ⟨0x20040034, 4, 1⟩
abbrev CFG_INT_EN_CHKMIS1 : Fld := ⟨0x20040034, 5, 1⟩
abbrev CFG_INT_EN_CHKMIS2 : Fld := ⟨0x20040034, 6, 1⟩
abbrev CFG_INT_EN_CHKMIS3 : Fld := ⟨0x20040034, 7, 1⟩
abbrev CFG_INT_EN_PACEDONE : Fld := ⟨0x20040034, 8, 1⟩
abbrev CFG_INT_EN_PACESTOP : Fld := ⟨0x20040034, 9, 1⟩
abbrev CFG_INT_EN_STDONE : Fld := ⟨0x20040034, 10, 1⟩
abbrev LPW_MODE_MODE : Fld := ⟨0x20030000, 0, 4⟩
abbrev LPW_RSTCAUSE_CAUSE : Fld := ⟨0x20030004, 0, 4⟩
abbrev LPW_RSTCAUSE_PREVMODE : Fld := ⟨0x20030004, 4, 4⟩
abbrev LPW_RSTCAUSE_MAKERLATCH : Fld := ⟨0x20030004, 8, 1⟩
abbrev LPW_RSTCMD_KEY : Fld := ⟨0x20030008, 0, 8⟩
abbrev LPW_RSTCMD_MAKER : Fld := ⟨0x20030008, 8, 1⟩
abbrev LPW_ACL_APPRST : Fld := ⟨0x2003000C, 0, 1⟩
abbrev LPW_ACL_APPUPD : Fld := ⟨0x2003000C, 1, 1⟩
abbrev LPW_ACL_APPTOK : Fld := ⟨0x2003000C, 2, 1⟩
abbrev LPW_INT_STAT_MODECHG : Fld := ⟨0x20030010, 0, 1⟩
abbrev LPW_INT_STAT_LOGWRAP : Fld := ⟨0x20030010, 1, 1⟩
abbrev LPW_INT_STAT_WDWARN : Fld := ⟨0x20030010, 2, 1⟩
abbrev LPW_INT_STAT_SUPRST : Fld := ⟨0x20030010, 3, 1⟩
abbrev LPW_INT_STAT_SENSOR : Fld := ⟨0x20030010, 4, 1⟩
abbrev LPW_INT_STAT_UPDDONE : Fld := ⟨0x20030010, 5, 1⟩
abbrev LPW_INT_STAT_TOKDONE : Fld := ⟨0x20030010, 6, 1⟩
abbrev LPW_INT_STAT_LCDONE : Fld := ⟨0x20030010, 7, 1⟩
abbrev LPW_INT_STAT_REFUSED : Fld := ⟨0x20030010, 8, 1⟩
abbrev LPW_INT_STAT_SPIXDONE : Fld := ⟨0x20030010, 9, 1⟩
abbrev LPW_INT_EN_MODECHG : Fld := ⟨0x20030014, 0, 1⟩
abbrev LPW_INT_EN_LOGWRAP : Fld := ⟨0x20030014, 1, 1⟩
abbrev LPW_INT_EN_WDWARN : Fld := ⟨0x20030014, 2, 1⟩
abbrev LPW_INT_EN_SUPRST : Fld := ⟨0x20030014, 3, 1⟩
abbrev LPW_INT_EN_SENSOR : Fld := ⟨0x20030014, 4, 1⟩
abbrev LPW_INT_EN_UPDDONE : Fld := ⟨0x20030014, 5, 1⟩
abbrev LPW_INT_EN_TOKDONE : Fld := ⟨0x20030014, 6, 1⟩
abbrev LPW_INT_EN_LCDONE : Fld := ⟨0x20030014, 7, 1⟩
abbrev LPW_INT_EN_REFUSED : Fld := ⟨0x20030014, 8, 1⟩
abbrev LPW_INT_EN_SPIXDONE : Fld := ⟨0x20030014, 9, 1⟩
abbrev LPW_WDT_CFG_TIMEOUT : Fld := ⟨0x20030020, 0, 16⟩
abbrev LPW_WDT_CFG_WARN : Fld := ⟨0x20030020, 16, 8⟩
abbrev LPW_WDT_CFG_LOCK : Fld := ⟨0x20030020, 31, 1⟩
abbrev LPW_WDT_KICK_KEY : Fld := ⟨0x20030024, 0, 8⟩
abbrev LPW_WDT_STAT_LEFT : Fld := ⟨0x20030028, 0, 16⟩
abbrev LPW_SUPc_CFG_TIMEOUT (n : Nat) : Fld := ⟨0x20030030 + 0x10 * n, 0, 16⟩
abbrev LPW_SUPc_CFG_MAXRST (n : Nat) : Fld := ⟨0x20030030 + 0x10 * n, 16, 4⟩
abbrev LPW_SUPc_CFG_WINDOW (n : Nat) : Fld := ⟨0x20030030 + 0x10 * n, 20, 8⟩
abbrev LPW_SUPc_KICK_KEY (n : Nat) : Fld := ⟨0x20030034 + 0x10 * n, 0, 8⟩
abbrev LPW_SUPc_STAT_RESETS (n : Nat) : Fld := ⟨0x20030038 + 0x10 * n, 0, 4⟩
abbrev LPW_SUPc_STAT_HELD (n : Nat) : Fld := ⟨0x20030038 + 0x10 * n, 4, 1⟩
abbrev LPW_LOG_CFG_FWD : Fld := ⟨0x20030060, 0, 1⟩
abbrev LPW_LOG_STAT_NEXT : Fld := ⟨0x20030064, 0, 10⟩
abbrev LPW_LOG_STAT_WRAPPED : Fld := ⟨0x20030064, 10, 1⟩
abbrev LPW_LOG_STAT_SEQ : Fld := ⟨0x20030064, 16, 15⟩
abbrev LPW_LOG_SEL_ENTRY : Fld := ⟨0x20030068, 0, 10⟩
abbrev LPW_LOG_DATAn (n : Nat) : Fld := ⟨0x2003006C + 4 * n, 0, 32⟩
abbrev LPW_LC_CMD_TARGET : Fld := ⟨0x20030080, 0, 3⟩
abbrev LPW_LC_CMD_GO : Fld := ⟨0x20030080, 31, 1⟩
abbrev LPW_LC_STAT_BUSY : Fld := ⟨0x20030084, 0, 1⟩
abbrev LPW_LC_STAT_RESULT : Fld := ⟨0x20030084, 1, 3⟩
abbrev LPW_LC_STAT_RCLEAN : Fld := ⟨0x20030084, 4, 1⟩
abbrev LPW_DBG_STAT_BSCAN : Fld := ⟨0x20030088, 0, 1⟩
abbrev LPW_DBG_STAT_APPDBG : Fld := ⟨0x20030088, 1, 2⟩
abbrev LPW_DBG_STAT_LPWDBG : Fld := ⟨0x20030088, 3, 1⟩
abbrev LPW_DBG_STAT_LEFT : Fld := ⟨0x20030088, 16, 16⟩
abbrev LPW_CHALn (n : Nat) : Fld := ⟨0x20030090 + 4 * n, 0, 32⟩
abbrev LPW_TOK_LO : Fld := ⟨0x200300A0, 0, 32⟩
abbrev LPW_TOK_HI : Fld := ⟨0x200300A4, 0, 8⟩
abbrev LPW_TOK_CMD_GO : Fld := ⟨0x200300A8, 0, 1⟩
abbrev LPW_TOK_STAT_BUSY : Fld := ⟨0x200300AC, 0, 1⟩
abbrev LPW_TOK_STAT_RESULT : Fld := ⟨0x200300AC, 1, 4⟩
abbrev LPW_TOK_STAT_TYPE : Fld := ⟨0x200300AC, 5, 3⟩
abbrev LPW_UPD_CMD_OP : Fld := ⟨0x200300B0, 0, 2⟩
abbrev LPW_UPD_CMD_GO : Fld := ⟨0x200300B0, 31, 1⟩
abbrev LPW_UPD_STAT_BUSY : Fld := ⟨0x200300B4, 0, 1⟩
abbrev LPW_UPD_STAT_VERIFIED : Fld := ⟨0x200300B4, 1, 1⟩
abbrev LPW_UPD_STAT_RESULT : Fld := ⟨0x200300B4, 2, 4⟩
abbrev LPW_UPD_STAT_SLOT : Fld := ⟨0x200300B4, 6, 1⟩
abbrev LPW_UPD_ISEQ_ISEQ : Fld := ⟨0x200300B8, 0, 32⟩
abbrev LPW_SPIX_CMD_OPCODE : Fld := ⟨0x200300C0, 0, 8⟩
abbrev LPW_SPIX_CMD_WIDTH : Fld := ⟨0x200300C0, 8, 2⟩
abbrev LPW_SPIX_CMD_ALEN : Fld := ⟨0x200300C0, 10, 2⟩
abbrev LPW_SPIX_CMD_DUMMY : Fld := ⟨0x200300C0, 12, 5⟩
abbrev LPW_SPIX_CMD_DIR : Fld := ⟨0x200300C0, 17, 1⟩
abbrev LPW_SPIX_CMD_LEN : Fld := ⟨0x200300C0, 18, 9⟩
abbrev LPW_SPIX_CMD_BUSY : Fld := ⟨0x200300C0, 30, 1⟩
abbrev LPW_SPIX_CMD_GO : Fld := ⟨0x200300C0, 31, 1⟩
abbrev LPW_SPIX_ADDR_ADDR : Fld := ⟨0x200300C4, 0, 32⟩
abbrev LPW_SPIX_BUF_OFFSET : Fld := ⟨0x200300C8, 0, 18⟩
abbrev LPW_TEMPn_T (n : Nat) : Fld := ⟨0x20030100 + 4 * n, 0, 12⟩
abbrev LPW_VMONn_MV (n : Nat) : Fld := ⟨0x20030120 + 4 * n, 0, 12⟩
abbrev LPW_VMONn_MIN (n : Nat) : Fld := ⟨0x20030120 + 4 * n, 16, 12⟩
abbrev LPW_SENS_CFG_THI : Fld := ⟨0x20030140, 0, 8⟩
abbrev LPW_SENS_CFG_TLO : Fld := ⟨0x20030140, 8, 8⟩
abbrev LPW_SENS_CFG_VTOL : Fld := ⟨0x20030140, 16, 8⟩
abbrev LPW_SENS_STAT_THOT : Fld := ⟨0x20030144, 0, 8⟩
abbrev LPW_SENS_STAT_TCOLD : Fld := ⟨0x20030144, 8, 8⟩
abbrev LPW_SENS_STAT_VOUT : Fld := ⟨0x20030144, 16, 6⟩
abbrev PWR_STAT_NTRANS : Fld := ⟨0x20010000, 0, 6⟩
abbrev PWR_STAT_NON : Fld := ⟨0x20010000, 8, 6⟩
abbrev PWR_STAT_GBUSY : Fld := ⟨0x20010000, 16, 8⟩
abbrev PWR_ERR_LOCKED : Fld := ⟨0x20010004, 0, 1⟩
abbrev PWR_ERR_TIMEOUT : Fld := ⟨0x20010004, 1, 1⟩
abbrev PWR_ERR_REQUIRED : Fld := ⟨0x20010004, 2, 1⟩
abbrev PWR_ERR_BADSTATE : Fld := ⟨0x20010004, 3, 1⟩
abbrev PWR_ERR_UNLOCKED : Fld := ⟨0x20010004, 4, 1⟩
abbrev PWR_ERRINFO_DOMAIN : Fld := ⟨0x20010008, 0, 6⟩
abbrev PWR_ERRINFO_KIND : Fld := ⟨0x20010008, 6, 3⟩
abbrev PWR_ERRINFO_INITIATOR : Fld := ⟨0x20010008, 9, 4⟩
abbrev PWR_WAKESRC_DOMAIN : Fld := ⟨0x2001000C, 0, 6⟩
abbrev PWR_WAKESRC_FROMOFF : Fld := ⟨0x2001000C, 6, 1⟩
abbrev PWR_WAKESRC_LOCK : Fld := ⟨0x2001000C, 7, 1⟩
abbrev PWR_WAKESRC_CAUSE : Fld := ⟨0x2001000C, 8, 3⟩
abbrev PWR_WAKESRC_INITIATOR : Fld := ⟨0x2001000C, 11, 4⟩
abbrev PWR_WAKETS_TS32 : Fld := ⟨0x20010010, 0, 32⟩
abbrev PWR_WAKECNT_FROMRET : Fld := ⟨0x20010014, 0, 16⟩
abbrev PWR_WAKECNT_FROMOFF : Fld := ⟨0x20010014, 16, 16⟩
abbrev PWR_ACL_LO_ACL : Fld := ⟨0x20010018, 0, 32⟩
abbrev PWR_ACL_HI_ACL : Fld := ⟨0x2001001C, 0, 10⟩
abbrev PWR_DOM_INT_STAT_DOMERR : Fld := ⟨0x20010030, 0, 1⟩
abbrev PWR_DOM_INT_STAT_GROUPDONE : Fld := ⟨0x20010030, 1, 1⟩
abbrev PWR_DOM_INT_STAT_GROUPREF : Fld := ⟨0x20010030, 2, 1⟩
abbrev PWR_DOM_INT_STAT_WAKE : Fld := ⟨0x20010030, 3, 1⟩
abbrev PWR_DOM_INT_EN_DOMERR : Fld := ⟨0x20010034, 0, 1⟩
abbrev PWR_DOM_INT_EN_GROUPDONE : Fld := ⟨0x20010034, 1, 1⟩
abbrev PWR_DOM_INT_EN_GROUPREF : Fld := ⟨0x20010034, 2, 1⟩
abbrev PWR_DOM_INT_EN_WAKE : Fld := ⟨0x20010034, 3, 1⟩
abbrev PWR_DOMn_REQ (n : Nat) : Fld := ⟨0x20010100 + 4 * n, 0, 2⟩
abbrev PWR_DOMn_STATE (n : Nat) : Fld := ⟨0x20010100 + 4 * n, 2, 2⟩
abbrev PWR_DOMn_TRANS (n : Nat) : Fld := ⟨0x20010100 + 4 * n, 4, 1⟩
abbrev PWR_DOMn_LOCKOFF (n : Nat) : Fld := ⟨0x20010100 + 4 * n, 5, 1⟩
abbrev PWR_DOMn_FORCED (n : Nat) : Fld := ⟨0x20010100 + 4 * n, 6, 1⟩
abbrev PWR_DOMn_IDLE (n : Nat) : Fld := ⟨0x20010100 + 4 * n, 8, 8⟩
abbrev PWR_DOMn_WEVT (n : Nat) : Fld := ⟨0x20010100 + 4 * n, 16, 1⟩
abbrev PWR_DOMn_HOLD (n : Nat) : Fld := ⟨0x20010100 + 4 * n, 17, 1⟩
abbrev PWR_DOMn_KEEP (n : Nat) : Fld := ⟨0x20010100 + 4 * n, 18, 1⟩
abbrev PWR_DOMn_RELEASE (n : Nat) : Fld := ⟨0x20010100 + 4 * n, 19, 1⟩
abbrev PWR_DOMn_GROUP (n : Nat) : Fld := ⟨0x20010100 + 4 * n, 20, 3⟩
abbrev PWR_DOMn_INGRP (n : Nat) : Fld := ⟨0x20010100 + 4 * n, 23, 1⟩
abbrev PWR_GRPg_MASK_LO_MASK (n : Nat) : Fld := ⟨0x20010200 + 0x10 * n, 0, 32⟩
abbrev PWR_GRPg_MASK_HI_MASK (n : Nat) : Fld := ⟨0x20010204 + 0x10 * n, 0, 10⟩
abbrev PWR_GRPg_CTRL_TARGET (n : Nat) : Fld := ⟨0x20010208 + 0x10 * n, 0, 2⟩
abbrev PWR_GRPg_CTRL_ABORT (n : Nat) : Fld := ⟨0x20010208 + 0x10 * n, 30, 1⟩
abbrev PWR_GRPg_CTRL_GO (n : Nat) : Fld := ⟨0x20010208 + 0x10 * n, 31, 1⟩
abbrev PWR_GRPg_STAT_STATE (n : Nat) : Fld := ⟨0x2001020C + 0x10 * n, 0, 3⟩
abbrev PWR_GRPg_STAT_LATE (n : Nat) : Fld := ⟨0x2001020C + 0x10 * n, 3, 1⟩
abbrev PWR_GRPg_STAT_ABORT_LATE (n : Nat) : Fld := ⟨0x2001020C + 0x10 * n, 4, 1⟩
abbrev PWR_GRPg_STAT_REFUSER (n : Nat) : Fld := ⟨0x2001020C + 0x10 * n, 8, 6⟩
abbrev PWR_GRPg_STAT_REASON (n : Nat) : Fld := ⟨0x2001020C + 0x10 * n, 16, 3⟩
abbrev PWR_MS_CFG_EN : Fld := ⟨0x20010800, 0, 1⟩
abbrev PWR_MS_CFG_F60 : Fld := ⟨0x20010800, 1, 1⟩
abbrev PWR_MS_CFG_UDIN : Fld := ⟨0x20010800, 4, 12⟩
abbrev PWR_MS_CFG_GAIN : Fld := ⟨0x20010800, 16, 16⟩
abbrev PWR_MS_THR_SAG : Fld := ⟨0x20010804, 0, 8⟩
abbrev PWR_MS_THR_SWELL : Fld := ⟨0x20010804, 8, 8⟩
abbrev PWR_MS_THR_INT : Fld := ⟨0x20010804, 16, 8⟩
abbrev PWR_MS_THR_HYST : Fld := ⟨0x20010804, 24, 4⟩
abbrev PWR_MS_THR_INTN : Fld := ⟨0x20010804, 28, 4⟩
abbrev PWR_MS_TIME_RESTORE : Fld := ⟨0x20010808, 0, 8⟩
abbrev PWR_MS_TIME_FTOL : Fld := ⟨0x20010808, 8, 8⟩
abbrev PWR_MS_STAT_STATE : Fld := ⟨0x2001080C, 0, 2⟩
abbrev PWR_MS_STAT_SAG : Fld := ⟨0x2001080C, 2, 1⟩
abbrev PWR_MS_STAT_SWELL : Fld := ⟨0x2001080C, 3, 1⟩
abbrev PWR_MS_STAT_LOST : Fld := ⟨0x2001080C, 4, 1⟩
abbrev PWR_MS_STAT_FREQDEV : Fld := ⟨0x2001080C, 5, 1⟩
abbrev PWR_MS_RMS_URMS : Fld := ⟨0x20010810, 0, 16⟩
abbrev PWR_MS_RMS_MIN : Fld := ⟨0x20010810, 16, 16⟩
abbrev PWR_MS_FREQ_MHZ : Fld := ⟨0x20010814, 0, 20⟩
abbrev PWR_MS_ZC_TS32 : Fld := ⟨0x20010818, 0, 32⟩
abbrev PWR_MS_CNT_SAGS : Fld := ⟨0x2001081C, 0, 8⟩
abbrev PWR_MS_CNT_SWELLS : Fld := ⟨0x2001081C, 8, 8⟩
abbrev PWR_MS_CNT_INTS : Fld := ⟨0x2001081C, 16, 8⟩
abbrev PWR_MS_CNT_LOSTS : Fld := ⟨0x2001081C, 24, 8⟩
abbrev PWR_HU_CFG_EN : Fld := ⟨0x20010820, 0, 1⟩
abbrev PWR_HU_CFG_ECAP : Fld := ⟨0x20010820, 1, 7⟩
abbrev PWR_HU_CFG_VMIN : Fld := ⟨0x20010820, 8, 8⟩
abbrev PWR_HU_CFG_VMAX : Fld := ⟨0x20010820, 16, 8⟩
abbrev PWR_HU_CFG_EFF : Fld := ⟨0x20010820, 24, 8⟩
abbrev PWR_HU_STORE_CAP : Fld := ⟨0x20010824, 0, 16⟩
abbrev PWR_HU_STORE_VDIV : Fld := ⟨0x20010824, 16, 16⟩
abbrev PWR_HU_CHG_ICHG : Fld := ⟨0x20010828, 0, 8⟩
abbrev PWR_HU_CHG_RAMP : Fld := ⟨0x20010828, 8, 8⟩
abbrev PWR_HU_CHG_CHGDLY : Fld := ⟨0x20010828, 16, 8⟩
abbrev PWR_HU_CHG_RSHUNT : Fld := ⟨0x20010828, 24, 8⟩
abbrev PWR_HU_PROF_RXDOM : Fld := ⟨0x2001082C, 0, 2⟩
abbrev PWR_HU_PROF_TXCH : Fld := ⟨0x2001082C, 2, 3⟩
abbrev PWR_HU_PROF_LANES : Fld := ⟨0x2001082C, 5, 5⟩
abbrev PWR_HU_PROF_APPTHR : Fld := ⟨0x2001082C, 10, 3⟩
abbrev PWR_HU_PROF_HOLDMAX : Fld := ⟨0x2001082C, 16, 8⟩
abbrev PWR_HU_PROF_LGRES : Fld := ⟨0x2001082C, 24, 8⟩
abbrev PWR_LG_CFG_STATN : Fld := ⟨0x20010830, 0, 4⟩
abbrev PWR_LG_CFG_STATGAP : Fld := ⟨0x20010830, 8, 8⟩
abbrev PWR_LG_CFG_LGTIME : Fld := ⟨0x20010830, 16, 16⟩
abbrev PWR_HU_STAT_STATE : Fld := ⟨0x20010834, 0, 3⟩
abbrev PWR_HU_STAT_CHG : Fld := ⟨0x20010834, 3, 1⟩
abbrev PWR_HU_STAT_BLEED : Fld := ⟨0x20010834, 4, 1⟩
abbrev PWR_HU_STAT_IDC : Fld := ⟨0x20010834, 5, 1⟩
abbrev PWR_HU_STAT_DIS : Fld := ⟨0x20010834, 6, 1⟩
abbrev PWR_HU_STAT_SVC : Fld := ⟨0x20010834, 7, 1⟩
abbrev PWR_HU_STAT_FCAUSE : Fld := ⟨0x20010834, 8, 3⟩
abbrev PWR_HU_VI_MV : Fld := ⟨0x20010838, 0, 16⟩
abbrev PWR_HU_VI_MA : Fld := ⟨0x20010838, 16, 16⟩
abbrev PWR_HU_E_E : Fld := ⟨0x2001083C, 0, 16⟩
abbrev PWR_HU_E_EA : Fld := ⟨0x2001083C, 16, 16⟩
abbrev PWR_HU_CTRL_BLEED : Fld := ⟨0x20010840, 0, 1⟩
abbrev PWR_HU_CTRL_CLRFAULT : Fld := ⟨0x20010840, 1, 1⟩
abbrev PWR_HU_CTRL_CHGOFF : Fld := ⟨0x20010840, 2, 1⟩
abbrev PWR_HU_BLEED_BLEEDV : Fld := ⟨0x20010844, 0, 8⟩
abbrev PWR_HU_BLEED_BLEEDT : Fld := ⟨0x20010844, 8, 8⟩
abbrev PWR_HOLD_STAT_ELAPSED : Fld := ⟨0x20010848, 0, 16⟩
abbrev PWR_HOLD_STAT_LEFT : Fld := ⟨0x20010848, 16, 16⟩
abbrev PWR_MH_INT_STAT_SAG : Fld := ⟨0x20010850, 0, 1⟩
abbrev PWR_MH_INT_STAT_SWELL : Fld := ⟨0x20010850, 1, 1⟩
abbrev PWR_MH_INT_STAT_INT : Fld := ⟨0x20010850, 2, 1⟩
abbrev PWR_MH_INT_STAT_RESTORED : Fld := ⟨0x20010850, 3, 1⟩
abbrev PWR_MH_INT_STAT_LOST : Fld := ⟨0x20010850, 4, 1⟩
abbrev PWR_MH_INT_STAT_FREQDEV : Fld := ⟨0x20010850, 5, 1⟩
abbrev PWR_MH_INT_STAT_READY : Fld := ⟨0x20010850, 6, 1⟩
abbrev PWR_MH_INT_STAT_STORELOW : Fld := ⟨0x20010850, 7, 1⟩
abbrev PWR_MH_INT_STAT_HUFAULT : Fld := ⟨0x20010850, 8, 1⟩
abbrev PWR_MH_INT_STAT_BLEEDDONE : Fld := ⟨0x20010850, 9, 1⟩
abbrev PWR_MH_INT_STAT_BLEEDFAIL : Fld := ⟨0x20010850, 10, 1⟩
abbrev PWR_MH_INT_EN_SAG : Fld := ⟨0x20010854, 0, 1⟩
abbrev PWR_MH_INT_EN_SWELL : Fld := ⟨0x20010854, 1, 1⟩
abbrev PWR_MH_INT_EN_INT : Fld := ⟨0x20010854, 2, 1⟩
abbrev PWR_MH_INT_EN_RESTORED : Fld := ⟨0x20010854, 3, 1⟩
abbrev PWR_MH_INT_EN_LOST : Fld := ⟨0x20010854, 4, 1⟩
abbrev PWR_MH_INT_EN_FREQDEV : Fld := ⟨0x20010854, 5, 1⟩
abbrev PWR_MH_INT_EN_READY : Fld := ⟨0x20010854, 6, 1⟩
abbrev PWR_MH_INT_EN_STORELOW : Fld := ⟨0x20010854, 7, 1⟩
abbrev PWR_MH_INT_EN_HUFAULT : Fld := ⟨0x20010854, 8, 1⟩
abbrev PWR_MH_INT_EN_BLEEDDONE : Fld := ⟨0x20010854, 9, 1⟩
abbrev PWR_MH_INT_EN_BLEEDFAIL : Fld := ⟨0x20010854, 10, 1⟩
abbrev BKP_TIME_SEC : Fld := ⟨0x20020000, 0, 6⟩
abbrev BKP_TIME_MIN : Fld := ⟨0x20020000, 8, 6⟩
abbrev BKP_TIME_HOUR : Fld := ⟨0x20020000, 16, 5⟩
abbrev BKP_DATE_DAY : Fld := ⟨0x20020004, 0, 5⟩
abbrev BKP_DATE_MONTH : Fld := ⟨0x20020004, 8, 4⟩
abbrev BKP_DATE_YEAR : Fld := ⟨0x20020004, 16, 9⟩
abbrev BKP_DATE_WDAY : Fld := ⟨0x20020004, 28, 3⟩
abbrev BKP_SET_TIME_SEC : Fld := ⟨0x20020008, 0, 6⟩
abbrev BKP_SET_TIME_MIN : Fld := ⟨0x20020008, 8, 6⟩
abbrev BKP_SET_TIME_HOUR : Fld := ⟨0x20020008, 16, 5⟩
abbrev BKP_SET_DATE_DAY : Fld := ⟨0x2002000C, 0, 5⟩
abbrev BKP_SET_DATE_MONTH : Fld := ⟨0x2002000C, 8, 4⟩
abbrev BKP_SET_DATE_YEAR : Fld := ⟨0x2002000C, 16, 9⟩
abbrev BKP_SET_DATE_WDAY : Fld := ⟨0x2002000C, 28, 3⟩
abbrev BKP_SET_CMD_GO : Fld := ⟨0x20020010, 0, 1⟩
abbrev BKP_SET_CMD_TIME : Fld := ⟨0x20020010, 1, 1⟩
abbrev BKP_SET_CMD_DATE : Fld := ⟨0x20020010, 2, 1⟩
abbrev BKP_SET_CMD_BUSY : Fld := ⟨0x20020010, 31, 1⟩
abbrev BKP_CAL_CAL : Fld := ⟨0x20020014, 0, 8⟩
abbrev BKP_STAT_ONVBAT : Fld := ⟨0x20020018, 0, 1⟩
abbrev BKP_STAT_OSF : Fld := ⟨0x20020018, 1, 1⟩
abbrev BKP_STAT_CLEARED : Fld := ⟨0x20020018, 2, 1⟩
abbrev BKP_STAT_DATE_INVALID : Fld := ⟨0x20020018, 3, 1⟩
abbrev BKP_STAT_WRAPPED : Fld := ⟨0x20020018, 4, 1⟩
abbrev BKP_STAT_OSCRUN : Fld := ⟨0x20020018, 5, 1⟩
abbrev BKP_STAT_CHKFAIL : Fld := ⟨0x20020018, 6, 1⟩
abbrev BKP_INT_STAT_SECOND : Fld := ⟨0x2002001C, 0, 1⟩
abbrev BKP_INT_STAT_VBATON : Fld := ⟨0x2002001C, 1, 1⟩
abbrev BKP_INT_STAT_VBATOFF : Fld := ⟨0x2002001C, 2, 1⟩
abbrev BKP_INT_STAT_OSF : Fld := ⟨0x2002001C, 3, 1⟩
abbrev BKP_INT_STAT_CLEARED : Fld := ⟨0x2002001C, 4, 1⟩
abbrev BKP_INT_STAT_DATE_INVALID : Fld := ⟨0x2002001C, 5, 1⟩
abbrev BKP_INT_STAT_WRAPPED : Fld := ⟨0x2002001C, 6, 1⟩
abbrev BKP_INT_EN_SECOND : Fld := ⟨0x20020020, 0, 1⟩
abbrev BKP_INT_EN_VBATON : Fld := ⟨0x20020020, 1, 1⟩
abbrev BKP_INT_EN_VBATOFF : Fld := ⟨0x20020020, 2, 1⟩
abbrev BKP_INT_EN_OSF : Fld := ⟨0x20020020, 3, 1⟩
abbrev BKP_INT_EN_CLEARED : Fld := ⟨0x20020020, 4, 1⟩
abbrev BKP_INT_EN_DATE_INVALID : Fld := ⟨0x20020020, 5, 1⟩
abbrev BKP_INT_EN_WRAPPED : Fld := ⟨0x20020020, 6, 1⟩
abbrev BKP_DATAn_DATA (n : Nat) : Fld := ⟨0x20020040 + 4 * n, 0, 32⟩
abbrev APP_BOOT_RVEC : Fld := ⟨0x20130000, 2, 19⟩
abbrev APP_DRAMWIN_BASE : Fld := ⟨0x20130004, 0, 5⟩
abbrev APP_DRAMWIN_LOCK : Fld := ⟨0x20130004, 31, 1⟩
abbrev APP_STAT_STATE0 : Fld := ⟨0x20130008, 0, 2⟩
abbrev APP_STAT_STATE1 : Fld := ⟨0x20130008, 2, 2⟩
abbrev APP_STAT_THROTTLED : Fld := ⟨0x20130008, 4, 1⟩
abbrev APP_MSIP_MSIP0 : Fld := ⟨0x2013000C, 0, 1⟩
abbrev APP_MSIP_MSIP1 : Fld := ⟨0x2013000C, 1, 1⟩
abbrev APP_SWIRQ_IRQ : Fld := ⟨0x20130010, 0, 8⟩
abbrev APP_INT_STAT_IRQ0 : Fld := ⟨0x20130014, 0, 1⟩
abbrev APP_INT_STAT_IRQ1 : Fld := ⟨0x20130014, 1, 1⟩
abbrev APP_INT_STAT_IRQ2 : Fld := ⟨0x20130014, 2, 1⟩
abbrev APP_INT_STAT_IRQ3 : Fld := ⟨0x20130014, 3, 1⟩
abbrev APP_INT_STAT_IRQ4 : Fld := ⟨0x20130014, 4, 1⟩
abbrev APP_INT_STAT_IRQ5 : Fld := ⟨0x20130014, 5, 1⟩
abbrev APP_INT_STAT_IRQ6 : Fld := ⟨0x20130014, 6, 1⟩
abbrev APP_INT_STAT_IRQ7 : Fld := ⟨0x20130014, 7, 1⟩
abbrev APP_INT_STAT_SRAMCE : Fld := ⟨0x20130014, 8, 1⟩
abbrev APP_INT_STAT_SRAMUE : Fld := ⟨0x20130014, 9, 1⟩
abbrev APP_INT_STAT_FWVIOL : Fld := ⟨0x20130014, 10, 1⟩
abbrev APP_INT_EN_IRQ0 : Fld := ⟨0x20130018, 0, 1⟩
abbrev APP_INT_EN_IRQ1 : Fld := ⟨0x20130018, 1, 1⟩
abbrev APP_INT_EN_IRQ2 : Fld := ⟨0x20130018, 2, 1⟩
abbrev APP_INT_EN_IRQ3 : Fld := ⟨0x20130018, 3, 1⟩
abbrev APP_INT_EN_IRQ4 : Fld := ⟨0x20130018, 4, 1⟩
abbrev APP_INT_EN_IRQ5 : Fld := ⟨0x20130018, 5, 1⟩
abbrev APP_INT_EN_IRQ6 : Fld := ⟨0x20130018, 6, 1⟩
abbrev APP_INT_EN_IRQ7 : Fld := ⟨0x20130018, 7, 1⟩
abbrev APP_INT_EN_SRAMCE : Fld := ⟨0x20130018, 8, 1⟩
abbrev APP_INT_EN_SRAMUE : Fld := ⟨0x20130018, 9, 1⟩
abbrev APP_INT_EN_FWVIOL : Fld := ⟨0x20130018, 10, 1⟩
abbrev APP_MTIMECMP0_LO_CMP : Fld := ⟨0x20130020, 0, 32⟩
abbrev APP_MTIMECMP0_HI_CMP : Fld := ⟨0x20130024, 0, 32⟩
abbrev APP_MTIMECMP1_LO_CMP : Fld := ⟨0x20130028, 0, 32⟩
abbrev APP_MTIMECMP1_HI_CMP : Fld := ⟨0x2013002C, 0, 32⟩
abbrev APP_ECC_CNT_CE : Fld := ⟨0x20130030, 0, 16⟩
abbrev APP_ECC_CNT_UE : Fld := ⟨0x20130030, 16, 16⟩
abbrev APP_ECC_LOG_CEWORD : Fld := ⟨0x20130034, 0, 19⟩
abbrev APP_ECC_LOG_CEVALID : Fld := ⟨0x20130034, 19, 1⟩
abbrev APP_ECC_LOG_UEVALID : Fld := ⟨0x20130034, 31, 1⟩
abbrev APP_FW_ADDR_LO_ADDR : Fld := ⟨0x20130040, 0, 32⟩
abbrev APP_FW_INFO_ADDRHI : Fld := ⟨0x20130044, 0, 8⟩
abbrev APP_FW_INFO_INITIATOR : Fld := ⟨0x20130044, 8, 4⟩
abbrev APP_FW_INFO_WRITE : Fld := ⟨0x20130044, 12, 1⟩
abbrev APP_FW_INFO_SECURE : Fld := ⟨0x20130044, 13, 1⟩
abbrev APP_FW_INFO_WINDOW : Fld := ⟨0x20130044, 14, 4⟩
abbrev APP_FW_INFO_VALID : Fld := ⟨0x20130044, 31, 1⟩
abbrev APP_FW_CNT_COUNT : Fld := ⟨0x20130048, 0, 32⟩
abbrev APP_FWn_BASE_LO_ADDR (n : Nat) : Fld := ⟨0x20130080 + 0x10 * n, 12, 20⟩
abbrev APP_FWn_BASE_HI_ADDR (n : Nat) : Fld := ⟨0x20130084 + 0x10 * n, 0, 8⟩
abbrev APP_FWn_SIZE_SIZE (n : Nat) : Fld := ⟨0x20130088 + 0x10 * n, 0, 28⟩
abbrev APP_FWn_ATTR_RD (n : Nat) : Fld := ⟨0x2013008C + 0x10 * n, 0, 8⟩
abbrev APP_FWn_ATTR_WR (n : Nat) : Fld := ⟨0x2013008C + 0x10 * n, 8, 8⟩
abbrev APP_FWn_ATTR_SECURE (n : Nat) : Fld := ⟨0x2013008C + 0x10 * n, 16, 1⟩
abbrev APP_FWn_ATTR_VALID (n : Nat) : Fld := ⟨0x2013008C + 0x10 * n, 31, 1⟩
abbrev LNK_CNT_DECISIONn (n : Nat) : Fld := ⟨0x200B0800 + 4 * n, 0, 32⟩
abbrev PGn_CTRL_GO (n : Nat) : Fld := ⟨0x20098000 + 0x1000 * n, 0, 1⟩
abbrev PGn_CTRL_ABORT (n : Nat) : Fld := ⟨0x20098000 + 0x1000 * n, 1, 1⟩
abbrev PGn_CTRL_CLEAR (n : Nat) : Fld := ⟨0x20098000 + 0x1000 * n, 2, 1⟩
abbrev PGn_OP_OP (n : Nat) : Fld := ⟨0x20098004 + 0x1000 * n, 0, 4⟩
abbrev PGn_OP_USESLOT (n : Nat) : Fld := ⟨0x20098004 + 0x1000 * n, 4, 1⟩
abbrev PGn_OP_SLOT (n : Nat) : Fld := ⟨0x20098004 + 0x1000 * n, 5, 10⟩
abbrev PGn_OP_LEVEL (n : Nat) : Fld := ⟨0x20098004 + 0x1000 * n, 16, 3⟩
abbrev PGn_OP_PAN (n : Nat) : Fld := ⟨0x20098004 + 0x1000 * n, 20, 4⟩
abbrev PGn_STAT_BUSY (n : Nat) : Fld := ⟨0x20098008 + 0x1000 * n, 0, 1⟩
abbrev PGn_STAT_RESULT (n : Nat) : Fld := ⟨0x20098008 + 0x1000 * n, 1, 3⟩
abbrev PGn_STAT_ABORT_LATE (n : Nat) : Fld := ⟨0x20098008 + 0x1000 * n, 4, 1⟩
abbrev PGn_ALEN_LEN (n : Nat) : Fld := ⟨0x2009800C + 0x1000 * n, 0, 16⟩
abbrev PGn_MLEN_LEN (n : Nat) : Fld := ⟨0x20098010 + 0x1000 * n, 0, 16⟩
abbrev PGn_NONCE0 (n : Nat) : Fld := ⟨0x20098014 + 0x1000 * n, 0, 32⟩
abbrev PGn_NONCE1 (n : Nat) : Fld := ⟨0x20098018 + 0x1000 * n, 0, 32⟩
abbrev PGn_NONCE2 (n : Nat) : Fld := ⟨0x2009801C + 0x1000 * n, 0, 32⟩
abbrev PGn_NONCE3 (n : Nat) : Fld := ⟨0x20098020 + 0x1000 * n, 0, 8⟩
abbrev PGn_SRC_LO (n : Nat) : Fld := ⟨0x20098024 + 0x1000 * n, 0, 32⟩
abbrev PGn_SRC_HI (n : Nat) : Fld := ⟨0x20098028 + 0x1000 * n, 0, 8⟩
abbrev PGn_DST_LO (n : Nat) : Fld := ⟨0x2009802C + 0x1000 * n, 0, 32⟩
abbrev PGn_DST_HI (n : Nat) : Fld := ⟨0x20098030 + 0x1000 * n, 0, 8⟩
abbrev PGn_KEY0 (n : Nat) : Fld := ⟨0x20098040 + 0x1000 * n, 0, 32⟩
abbrev PGn_KEY1 (n : Nat) : Fld := ⟨0x20098044 + 0x1000 * n, 0, 32⟩
abbrev PGn_KEY2 (n : Nat) : Fld := ⟨0x20098048 + 0x1000 * n, 0, 32⟩
abbrev PGn_KEY3 (n : Nat) : Fld := ⟨0x2009804C + 0x1000 * n, 0, 32⟩
abbrev PGn_TAG0 (n : Nat) : Fld := ⟨0x20098050 + 0x1000 * n, 0, 32⟩
abbrev PGn_TAG1 (n : Nat) : Fld := ⟨0x20098054 + 0x1000 * n, 0, 32⟩
abbrev PGn_TAG2 (n : Nat) : Fld := ⟨0x20098058 + 0x1000 * n, 0, 32⟩
abbrev PGn_TAG3 (n : Nat) : Fld := ⟨0x2009805C + 0x1000 * n, 0, 32⟩
abbrev PGn_GEN (n : Nat) : Fld := ⟨0x20098060 + 0x1000 * n, 0, 24⟩
abbrev PGn_OWNER_OWNER (n : Nat) : Fld := ⟨0x20098064 + 0x1000 * n, 0, 3⟩
abbrev PGn_OWNER_SECURE (n : Nat) : Fld := ⟨0x20098064 + 0x1000 * n, 3, 1⟩
abbrev PGn_OWNER_RIGHTS (n : Nat) : Fld := ⟨0x20098064 + 0x1000 * n, 4, 4⟩
abbrev SEC_GRPn_CFG_VALID (n : Nat) : Fld := ⟨0x20091000 + 0x10 * n, 0, 1⟩
abbrev SEC_GRPn_CFG_KIM (n : Nat) : Fld := ⟨0x20091000 + 0x10 * n, 1, 2⟩
abbrev SEC_GRPn_CFG_LINK (n : Nat) : Fld := ⟨0x20091000 + 0x10 * n, 3, 1⟩
abbrev SEC_GRPn_CFG_PAN (n : Nat) : Fld := ⟨0x20091000 + 0x10 * n, 4, 4⟩
abbrev SEC_GRPn_CFG_KIDX (n : Nat) : Fld := ⟨0x20091000 + 0x10 * n, 8, 8⟩
abbrev SEC_GRPn_SRC_LO_SRC (n : Nat) : Fld := ⟨0x20091004 + 0x10 * n, 0, 32⟩
abbrev SEC_GRPn_SRC_HI_SRC (n : Nat) : Fld := ⟨0x20091008 + 0x10 * n, 0, 32⟩
abbrev SEC_GRPn_OCTR_NEXT (n : Nat) : Fld := ⟨0x2009100C + 0x10 * n, 0, 32⟩
abbrev UPL_Qn_CFG_EN (n : Nat) : Fld := ⟨0x20101000 + 0x20 * n, 0, 1⟩
abbrev UPL_Qn_CFG_SRC (n : Nat) : Fld := ⟨0x20101000 + 0x20 * n, 1, 1⟩
abbrev UPL_Qn_CFG_LOG2 (n : Nat) : Fld := ⟨0x20101000 + 0x20 * n, 2, 5⟩
abbrev UPL_Qn_BASE_LO_ADDR (n : Nat) : Fld := ⟨0x20101004 + 0x20 * n, 12, 20⟩
abbrev UPL_Qn_BASE_HI_ADDR (n : Nat) : Fld := ⟨0x20101008 + 0x20 * n, 0, 8⟩
abbrev UPL_Qn_DBASE_LO_ADDR (n : Nat) : Fld := ⟨0x2010100C + 0x20 * n, 12, 20⟩
abbrev UPL_Qn_DBASE_HI_ADDR (n : Nat) : Fld := ⟨0x20101010 + 0x20 * n, 0, 8⟩
abbrev UPL_Qn_PI_PI (n : Nat) : Fld := ⟨0x20101014 + 0x20 * n, 0, 32⟩
abbrev UPL_Qn_CI_CI (n : Nat) : Fld := ⟨0x20101018 + 0x20 * n, 0, 32⟩
abbrev UPL_Qn_SEQ_SEQ (n : Nat) : Fld := ⟨0x2010101C + 0x20 * n, 0, 32⟩
abbrev CHKu_CTRL_GO (n : Nat) : Fld := ⟨0x20041000 + 0x40 * n, 0, 1⟩
abbrev CHKu_CTRL_ABORT (n : Nat) : Fld := ⟨0x20041000 + 0x40 * n, 1, 1⟩
abbrev CHKu_CTRL_POLY (n : Nat) : Fld := ⟨0x20041000 + 0x40 * n, 2, 2⟩
abbrev CHKu_CTRL_CMPEN (n : Nat) : Fld := ⟨0x20041000 + 0x40 * n, 4, 1⟩
abbrev CHKu_SRC_LO_ADDR (n : Nat) : Fld := ⟨0x20041004 + 0x40 * n, 0, 32⟩
abbrev CHKu_SRC_HI_ADDR (n : Nat) : Fld := ⟨0x20041008 + 0x40 * n, 0, 8⟩
abbrev CHKu_LEN_LEN (n : Nat) : Fld := ⟨0x2004100C + 0x40 * n, 0, 28⟩
abbrev CHKu_EXP_LO_EXP (n : Nat) : Fld := ⟨0x20041010 + 0x40 * n, 0, 32⟩
abbrev CHKu_EXP_HI_EXP (n : Nat) : Fld := ⟨0x20041014 + 0x40 * n, 0, 32⟩
abbrev CHKu_VAL_LO_VAL (n : Nat) : Fld := ⟨0x20041018 + 0x40 * n, 0, 32⟩
abbrev CHKu_VAL_HI_VAL (n : Nat) : Fld := ⟨0x2004101C + 0x40 * n, 0, 32⟩
abbrev CHKu_STAT_BUSY (n : Nat) : Fld := ⟨0x20041020 + 0x40 * n, 0, 1⟩
abbrev CHKu_STAT_RESULT (n : Nat) : Fld := ⟨0x20041020 + 0x40 * n, 1, 3⟩
abbrev CHKu_STAT_ABORT_LATE (n : Nat) : Fld := ⟨0x20041020 + 0x40 * n, 4, 1⟩

end Sys2Proof.Machine
end

