-- ==== Sys2Proof/Machine/RegTable.lean ====
section
/-!
DEFINITION. The register tables of chapters 02 to 20: for every register its address, how many instances it has and how
far apart, and for every field its bits, its access code (R10) and its reset value (R13). Bits no field names are
reserved: they read 0 (R9). A field the tables mark 'live' has no reset value of its own and stands here with 0.
-/

namespace Sys2Proof.Machine

/-- The access codes of R10. -/
inductive Acc where
  | rw | ro | wo | w1c | w1s | rc | cl | rwl
  deriving DecidableEq, Repr

/-- One field row of a field table. -/
structure FieldRow where
  hi : Nat
  lo : Nat
  acc : Acc
  reset : Nat
  deriving DecidableEq, Repr

/-- One register row: its first address, the number of instances, their distance in bytes, and its fields. -/
structure RegRow where
  addr : Nat
  count : Nat
  stride : Nat
  fields : List FieldRow
  deriving DecidableEq, Repr

/-- Registers of block CAP (0x00), part 1. -/
def rowsCap0 : List RegRow :=
  [
/- CAP_IDENT -/ ⟨0x20000000, 1, 0x4, [⟨15, 0, .ro, 0x5756⟩, ⟨31, 16, .ro, 0x5280⟩]⟩,
   /- CAP_REV -/ ⟨0x20000004, 1, 0x4, [⟨7, 0, .ro, 0xA1⟩]⟩,
   /- CAP_EUI_LO -/ ⟨0x20000008, 1, 0x4, [⟨31, 0, .ro, 0⟩]⟩,
   /- CAP_EUI_HI -/ ⟨0x2000000C, 1, 0x4, [⟨31, 0, .ro, 0⟩]⟩,
   /- CAP_HEAD -/ ⟨0x20000010, 1, 0x4, [⟨15, 0, .ro, 0x100⟩]⟩,
   /- CAP_SERIAL -/ ⟨0x20000014, 1, 0x4, [⟨31, 0, .ro, 0⟩]⟩,
   /- Capability entries -/ ⟨0x20000100, 192, 0x4, [⟨31, 0, .ro, 0⟩]⟩]

/-- Registers of block CAP (0x00). -/
def rowsCap : List RegRow := rowsCap0

/-- Registers of block PWR (0x01), part 1. -/
def rowsPwr0 : List RegRow :=
  [
/- PWR_VL_CFG -/ ⟨0x20010400, 1, 0x4, [⟨0, 0, .cl, 0⟩, ⟨14, 8, .cl, 0⟩, ⟨30, 24, .cl, 0⟩, ⟨31, 31, .cl, 1⟩]⟩,
   /- PWR_VL_THRESH -/ ⟨0x20010404, 1, 0x4, [⟨7, 0, .cl, 0x30⟩, ⟨15, 8, .cl, 0x18⟩, ⟨23, 16, .cl, 8⟩]⟩,
   /- PWR_VL_TIME -/ ⟨0x20010408, 1, 0x4, [⟨15, 0, .cl, 0x3E8⟩, ⟨20, 16, .cl, 4⟩]⟩,
   /- PWR_VL_STAT -/ ⟨0x2001040C, 1, 0x4, [⟨6, 0, .ro, 0⟩, ⟨10, 8, .ro, 0⟩, ⟨23, 16, .ro, 0⟩, ⟨26, 24, .ro, 0⟩]⟩,
   /- PWR_VL_VOUT -/ ⟨0x20010410, 1, 0x4, [⟨15, 0, .ro, 0⟩, ⟨31, 16, .ro, 0⟩]⟩,
   /- PWR_VL_ERR -/ ⟨0x20010414, 1, 0x4, [⟨0, 0, .w1c, 0⟩, ⟨1, 1, .w1c, 0⟩, ⟨2, 2, .w1c, 0⟩, ⟨3, 3, .w1c, 0⟩, ⟨4, 4, .w1c, 0⟩, ⟨5, 5, .w1c, 0⟩, ⟨6, 6, .w1c, 0⟩, ⟨7, 7, .w1c, 0⟩, ⟨8, 8, .w1c, 0⟩]⟩,
   /- PWR_VL_FORCE -/ ⟨0x20010418, 1, 0x4, [⟨0, 0, .rw, 0⟩]⟩,
   /- PWR_VL_CNT -/ ⟨0x2001041C, 1, 0x4, [⟨15, 0, .rc, 0⟩, ⟨23, 16, .rc, 0⟩, ⟨31, 24, .rc, 0⟩]⟩,
   /- PWR_CANARYn -/ ⟨0x20010420, 8, 0x4, [⟨7, 0, .ro, 0⟩, ⟨15, 8, .rc, 0xFF⟩, ⟨17, 16, .ro, 0⟩]⟩,
   /- PWR_STAT -/ ⟨0x20010000, 1, 0x4, [⟨5, 0, .ro, 0⟩, ⟨13, 8, .ro, 0⟩, ⟨23, 16, .ro, 0⟩]⟩,
   /- PWR_ERR -/ ⟨0x20010004, 1, 0x4, [⟨0, 0, .w1c, 0⟩, ⟨1, 1, .w1c, 0⟩, ⟨2, 2, .w1c, 0⟩, ⟨3, 3, .w1c, 0⟩, ⟨4, 4, .w1c, 0⟩]⟩,
   /- PWR_ERRINFO -/ ⟨0x20010008, 1, 0x4, [⟨5, 0, .ro, 0⟩, ⟨8, 6, .ro, 0⟩, ⟨12, 9, .ro, 0⟩]⟩,
   /- PWR_WAKESRC -/ ⟨0x2001000C, 1, 0x4, [⟨5, 0, .ro, 0⟩, ⟨6, 6, .ro, 0⟩, ⟨7, 7, .ro, 0⟩, ⟨10, 8, .ro, 0⟩, ⟨14, 11, .ro, 0⟩]⟩,
   /- PWR_WAKETS -/ ⟨0x20010010, 1, 0x4, [⟨31, 0, .ro, 0⟩]⟩,
   /- PWR_WAKECNT -/ ⟨0x20010014, 1, 0x4, [⟨15, 0, .rc, 0⟩, ⟨31, 16, .rc, 0⟩]⟩,
   /- PWR_ACL_LO -/ ⟨0x20010018, 1, 0x4, [⟨31, 0, .cl, 0⟩]⟩,
   /- PWR_ACL_HI -/ ⟨0x2001001C, 1, 0x4, [⟨9, 0, .cl, 0⟩]⟩,
   /- PWR_DOM_INT_STAT -/ ⟨0x20010030, 1, 0x4, [⟨0, 0, .w1c, 0⟩, ⟨1, 1, .w1c, 0⟩, ⟨2, 2, .w1c, 0⟩, ⟨3, 3, .w1c, 0⟩]⟩,
   /- PWR_DOM_INT_EN -/ ⟨0x20010034, 1, 0x4, [⟨0, 0, .rw, 0⟩, ⟨1, 1, .rw, 0⟩, ⟨2, 2, .rw, 0⟩, ⟨3, 3, .rw, 0⟩]⟩,
   /- PWR_DOMn -/ ⟨0x20010100, 42, 0x4, [⟨1, 0, .rw, 2⟩, ⟨3, 2, .ro, 2⟩, ⟨4, 4, .ro, 0⟩, ⟨5, 5, .rw, 0⟩, ⟨6, 6, .w1c, 0⟩, ⟨15, 8, .rw, 0xA⟩, ⟨16, 16, .rw, 0⟩, ⟨17, 17, .ro, 0⟩, ⟨18, 18, .rw, 0⟩, ⟨19, 19, .w1s, 0⟩, ⟨22, 20, .ro, 0⟩, ⟨23, 23, .ro, 0⟩]⟩,
   /- PWR_GRPg_MASK_LO -/ ⟨0x20010200, 8, 0x10, [⟨31, 0, .rw, 0⟩]⟩,
   /- PWR_GRPg_MASK_HI -/ ⟨0x20010204, 8, 0x10, [⟨9, 0, .rw, 0⟩]⟩,
   /- PWR_GRPg_CTRL -/ ⟨0x20010208, 8, 0x10, [⟨1, 0, .rw, 0⟩, ⟨30, 30, .w1s, 0⟩, ⟨31, 31, .w1s, 0⟩]⟩,
   /- PWR_GRPg_STAT -/ ⟨0x2001020C, 8, 0x10, [⟨2, 0, .ro, 0⟩, ⟨3, 3, .ro, 0⟩, ⟨4, 4, .ro, 0⟩, ⟨13, 8, .ro, 0⟩, ⟨18, 16, .ro, 0⟩]⟩,
   /- PWR_MS_CFG -/ ⟨0x20010800, 1, 0x4, [⟨0, 0, .cl, 0⟩, ⟨1, 1, .cl, 0⟩, ⟨15, 4, .cl, 0xE6⟩, ⟨31, 16, .cl, 0x1900⟩]⟩,
   /- PWR_MS_THR -/ ⟨0x20010804, 1, 0x4, [⟨7, 0, .cl, 0x5A⟩, ⟨15, 8, .cl, 0x6E⟩, ⟨23, 16, .cl, 0xA⟩, ⟨27, 24, .cl, 2⟩, ⟨31, 28, .cl, 2⟩]⟩,
   /- PWR_MS_TIME -/ ⟨0x20010808, 1, 0x4, [⟨7, 0, .cl, 0x32⟩, ⟨15, 8, .cl, 0xA⟩]⟩,
   /- PWR_MS_STAT -/ ⟨0x2001080C, 1, 0x4, [⟨1, 0, .ro, 0⟩, ⟨2, 2, .ro, 0⟩, ⟨3, 3, .ro, 0⟩, ⟨4, 4, .ro, 0⟩, ⟨5, 5, .ro, 0⟩]⟩,
   /- PWR_MS_RMS -/ ⟨0x20010810, 1, 0x4, [⟨15, 0, .ro, 0⟩, ⟨31, 16, .rc, 0⟩]⟩,
   /- PWR_MS_FREQ -/ ⟨0x20010814, 1, 0x4, [⟨19, 0, .ro, 0⟩]⟩]

/-- Registers of block PWR (0x01), part 2. -/
def rowsPwr1 : List RegRow :=
  [
/- PWR_MS_ZC -/ ⟨0x20010818, 1, 0x4, [⟨31, 0, .ro, 0⟩]⟩,
   /- PWR_MS_CNT -/ ⟨0x2001081C, 1, 0x4, [⟨7, 0, .rc, 0⟩, ⟨15, 8, .rc, 0⟩, ⟨23, 16, .rc, 0⟩, ⟨31, 24, .rc, 0⟩]⟩,
   /- PWR_HU_CFG -/ ⟨0x20010820, 1, 0x4, [⟨0, 0, .cl, 0⟩, ⟨7, 1, .cl, 0x14⟩, ⟨15, 8, .cl, 0x19⟩, ⟨23, 16, .cl, 0x78⟩, ⟨31, 24, .cl, 0x5A⟩]⟩,
   /- PWR_HU_STORE -/ ⟨0x20010824, 1, 0x4, [⟨15, 0, .cl, 0x190⟩, ⟨31, 16, .cl, 0xA00⟩]⟩,
   /- PWR_HU_CHG -/ ⟨0x20010828, 1, 0x4, [⟨7, 0, .cl, 0x32⟩, ⟨15, 8, .cl, 0x64⟩, ⟨23, 16, .cl, 0xA⟩, ⟨31, 24, .cl, 0x64⟩]⟩,
   /- PWR_HU_PROF -/ ⟨0x2001082C, 1, 0x4, [⟨1, 0, .cl, 0⟩, ⟨4, 2, .cl, 0⟩, ⟨9, 5, .cl, 0x10⟩, ⟨12, 10, .cl, 3⟩, ⟨23, 16, .cl, 0x3C⟩, ⟨31, 24, .cl, 0x32⟩]⟩,
   /- PWR_LG_CFG -/ ⟨0x20010830, 1, 0x4, [⟨3, 0, .cl, 3⟩, ⟨15, 8, .cl, 1⟩, ⟨31, 16, .cl, 0x1F4⟩]⟩,
   /- PWR_HU_STAT -/ ⟨0x20010834, 1, 0x4, [⟨2, 0, .ro, 0⟩, ⟨3, 3, .ro, 0⟩, ⟨4, 4, .ro, 0⟩, ⟨5, 5, .ro, 0⟩, ⟨6, 6, .ro, 0⟩, ⟨7, 7, .ro, 0⟩, ⟨10, 8, .ro, 0⟩]⟩,
   /- PWR_HU_VI -/ ⟨0x20010838, 1, 0x4, [⟨15, 0, .ro, 0⟩, ⟨31, 16, .ro, 0⟩]⟩,
   /- PWR_HU_E -/ ⟨0x2001083C, 1, 0x4, [⟨15, 0, .ro, 0⟩, ⟨31, 16, .ro, 0⟩]⟩,
   /- PWR_HU_CTRL -/ ⟨0x20010840, 1, 0x4, [⟨0, 0, .w1s, 0⟩, ⟨1, 1, .w1s, 0⟩, ⟨2, 2, .rw, 0⟩]⟩,
   /- PWR_HU_BLEED -/ ⟨0x20010844, 1, 0x4, [⟨7, 0, .cl, 0xA⟩, ⟨15, 8, .cl, 0x78⟩]⟩,
   /- PWR_HOLD_STAT -/ ⟨0x20010848, 1, 0x4, [⟨15, 0, .ro, 0⟩, ⟨31, 16, .ro, 0⟩]⟩,
   /- PWR_MH_INT_STAT -/ ⟨0x20010850, 1, 0x4, [⟨0, 0, .w1c, 0⟩, ⟨1, 1, .w1c, 0⟩, ⟨2, 2, .w1c, 0⟩, ⟨3, 3, .w1c, 0⟩, ⟨4, 4, .w1c, 0⟩, ⟨5, 5, .w1c, 0⟩, ⟨6, 6, .w1c, 0⟩, ⟨7, 7, .w1c, 0⟩, ⟨8, 8, .w1c, 0⟩, ⟨9, 9, .w1c, 0⟩, ⟨10, 10, .w1c, 0⟩]⟩,
   /- PWR_MH_INT_EN -/ ⟨0x20010854, 1, 0x4, [⟨0, 0, .rw, 0⟩, ⟨1, 1, .rw, 0⟩, ⟨2, 2, .rw, 0⟩, ⟨3, 3, .rw, 0⟩, ⟨4, 4, .rw, 0⟩, ⟨5, 5, .rw, 0⟩, ⟨6, 6, .rw, 0⟩, ⟨7, 7, .rw, 0⟩, ⟨8, 8, .rw, 0⟩, ⟨9, 9, .rw, 0⟩, ⟨10, 10, .rw, 0⟩]⟩]

/-- Registers of block PWR (0x01). -/
def rowsPwr : List RegRow := rowsPwr0 ++ rowsPwr1

/-- Registers of block BKP (0x02), part 1. -/
def rowsBkp0 : List RegRow :=
  [
/- BKP_TIME -/ ⟨0x20020000, 1, 0x4, [⟨5, 0, .ro, 0⟩, ⟨13, 8, .ro, 0⟩, ⟨20, 16, .ro, 0⟩]⟩,
   /- BKP_DATE -/ ⟨0x20020004, 1, 0x4, [⟨4, 0, .ro, 0⟩, ⟨11, 8, .ro, 0⟩, ⟨24, 16, .ro, 0⟩, ⟨30, 28, .ro, 0⟩]⟩,
   /- BKP_SET_TIME -/ ⟨0x20020008, 1, 0x4, [⟨5, 0, .rw, 0⟩, ⟨13, 8, .rw, 0⟩, ⟨20, 16, .rw, 0⟩]⟩,
   /- BKP_SET_DATE -/ ⟨0x2002000C, 1, 0x4, [⟨4, 0, .rw, 1⟩, ⟨11, 8, .rw, 1⟩, ⟨24, 16, .rw, 0⟩]⟩,
   /- BKP_SET_CMD -/ ⟨0x20020010, 1, 0x4, [⟨0, 0, .w1s, 0⟩, ⟨1, 1, .rw, 0⟩, ⟨2, 2, .rw, 0⟩, ⟨31, 31, .ro, 0⟩]⟩,
   /- BKP_CAL -/ ⟨0x20020014, 1, 0x4, [⟨7, 0, .rw, 0⟩]⟩,
   /- BKP_STAT -/ ⟨0x20020018, 1, 0x4, [⟨0, 0, .ro, 0⟩, ⟨1, 1, .w1c, 0⟩, ⟨2, 2, .w1c, 0⟩, ⟨3, 3, .w1c, 0⟩, ⟨4, 4, .w1c, 0⟩, ⟨5, 5, .ro, 0⟩, ⟨6, 6, .w1c, 0⟩]⟩,
   /- BKP_INT_STAT -/ ⟨0x2002001C, 1, 0x4, [⟨0, 0, .w1c, 0⟩, ⟨1, 1, .w1c, 0⟩, ⟨2, 2, .w1c, 0⟩, ⟨3, 3, .w1c, 0⟩, ⟨4, 4, .w1c, 0⟩, ⟨5, 5, .w1c, 0⟩, ⟨6, 6, .w1c, 0⟩]⟩,
   /- BKP_INT_EN -/ ⟨0x20020020, 1, 0x4, [⟨0, 0, .rw, 0⟩, ⟨1, 1, .rw, 0⟩, ⟨2, 2, .rw, 0⟩, ⟨3, 3, .rw, 0⟩, ⟨4, 4, .rw, 0⟩, ⟨5, 5, .rw, 0⟩, ⟨6, 6, .rw, 0⟩]⟩,
   /- BKP_DATAn -/ ⟨0x20020040, 16, 0x4, [⟨31, 0, .rw, 0⟩]⟩]

/-- Registers of block BKP (0x02). -/
def rowsBkp : List RegRow := rowsBkp0

/-- Registers of block LPW (0x03), part 1. -/
def rowsLpw0 : List RegRow :=
  [
/- LPW_MODE -/ ⟨0x20030000, 1, 0x4, [⟨3, 0, .ro, 0⟩]⟩,
   /- LPW_RSTCAUSE -/ ⟨0x20030004, 1, 0x4, [⟨3, 0, .ro, 0⟩, ⟨7, 4, .ro, 0⟩, ⟨8, 8, .ro, 0⟩]⟩,
   /- LPW_RSTCMD -/ ⟨0x20030008, 1, 0x4, [⟨7, 0, .wo, 0⟩, ⟨8, 8, .wo, 0⟩]⟩,
   /- LPW_ACL -/ ⟨0x2003000C, 1, 0x4, [⟨0, 0, .cl, 0⟩, ⟨1, 1, .cl, 0⟩, ⟨2, 2, .cl, 0⟩]⟩,
   /- LPW_INT_STAT -/ ⟨0x20030010, 1, 0x4, [⟨0, 0, .w1c, 0⟩, ⟨1, 1, .w1c, 0⟩, ⟨2, 2, .w1c, 0⟩, ⟨3, 3, .w1c, 0⟩, ⟨4, 4, .w1c, 0⟩, ⟨5, 5, .w1c, 0⟩, ⟨6, 6, .w1c, 0⟩, ⟨7, 7, .w1c, 0⟩, ⟨8, 8, .w1c, 0⟩, ⟨9, 9, .w1c, 0⟩]⟩,
   /- LPW_INT_EN -/ ⟨0x20030014, 1, 0x4, [⟨0, 0, .rw, 0⟩, ⟨1, 1, .rw, 0⟩, ⟨2, 2, .rw, 0⟩, ⟨3, 3, .rw, 0⟩, ⟨4, 4, .rw, 0⟩, ⟨5, 5, .rw, 0⟩, ⟨6, 6, .rw, 0⟩, ⟨7, 7, .rw, 0⟩, ⟨8, 8, .rw, 0⟩, ⟨9, 9, .rw, 0⟩]⟩,
   /- LPW_WDT_CFG -/ ⟨0x20030020, 1, 0x4, [⟨15, 0, .rwl, 0x9C4⟩, ⟨23, 16, .rwl, 0x64⟩, ⟨31, 31, .w1s, 0⟩]⟩,
   /- LPW_WDT_KICK -/ ⟨0x20030024, 1, 0x4, [⟨7, 0, .wo, 0⟩]⟩,
   /- LPW_WDT_STAT -/ ⟨0x20030028, 1, 0x4, [⟨15, 0, .ro, 0⟩]⟩,
   /- LPW_SUPc_CFG -/ ⟨0x20030030, 2, 0x10, [⟨15, 0, .cl, 0⟩, ⟨19, 16, .cl, 3⟩, ⟨27, 20, .cl, 0x3C⟩]⟩,
   /- LPW_SUPc_KICK -/ ⟨0x20030034, 2, 0x10, [⟨7, 0, .wo, 0⟩]⟩,
   /- LPW_SUPc_STAT -/ ⟨0x20030038, 2, 0x10, [⟨3, 0, .ro, 0⟩, ⟨4, 4, .w1c, 0⟩]⟩,
   /- LPW_LOG_CFG -/ ⟨0x20030060, 1, 0x4, [⟨0, 0, .rw, 0⟩]⟩,
   /- LPW_LOG_STAT -/ ⟨0x20030064, 1, 0x4, [⟨9, 0, .ro, 0⟩, ⟨10, 10, .ro, 0⟩, ⟨30, 16, .ro, 0⟩]⟩,
   /- LPW_LOG_SEL -/ ⟨0x20030068, 1, 0x4, [⟨9, 0, .rw, 0⟩]⟩,
   /- LPW_LOG_DATAn -/ ⟨0x2003006C, 4, 0x4, [⟨31, 0, .ro, 0⟩]⟩,
   /- LPW_LC_CMD -/ ⟨0x20030080, 1, 0x4, [⟨2, 0, .rw, 0⟩, ⟨31, 31, .w1s, 0⟩]⟩,
   /- LPW_LC_STAT -/ ⟨0x20030084, 1, 0x4, [⟨0, 0, .ro, 0⟩, ⟨3, 1, .ro, 0⟩, ⟨4, 4, .ro, 0⟩]⟩,
   /- LPW_DBG_STAT -/ ⟨0x20030088, 1, 0x4, [⟨0, 0, .ro, 0⟩, ⟨2, 1, .ro, 0⟩, ⟨3, 3, .ro, 0⟩, ⟨31, 16, .ro, 0⟩]⟩,
   /- LPW_CHALn -/ ⟨0x20030090, 4, 0x4, [⟨31, 0, .ro, 0⟩]⟩,
   /- LPW_TOK_LO -/ ⟨0x200300A0, 1, 0x4, [⟨31, 0, .rw, 0⟩]⟩,
   /- LPW_TOK_HI -/ ⟨0x200300A4, 1, 0x4, [⟨7, 0, .rw, 0⟩]⟩,
   /- LPW_TOK_CMD -/ ⟨0x200300A8, 1, 0x4, [⟨0, 0, .w1s, 0⟩]⟩,
   /- LPW_TOK_STAT -/ ⟨0x200300AC, 1, 0x4, [⟨0, 0, .ro, 0⟩, ⟨4, 1, .ro, 0⟩, ⟨7, 5, .ro, 0⟩]⟩,
   /- LPW_UPD_CMD -/ ⟨0x200300B0, 1, 0x4, [⟨1, 0, .rw, 0⟩, ⟨31, 31, .w1s, 0⟩]⟩,
   /- LPW_UPD_STAT -/ ⟨0x200300B4, 1, 0x4, [⟨0, 0, .ro, 0⟩, ⟨1, 1, .ro, 0⟩, ⟨5, 2, .ro, 0⟩, ⟨6, 6, .ro, 0⟩]⟩,
   /- LPW_UPD_ISEQ -/ ⟨0x200300B8, 1, 0x4, [⟨31, 0, .ro, 0⟩]⟩,
   /- LPW_SPIX_CMD -/ ⟨0x200300C0, 1, 0x4, [⟨7, 0, .rw, 0⟩, ⟨9, 8, .rw, 0⟩, ⟨11, 10, .rw, 0⟩, ⟨16, 12, .rw, 0⟩, ⟨17, 17, .rw, 0⟩, ⟨26, 18, .rw, 0⟩, ⟨30, 30, .ro, 0⟩, ⟨31, 31, .w1s, 0⟩]⟩,
   /- LPW_SPIX_ADDR -/ ⟨0x200300C4, 1, 0x4, [⟨31, 0, .rw, 0⟩]⟩,
   /- LPW_SPIX_BUF -/ ⟨0x200300C8, 1, 0x4, [⟨17, 0, .rw, 0⟩]⟩]

/-- Registers of block LPW (0x03), part 2. -/
def rowsLpw1 : List RegRow :=
  [
/- LPW_TEMPn -/ ⟨0x20030100, 8, 0x4, [⟨11, 0, .ro, 0⟩]⟩,
   /- LPW_VMONn -/ ⟨0x20030120, 6, 0x4, [⟨11, 0, .ro, 0⟩, ⟨27, 16, .rc, 0xFFF⟩]⟩,
   /- LPW_SENS_CFG -/ ⟨0x20030140, 1, 0x4, [⟨7, 0, .cl, 0x73⟩, ⟨15, 8, .cl, 0xD8⟩, ⟨23, 16, .cl, 5⟩]⟩,
   /- LPW_SENS_STAT -/ ⟨0x20030144, 1, 0x4, [⟨7, 0, .w1c, 0⟩, ⟨15, 8, .w1c, 0⟩, ⟨21, 16, .w1c, 0⟩]⟩]

/-- Registers of block LPW (0x03). -/
def rowsLpw : List RegRow := rowsLpw0 ++ rowsLpw1

/-- Registers of block CFG (0x04), part 1. -/
def rowsCfg0 : List RegRow :=
  [
/- CFG_STAT -/ ⟨0x20040000, 1, 0x4, [⟨2, 0, .ro, 0⟩, ⟨3, 3, .ro, 0⟩, ⟨4, 4, .ro, 0⟩, ⟨11, 8, .ro, 0⟩, ⟨21, 16, .ro, 0x3F⟩]⟩,
   /- CFG_IMGSEQ -/ ⟨0x20040004, 1, 0x4, [⟨31, 0, .ro, 0⟩]⟩,
   /- CFG_NVM -/ ⟨0x20040008, 1, 0x4, [⟨1, 0, .cl, 0⟩, ⟨2, 2, .cl, 0⟩, ⟨7, 3, .cl, 0⟩, ⟨15, 8, .cl, 3⟩, ⟨19, 16, .cl, 3⟩]⟩,
   /- CFG_TIMES -/ ⟨0x2004000C, 1, 0x4, [⟨15, 0, .ro, 0⟩, ⟨31, 16, .ro, 0⟩]⟩,
   /- CFG_STMIN -/ ⟨0x20040010, 1, 0x4, [⟨4, 0, .cl, 8⟩, ⟨11, 8, .cl, 4⟩, ⟨20, 16, .cl, 0xC⟩]⟩,
   /- CFG_STRES -/ ⟨0x20040014, 1, 0x4, [⟨0, 0, .ro, 0⟩, ⟨1, 1, .ro, 0⟩, ⟨2, 2, .ro, 0⟩, ⟨3, 3, .ro, 0⟩, ⟨4, 4, .ro, 0⟩, ⟨5, 5, .ro, 0⟩, ⟨6, 6, .ro, 0⟩, ⟨7, 7, .ro, 0⟩, ⟨8, 8, .ro, 0⟩, ⟨20, 16, .ro, 0⟩, ⟨27, 24, .ro, 0⟩]⟩,
   /- CFG_PACE -/ ⟨0x20040018, 1, 0x4, [⟨0, 0, .cl, 0⟩, ⟨1, 1, .cl, 0⟩, ⟨6, 2, .cl, 8⟩, ⟨23, 8, .cl, 0x3A9⟩]⟩,
   /- CFG_PACECTL -/ ⟨0x2004001C, 1, 0x4, [⟨0, 0, .w1s, 0⟩, ⟨1, 1, .ro, 0⟩]⟩,
   /- CFG_INT_STAT -/ ⟨0x20040030, 1, 0x4, [⟨0, 0, .w1c, 0⟩, ⟨1, 1, .w1c, 0⟩, ⟨2, 2, .w1c, 0⟩, ⟨3, 3, .w1c, 0⟩, ⟨4, 4, .w1c, 0⟩, ⟨5, 5, .w1c, 0⟩, ⟨6, 6, .w1c, 0⟩, ⟨7, 7, .w1c, 0⟩, ⟨8, 8, .w1c, 0⟩, ⟨9, 9, .w1c, 0⟩, ⟨10, 10, .w1c, 0⟩]⟩,
   /- CFG_INT_EN -/ ⟨0x20040034, 1, 0x4, [⟨0, 0, .rw, 0⟩, ⟨1, 1, .rw, 0⟩, ⟨2, 2, .rw, 0⟩, ⟨3, 3, .rw, 0⟩, ⟨4, 4, .rw, 0⟩, ⟨5, 5, .rw, 0⟩, ⟨6, 6, .rw, 0⟩, ⟨7, 7, .rw, 0⟩, ⟨8, 8, .rw, 0⟩, ⟨9, 9, .rw, 0⟩, ⟨10, 10, .rw, 0⟩]⟩,
   /- CHKu_CTRL -/ ⟨0x20041000, 4, 0x40, [⟨0, 0, .w1s, 0⟩, ⟨1, 1, .w1s, 0⟩, ⟨3, 2, .rw, 0⟩, ⟨4, 4, .rw, 0⟩]⟩,
   /- CHKu_SRC_LO -/ ⟨0x20041004, 4, 0x40, [⟨31, 0, .rw, 0⟩]⟩,
   /- CHKu_SRC_HI -/ ⟨0x20041008, 4, 0x40, [⟨7, 0, .rw, 0⟩]⟩,
   /- CHKu_LEN -/ ⟨0x2004100C, 4, 0x40, [⟨27, 0, .rw, 0⟩]⟩,
   /- CHKu_EXP_LO -/ ⟨0x20041010, 4, 0x40, [⟨31, 0, .rw, 0⟩]⟩,
   /- CHKu_EXP_HI -/ ⟨0x20041014, 4, 0x40, [⟨31, 0, .rw, 0⟩]⟩,
   /- CHKu_VAL_LO -/ ⟨0x20041018, 4, 0x40, [⟨31, 0, .ro, 0⟩]⟩,
   /- CHKu_VAL_HI -/ ⟨0x2004101C, 4, 0x40, [⟨31, 0, .ro, 0⟩]⟩,
   /- CHKu_STAT -/ ⟨0x20041020, 4, 0x40, [⟨0, 0, .ro, 0⟩, ⟨3, 1, .ro, 0⟩, ⟨4, 4, .ro, 0⟩]⟩]

/-- Registers of block CFG (0x04). -/
def rowsCfg : List RegRow := rowsCfg0

/-- Registers of block FLS (0x05), part 1. -/
def rowsFls0 : List RegRow :=
  [
/- FLS_CMD -/ ⟨0x20050000, 1, 0x4, [⟨3, 0, .rw, 0⟩, ⟨8, 4, .rw, 0⟩, ⟨14, 9, .rw, 0⟩, ⟨16, 15, .rw, 0⟩, ⟨31, 31, .w1s, 0⟩]⟩,
   /- FLS_SRC_LO -/ ⟨0x20050004, 1, 0x4, [⟨31, 3, .rw, 0⟩]⟩,
   /- FLS_SRC_HI -/ ⟨0x20050008, 1, 0x4, [⟨7, 0, .rw, 0⟩]⟩,
   /- FLS_STAT -/ ⟨0x2005000C, 1, 0x4, [⟨0, 0, .ro, 0⟩, ⟨1, 1, .ro, 0⟩, ⟨6, 2, .ro, 0⟩, ⟨10, 7, .ro, 0⟩, ⟨11, 11, .ro, 0⟩, ⟨12, 12, .w1c, 0⟩, ⟨19, 16, .ro, 0⟩]⟩,
   /- FLS_PWD_LO -/ ⟨0x20050010, 1, 0x4, [⟨31, 0, .wo, 0⟩]⟩,
   /- FLS_PWD_HI -/ ⟨0x20050014, 1, 0x4, [⟨31, 0, .wo, 0⟩]⟩,
   /- FLS_REGWR -/ ⟨0x20050018, 1, 0x4, [⟨4, 0, .rw, 0⟩, ⟨12, 8, .rw, 0⟩, ⟨16, 16, .rw, 0⟩, ⟨17, 17, .rw, 0⟩, ⟨18, 18, .rw, 0⟩, ⟨31, 31, .rw, 0⟩]⟩,
   /- FLS_RECOV -/ ⟨0x2005001C, 1, 0x4, [⟨0, 0, .ro, 0⟩, ⟨1, 1, .ro, 0⟩, ⟨6, 2, .ro, 0⟩, ⟨12, 7, .ro, 0⟩, ⟨18, 13, .ro, 0⟩]⟩,
   /- FLS_ECCADDR -/ ⟨0x20050020, 1, 0x4, [⟨22, 0, .ro, 0⟩]⟩,
   /- FLS_INT_STAT -/ ⟨0x20050024, 1, 0x4, [⟨0, 0, .w1c, 0⟩, ⟨1, 1, .w1c, 0⟩, ⟨2, 2, .w1c, 0⟩, ⟨3, 3, .w1c, 0⟩, ⟨4, 4, .w1c, 0⟩, ⟨5, 5, .w1c, 0⟩, ⟨6, 6, .w1c, 0⟩, ⟨7, 7, .w1c, 0⟩, ⟨8, 8, .w1c, 0⟩, ⟨9, 9, .w1c, 0⟩]⟩,
   /- FLS_INT_EN -/ ⟨0x20050028, 1, 0x4, [⟨0, 0, .rw, 0⟩, ⟨1, 1, .rw, 0⟩, ⟨2, 2, .rw, 0⟩, ⟨3, 3, .rw, 0⟩, ⟨4, 4, .rw, 0⟩, ⟨5, 5, .rw, 0⟩, ⟨6, 6, .rw, 0⟩, ⟨7, 7, .rw, 0⟩, ⟨8, 8, .rw, 0⟩, ⟨9, 9, .rw, 0⟩]⟩,
   /- FLS_CNT -/ ⟨0x2005002C, 1, 0x4, [⟨15, 0, .rc, 0⟩, ⟨31, 16, .rc, 0⟩]⟩,
   /- FLS_REGn -/ ⟨0x20050030, 4, 0x4, [⟨4, 0, .ro, 0⟩, ⟨12, 8, .ro, 0⟩, ⟨16, 16, .ro, 0⟩, ⟨17, 17, .ro, 0⟩, ⟨18, 18, .ro, 0⟩, ⟨24, 24, .ro, 0⟩, ⟨31, 31, .ro, 0⟩]⟩,
   /- OTP_CMD -/ ⟨0x20058000, 1, 0x4, [⟨8, 0, .rw, 0⟩, ⟨31, 31, .w1s, 0⟩]⟩,
   /- OTP_WDATA -/ ⟨0x20058004, 1, 0x4, [⟨31, 0, .rw, 0⟩]⟩,
   /- OTP_RSEL -/ ⟨0x20058008, 1, 0x4, [⟨8, 0, .rw, 0⟩]⟩,
   /- OTP_RDATA -/ ⟨0x2005800C, 1, 0x4, [⟨31, 0, .ro, 0⟩]⟩,
   /- OTP_STAT -/ ⟨0x20058010, 1, 0x4, [⟨0, 0, .ro, 0⟩, ⟨3, 1, .ro, 0⟩, ⟨5, 4, .ro, 0⟩]⟩,
   /- OTP_LC -/ ⟨0x20058014, 1, 0x4, [⟨2, 0, .ro, 0⟩, ⟨4, 3, .ro, 0⟩, ⟨8, 5, .ro, 0⟩, ⟨9, 9, .ro, 0⟩]⟩]

/-- Registers of block FLS (0x05). -/
def rowsFls : List RegRow := rowsFls0

/-- Registers of block JNL (0x06), part 1. -/
def rowsJnl0 : List RegRow :=
  [
/- JNL_CTRL -/ ⟨0x20060000, 1, 0x4, [⟨0, 0, .w1s, 0⟩, ⟨1, 1, .w1s, 0⟩]⟩,
   /- JNL_CFG -/ ⟨0x20060004, 1, 0x4, [⟨27, 0, .cl, 0⟩]⟩,
   /- JNL_STAT -/ ⟨0x20060008, 1, 0x4, [⟨1, 0, .ro, 0⟩]⟩,
   /- JNL_HEAD -/ ⟨0x2006000C, 1, 0x4, [⟨17, 0, .ro, 0⟩, ⟨31, 18, .ro, 0⟩]⟩,
   /- JNL_SWEEP -/ ⟨0x20060010, 1, 0x4, [⟨17, 0, .ro, 0⟩, ⟨29, 20, .ro, 0⟩]⟩,
   /- JNL_REC -/ ⟨0x20060014, 1, 0x4, [⟨18, 0, .ro, 0⟩, ⟨28, 19, .ro, 0⟩, ⟨29, 29, .ro, 0⟩]⟩,
   /- JNL_SLOTCMD -/ ⟨0x20060018, 1, 0x4, [⟨1, 0, .rw, 0⟩, ⟨31, 31, .w1s, 0⟩]⟩,
   /- JNL_ISEQ -/ ⟨0x2006001C, 1, 0x4, [⟨31, 0, .rw, 0⟩]⟩,
   /- JNL_UEADDR -/ ⟨0x20060020, 1, 0x4, [⟨22, 0, .ro, 0⟩]⟩,
   /- JNL_INT_STAT -/ ⟨0x20060024, 1, 0x4, [⟨0, 0, .w1c, 0⟩, ⟨1, 1, .w1c, 0⟩, ⟨2, 2, .w1c, 0⟩, ⟨3, 3, .w1c, 0⟩, ⟨4, 4, .w1c, 0⟩, ⟨5, 5, .w1c, 0⟩, ⟨6, 6, .w1c, 0⟩]⟩,
   /- JNL_INT_EN -/ ⟨0x20060028, 1, 0x4, [⟨0, 0, .rw, 0⟩, ⟨1, 1, .rw, 0⟩, ⟨2, 2, .rw, 0⟩, ⟨3, 3, .rw, 0⟩, ⟨4, 4, .rw, 0⟩, ⟨5, 5, .rw, 0⟩, ⟨6, 6, .rw, 0⟩]⟩,
   /- JNL_CNT_RECORDS -/ ⟨0x20060030, 1, 0x4, [⟨31, 0, .rc, 0⟩]⟩,
   /- JNL_CNT_VOIDS -/ ⟨0x20060034, 1, 0x4, [⟨31, 0, .rc, 0⟩]⟩,
   /- JNL_CNT_CARRIES -/ ⟨0x20060038, 1, 0x4, [⟨31, 0, .rc, 0⟩]⟩,
   /- JNL_CNT_UEWORDS -/ ⟨0x2006003C, 1, 0x4, [⟨31, 0, .rc, 0⟩]⟩]

/-- Registers of block JNL (0x06). -/
def rowsJnl : List RegRow := rowsJnl0

/-- Registers of block HDG (0x07), part 1. -/
def rowsHdg0 : List RegRow :=
  [
/- HDG_FIRE_LO -/ ⟨0x20070000, 1, 0x4, [⟨31, 0, .w1s, 0⟩]⟩,
   /- HDG_FIRE_HI -/ ⟨0x20070004, 1, 0x4, [⟨31, 0, .w1s, 0⟩]⟩,
   /- HDG_INT_STAT -/ ⟨0x20070010, 1, 0x4, [⟨0, 0, .w1c, 0⟩, ⟨1, 1, .w1c, 0⟩, ⟨2, 2, .w1c, 0⟩, ⟨3, 3, .w1c, 0⟩, ⟨4, 4, .w1c, 0⟩, ⟨5, 5, .w1c, 0⟩, ⟨6, 6, .w1c, 0⟩, ⟨7, 7, .w1c, 0⟩]⟩,
   /- HDG_INT_EN -/ ⟨0x20070014, 1, 0x4, [⟨0, 0, .rw, 0⟩, ⟨1, 1, .rw, 0⟩, ⟨2, 2, .rw, 0⟩, ⟨3, 3, .rw, 0⟩, ⟨4, 4, .rw, 0⟩, ⟨5, 5, .rw, 0⟩, ⟨6, 6, .rw, 0⟩, ⟨7, 7, .rw, 0⟩]⟩,
   /- HDG_TASK_SEL -/ ⟨0x20070018, 1, 0x4, [⟨11, 0, .rw, 0⟩]⟩,
   /- HDG_TASK_STAT -/ ⟨0x2007001C, 1, 0x4, [⟨0, 0, .ro, 0⟩, ⟨1, 1, .ro, 0⟩, ⟨2, 2, .w1c, 0⟩, ⟨3, 3, .w1c, 0⟩, ⟨15, 8, .rc, 0⟩, ⟨23, 16, .rc, 0⟩]⟩,
   /- HDG_STAT -/ ⟨0x20070020, 1, 0x4, [⟨8, 0, .ro, 0⟩, ⟨27, 16, .ro, 0⟩]⟩,
   /- HDG_FLAGn -/ ⟨0x20070100, 8, 0x4, [⟨31, 0, .w1c, 0⟩]⟩,
   /- HDG_WATCHn -/ ⟨0x20070120, 8, 0x4, [⟨31, 0, .rw, 0⟩]⟩,
   /- HDG_LOOPn -/ ⟨0x20070140, 8, 0x4, [⟨31, 0, .w1c, 0⟩]⟩,
   /- HDG_CHn_CFG -/ ⟨0x20071000, 256, 0x20, [⟨11, 0, .rw, 0⟩, ⟨12, 12, .rw, 0⟩, ⟨13, 13, .cl, 0⟩, ⟨16, 14, .cl, 0⟩]⟩,
   /- HDG_CHn_DST01 -/ ⟨0x20071004, 256, 0x20, [⟨11, 0, .rw, 0⟩, ⟨15, 15, .rw, 0⟩, ⟨27, 16, .rw, 0⟩, ⟨31, 31, .rw, 0⟩]⟩,
   /- HDG_CHn_DST23 -/ ⟨0x20071008, 256, 0x20, [⟨11, 0, .rw, 0⟩, ⟨15, 15, .rw, 0⟩, ⟨27, 16, .rw, 0⟩, ⟨31, 31, .rw, 0⟩]⟩,
   /- HDG_CHn_STAT -/ ⟨0x2007100C, 256, 0x20, [⟨0, 0, .ro, 0⟩, ⟨1, 1, .ro, 0⟩, ⟨7, 4, .ro, 0⟩, ⟨11, 8, .rc, 0⟩]⟩,
   /- HDG_CHn_TS_LO -/ ⟨0x20071010, 256, 0x20, [⟨31, 0, .ro, 0⟩]⟩,
   /- HDG_CHn_TS_HI -/ ⟨0x20071014, 256, 0x20, [⟨31, 0, .ro, 0⟩]⟩,
   /- HDG_CHn_CNT -/ ⟨0x20071018, 256, 0x20, [⟨23, 0, .rc, 0⟩, ⟨31, 24, .rc, 0⟩]⟩]

/-- Registers of block HDG (0x07). -/
def rowsHdg : List RegRow := rowsHdg0

/-- Registers of block DMC (0x08), part 1. -/
def rowsDmc0 : List RegRow :=
  [
/- DMC_CTRL -/ ⟨0x20080000, 1, 0x4, [⟨0, 0, .w1s, 0⟩, ⟨1, 1, .w1s, 0⟩]⟩,
   /- DMC_CFG -/ ⟨0x20080004, 1, 0x4, [⟨0, 0, .cl, 0⟩, ⟨1, 1, .cl, 0⟩, ⟨3, 2, .cl, 2⟩, ⟨5, 4, .cl, 0⟩, ⟨6, 6, .cl, 0⟩, ⟨15, 8, .cl, 0xA⟩]⟩,
   /- DMC_SCRUB -/ ⟨0x20080008, 1, 0x4, [⟨7, 0, .cl, 0x18⟩]⟩,
   /- DMC_STAT -/ ⟨0x2008000C, 1, 0x4, [⟨2, 0, .ro, 0⟩, ⟨3, 3, .ro, 0⟩, ⟨4, 4, .ro, 0⟩, ⟨15, 8, .ro, 0⟩, ⟨19, 16, .ro, 0⟩, ⟨23, 20, .ro, 0⟩, ⟨25, 24, .ro, 0⟩]⟩,
   /- DMC_TRAIN -/ ⟨0x20080010, 1, 0x4, [⟨6, 0, .ro, 0⟩, ⟨9, 7, .ro, 0⟩, ⟨10, 10, .ro, 0⟩]⟩,
   /- DMC_MR4 -/ ⟨0x20080014, 1, 0x4, [⟨31, 0, .ro, 0⟩]⟩,
   /- DMC_INT_STAT -/ ⟨0x20080018, 1, 0x4, [⟨0, 0, .w1c, 0⟩, ⟨1, 1, .w1c, 0⟩, ⟨2, 2, .w1c, 0⟩, ⟨3, 3, .w1c, 0⟩, ⟨4, 4, .w1c, 0⟩, ⟨5, 5, .w1c, 0⟩, ⟨6, 6, .w1c, 0⟩, ⟨7, 7, .w1c, 0⟩]⟩,
   /- DMC_INT_EN -/ ⟨0x2008001C, 1, 0x4, [⟨0, 0, .rw, 0⟩, ⟨1, 1, .rw, 0⟩, ⟨2, 2, .rw, 0⟩, ⟨3, 3, .rw, 0⟩, ⟨4, 4, .rw, 0⟩, ⟨5, 5, .rw, 0⟩, ⟨6, 6, .rw, 0⟩, ⟨7, 7, .rw, 0⟩]⟩,
   /- DMC_CE_LO -/ ⟨0x20080020, 1, 0x4, [⟨31, 0, .ro, 0⟩]⟩,
   /- DMC_CE_HI -/ ⟨0x20080024, 1, 0x4, [⟨7, 0, .ro, 0⟩]⟩,
   /- DMC_CE_INFO -/ ⟨0x20080028, 1, 0x4, [⟨7, 0, .ro, 0⟩, ⟨8, 8, .ro, 0⟩, ⟨9, 9, .ro, 0⟩, ⟨12, 10, .ro, 0⟩, ⟨16, 13, .ro, 0⟩, ⟨23, 17, .ro, 0⟩, ⟨31, 31, .w1c, 0⟩]⟩,
   /- DMC_UE_LO -/ ⟨0x2008002C, 1, 0x4, [⟨31, 0, .ro, 0⟩]⟩,
   /- DMC_UE_HI -/ ⟨0x20080030, 1, 0x4, [⟨7, 0, .ro, 0⟩]⟩,
   /- DMC_UE_INFO -/ ⟨0x20080034, 1, 0x4, [⟨7, 0, .ro, 0⟩, ⟨8, 8, .ro, 0⟩, ⟨9, 9, .ro, 0⟩, ⟨12, 10, .ro, 0⟩, ⟨16, 13, .ro, 0⟩, ⟨23, 17, .ro, 0⟩, ⟨31, 31, .w1c, 0⟩]⟩,
   /- DMC_PORTn -/ ⟨0x20080040, 8, 0x4, [⟨11, 0, .rw, 0⟩, ⟨27, 16, .rc, 0⟩]⟩,
   /- DMC_CNT_CE -/ ⟨0x20080100, 1, 0x4, [⟨31, 0, .rc, 0⟩]⟩,
   /- DMC_CNT_UE -/ ⟨0x20080104, 1, 0x4, [⟨31, 0, .rc, 0⟩]⟩,
   /- DMC_CNT_SCRUBFIX -/ ⟨0x20080108, 1, 0x4, [⟨31, 0, .rc, 0⟩]⟩,
   /- DMC_CNT_RMW -/ ⟨0x2008010C, 1, 0x4, [⟨31, 0, .rc, 0⟩]⟩,
   /- DMC_CNT_LATE -/ ⟨0x20080110, 1, 0x4, [⟨31, 0, .rc, 0⟩]⟩,
   /- DMC_CNT_P0LATE -/ ⟨0x20080114, 1, 0x4, [⟨31, 0, .rc, 0⟩]⟩,
   /- DMC_CNT_REFFORCED -/ ⟨0x20080118, 1, 0x4, [⟨31, 0, .rc, 0⟩]⟩,
   /- DMC_CNT_SRENTRY -/ ⟨0x2008011C, 1, 0x4, [⟨31, 0, .rc, 0⟩]⟩]

/-- Registers of block DMC (0x08). -/
def rowsDmc : List RegRow := rowsDmc0

/-- Registers of block SEC (0x09), part 1. -/
def rowsSec0 : List RegRow :=
  [
/- SEC_CTRL -/ ⟨0x20090000, 1, 0x4, [⟨0, 0, .rw, 0⟩, ⟨1, 1, .w1s, 0⟩, ⟨2, 2, .w1s, 0⟩]⟩,
   /- SEC_LIMIT -/ ⟨0x20090004, 1, 0x4, [⟨31, 0, .cl, 0xFFFF0000⟩]⟩,
   /- SEC_STAT -/ ⟨0x20090008, 1, 0x4, [⟨0, 0, .ro, 0⟩, ⟨1, 1, .ro, 0⟩, ⟨2, 2, .ro, 0⟩, ⟨11, 4, .ro, 0⟩, ⟨21, 12, .ro, 0⟩]⟩,
   /- SEC_KCV -/ ⟨0x2009000C, 1, 0x4, [⟨23, 0, .ro, 0⟩, ⟨31, 31, .ro, 0⟩]⟩,
   /- SEC_ALARM -/ ⟨0x20090010, 1, 0x4, [⟨0, 0, .w1c, 0⟩, ⟨1, 1, .w1c, 0⟩, ⟨2, 2, .w1c, 0⟩, ⟨3, 3, .w1c, 0⟩, ⟨4, 4, .w1c, 0⟩, ⟨5, 5, .w1c, 0⟩]⟩,
   /- SEC_ALARM_LIVE -/ ⟨0x20090014, 1, 0x4, [⟨0, 0, .ro, 0⟩, ⟨1, 1, .ro, 0⟩, ⟨2, 2, .ro, 0⟩, ⟨3, 3, .ro, 0⟩, ⟨4, 4, .ro, 0⟩, ⟨5, 5, .ro, 0⟩]⟩,
   /- SEC_ALARM_EN -/ ⟨0x20090018, 1, 0x4, [⟨0, 0, .rwl, 1⟩, ⟨1, 1, .rwl, 1⟩, ⟨2, 2, .rwl, 1⟩, ⟨3, 3, .rwl, 1⟩, ⟨4, 4, .rwl, 1⟩, ⟨5, 5, .rwl, 1⟩]⟩,
   /- SEC_ALARM_CNT -/ ⟨0x2009001C, 1, 0x4, [⟨15, 0, .rc, 0⟩]⟩,
   /- SEC_INT_STAT -/ ⟨0x20090020, 1, 0x4, [⟨0, 0, .w1c, 0⟩, ⟨1, 1, .w1c, 0⟩, ⟨2, 2, .w1c, 0⟩, ⟨3, 3, .w1c, 0⟩, ⟨4, 4, .w1c, 0⟩, ⟨5, 5, .w1c, 0⟩, ⟨6, 6, .w1c, 0⟩, ⟨15, 8, .w1c, 0⟩]⟩,
   /- SEC_INT_EN -/ ⟨0x20090024, 1, 0x4, [⟨0, 0, .rw, 0⟩, ⟨1, 1, .rw, 0⟩, ⟨2, 2, .rw, 0⟩, ⟨3, 3, .rw, 0⟩, ⟨4, 4, .rw, 0⟩, ⟨5, 5, .rw, 0⟩, ⟨6, 6, .rw, 0⟩, ⟨15, 8, .rw, 0⟩]⟩,
   /- SEC_QSTAT -/ ⟨0x20090028, 1, 0x4, [⟨6, 0, .ro, 0⟩, ⟨13, 8, .ro, 0⟩]⟩,
   /- SEC_SLOT_SEL -/ ⟨0x2009002C, 1, 0x4, [⟨9, 0, .rw, 0⟩]⟩,
   /- SEC_SLOT_INFO -/ ⟨0x20090030, 1, 0x4, [⟨23, 0, .ro, 0⟩, ⟨24, 24, .ro, 0⟩, ⟨26, 25, .ro, 0⟩, ⟨31, 28, .ro, 0⟩]⟩,
   /- SEC_CNT_RX -/ ⟨0x20090040, 1, 0x4, [⟨31, 0, .rc, 0⟩]⟩,
   /- SEC_CNT_TX -/ ⟨0x20090044, 1, 0x4, [⟨31, 0, .rc, 0⟩]⟩,
   /- SEC_CNT_MICFAIL -/ ⟨0x20090048, 1, 0x4, [⟨31, 0, .rc, 0⟩]⟩,
   /- SEC_CNT_KEYCHG -/ ⟨0x2009004C, 1, 0x4, [⟨31, 0, .rc, 0⟩]⟩,
   /- SEC_CNT_NOKEY -/ ⟨0x20090050, 1, 0x4, [⟨31, 0, .rc, 0⟩]⟩,
   /- SEC_CNT_RESV -/ ⟨0x20090054, 1, 0x4, [⟨31, 0, .rc, 0⟩]⟩,
   /- SEC_CNT_NORESV -/ ⟨0x20090058, 1, 0x4, [⟨31, 0, .rc, 0⟩]⟩,
   /- SEC_CNT_EXHAUST -/ ⟨0x2009005C, 1, 0x4, [⟨31, 0, .rc, 0⟩]⟩,
   /- SEC_CNT_FBOPS -/ ⟨0x20090060, 1, 0x4, [⟨31, 0, .rc, 0⟩]⟩,
   /- SEC_CNT_FBMISM -/ ⟨0x20090064, 1, 0x4, [⟨31, 0, .rc, 0⟩]⟩,
   /- PGn_CTRL -/ ⟨0x20098000, 8, 0x1000, [⟨0, 0, .w1s, 0⟩, ⟨1, 1, .w1s, 0⟩, ⟨2, 2, .w1s, 0⟩]⟩,
   /- PGn_OP -/ ⟨0x20098004, 8, 0x1000, [⟨3, 0, .rw, 0⟩, ⟨4, 4, .rw, 0⟩, ⟨14, 5, .rw, 0⟩, ⟨18, 16, .rw, 0⟩, ⟨23, 20, .rw, 0⟩]⟩,
   /- PGn_STAT -/ ⟨0x20098008, 8, 0x1000, [⟨0, 0, .ro, 0⟩, ⟨3, 1, .ro, 0⟩, ⟨4, 4, .ro, 0⟩]⟩,
   /- PGn_ALEN -/ ⟨0x2009800C, 8, 0x1000, [⟨15, 0, .rw, 0⟩]⟩,
   /- PGn_MLEN -/ ⟨0x20098010, 8, 0x1000, [⟨15, 0, .rw, 0⟩]⟩,
   /- PGn_NONCE0 -/ ⟨0x20098014, 8, 0x1000, [⟨31, 0, .rw, 0⟩]⟩,
   /- PGn_NONCE1 -/ ⟨0x20098018, 8, 0x1000, [⟨31, 0, .rw, 0⟩]⟩]

/-- Registers of block SEC (0x09), part 2. -/
def rowsSec1 : List RegRow :=
  [
/- PGn_NONCE2 -/ ⟨0x2009801C, 8, 0x1000, [⟨31, 0, .rw, 0⟩]⟩,
   /- PGn_NONCE3 -/ ⟨0x20098020, 8, 0x1000, [⟨7, 0, .rw, 0⟩]⟩,
   /- PGn_SRC_LO -/ ⟨0x20098024, 8, 0x1000, [⟨31, 0, .rw, 0⟩]⟩,
   /- PGn_SRC_HI -/ ⟨0x20098028, 8, 0x1000, [⟨7, 0, .rw, 0⟩]⟩,
   /- PGn_DST_LO -/ ⟨0x2009802C, 8, 0x1000, [⟨31, 0, .rw, 0⟩]⟩,
   /- PGn_DST_HI -/ ⟨0x20098030, 8, 0x1000, [⟨7, 0, .rw, 0⟩]⟩,
   /- PGn_KEY0 -/ ⟨0x20098040, 8, 0x1000, [⟨31, 0, .wo, 0⟩]⟩,
   /- PGn_KEY1 -/ ⟨0x20098044, 8, 0x1000, [⟨31, 0, .wo, 0⟩]⟩,
   /- PGn_KEY2 -/ ⟨0x20098048, 8, 0x1000, [⟨31, 0, .wo, 0⟩]⟩,
   /- PGn_KEY3 -/ ⟨0x2009804C, 8, 0x1000, [⟨31, 0, .wo, 0⟩]⟩,
   /- PGn_TAG0 -/ ⟨0x20098050, 8, 0x1000, [⟨31, 0, .rw, 0⟩]⟩,
   /- PGn_TAG1 -/ ⟨0x20098054, 8, 0x1000, [⟨31, 0, .rw, 0⟩]⟩,
   /- PGn_TAG2 -/ ⟨0x20098058, 8, 0x1000, [⟨31, 0, .rw, 0⟩]⟩,
   /- PGn_TAG3 -/ ⟨0x2009805C, 8, 0x1000, [⟨31, 0, .rw, 0⟩]⟩,
   /- PGn_GEN -/ ⟨0x20098060, 8, 0x1000, [⟨23, 0, .ro, 0⟩]⟩,
   /- PGn_OWNER -/ ⟨0x20098064, 8, 0x1000, [⟨2, 0, .cl, 0⟩, ⟨3, 3, .cl, 0⟩, ⟨7, 4, .cl, 0⟩]⟩,
   /- SEC_GRPn_CFG -/ ⟨0x20091000, 64, 0x10, [⟨0, 0, .cl, 0⟩, ⟨2, 1, .cl, 0⟩, ⟨3, 3, .cl, 0⟩, ⟨7, 4, .cl, 0⟩, ⟨15, 8, .cl, 0⟩]⟩,
   /- SEC_GRPn_SRC_LO -/ ⟨0x20091004, 64, 0x10, [⟨31, 0, .cl, 0⟩]⟩,
   /- SEC_GRPn_SRC_HI -/ ⟨0x20091008, 64, 0x10, [⟨31, 0, .cl, 0⟩]⟩,
   /- SEC_GRPn_OCTR -/ ⟨0x2009100C, 64, 0x10, [⟨31, 0, .ro, 0⟩]⟩]

/-- Registers of block SEC (0x09). -/
def rowsSec : List RegRow := rowsSec0 ++ rowsSec1

/-- Registers of block CTX (0x0A), part 1. -/
def rowsCtx0 : List RegRow :=
  [
/- CTX_CTRL -/ ⟨0x200A0000, 1, 0x4, [⟨0, 0, .w1s, 0⟩]⟩,
   /- CTX_CFG -/ ⟨0x200A0004, 1, 0x4, [⟨7, 0, .cl, 0xA⟩, ⟨15, 8, .cl, 0x18⟩, ⟨24, 16, .cl, 0x40⟩, ⟨27, 25, .cl, 3⟩]⟩,
   /- CTX_QUAR -/ ⟨0x200A0008, 1, 0x4, [⟨11, 0, .cl, 0x12C⟩]⟩,
   /- CTX_TBL -/ ⟨0x200A000C, 1, 0x4, [⟨13, 0, .cl, 0⟩]⟩,
   /- CTX_MAP -/ ⟨0x200A0010, 1, 0x4, [⟨17, 0, .cl, 0⟩]⟩,
   /- CTX_EUIX -/ ⟨0x200A0014, 1, 0x4, [⟨16, 0, .cl, 0⟩]⟩,
   /- CTX_HDR -/ ⟨0x200A0018, 1, 0x4, [⟨27, 0, .cl, 0⟩]⟩,
   /- CTX_STAT -/ ⟨0x200A0020, 1, 0x4, [⟨1, 0, .ro, 0⟩, ⟨2, 2, .ro, 0⟩, ⟨13, 4, .ro, 0⟩, ⟨23, 14, .ro, 0⟩]⟩,
   /- CTX_PIN -/ ⟨0x200A0024, 1, 0x4, [⟨9, 0, .ro, 0⟩, ⟨24, 16, .ro, 0⟩]⟩,
   /- CTX_NODES -/ ⟨0x200A0028, 1, 0x4, [⟨18, 0, .ro, 0⟩, ⟨31, 19, .ro, 0⟩]⟩,
   /- CTX_INT_STAT -/ ⟨0x200A0030, 1, 0x4, [⟨0, 0, .w1c, 0⟩, ⟨1, 1, .w1c, 0⟩, ⟨2, 2, .w1c, 0⟩, ⟨3, 3, .w1c, 0⟩, ⟨4, 4, .w1c, 0⟩, ⟨5, 5, .w1c, 0⟩, ⟨6, 6, .w1c, 0⟩]⟩,
   /- CTX_INT_EN -/ ⟨0x200A0034, 1, 0x4, [⟨0, 0, .rw, 0⟩, ⟨1, 1, .rw, 0⟩, ⟨2, 2, .rw, 0⟩, ⟨3, 3, .rw, 0⟩, ⟨4, 4, .rw, 0⟩, ⟨5, 5, .rw, 0⟩, ⟨6, 6, .rw, 0⟩]⟩,
   /- CTX_PBM_SEL -/ ⟨0x200A0038, 1, 0x4, [⟨12, 0, .rw, 0⟩]⟩,
   /- CTX_PBM_DATA -/ ⟨0x200A003C, 1, 0x4, [⟨31, 0, .ro, 0⟩]⟩,
   /- CTX_SARn -/ ⟨0x200A0040, 16, 0x4, [⟨15, 0, .cl, 1⟩, ⟨31, 16, .cl, 0xFFFD⟩]⟩,
   /- CTX_CMDA -/ ⟨0x200A0100, 1, 0x4, [⟨3, 0, .rw, 0⟩, ⟨21, 4, .rw, 0⟩, ⟨31, 31, .w1s, 0⟩]⟩,
   /- CTX_ARGA -/ ⟨0x200A0104, 1, 0x4, [⟨15, 0, .rw, 0⟩, ⟨19, 16, .rw, 0⟩, ⟨24, 20, .rw, 0⟩]⟩,
   /- CTX_STGA_LO -/ ⟨0x200A0108, 1, 0x4, [⟨31, 8, .rw, 0⟩]⟩,
   /- CTX_STGA_HI -/ ⟨0x200A010C, 1, 0x4, [⟨7, 0, .rw, 0⟩]⟩,
   /- CTX_RESA -/ ⟨0x200A0110, 1, 0x4, [⟨0, 0, .ro, 0⟩, ⟨4, 1, .ro, 0⟩, ⟨5, 5, .ro, 0⟩, ⟨23, 6, .ro, 0⟩]⟩,
   /- CTX_RESVALA -/ ⟨0x200A0114, 1, 0x4, [⟨15, 0, .ro, 0⟩]⟩,
   /- CTX_CMDB -/ ⟨0x200A0120, 1, 0x4, [⟨3, 0, .rw, 0⟩, ⟨21, 4, .rw, 0⟩, ⟨31, 31, .w1s, 0⟩]⟩,
   /- CTX_ARGB -/ ⟨0x200A0124, 1, 0x4, [⟨15, 0, .rw, 0⟩, ⟨19, 16, .rw, 0⟩, ⟨24, 20, .rw, 0⟩]⟩,
   /- CTX_STGB_LO -/ ⟨0x200A0128, 1, 0x4, [⟨31, 8, .rw, 0⟩]⟩,
   /- CTX_STGB_HI -/ ⟨0x200A012C, 1, 0x4, [⟨7, 0, .rw, 0⟩]⟩,
   /- CTX_RESB -/ ⟨0x200A0130, 1, 0x4, [⟨0, 0, .ro, 0⟩, ⟨4, 1, .ro, 0⟩, ⟨5, 5, .ro, 0⟩, ⟨23, 6, .ro, 0⟩]⟩,
   /- CTX_RESVALB -/ ⟨0x200A0134, 1, 0x4, [⟨15, 0, .ro, 0⟩]⟩,
   /- CTX_CNT_HIT -/ ⟨0x200A0200, 1, 0x4, [⟨31, 0, .rc, 0⟩]⟩,
   /- CTX_CNT_MISS -/ ⟨0x200A0204, 1, 0x4, [⟨31, 0, .rc, 0⟩]⟩,
   /- CTX_CNT_EVICT -/ ⟨0x200A0208, 1, 0x4, [⟨31, 0, .rc, 0⟩]⟩]

/-- Registers of block CTX (0x0A), part 2. -/
def rowsCtx1 : List RegRow :=
  [
/- CTX_CNT_WBACK -/ ⟨0x200A020C, 1, 0x4, [⟨31, 0, .rc, 0⟩]⟩,
   /- CTX_CNT_CTXERR -/ ⟨0x200A0210, 1, 0x4, [⟨31, 0, .rc, 0⟩]⟩,
   /- CTX_CNT_CMD -/ ⟨0x200A0214, 1, 0x4, [⟨31, 0, .rc, 0⟩]⟩,
   /- CTX_CNT_CMDREJ -/ ⟨0x200A0218, 1, 0x4, [⟨31, 0, .rc, 0⟩]⟩,
   /- CTX_CNT_BADREC -/ ⟨0x200A021C, 1, 0x4, [⟨31, 0, .rc, 0⟩]⟩,
   /- CTX_CNT_QUAREARLY -/ ⟨0x200A0220, 1, 0x4, [⟨31, 0, .rc, 0⟩]⟩,
   /- CTX_CNT_SIGUPD -/ ⟨0x200A0224, 1, 0x4, [⟨31, 0, .rc, 0⟩]⟩]

/-- Registers of block CTX (0x0A). -/
def rowsCtx : List RegRow := rowsCtx0 ++ rowsCtx1

/-- Registers of block LNK (0x0B), part 1. -/
def rowsLnk0 : List RegRow :=
  [
/- LNK_CTRL -/ ⟨0x200B0000, 1, 0x4, [⟨15, 0, .rw, 0xFFFF⟩, ⟨31, 16, .rw, 0⟩]⟩,
   /- LNK_CFG -/ ⟨0x200B0004, 1, 0x4, [⟨7, 0, .cl, 0x64⟩, ⟨15, 8, .cl, 0x40⟩]⟩,
   /- LNK_STAT -/ ⟨0x200B0008, 1, 0x4, [⟨3, 0, .ro, 0⟩, ⟨24, 8, .ro, 0⟩]⟩,
   /- LNK_ADM -/ ⟨0x200B000C, 1, 0x4, [⟨4, 0, .rw, 0⟩, ⟨22, 5, .rw, 0⟩, ⟨23, 23, .rw, 0⟩]⟩,
   /- LNK_ADM_PAN -/ ⟨0x200B0010, 1, 0x4, [⟨15, 0, .rw, 0xFFFF⟩]⟩,
   /- LNK_DQ_RUN -/ ⟨0x200B0014, 1, 0x4, [⟨31, 0, .rw, 0xFFFFFFFF⟩]⟩,
   /- LNK_DQ_ABORT -/ ⟨0x200B0018, 1, 0x4, [⟨31, 0, .w1s, 0⟩]⟩,
   /- LNK_INT_STAT -/ ⟨0x200B0020, 1, 0x4, [⟨0, 0, .w1c, 0⟩, ⟨1, 1, .w1c, 0⟩, ⟨2, 2, .w1c, 0⟩, ⟨3, 3, .w1c, 0⟩, ⟨4, 4, .w1c, 0⟩, ⟨5, 5, .w1c, 0⟩, ⟨6, 6, .w1c, 0⟩, ⟨7, 7, .w1c, 0⟩, ⟨8, 8, .w1c, 0⟩, ⟨9, 9, .w1c, 0⟩, ⟨10, 10, .w1c, 0⟩, ⟨11, 11, .w1c, 0⟩, ⟨12, 12, .w1c, 0⟩, ⟨13, 13, .w1c, 0⟩, ⟨14, 14, .w1c, 0⟩, ⟨15, 15, .w1c, 0⟩]⟩,
   /- LNK_INT_EN -/ ⟨0x200B0024, 1, 0x4, [⟨0, 0, .rw, 0⟩, ⟨1, 1, .rw, 0⟩, ⟨2, 2, .rw, 0⟩, ⟨3, 3, .rw, 0⟩, ⟨4, 4, .rw, 0⟩, ⟨5, 5, .rw, 0⟩, ⟨6, 6, .rw, 0⟩, ⟨7, 7, .rw, 0⟩, ⟨8, 8, .rw, 0⟩, ⟨9, 9, .rw, 0⟩, ⟨10, 10, .rw, 0⟩, ⟨11, 11, .rw, 0⟩, ⟨12, 12, .rw, 0⟩, ⟨13, 13, .rw, 0⟩, ⟨14, 14, .rw, 0⟩, ⟨15, 15, .rw, 0⟩]⟩,
   /- LNK_DQn -/ ⟨0x200B0100, 32, 0x4, [⟨3, 0, .cl, 0⟩, ⟨5, 4, .rw, 1⟩, ⟨15, 8, .rw, 1⟩]⟩,
   /- LNK_DQSn -/ ⟨0x200B0180, 32, 0x4, [⟨0, 0, .ro, 0⟩, ⟨1, 1, .ro, 0⟩, ⟨15, 8, .ro, 0⟩, ⟨31, 16, .ro, 0⟩]⟩,
   /- LNK_PANn_ID -/ ⟨0x200B0400, 16, 0x40, [⟨15, 0, .cl, 0xFFFF⟩, ⟨31, 16, .cl, 0xFFFE⟩]⟩,
   /- LNK_PANn_EUI_LO -/ ⟨0x200B0404, 16, 0x40, [⟨31, 0, .cl, 0⟩]⟩,
   /- LNK_PANn_EUI_HI -/ ⟨0x200B0408, 16, 0x40, [⟨31, 0, .cl, 0⟩]⟩,
   /- LNK_PANn_CFG -/ ⟨0x200B040C, 16, 0x40, [⟨4, 0, .cl, 0⟩, ⟨8, 5, .cl, 0⟩, ⟨12, 9, .cl, 0⟩, ⟨13, 13, .cl, 0⟩, ⟨14, 14, .cl, 0⟩, ⟨16, 15, .cl, 0⟩, ⟨19, 17, .cl, 0⟩, ⟨20, 20, .cl, 0⟩, ⟨21, 21, .cl, 0⟩, ⟨27, 23, .cl, 3⟩]⟩,
   /- LNK_PANn_CSMA -/ ⟨0x200B0410, 16, 0x40, [⟨3, 0, .cl, 3⟩, ⟨7, 4, .cl, 5⟩, ⟨10, 8, .cl, 4⟩, ⟨14, 12, .cl, 3⟩, ⟨17, 16, .cl, 1⟩, ⟨31, 24, .cl, 0xAB⟩]⟩,
   /- LNK_PANn_TIME -/ ⟨0x200B0414, 16, 0x40, [⟨7, 0, .cl, 0x36⟩, ⟨23, 8, .cl, 0x1F4⟩, ⟨31, 24, .cl, 0x4C⟩]⟩,
   /- LNK_PANn_BCN -/ ⟨0x200B0418, 16, 0x40, [⟨23, 0, .cl, 0⟩]⟩,
   /- LNK_PANn_LEN -/ ⟨0x200B041C, 16, 0x40, [⟨10, 0, .cl, 0x7FF⟩, ⟨26, 16, .cl, 0x7FF⟩]⟩,
   /- LNK_PANn_STAT -/ ⟨0x200B0420, 16, 0x40, [⟨7, 0, .ro, 0⟩, ⟨15, 8, .ro, 0⟩, ⟨23, 16, .ro, 0⟩]⟩,
   /- LNK_PANn_BCNTS -/ ⟨0x200B0424, 16, 0x40, [⟨31, 0, .ro, 0⟩]⟩,
   /- LNK_CNT_ACKSENT -/ ⟨0x200B0880, 1, 0x4, [⟨31, 0, .rc, 0⟩]⟩,
   /- LNK_CNT_ACKW_PRIO -/ ⟨0x200B0884, 1, 0x4, [⟨31, 0, .rc, 0⟩]⟩,
   /- LNK_CNT_ACKW_TXFAIL -/ ⟨0x200B0888, 1, 0x4, [⟨31, 0, .rc, 0⟩]⟩,
   /- LNK_CNT_REL_MIRROR -/ ⟨0x200B088C, 1, 0x4, [⟨31, 0, .rc, 0⟩]⟩,
   /- LNK_CNT_REL_JRNL -/ ⟨0x200B0890, 1, 0x4, [⟨31, 0, .rc, 0⟩]⟩,
   /- LNK_CNT_DQ_SUCCESS -/ ⟨0x200B0894, 1, 0x4, [⟨31, 0, .rc, 0⟩]⟩,
   /- LNK_CNT_DQ_NOACK -/ ⟨0x200B0898, 1, 0x4, [⟨31, 0, .rc, 0⟩]⟩,
   /- LNK_CNT_DQ_CAF -/ ⟨0x200B089C, 1, 0x4, [⟨31, 0, .rc, 0⟩]⟩,
   /- LNK_CNT_DQ_EXPIRED -/ ⟨0x200B08A0, 1, 0x4, [⟨31, 0, .rc, 0⟩]⟩]

/-- Registers of block LNK (0x0B), part 2. -/
def rowsLnk1 : List RegRow :=
  [
/- LNK_CNT_DQ_ABORTED -/ ⟨0x200B08A4, 1, 0x4, [⟨31, 0, .rc, 0⟩]⟩,
   /- LNK_CNT_DQ_OTHER -/ ⟨0x200B08A8, 1, 0x4, [⟨31, 0, .rc, 0⟩]⟩,
   /- LNK_CNT_BCNSENT -/ ⟨0x200B08AC, 1, 0x4, [⟨31, 0, .rc, 0⟩]⟩,
   /- LNK_CNT_BCNMISS -/ ⟨0x200B08B0, 1, 0x4, [⟨31, 0, .rc, 0⟩]⟩,
   /- LNK_CNT_D2LATE -/ ⟨0x200B08B4, 1, 0x4, [⟨31, 0, .rc, 0⟩]⟩,
   /- LNK_CNT_DECISIONn -/ ⟨0x200B0800, 18, 0x4, [⟨31, 0, .rc, 0⟩]⟩]

/-- Registers of block LNK (0x0B). -/
def rowsLnk : List RegRow := rowsLnk0 ++ rowsLnk1

/-- Registers of block LNP (0x0C), part 1. -/
def rowsLnp0 : List RegRow :=
  [
/- LNP_CHEN -/ ⟨0x200C0000, 1, 0x4, [⟨15, 0, .cl, 0⟩]⟩,
   /- LNP_DET -/ ⟨0x200C0004, 1, 0x4, [⟨7, 0, .cl, 0x28⟩, ⟨10, 8, .cl, 2⟩]⟩,
   /- LNP_SEP -/ ⟨0x200C0008, 1, 0x4, [⟨6, 0, .cl, 0x46⟩, ⟨11, 8, .cl, 6⟩, ⟨16, 16, .cl, 1⟩, ⟨17, 17, .cl, 1⟩]⟩,
   /- LNP_LANE -/ ⟨0x200C000C, 1, 0x4, [⟨3, 0, .cl, 8⟩, ⟨8, 8, .cl, 1⟩, ⟨22, 16, .cl, 0x5A⟩]⟩,
   /- LNP_STAT -/ ⟨0x200C0010, 1, 0x4, [⟨6, 0, .ro, 0⟩, ⟨16, 16, .ro, 0⟩]⟩,
   /- LNP_PEAK -/ ⟨0x200C0014, 1, 0x4, [⟨6, 0, .rc, 0⟩]⟩,
   /- LNP_BUSY_LO -/ ⟨0x200C0018, 1, 0x4, [⟨31, 0, .ro, 0⟩]⟩,
   /- LNP_BUSY_HI -/ ⟨0x200C001C, 1, 0x4, [⟨31, 0, .ro, 0⟩]⟩,
   /- LNP_OCC_LO -/ ⟨0x200C0020, 1, 0x4, [⟨2, 0, .ro, 0⟩, ⟨6, 4, .ro, 0⟩, ⟨10, 8, .ro, 0⟩, ⟨14, 12, .ro, 0⟩, ⟨18, 16, .ro, 0⟩, ⟨22, 20, .ro, 0⟩, ⟨26, 24, .ro, 0⟩, ⟨30, 28, .ro, 0⟩]⟩,
   /- LNP_OCC_HI -/ ⟨0x200C0024, 1, 0x4, [⟨2, 0, .ro, 0⟩, ⟨6, 4, .ro, 0⟩, ⟨10, 8, .ro, 0⟩, ⟨14, 12, .ro, 0⟩, ⟨18, 16, .ro, 0⟩, ⟨22, 20, .ro, 0⟩, ⟨26, 24, .ro, 0⟩, ⟨30, 28, .ro, 0⟩]⟩,
   /- LNP_NFCTL -/ ⟨0x200C0028, 1, 0x4, [⟨0, 0, .w1s, 0⟩]⟩,
   /- LNP_INT_STAT -/ ⟨0x200C0030, 1, 0x4, [⟨0, 0, .w1c, 0⟩, ⟨1, 1, .w1c, 0⟩, ⟨2, 2, .w1c, 0⟩, ⟨3, 3, .w1c, 0⟩, ⟨4, 4, .w1c, 0⟩, ⟨5, 5, .w1c, 0⟩, ⟨6, 6, .w1c, 0⟩, ⟨7, 7, .w1c, 0⟩]⟩,
   /- LNP_INT_EN -/ ⟨0x200C0034, 1, 0x4, [⟨0, 0, .rw, 0⟩, ⟨1, 1, .rw, 0⟩, ⟨2, 2, .rw, 0⟩, ⟨3, 3, .rw, 0⟩, ⟨4, 4, .rw, 0⟩, ⟨5, 5, .rw, 0⟩, ⟨6, 6, .rw, 0⟩, ⟨7, 7, .rw, 0⟩]⟩,
   /- LNP_NFn -/ ⟨0x200C0040, 16, 0x4, [⟨7, 0, .ro, 0⟩, ⟨14, 8, .ro, 0⟩, ⟨15, 15, .ro, 0⟩, ⟨23, 16, .ro, 0⟩]⟩,
   /- LNP_LANEn -/ ⟨0x200C0200, 64, 0x4, [⟨2, 0, .ro, 0⟩, ⟨7, 3, .ro, 0⟩, ⟨10, 8, .ro, 0⟩, ⟨11, 11, .ro, 0⟩, ⟨23, 16, .ro, 0⟩]⟩,
   /- LNP_CNT_DET -/ ⟨0x200C0100, 1, 0x4, [⟨31, 0, .rc, 0⟩]⟩,
   /- LNP_CNT_SFDTO -/ ⟨0x200C0104, 1, 0x4, [⟨31, 0, .rc, 0⟩]⟩,
   /- LNP_CNT_LANEFULL -/ ⟨0x200C0108, 1, 0x4, [⟨31, 0, .rc, 0⟩]⟩,
   /- LNP_CNT_PREEMPT -/ ⟨0x200C010C, 1, 0x4, [⟨31, 0, .rc, 0⟩]⟩,
   /- LNP_CNT_CHFULL -/ ⟨0x200C0110, 1, 0x4, [⟨31, 0, .rc, 0⟩]⟩,
   /- LNP_CNT_NOSEP -/ ⟨0x200C0114, 1, 0x4, [⟨31, 0, .rc, 0⟩]⟩,
   /- LNP_CNT_CAPTURE -/ ⟨0x200C0118, 1, 0x4, [⟨31, 0, .rc, 0⟩]⟩,
   /- LNP_CNT_CORX -/ ⟨0x200C011C, 1, 0x4, [⟨31, 0, .rc, 0⟩]⟩,
   /- LNP_CNT_OK -/ ⟨0x200C0120, 1, 0x4, [⟨31, 0, .rc, 0⟩]⟩,
   /- LNP_CNT_FCS -/ ⟨0x200C0124, 1, 0x4, [⟨31, 0, .rc, 0⟩]⟩,
   /- LNP_CNT_PHR -/ ⟨0x200C0128, 1, 0x4, [⟨31, 0, .rc, 0⟩]⟩,
   /- LNP_CNT_TRUNC -/ ⟨0x200C012C, 1, 0x4, [⟨31, 0, .rc, 0⟩]⟩,
   /- LNP_CNT_OVF -/ ⟨0x200C0130, 1, 0x4, [⟨31, 0, .rc, 0⟩]⟩,
   /- LNP_CNT_TXBLANK -/ ⟨0x200C0134, 1, 0x4, [⟨31, 0, .rc, 0⟩]⟩,
   /- LNP_CNT_LOUNLK -/ ⟨0x200C0138, 1, 0x4, [⟨31, 0, .rc, 0⟩]⟩]

/-- Registers of block LNP (0x0C), part 2. -/
def rowsLnp1 : List RegRow :=
  [
/- LNP_CNT_DESENSE -/ ⟨0x200C013C, 1, 0x4, [⟨31, 0, .rc, 0⟩]⟩]

/-- Registers of block LNP (0x0C). -/
def rowsLnp : List RegRow := rowsLnp0 ++ rowsLnp1

/-- Registers of block COD (0x0D), part 1. -/
def rowsCod0 : List RegRow :=
  [
/- COD_DEC_RUN -/ ⟨0x200D0000, 1, 0x4, [⟨15, 0, .rw, 0xFFFF⟩, ⟨31, 16, .ro, 0⟩]⟩,
   /- COD_DEC_STAT -/ ⟨0x200D0004, 1, 0x4, [⟨6, 0, .ro, 0⟩]⟩,
   /- COD_DEC_OCC_LO -/ ⟨0x200D0008, 1, 0x4, [⟨2, 0, .ro, 0⟩, ⟨6, 4, .ro, 0⟩, ⟨10, 8, .ro, 0⟩, ⟨14, 12, .ro, 0⟩, ⟨18, 16, .ro, 0⟩, ⟨22, 20, .ro, 0⟩, ⟨26, 24, .ro, 0⟩, ⟨30, 28, .ro, 0⟩]⟩,
   /- COD_DEC_OCC_HI -/ ⟨0x200D000C, 1, 0x4, [⟨2, 0, .ro, 0⟩, ⟨6, 4, .ro, 0⟩, ⟨10, 8, .ro, 0⟩, ⟨14, 12, .ro, 0⟩, ⟨18, 16, .ro, 0⟩, ⟨22, 20, .ro, 0⟩, ⟨26, 24, .ro, 0⟩, ⟨30, 28, .ro, 0⟩]⟩,
   /- COD_TXCFG -/ ⟨0x200D0010, 1, 0x4, [⟨0, 0, .cl, 1⟩, ⟨1, 1, .cl, 0⟩]⟩,
   /- COD_TXLIM -/ ⟨0x200D0014, 1, 0x4, [⟨3, 0, .rw, 8⟩, ⟨11, 8, .ro, 0⟩]⟩,
   /- COD_TX_STAT -/ ⟨0x200D0018, 1, 0x4, [⟨7, 0, .ro, 0⟩, ⟨15, 8, .ro, 0⟩, ⟨23, 16, .ro, 0⟩, ⟨31, 24, .ro, 0⟩]⟩,
   /- COD_CHn -/ ⟨0x200D0020, 8, 0x4, [⟨4, 0, .ro, 0⟩, ⟨5, 5, .ro, 0⟩, ⟨10, 8, .ro, 0⟩, ⟨13, 12, .ro, 0⟩, ⟨17, 16, .ro, 0⟩]⟩,
   /- COD_INT_STAT -/ ⟨0x200D0040, 1, 0x4, [⟨0, 0, .w1c, 0⟩, ⟨1, 1, .w1c, 0⟩, ⟨2, 2, .w1c, 0⟩, ⟨3, 3, .w1c, 0⟩, ⟨4, 4, .w1c, 0⟩, ⟨5, 5, .w1c, 0⟩, ⟨6, 6, .w1c, 0⟩, ⟨7, 7, .w1c, 0⟩]⟩,
   /- COD_INT_EN -/ ⟨0x200D0044, 1, 0x4, [⟨0, 0, .rw, 0⟩, ⟨1, 1, .rw, 0⟩, ⟨2, 2, .rw, 0⟩, ⟨3, 3, .rw, 0⟩, ⟨4, 4, .rw, 0⟩, ⟨5, 5, .rw, 0⟩, ⟨6, 6, .rw, 0⟩, ⟨7, 7, .rw, 0⟩]⟩,
   /- COD_CNT_BIND -/ ⟨0x200D0100, 1, 0x4, [⟨31, 0, .rc, 0⟩]⟩,
   /- COD_CNT_NODEC -/ ⟨0x200D0104, 1, 0x4, [⟨31, 0, .rc, 0⟩]⟩,
   /- COD_CNT_DECOVF -/ ⟨0x200D0108, 1, 0x4, [⟨31, 0, .rc, 0⟩]⟩,
   /- COD_CNT_REVISE -/ ⟨0x200D010C, 1, 0x4, [⟨31, 0, .rc, 0⟩]⟩,
   /- COD_CNT_TXREQ -/ ⟨0x200D0110, 1, 0x4, [⟨31, 0, .rc, 0⟩]⟩,
   /- COD_CNT_SENT -/ ⟨0x200D0114, 1, 0x4, [⟨31, 0, .rc, 0⟩]⟩,
   /- COD_CNT_NOCHAIN -/ ⟨0x200D0118, 1, 0x4, [⟨31, 0, .rc, 0⟩]⟩,
   /- COD_CNT_DISPLACED -/ ⟨0x200D011C, 1, 0x4, [⟨31, 0, .rc, 0⟩]⟩,
   /- COD_CNT_LATE -/ ⟨0x200D0120, 1, 0x4, [⟨31, 0, .rc, 0⟩]⟩,
   /- COD_CNT_SYNTH -/ ⟨0x200D0124, 1, 0x4, [⟨31, 0, .rc, 0⟩]⟩,
   /- COD_CNT_CANCEL -/ ⟨0x200D0128, 1, 0x4, [⟨31, 0, .rc, 0⟩]⟩,
   /- COD_CNT_RETUNE -/ ⟨0x200D012C, 1, 0x4, [⟨31, 0, .rc, 0⟩]⟩]

/-- Registers of block COD (0x0D). -/
def rowsCod : List RegRow := rowsCod0

/-- Registers of block RIM (0x0E), part 1. -/
def rowsRim0 : List RegRow :=
  [
/- RIM_PORT_EN -/ ⟨0x200E0000, 1, 0x4, [⟨15, 0, .cl, 0⟩, ⟨23, 16, .cl, 0⟩]⟩,
   /- RIM_PORT_RUN -/ ⟨0x200E0004, 1, 0x4, [⟨15, 0, .rw, 0xFFFF⟩, ⟨23, 16, .rw, 0xFF⟩]⟩,
   /- RIM_FEM -/ ⟨0x200E0008, 1, 0x4, [⟨1, 0, .cl, 0⟩, ⟨3, 2, .cl, 1⟩, ⟨5, 4, .cl, 2⟩, ⟨7, 6, .cl, 3⟩, ⟨15, 8, .cl, 0x28⟩, ⟨23, 16, .cl, 0xA⟩]⟩,
   /- RIM_TXCFG -/ ⟨0x200E000C, 1, 0x4, [⟨3, 0, .cl, 2⟩, ⟨12, 8, .cl, 0x1A⟩, ⟨23, 16, .cl, 0xF⟩]⟩,
   /- RIM_AGC -/ ⟨0x200E0010, 1, 0x4, [⟨3, 0, .cl, 0xC⟩, ⟨7, 4, .cl, 4⟩, ⟨15, 8, .cl, 0xA⟩]⟩,
   /- RIM_AGC_FIX -/ ⟨0x200E0014, 1, 0x4, [⟨15, 0, .rw, 0⟩, ⟨19, 16, .rw, 8⟩]⟩,
   /- RIM_CTRL -/ ⟨0x200E0018, 1, 0x4, [⟨0, 0, .rw, 1⟩]⟩,
   /- RIM_STAT -/ ⟨0x200E001C, 1, 0x4, [⟨0, 0, .ro, 0⟩, ⟨1, 1, .ro, 0⟩, ⟨23, 16, .ro, 0⟩, ⟨31, 24, .ro, 0⟩]⟩,
   /- RIM_TXLVLn -/ ⟨0x200E0020, 8, 0x4, [⟨5, 0, .rw, 0⟩]⟩,
   /- RIM_CAL_CMD -/ ⟨0x200E0040, 1, 0x4, [⟨15, 0, .w1s, 0⟩, ⟨23, 16, .w1s, 0⟩]⟩,
   /- RIM_CAL_STAT -/ ⟨0x200E0044, 1, 0x4, [⟨15, 0, .w1c, 0⟩, ⟨23, 16, .w1c, 0⟩, ⟨24, 24, .w1c, 0⟩]⟩,
   /- RIM_GAIN_LO -/ ⟨0x200E0048, 1, 0x4, [⟨3, 0, .ro, 0⟩, ⟨7, 4, .ro, 0⟩, ⟨11, 8, .ro, 0⟩, ⟨15, 12, .ro, 0⟩, ⟨19, 16, .ro, 0⟩, ⟨23, 20, .ro, 0⟩, ⟨27, 24, .ro, 0⟩, ⟨31, 28, .ro, 0⟩]⟩,
   /- RIM_GAIN_HI -/ ⟨0x200E004C, 1, 0x4, [⟨3, 0, .ro, 0⟩, ⟨7, 4, .ro, 0⟩, ⟨11, 8, .ro, 0⟩, ⟨15, 12, .ro, 0⟩, ⟨19, 16, .ro, 0⟩, ⟨23, 20, .ro, 0⟩, ⟨27, 24, .ro, 0⟩, ⟨31, 28, .ro, 0⟩]⟩,
   /- RIM_PWRn -/ ⟨0x200E0050, 4, 0x4, [⟨7, 0, .ro, 0⟩, ⟨15, 8, .ro, 0⟩, ⟨23, 16, .ro, 0⟩, ⟨31, 24, .ro, 0⟩]⟩,
   /- RIM_FLAG -/ ⟨0x200E0060, 1, 0x4, [⟨15, 0, .w1c, 0⟩, ⟨23, 16, .w1c, 0⟩, ⟨31, 24, .w1c, 0⟩]⟩,
   /- RIM_OVF_CNTn -/ ⟨0x200E0070, 8, 0x4, [⟨15, 0, .rc, 0⟩, ⟨31, 16, .rc, 0⟩]⟩,
   /- RIM_CLIP_CNTn -/ ⟨0x200E0090, 8, 0x4, [⟨15, 0, .rc, 0⟩, ⟨31, 16, .rc, 0⟩]⟩,
   /- RIM_CAP_CTRL -/ ⟨0x200E00B0, 1, 0x4, [⟨0, 0, .w1s, 0⟩, ⟨1, 1, .w1s, 0⟩, ⟨2, 2, .w1s, 0⟩, ⟨4, 4, .rw, 0⟩, ⟨5, 5, .rw, 0⟩, ⟨31, 16, .rw, 0⟩]⟩,
   /- RIM_CAP_BASE_LO -/ ⟨0x200E00B4, 1, 0x4, [⟨31, 12, .rw, 0⟩]⟩,
   /- RIM_CAP_BASE_HI -/ ⟨0x200E00B8, 1, 0x4, [⟨7, 0, .rw, 0⟩]⟩,
   /- RIM_CAP_SIZE -/ ⟨0x200E00BC, 1, 0x4, [⟨31, 12, .rw, 1⟩]⟩,
   /- RIM_CAP_POST -/ ⟨0x200E00C0, 1, 0x4, [⟨23, 0, .rw, 0x400⟩]⟩,
   /- RIM_CAP_STAT -/ ⟨0x200E00C4, 1, 0x4, [⟨0, 0, .ro, 0⟩, ⟨1, 1, .ro, 0⟩, ⟨2, 2, .ro, 0⟩, ⟨3, 3, .ro, 0⟩, ⟨4, 4, .ro, 0⟩, ⟨5, 5, .ro, 0⟩]⟩,
   /- RIM_CAP_WRPTR -/ ⟨0x200E00C8, 1, 0x4, [⟨31, 0, .ro, 0⟩]⟩,
   /- RIM_CAP_DROP -/ ⟨0x200E00CC, 1, 0x4, [⟨31, 0, .rc, 0⟩]⟩,
   /- RIM_INT_STAT -/ ⟨0x200E00D0, 1, 0x4, [⟨0, 0, .w1c, 0⟩, ⟨1, 1, .w1c, 0⟩, ⟨2, 2, .w1c, 0⟩, ⟨3, 3, .w1c, 0⟩, ⟨4, 4, .w1c, 0⟩, ⟨5, 5, .w1c, 0⟩, ⟨6, 6, .w1c, 0⟩, ⟨7, 7, .w1c, 0⟩]⟩,
   /- RIM_INT_EN -/ ⟨0x200E00D4, 1, 0x4, [⟨0, 0, .rw, 0⟩, ⟨1, 1, .rw, 0⟩, ⟨2, 2, .rw, 0⟩, ⟨3, 3, .rw, 0⟩, ⟨4, 4, .rw, 0⟩, ⟨5, 5, .rw, 0⟩, ⟨6, 6, .rw, 0⟩, ⟨7, 7, .rw, 0⟩]⟩,
   /- RIM_ISOn -/ ⟨0x200E0100, 32, 0x4, [⟨7, 0, .ro, 0xFF⟩, ⟨15, 8, .ro, 0xFF⟩, ⟨23, 16, .ro, 0xFF⟩, ⟨31, 24, .ro, 0xFF⟩]⟩]

/-- Registers of block RIM (0x0E). -/
def rowsRim : List RegRow := rowsRim0

/-- Registers of block SHF (0x0F), part 1. -/
def rowsShf0 : List RegRow :=
  [
/- SHF_CTRL -/ ⟨0x200F0000, 1, 0x4, [⟨0, 0, .w1s, 0⟩]⟩,
   /- SHF_CFG -/ ⟨0x200F0004, 1, 0x4, [⟨5, 0, .cl, 0xF⟩, ⟨10, 8, .cl, 0⟩, ⟨26, 16, .cl, 0x578⟩]⟩,
   /- SHF_FLOWCFG -/ ⟨0x200F0008, 1, 0x4, [⟨16, 0, .cl, 0x10000⟩, ⟨31, 24, .cl, 0x1E⟩]⟩,
   /- SHF_FLOWBASE -/ ⟨0x200F000C, 1, 0x4, [⟨15, 0, .cl, 0⟩]⟩,
   /- SHF_INBASE -/ ⟨0x200F0010, 1, 0x4, [⟨15, 0, .cl, 0⟩]⟩,
   /- SHF_STAT -/ ⟨0x200F0014, 1, 0x4, [⟨16, 0, .ro, 0⟩, ⟨31, 18, .ro, 0⟩]⟩,
   /- SHF_RTAG -/ ⟨0x200F0018, 1, 0x4, [⟨15, 0, .cl, 0⟩, ⟨26, 16, .cl, 0⟩]⟩,
   /- SHF_RULE_SEL -/ ⟨0x200F001C, 1, 0x4, [⟨9, 0, .rw, 0⟩, ⟨13, 10, .rw, 0⟩]⟩,
   /- SHF_RULE_DATA -/ ⟨0x200F0020, 1, 0x4, [⟨31, 0, .ro, 0⟩]⟩,
   /- SHF_PENDQ -/ ⟨0x200F0024, 1, 0x4, [⟨15, 0, .ro, 0⟩]⟩,
   /- SHF_INT_STAT -/ ⟨0x200F0030, 1, 0x4, [⟨0, 0, .w1c, 0⟩, ⟨1, 1, .w1c, 0⟩, ⟨2, 2, .w1c, 0⟩, ⟨3, 3, .w1c, 0⟩, ⟨4, 4, .w1c, 0⟩, ⟨5, 5, .w1c, 0⟩, ⟨6, 6, .w1c, 0⟩, ⟨7, 7, .w1c, 0⟩]⟩,
   /- SHF_INT_EN -/ ⟨0x200F0034, 1, 0x4, [⟨0, 0, .rw, 0⟩, ⟨1, 1, .rw, 0⟩, ⟨2, 2, .rw, 0⟩, ⟨3, 3, .rw, 0⟩, ⟨4, 4, .rw, 0⟩, ⟨5, 5, .rw, 0⟩, ⟨6, 6, .rw, 0⟩, ⟨7, 7, .rw, 0⟩]⟩,
   /- SHF_CLSn -/ ⟨0x200F0040, 16, 0x4, [⟨15, 0, .rw, 0x3E8⟩]⟩,
   /- SHF_BSEQn -/ ⟨0x200F0080, 16, 0x4, [⟨31, 0, .ro, 0⟩]⟩,
   /- SHF_CNT_IN -/ ⟨0x200F0100, 1, 0x4, [⟨31, 0, .rc, 0⟩]⟩,
   /- SHF_CNT_RAW -/ ⟨0x200F0104, 1, 0x4, [⟨31, 0, .rc, 0⟩]⟩,
   /- SHF_CNT_DISCARD -/ ⟨0x200F0108, 1, 0x4, [⟨31, 0, .rc, 0⟩]⟩,
   /- SHF_CNT_NOMATCH -/ ⟨0x200F010C, 1, 0x4, [⟨31, 0, .rc, 0⟩]⟩,
   /- SHF_CNT_NOFLOW -/ ⟨0x200F0110, 1, 0x4, [⟨31, 0, .rc, 0⟩]⟩,
   /- SHF_CNT_SHAPE -/ ⟨0x200F0114, 1, 0x4, [⟨31, 0, .rc, 0⟩]⟩,
   /- SHF_CNT_BIG -/ ⟨0x200F0118, 1, 0x4, [⟨31, 0, .rc, 0⟩]⟩,
   /- SHF_CNT_ANCHOR -/ ⟨0x200F011C, 1, 0x4, [⟨31, 0, .rc, 0⟩]⟩,
   /- SHF_CNT_DELTA -/ ⟨0x200F0120, 1, 0x4, [⟨31, 0, .rc, 0⟩]⟩,
   /- SHF_CNT_ESCAPE -/ ⟨0x200F0124, 1, 0x4, [⟨31, 0, .rc, 0⟩]⟩,
   /- SHF_CNT_SUMMARY -/ ⟨0x200F0128, 1, 0x4, [⟨31, 0, .rc, 0⟩]⟩,
   /- SHF_CNT_BATCH -/ ⟨0x200F012C, 1, 0x4, [⟨31, 0, .rc, 0⟩]⟩,
   /- SHF_CNT_BDROP -/ ⟨0x200F0130, 1, 0x4, [⟨31, 0, .rc, 0⟩]⟩,
   /- SHF_CNT_LOST -/ ⟨0x200F0134, 1, 0x4, [⟨31, 0, .rc, 0⟩]⟩,
   /- SHF_CNT_EVICT -/ ⟨0x200F0138, 1, 0x4, [⟨31, 0, .rc, 0⟩]⟩]

/-- Registers of block SHF (0x0F). -/
def rowsShf : List RegRow := rowsShf0

/-- Registers of block UPL (0x10), part 1. -/
def rowsUpl0 : List RegRow :=
  [
/- UPL_CTRL -/ ⟨0x20100000, 1, 0x4, [⟨1, 0, .rw, 3⟩, ⟨2, 2, .w1s, 0⟩]⟩,
   /- UPL_CFG -/ ⟨0x20100004, 1, 0x4, [⟨1, 0, .cl, 1⟩, ⟨3, 2, .cl, 1⟩, ⟨4, 4, .cl, 0⟩, ⟨5, 5, .cl, 0⟩, ⟨6, 6, .cl, 1⟩, ⟨7, 7, .cl, 0⟩, ⟨8, 8, .cl, 0⟩, ⟨23, 16, .cl, 0x40⟩, ⟨29, 24, .cl, 0⟩]⟩,
   /- UPL_VLAN -/ ⟨0x20100008, 1, 0x4, [⟨11, 0, .cl, 0⟩, ⟨14, 12, .cl, 0⟩, ⟨18, 16, .cl, 0⟩, ⟨22, 20, .cl, 0⟩]⟩,
   /- UPL_UDP -/ ⟨0x2010000C, 1, 0x4, [⟨15, 0, .cl, 0xBC8E⟩, ⟨31, 16, .cl, 0xBC8E⟩]⟩,
   /- UPL_MAC_LO -/ ⟨0x20100010, 1, 0x4, [⟨31, 0, .cl, 0⟩]⟩,
   /- UPL_MAC_HI -/ ⟨0x20100014, 1, 0x4, [⟨15, 0, .cl, 0⟩]⟩,
   /- UPL_DEVIPn -/ ⟨0x20100018, 4, 0x4, [⟨31, 0, .cl, 0⟩]⟩,
   /- UPL_SVCIPn -/ ⟨0x20100028, 4, 0x4, [⟨31, 0, .cl, 0⟩]⟩,
   /- UPL_RIPn -/ ⟨0x20100038, 4, 0x4, [⟨31, 0, .cl, 0⟩]⟩,
   /- UPL_GWIPn -/ ⟨0x20100048, 4, 0x4, [⟨31, 0, .cl, 0⟩]⟩,
   /- UPL_PREFIX -/ ⟨0x20100058, 1, 0x4, [⟨7, 0, .cl, 0x18⟩]⟩,
   /- UPL_TIME -/ ⟨0x2010005C, 1, 0x4, [⟨7, 0, .cl, 0x32⟩, ⟨15, 8, .cl, 0x64⟩, ⟨23, 16, .cl, 0x3C⟩]⟩,
   /- UPL_SYSID -/ ⟨0x20100060, 1, 0x4, [⟨15, 0, .cl, 0⟩]⟩,
   /- UPL_STAT -/ ⟨0x20100064, 1, 0x4, [⟨1, 0, .ro, 0⟩, ⟨2, 2, .ro, 0⟩, ⟨3, 3, .ro, 0⟩, ⟨4, 4, .ro, 0⟩, ⟨14, 8, .ro, 0⟩, ⟨17, 16, .ro, 0⟩, ⟨19, 18, .ro, 0⟩]⟩,
   /- UPL_NH_LO -/ ⟨0x20100068, 1, 0x4, [⟨31, 0, .ro, 0⟩]⟩,
   /- UPL_NH_HI -/ ⟨0x2010006C, 1, 0x4, [⟨15, 0, .ro, 0⟩]⟩,
   /- UPL_INT_STAT -/ ⟨0x20100070, 1, 0x4, [⟨0, 0, .w1c, 0⟩, ⟨1, 1, .w1c, 0⟩, ⟨2, 2, .w1c, 0⟩, ⟨3, 3, .w1c, 0⟩, ⟨4, 4, .w1c, 0⟩, ⟨5, 5, .w1c, 0⟩, ⟨6, 6, .w1c, 0⟩, ⟨7, 7, .w1c, 0⟩, ⟨8, 8, .w1c, 0⟩, ⟨9, 9, .w1c, 0⟩, ⟨10, 10, .w1c, 0⟩, ⟨11, 11, .w1c, 0⟩, ⟨12, 12, .w1c, 0⟩, ⟨13, 13, .w1c, 0⟩, ⟨14, 14, .w1c, 0⟩, ⟨15, 15, .w1c, 0⟩]⟩,
   /- UPL_INT_EN -/ ⟨0x20100074, 1, 0x4, [⟨0, 0, .rw, 0⟩, ⟨1, 1, .rw, 0⟩, ⟨2, 2, .rw, 0⟩, ⟨3, 3, .rw, 0⟩, ⟨4, 4, .rw, 0⟩, ⟨5, 5, .rw, 0⟩, ⟨6, 6, .rw, 0⟩, ⟨7, 7, .rw, 0⟩, ⟨8, 8, .rw, 0⟩, ⟨9, 9, .rw, 0⟩, ⟨10, 10, .rw, 0⟩, ⟨11, 11, .rw, 0⟩, ⟨12, 12, .rw, 0⟩, ⟨13, 13, .rw, 0⟩, ⟨14, 14, .rw, 0⟩, ⟨15, 15, .rw, 0⟩]⟩,
   /- UPL_MDIOp_CMD -/ ⟨0x20100080, 2, 0x10, [⟨4, 0, .rw, 0⟩, ⟨9, 5, .rw, 0⟩, ⟨11, 10, .rw, 0⟩, ⟨12, 12, .rw, 0⟩, ⟨21, 16, .rw, 0x3F⟩, ⟨31, 31, .w1s, 0⟩]⟩,
   /- UPL_MDIOp_DATA -/ ⟨0x20100084, 2, 0x10, [⟨15, 0, .rw, 0⟩]⟩,
   /- UPL_PTP_CFG -/ ⟨0x20100200, 1, 0x4, [⟨7, 0, .cl, 0⟩, ⟨9, 8, .cl, 0⟩, ⟨19, 16, .cl, 4⟩, ⟨20, 20, .cl, 0⟩]⟩,
   /- UPL_PTP_SERVO -/ ⟨0x20100204, 1, 0x4, [⟨7, 0, .cl, 0x80⟩, ⟨15, 8, .cl, 0x10⟩, ⟨31, 16, .cl, 0x1F4⟩]⟩,
   /- UPL_PTP_ASYM -/ ⟨0x20100208, 1, 0x4, [⟨15, 0, .cl, 0⟩, ⟨31, 16, .cl, 0⟩]⟩,
   /- UPL_PTP_STAT -/ ⟨0x2010020C, 1, 0x4, [⟨3, 0, .ro, 0⟩, ⟨4, 4, .ro, 0⟩, ⟨7, 5, .ro, 0⟩, ⟨31, 16, .ro, 0⟩]⟩,
   /- UPL_PTP_GM_LO -/ ⟨0x20100210, 1, 0x4, [⟨31, 0, .ro, 0⟩]⟩,
   /- UPL_PTP_GM_HI -/ ⟨0x20100214, 1, 0x4, [⟨31, 0, .ro, 0⟩]⟩,
   /- UPL_PTP_PAR_LO -/ ⟨0x20100218, 1, 0x4, [⟨31, 0, .ro, 0⟩]⟩,
   /- UPL_PTP_PAR_HI -/ ⟨0x2010021C, 1, 0x4, [⟨31, 0, .ro, 0⟩]⟩,
   /- UPL_PTP_MPD -/ ⟨0x20100220, 1, 0x4, [⟨31, 0, .ro, 0⟩]⟩,
   /- UPL_PTP_FILT_LO -/ ⟨0x20100224, 1, 0x4, [⟨31, 0, .cl, 0⟩]⟩]

/-- Registers of block UPL (0x10), part 2. -/
def rowsUpl1 : List RegRow :=
  [
/- UPL_PTP_FILT_HI -/ ⟨0x20100228, 1, 0x4, [⟨31, 0, .cl, 0⟩]⟩,
   /- UPL_PTP_FILT_EN -/ ⟨0x2010022C, 1, 0x4, [⟨0, 0, .cl, 0⟩]⟩,
   /- UPL_CNT_RX0 -/ ⟨0x20100400, 1, 0x4, [⟨31, 0, .rc, 0⟩]⟩,
   /- UPL_CNT_RX1 -/ ⟨0x20100404, 1, 0x4, [⟨31, 0, .rc, 0⟩]⟩,
   /- UPL_CNT_TX0 -/ ⟨0x20100408, 1, 0x4, [⟨31, 0, .rc, 0⟩]⟩,
   /- UPL_CNT_TX1 -/ ⟨0x2010040C, 1, 0x4, [⟨31, 0, .rc, 0⟩]⟩,
   /- UPL_CNT_RXERR -/ ⟨0x20100410, 1, 0x4, [⟨31, 0, .rc, 0⟩]⟩,
   /- UPL_CNT_FILTER -/ ⟨0x20100414, 1, 0x4, [⟨31, 0, .rc, 0⟩]⟩,
   /- UPL_CNT_BADHDR -/ ⟨0x20100418, 1, 0x4, [⟨31, 0, .rc, 0⟩]⟩,
   /- UPL_CNT_DQFULL -/ ⟨0x2010041C, 1, 0x4, [⟨31, 0, .rc, 0⟩]⟩,
   /- UPL_CNT_SEGTO -/ ⟨0x20100420, 1, 0x4, [⟨31, 0, .rc, 0⟩]⟩,
   /- UPL_CNT_ORPHAN -/ ⟨0x20100424, 1, 0x4, [⟨31, 0, .rc, 0⟩]⟩,
   /- UPL_CNT_DUPSEG -/ ⟨0x20100428, 1, 0x4, [⟨31, 0, .rc, 0⟩]⟩,
   /- UPL_CNT_STALE -/ ⟨0x2010042C, 1, 0x4, [⟨31, 0, .rc, 0⟩]⟩,
   /- UPL_CNT_MODEDROP -/ ⟨0x20100430, 1, 0x4, [⟨31, 0, .rc, 0⟩]⟩,
   /- UPL_CNT_EVDROP -/ ⟨0x20100434, 1, 0x4, [⟨31, 0, .rc, 0⟩]⟩,
   /- UPL_CNT_FAILOVER -/ ⟨0x20100438, 1, 0x4, [⟨31, 0, .rc, 0⟩]⟩,
   /- UPL_CNT_DLYOUT -/ ⟨0x2010043C, 1, 0x4, [⟨31, 0, .rc, 0⟩]⟩,
   /- UPL_Qn_CFG -/ ⟨0x20101000, 64, 0x20, [⟨0, 0, .cl, 0⟩, ⟨1, 1, .cl, 0⟩, ⟨6, 2, .cl, 0⟩]⟩,
   /- UPL_Qn_BASE_LO -/ ⟨0x20101004, 64, 0x20, [⟨31, 12, .cl, 0⟩]⟩,
   /- UPL_Qn_BASE_HI -/ ⟨0x20101008, 64, 0x20, [⟨7, 0, .cl, 0⟩]⟩,
   /- UPL_Qn_DBASE_LO -/ ⟨0x2010100C, 64, 0x20, [⟨31, 12, .cl, 0⟩]⟩,
   /- UPL_Qn_DBASE_HI -/ ⟨0x20101010, 64, 0x20, [⟨7, 0, .cl, 0⟩]⟩,
   /- UPL_Qn_PI -/ ⟨0x20101014, 64, 0x20, [⟨31, 0, .rw, 0⟩]⟩,
   /- UPL_Qn_CI -/ ⟨0x20101018, 64, 0x20, [⟨31, 0, .rw, 0⟩]⟩,
   /- UPL_Qn_SEQ -/ ⟨0x2010101C, 64, 0x20, [⟨31, 0, .ro, 0⟩]⟩]

/-- Registers of block UPL (0x10). -/
def rowsUpl : List RegRow := rowsUpl0 ++ rowsUpl1

/-- Registers of block STL (0x11), part 1. -/
def rowsStl0 : List RegRow :=
  [
/- STL_CTRL -/ ⟨0x20110000, 1, 0x4, [⟨0, 0, .w1s, 0⟩]⟩,
   /- STL_CFG -/ ⟨0x20110004, 1, 0x4, [⟨0, 0, .cl, 0⟩, ⟨7, 4, .cl, 0⟩, ⟨11, 8, .cl, 3⟩, ⟨15, 12, .cl, 1⟩, ⟨23, 16, .cl, 1⟩]⟩,
   /- STL_SUP -/ ⟨0x20110008, 1, 0x4, [⟨3, 0, .cl, 0⟩, ⟨4, 4, .cl, 0⟩, ⟨15, 8, .cl, 0x14⟩]⟩,
   /- STL_COMPAT -/ ⟨0x2011000C, 1, 0x4, [⟨15, 0, .cl, 0⟩]⟩,
   /- STL_TT -/ ⟨0x20110010, 1, 0x4, [⟨7, 0, .cl, 0x80⟩, ⟨15, 8, .cl, 0x10⟩, ⟨31, 16, .cl, 0⟩]⟩,
   /- STL_STAT -/ ⟨0x20110014, 1, 0x4, [⟨1, 0, .ro, 0⟩, ⟨2, 2, .ro, 0⟩, ⟨3, 3, .ro, 0⟩, ⟨6, 4, .ro, 0⟩, ⟨7, 7, .ro, 0⟩, ⟨11, 8, .ro, 0⟩, ⟨12, 12, .ro, 0⟩, ⟨23, 16, .ro, 0⟩]⟩,
   /- STL_PEPOCH -/ ⟨0x20110018, 1, 0x4, [⟨31, 0, .ro, 0⟩]⟩,
   /- STL_PEER_EUI_LO -/ ⟨0x2011001C, 1, 0x4, [⟨31, 0, .ro, 0⟩]⟩,
   /- STL_PEER_EUI_HI -/ ⟨0x20110020, 1, 0x4, [⟨31, 0, .ro, 0⟩]⟩,
   /- STL_MSEQ -/ ⟨0x20110024, 1, 0x4, [⟨31, 0, .ro, 0⟩]⟩,
   /- STL_MACK -/ ⟨0x20110028, 1, 0x4, [⟨31, 0, .ro, 0⟩]⟩,
   /- STL_RTT -/ ⟨0x2011002C, 1, 0x4, [⟨15, 0, .ro, 0⟩, ⟨31, 16, .rc, 0⟩]⟩,
   /- STL_OFFSET -/ ⟨0x20110030, 1, 0x4, [⟨31, 0, .ro, 0⟩]⟩,
   /- STL_JOIN -/ ⟨0x20110034, 1, 0x4, [⟨23, 0, .ro, 0⟩]⟩,
   /- STL_DETACH -/ ⟨0x20110038, 1, 0x4, [⟨31, 0, .ro, 0⟩]⟩,
   /- STL_INT_STAT -/ ⟨0x20110040, 1, 0x4, [⟨0, 0, .w1c, 0⟩, ⟨1, 1, .w1c, 0⟩, ⟨2, 2, .w1c, 0⟩, ⟨3, 3, .w1c, 0⟩, ⟨4, 4, .w1c, 0⟩, ⟨5, 5, .w1c, 0⟩, ⟨6, 6, .w1c, 0⟩, ⟨7, 7, .w1c, 0⟩, ⟨8, 8, .w1c, 0⟩, ⟨9, 9, .w1c, 0⟩, ⟨10, 10, .w1c, 0⟩, ⟨11, 11, .w1c, 0⟩, ⟨12, 12, .w1c, 0⟩, ⟨13, 13, .w1c, 0⟩]⟩,
   /- STL_INT_EN -/ ⟨0x20110044, 1, 0x4, [⟨0, 0, .rw, 0⟩, ⟨1, 1, .rw, 0⟩, ⟨2, 2, .rw, 0⟩, ⟨3, 3, .rw, 0⟩, ⟨4, 4, .rw, 0⟩, ⟨5, 5, .rw, 0⟩, ⟨6, 6, .rw, 0⟩, ⟨7, 7, .rw, 0⟩, ⟨8, 8, .rw, 0⟩, ⟨9, 9, .rw, 0⟩, ⟨10, 10, .rw, 0⟩, ⟨11, 11, .rw, 0⟩, ⟨12, 12, .rw, 0⟩, ⟨13, 13, .rw, 0⟩]⟩,
   /- STL_CNT_CRCERR -/ ⟨0x20110100, 1, 0x4, [⟨31, 0, .rc, 0⟩]⟩,
   /- STL_CNT_RESEND -/ ⟨0x20110104, 1, 0x4, [⟨31, 0, .rc, 0⟩]⟩,
   /- STL_CNT_LANELOSS -/ ⟨0x20110108, 1, 0x4, [⟨31, 0, .rc, 0⟩]⟩,
   /- STL_CNT_LINKLOSS -/ ⟨0x2011010C, 1, 0x4, [⟨31, 0, .rc, 0⟩]⟩,
   /- STL_CNT_COMMIT -/ ⟨0x20110110, 1, 0x4, [⟨31, 0, .rc, 0⟩]⟩,
   /- STL_CNT_DIVERGE -/ ⟨0x20110114, 1, 0x4, [⟨31, 0, .rc, 0⟩]⟩,
   /- STL_CNT_SUPMISS -/ ⟨0x20110118, 1, 0x4, [⟨31, 0, .rc, 0⟩]⟩,
   /- STL_CNT_TAKEOVER -/ ⟨0x2011011C, 1, 0x4, [⟨31, 0, .rc, 0⟩]⟩,
   /- STL_CNT_HANDOVER -/ ⟨0x20110120, 1, 0x4, [⟨31, 0, .rc, 0⟩]⟩,
   /- STL_CNT_JOIN -/ ⟨0x20110124, 1, 0x4, [⟨31, 0, .rc, 0⟩]⟩]

/-- Registers of block STL (0x11). -/
def rowsStl : List RegRow := rowsStl0

/-- Registers of block TIM (0x12), part 1. -/
def rowsTim0 : List RegRow :=
  [
/- TIM_CTRL -/ ⟨0x20120000, 1, 0x4, [⟨1, 0, .rw, 3⟩]⟩,
   /- TIM_LOCKCFG -/ ⟨0x20120004, 1, 0x4, [⟨15, 0, .cl, 0x64⟩, ⟨31, 16, .cl, 0x3E8⟩]⟩,
   /- TIM_COAST -/ ⟨0x20120008, 1, 0x4, [⟨15, 0, .cl, 0x3C⟩, ⟨19, 16, .cl, 8⟩]⟩,
   /- TIM_STAT -/ ⟨0x2012000C, 1, 0x4, [⟨1, 0, .ro, 0⟩, ⟨2, 2, .ro, 0⟩, ⟨4, 3, .ro, 0⟩, ⟨5, 5, .ro, 0⟩, ⟨6, 6, .ro, 0⟩]⟩,
   /- TIM_TS_LO -/ ⟨0x20120010, 1, 0x4, [⟨31, 0, .ro, 0⟩]⟩,
   /- TIM_TS_HI -/ ⟨0x20120014, 1, 0x4, [⟨31, 0, .ro, 0⟩]⟩,
   /- TIM_STEP_LO -/ ⟨0x20120018, 1, 0x4, [⟨31, 0, .rw, 0⟩]⟩,
   /- TIM_STEP_HI -/ ⟨0x2012001C, 1, 0x4, [⟨31, 0, .rw, 0⟩]⟩,
   /- TIM_STEP_CMD -/ ⟨0x20120020, 1, 0x4, [⟨0, 0, .w1s, 0⟩, ⟨1, 1, .w1c, 0⟩]⟩,
   /- TIM_RATE -/ ⟨0x20120024, 1, 0x4, [⟨31, 0, .rw, 0⟩]⟩,
   /- TIM_OFFSET -/ ⟨0x20120028, 1, 0x4, [⟨31, 0, .ro, 0⟩]⟩,
   /- TIM_CAP_LO -/ ⟨0x2012002C, 1, 0x4, [⟨31, 0, .ro, 0⟩]⟩,
   /- TIM_CAP_HI -/ ⟨0x20120030, 1, 0x4, [⟨31, 0, .ro, 0⟩]⟩,
   /- TIM_INT_STAT -/ ⟨0x20120034, 1, 0x4, [⟨0, 0, .w1c, 0⟩, ⟨1, 1, .w1c, 0⟩, ⟨2, 2, .w1c, 0⟩, ⟨3, 3, .w1c, 0⟩, ⟨4, 4, .w1c, 0⟩]⟩,
   /- TIM_INT_EN -/ ⟨0x20120038, 1, 0x4, [⟨0, 0, .rw, 0⟩, ⟨1, 1, .rw, 0⟩, ⟨2, 2, .rw, 0⟩, ⟨3, 3, .rw, 0⟩, ⟨4, 4, .rw, 0⟩]⟩,
   /- TIM_CNT -/ ⟨0x2012003C, 1, 0x4, [⟨7, 0, .rc, 0⟩, ⟨15, 8, .rc, 0⟩, ⟨23, 16, .rc, 0⟩]⟩]

/-- Registers of block TIM (0x12). -/
def rowsTim : List RegRow := rowsTim0

/-- Registers of block APP (0x13), part 1. -/
def rowsApp0 : List RegRow :=
  [
/- APP_BOOT -/ ⟨0x20130000, 1, 0x4, [⟨20, 2, .cl, 0⟩]⟩,
   /- APP_DRAMWIN -/ ⟨0x20130004, 1, 0x4, [⟨4, 0, .rwl, 0⟩, ⟨31, 31, .w1s, 0⟩]⟩,
   /- APP_STAT -/ ⟨0x20130008, 1, 0x4, [⟨1, 0, .ro, 0⟩, ⟨3, 2, .ro, 0⟩, ⟨4, 4, .ro, 0⟩]⟩,
   /- APP_MSIP -/ ⟨0x2013000C, 1, 0x4, [⟨0, 0, .rw, 0⟩, ⟨1, 1, .rw, 0⟩]⟩,
   /- APP_SWIRQ -/ ⟨0x20130010, 1, 0x4, [⟨7, 0, .w1s, 0⟩]⟩,
   /- APP_INT_STAT -/ ⟨0x20130014, 1, 0x4, [⟨0, 0, .w1c, 0⟩, ⟨1, 1, .w1c, 0⟩, ⟨2, 2, .w1c, 0⟩, ⟨3, 3, .w1c, 0⟩, ⟨4, 4, .w1c, 0⟩, ⟨5, 5, .w1c, 0⟩, ⟨6, 6, .w1c, 0⟩, ⟨7, 7, .w1c, 0⟩, ⟨8, 8, .w1c, 0⟩, ⟨9, 9, .w1c, 0⟩, ⟨10, 10, .w1c, 0⟩]⟩,
   /- APP_INT_EN -/ ⟨0x20130018, 1, 0x4, [⟨8, 8, .rw, 0⟩, ⟨9, 9, .rw, 0⟩, ⟨10, 10, .rw, 0⟩]⟩,
   /- APP_MTIMECMP0_LO -/ ⟨0x20130020, 1, 0x4, [⟨31, 0, .rw, 0xFFFFFFFF⟩]⟩,
   /- APP_MTIMECMP0_HI -/ ⟨0x20130024, 1, 0x4, [⟨31, 0, .rw, 0xFFFFFFFF⟩]⟩,
   /- APP_MTIMECMP1_LO -/ ⟨0x20130028, 1, 0x4, [⟨31, 0, .rw, 0xFFFFFFFF⟩]⟩,
   /- APP_MTIMECMP1_HI -/ ⟨0x2013002C, 1, 0x4, [⟨31, 0, .rw, 0xFFFFFFFF⟩]⟩,
   /- APP_ECC_CNT -/ ⟨0x20130030, 1, 0x4, [⟨15, 0, .rc, 0⟩, ⟨31, 16, .rc, 0⟩]⟩,
   /- APP_ECC_LOG -/ ⟨0x20130034, 1, 0x4, [⟨18, 0, .ro, 0⟩, ⟨19, 19, .w1c, 0⟩, ⟨31, 31, .w1c, 0⟩]⟩,
   /- APP_FW_ADDR_LO -/ ⟨0x20130040, 1, 0x4, [⟨31, 0, .ro, 0⟩]⟩,
   /- APP_FW_INFO -/ ⟨0x20130044, 1, 0x4, [⟨7, 0, .ro, 0⟩, ⟨11, 8, .ro, 0⟩, ⟨12, 12, .ro, 0⟩, ⟨13, 13, .ro, 0⟩, ⟨17, 14, .ro, 0⟩, ⟨31, 31, .w1c, 0⟩]⟩,
   /- APP_FW_CNT -/ ⟨0x20130048, 1, 0x4, [⟨31, 0, .rc, 0⟩]⟩,
   /- APP_FWn_BASE_LO -/ ⟨0x20130080, 8, 0x10, [⟨31, 12, .cl, 0⟩]⟩,
   /- APP_FWn_BASE_HI -/ ⟨0x20130084, 8, 0x10, [⟨7, 0, .cl, 0⟩]⟩,
   /- APP_FWn_SIZE -/ ⟨0x20130088, 8, 0x10, [⟨27, 0, .cl, 0⟩]⟩,
   /- APP_FWn_ATTR -/ ⟨0x2013008C, 8, 0x10, [⟨7, 0, .cl, 0⟩, ⟨15, 8, .cl, 0⟩, ⟨16, 16, .cl, 0⟩, ⟨31, 31, .cl, 0⟩]⟩]

/-- Registers of block APP (0x13). -/
def rowsApp : List RegRow := rowsApp0

/-- The register rows of a block number (R5); blocks 0x14 and above are unassigned. -/
def blockRows (block : Nat) : List RegRow :=
  match block with
  | 0 => rowsCap
  | 1 => rowsPwr
  | 2 => rowsBkp
  | 3 => rowsLpw
  | 4 => rowsCfg
  | 5 => rowsFls
  | 6 => rowsJnl
  | 7 => rowsHdg
  | 8 => rowsDmc
  | 9 => rowsSec
  | 10 => rowsCtx
  | 11 => rowsLnk
  | 12 => rowsLnp
  | 13 => rowsCod
  | 14 => rowsRim
  | 15 => rowsShf
  | 16 => rowsUpl
  | 17 => rowsStl
  | 18 => rowsTim
  | 19 => rowsApp
  | _ => []

/-- The block number of a register address (R5). -/
def blockOf (a : Nat) : Nat := (a - 0x20000000) / 0x10000

/-- Whether an address is one of a row's instances. -/
def RegRow.covers (r : RegRow) (a : Nat) : Bool :=
  decide (r.addr ≤ a) && decide ((a - r.addr) % r.stride = 0) && decide ((a - r.addr) / r.stride < r.count)

/-- The row of the register at an address, if a register is assigned there (R8). -/
def regRow (a : Nat) : Option RegRow :=
  if a < 0x20000000 then none else (blockRows (blockOf a)).find? (fun r => r.covers a)

/-- The instance number of an address in its row. -/
def RegRow.index (r : RegRow) (a : Nat) : Nat := (a - r.addr) / r.stride

/-- The value a row's fields give a register at reset. -/
def RegRow.resetValue (r : RegRow) : Nat := r.fields.foldl (fun v f => v + f.reset * 2 ^ f.lo) 0

/-- The default TARGET of a DRAM port, in 0.1 µs (R407). -/
def portTargetReset (port : Nat) : Nat :=
  match port with
  | 0 => 12
  | 1 => 500
  | 2 => 200
  | 3 => 100
  | 4 => 500
  | 5 => 200
  | 6 => 50
  | 7 => 1000
  | _ => 0

/-- Registers whose reset value depends on the instance: PWR_CANARYn.CLASS is 1 for sites 0, 1 and 3 and 2 for the
others; every AGC starts at GAIN 8 (R76); page 7's PGn_OWNER reads 0xF4; the targets of DMC_PORTn are those of R407. -/
def instanceReset (a : Nat) : Option Nat :=
  if 0x20010420 ≤ a ∧ a ≤ 0x2001043C then
    let site := (a - 0x20010420) / 4
    some (if site = 0 ∨ site = 1 ∨ site = 3 then 0x1FF00 else 0x2FF00)
  else if a = 0x200E0048 ∨ a = 0x200E004C then some 0x88888888
  else if a = 0x2009F064 then some 0xF4
  else if 0x20080040 ≤ a ∧ a ≤ 0x2008005C then
    some (portTargetReset ((a - 0x20080040) / 4))
  else none

/-- The value of a register at the end of RESET (R13). DESIGN CHOICE, unsafe: log 3. -/
def resetWord (a : Nat) : Word :=
  match instanceReset a with
  | some v => BitVec.ofNat 32 v
  | none =>
    match regRow a with
    | some r => BitVec.ofNat 32 r.resetValue
    | none => 0

end Sys2Proof.Machine
end

