-- ==== Sys2Proof/Machine/Sparse.lean ====
section
/-!
DEFINITION. Sparse maps: a list of (key, value) pairs over a default. One canonical form: keys strictly
rising and no entry equal to what an unlisted key reads as, so that equal contents are equal data.
The registers, the DRAM, the flash and the SRAMs are held in this form.
-/

namespace Sys2Proof.Sparse

variable {α : Type}

/-- What key `a` holds: its entry, or the default of an unlisted key. -/
def get (d : Nat → α) (m : List (Nat × α)) (a : Nat) : α :=
  match m.find? (fun e => e.1 == a) with
  | some e => e.2
  | none => d a

/-- Put an entry at its place in key order. -/
def place (a : Nat) (v : α) : List (Nat × α) → List (Nat × α)
  | [] => [(a, v)]
  | e :: t => if a < e.1 then (a, v) :: e :: t else e :: place a v t

/-- Write `v` at key `a`. Writing the default removes the entry. -/
def put [DecidableEq α] (d : Nat → α) (m : List (Nat × α)) (a : Nat) (v : α) : List (Nat × α) :=
  let rest := m.filter (fun e => e.1 != a)
  if v = d a then rest else place a v rest

/-- The canonical form, as a Boolean: keys strictly rising, no entry equal to the default. -/
def wf [DecidableEq α] (d : Nat → α) : List (Nat × α) → Bool
  | [] => true
  | [e] => decide (e.2 ≠ d e.1)
  | e :: f :: t => decide (e.1 < f.1) && decide (e.2 ≠ d e.1) && wf d (f :: t)

/-- Remove the entries whose key the test admits (their keys then read as the default). -/
def erase (m : List (Nat × α)) (p : Nat → Bool) : List (Nat × α) :=
  m.filter (fun e => ! p e.1)

/-- Write a run of values from key `a` upwards. -/
def putRun [DecidableEq α] (d : Nat → α) (m : List (Nat × α)) (a : Nat) : List α → List (Nat × α)
  | [] => m
  | v :: vs => putRun d (put d m a v) (a + 1) vs

/-- Read `n` values from key `a` upwards. -/
def getRun (d : Nat → α) (m : List (Nat × α)) (a : Nat) : Nat → List α
  | 0 => []
  | n + 1 => get d m a :: getRun d m (a + 1) n

end Sys2Proof.Sparse
end

