-- ==== Sys2Proof/Machine/State.lean ====
section
/-!
DEFINITION. The state of the WV-5280: plain data, holding everything the manual gives the part. The registers stand in one
sparse map under their addresses (Machine/RegTable.lean gives their reset values); everything else stands in one record
per block.
-/

namespace Sys2Proof.Machine

/-- The block raises no fault of its own: every case the manual names ends in an error response, a flag or a reset, which
are next states. The type is empty, so that no step can end in a fault. -/
inductive Fault where
  deriving DecidableEq, Repr

/-- Why a command is given no meaning. -/
inductive Refusal where
  /-- The command has no meaning yet; raised only by an arm of `exec`. Safe: the machine stops. -/
  | notModelled (mnemonic : String)
  deriving DecidableEq, Repr

/-- The three ordering variants (R1). -/
inductive Variant where
  | wv5280 | wv5264 | wv5248
  deriving DecidableEq, Repr

/-- The twelve modes of `LPW_MODE` (R32). -/
inductive Mode where
  | reset | load | selftest | solo | primary | standby | takeover | holdover | lastgasp | update | safe | maker
  deriving DecidableEq, Repr

/-! ### Chapter 02: the time rim and the voltage loop -/

/-- The states of the time rim (R66). -/
inductive TimState where
  | free | acq | locked | coast
  deriving DecidableEq, Repr

/-- The discipline sources (R69). -/
inductive TimSource where
  | none | ptp | stile
  deriving DecidableEq, Repr

/-- The time rim. `acc` is the 64.40-bit accumulator of R64; `good` and `bad` count consecutive measurements (R67);
`lastMeas` and `coastFrom` are instants in timebase cycles; `secFired` and `milliFired` count the multiples already
fired (R72). -/
structure Tim where
  running : Bool
  acc : Nat
  st : TimState
  src : TimSource
  good : Nat
  bad : Nat
  lastMeas : Nat
  coastFrom : Nat
  pllLock : Bool
  tcxoOk : Bool
  secFired : Nat
  milliFired : Nat
  /-- The servo's integral term i of R351, in units of 2^−16 ppb. -/
  integ : Int
  deriving DecidableEq, Repr

/-- The states of the voltage loop, as `PWR_VL_STAT.STATE` codes them. -/
inductive VoltState where
  | idle | hold | down | up | emerg | frozen | fixed
  deriving DecidableEq, Repr

/-- The PMBus commands the loop uses (R45). -/
inductive PmbusCmd where
  | operation | clearFaults | voutMode | voutCommand | statusWord | readVout
  deriving DecidableEq, Repr

/-- One PMBus transaction the loop has put on the bus: the command, its data word and whether it carries PEC (R45). -/
structure PmbusTx where
  cmd : PmbusCmd
  data : Nat
  pec : Bool
  deriving DecidableEq, Repr

/-- The voltage loop. `expo` is the exponent N of VOUT_MODE (R46); `inflight` is the code of the VOUT_COMMAND write in
flight; `next` is the code of the command that waits for it, with the state it puts the loop in (R52, R53);
`dwellFrom` is when the dwell timer last restarted (R50); `checkAt` is the instant of the next scheduled readback check
(R54) and `alert` the instant PMB_ALERT_N was last asserted without a check since; `bus` is what the loop has sent,
latest first, as far back as the loop's last start. -/
structure Volt where
  state : VoltState
  code : Nat
  expo : Int
  inflight : Option Nat
  next : Option (Nat × VoltState)
  dwellFrom : Nat
  checkAt : Option Nat
  alert : Option Nat
  bus : List PmbusTx
  deriving DecidableEq, Repr


/-! ### Chapter 13: Hedgerow -/

/-- An event on its way from its producer to the channels: its identifier, hop count (R390), producer (a block number, or
256 + an initiator for its fires, R387) and place in the order produced. -/
structure HdgEvent where
  id : Nat
  hop : Nat
  producer : Nat
  seq : Nat
  deriving DecidableEq, Repr

/-- An accepted event pending in a channel, with the destinations in force at its arrival (R385). -/
structure HdgHeld where
  ch : Nat
  producer : Nat
  seq : Nat
  hop : Nat
  ts : Nat
  lock : Bool
  sw : Bool
  dests : List Nat
  deriving DecidableEq, Repr

/-- A leg of a fork that waits at its task input behind an earlier event of the same producer (R387). -/
structure HdgLeg where
  task : Nat
  ch : Nat
  producer : Nat
  seq : Nat
  hop : Nat
  deriving DecidableEq, Repr

/-- A task input (R389): busy from the accepted trigger until its action has taken effect; `queued` while the accepted run
has not yet reached its block; `hop` is the run's hop count; `start` is when the run was accepted, in timebase cycles;
none where the block started it itself. -/
structure TaskInput where
  task : Nat
  busy : Bool
  queued : Bool
  hop : Nat
  start : Option Nat
  coalesce : Bool
  overrun : Bool
  ccount : Nat
  ocount : Nat
  deriving DecidableEq, Repr

/-- Hedgerow: the events not yet arrived, oldest first, the events pending in the channels, oldest first, the waiting legs
and the task inputs that are not in their reset state. -/
structure Hdg where
  seq : Nat
  emitted : List HdgEvent
  held : List HdgHeld
  legs : List HdgLeg
  tasks : List TaskInput
  /-- TS64 at the last accepted arrival of each channel that has had one, for the latch of `HDG_CHn_TS_HI`. -/
  stamps : List (Nat × Nat)
  deriving DecidableEq, Repr

/-! ### Chapter 20: the application complex and the bus -/

/-- What an access got, or that it has got nothing yet. The model's own observation of the bus: `none` before the first
access; `stalled` while the access waits (R508). -/
inductive Resp where
  | none
  | ok
  | data (w : Word)
  | octets (os : Octets)
  | error
  | stalled
  deriving DecidableEq, Repr

/-- The states of a hart, as `APP_STAT` codes them. -/
inductive HartState where
  | reset | running | held | debugHalted
  deriving DecidableEq, Repr

/-- A hart: its state, and the 64-byte block its LR reservation covers (R547), as an address divided by 64. `regs` holds its
general registers, control registers and PMP entries (R545, R549) whose values are known, under their numbers in the debug
specification's abstract register map (assumption 34). -/
structure Hart where
  state : HartState
  reservation : Option Nat
  mtip : Bool
  regs : List (Nat × Word)
  /-- The held half of a compare write (R548). -/
  cmpLo : Option Word
  /-- The address at which it left reset last (R546). -/
  entry : Option Nat
  deriving DecidableEq, Repr

/-- The PMP configuration of a hart in reset: every entry OFF and unlocked (R549). -/
def pmpOff : List (Nat × Word) := [(0x3A0, 0), (0x3A1, 0), (0x3A2, 0), (0x3A3, 0)]

/-- The application complex beside its registers: two harts, the interrupt controller's pending IDs and the IDs claimed,
each with the context that claimed it (R558), and whether an APPFW section was loaded (R546). -/
structure App where
  hart0 : Hart
  hart1 : Hart
  pendingIds : List Nat
  claimed : List (Nat × Nat)
  appfw : Bool
  throttled : Bool
  deriving DecidableEq, Repr

/-- A bus access that waits for a power domain (R508): the access, its address, the value of a register write
or what it does in the application SRAM, and when it began to stall, in timebase cycles. -/
structure Stalled where
  acc : Access
  addr : Nat
  write : Option Word
  sram : Option SramOp
  since : Nat
  /-- The domain it waits for. -/
  dom : Nat := 0
  deriving DecidableEq, Repr


/-! ### Chapter 17: the event log -/

/-- An entry of the event log (R481); `cycle` is the instant at which it reached the log. -/
structure LogEntry where
  code : Nat
  arg : Nat
  seq : Nat
  lock : Bool
  ts : Nat
  cycle : Nat
  deriving DecidableEq, Repr

/-! ### Chapter 18: power domains -/

/-- A transition of a domain: the state it goes to (0 off, 1 retention, 2 on), when it began in timebase cycles, and the
cause and initiator of a wake as `PWR_WAKESRC` codes them. `again` is the cause and initiator of a wake that must follow
an entry in progress (R505). -/
structure DomTrans where
  dom : Nat
  target : Nat
  since : Nat
  cause : Nat
  init : Nat
  again : Option (Nat × Nat)
  deriving DecidableEq, Repr

/-- The domain controller beside its registers: the transitions under way, when each domain was last used (cycles), the
members each sleep group has stopped, last stopped first (R513), and REQ and LOCKOFF saved on entry to HOLDOVER (R531). -/
structure Pwr where
  trans : List DomTrans
  lastUse : List (Nat × Nat)
  stopped : List (Nat × Nat)
  saved : List (Nat × Nat × Nat)
  /-- When each sleep group was last DONE (R515): group and timebase cycle. -/
  doneAt : List (Nat × Nat)
  deriving DecidableEq, Repr



/-! ### Chapters 03, 05 and 06: the radio rim, the lane pool and the transmit path -/

/-- The RF capture beside its registers (R98 to R101): the block counts of the ports, the ports whose next block carries
GAP, and the blocks each port still writes after the trigger. -/
structure Capture where
  counts : List (Nat × Nat)
  gapPorts : List Nat
  left : List (Nat × Nat)
  stopping : Bool
  lastGain : List (Nat × Nat)
  /-- The ports that were blanked for a sample since their last block (R98). -/
  blanked : List Nat
  /-- The hop count of the trigger taken, which the CAP_DONE of its completion carries (R390). -/
  trigHop : Nat
  deriving DecidableEq, Repr

/-- A ramp-down that a reset does not stop (R62, R81): the chain, when it began, RAMP, the largest code it may take (that of the
ramp-up it broke off) and the sample it scales, each rail's pulse sign and n. -/
structure Fade where
  chain : Nat
  since : Nat
  ramp : Nat
  top : Nat
  i : Int × Nat
  q : Int × Nat
  deriving DecidableEq, Repr

/-- The radio rim beside its registers: the ports in overflow (R57), when the receive LO lost lock (R97), whether start
calibration runs (R90), the port under RXPORT calibration and since when (R94), when a ramp-down last ended (R76), the
coefficient store (R91) and the coefficients in use, each as the instant of the calibration that gave them, by port, and by 16
plus the chain; the noise floors in dBm that start calibration measured for the channels from 11 on (R135); since when each
port's RMS has stayed far below its target, as far as known (R76); the instant at which tracking was last frozen (R92); and
the capture; when the last gap ended, from where on detection starts afresh (R58); and the ramp-downs that a reset does not stop
(R62). -/
structure Rim where
  gaps : List Nat
  loLost : Option Nat
  calibrating : Bool
  rxCal : Option (Nat × Nat)
  rampEnd : Nat
  coeffs : List (Nat × Nat)
  inUse : List (Nat × Nat)
  calnf : List Int
  lowFrom : List (Nat × Nat)
  frozenAt : Nat
  cap : Capture
  gapEnd : Option Nat
  fading : List Fade
  deriving DecidableEq, Repr

/-- The states of a lane (R142). -/
inductive LaneState where
  | idle | est | sfds | phr | psdu | lost | final | report
  deriving DecidableEq, Repr

/-- What the lookup of a lane's source node has given so far (R269): not started, under way, a hot context with its node
index, or no node. -/
inductive Look where
  | none
  | filling
  | hit (node : Nat)
  | miss
  | err
  deriving DecidableEq, Repr

/-- A demodulator lane (R142 to R156). `detected` and `lastChip` are instants in timebase cycles; `timing` is the symbol
timing modulo 16 µs in cycles; `others` are the lanes whose signatures enter its MMSE weights, with those signatures (R151);
`offset` is the carrier offset in hundredths of a ppm (R146); `sfdAt` is the end of its SFD in timebase cycles; `rho` is in
hundredths; `syms` and `soft` are what it has despread and not yet passed on; `octets` what it has streamed to the link
sequencer; `corrSum` and `corrCount` the despreading correlations (R156), in units of 2^−16. `prov` are the provisional
octets of R167 and `fin` the final ones. -/
structure Lane where
  st : LaneState
  ch : Nat
  mode : Nat
  metric : Int
  timing : Nat
  detected : Nat
  h : Sig
  ports : List Nat
  power : Int
  rssi : Int
  snr : Int
  offset : Int
  sfdts : Nat
  sfdAt : Nat
  lock : Bool
  sfd : Bool
  passed : Bool
  len : Nat
  low : Nat
  corrSum : Nat
  corrCount : Nat
  desense : Bool
  captr : Bool
  rho : Nat
  stored : Option Sig
  sigmix : Bool
  sigmove : Bool
  blend : Bool
  others : List (Nat × Sig)
  syms : List Nat
  soft : List Int
  count : Nat
  noDecoder : Bool
  prov : Octets
  fin : Octets
  octets : Octets
  look : Look
  /-- NR.PAN as the lookup read it (R282). -/
  readPan : Nat
  /-- The slots that a request for it may use, with the generations captured at its lookup (R235). -/
  gens : List (Nat × Nat)
  lookKey : Octets
  revised : Bool
  lastChip : Nat
  status : Nat
  report : Octets
  deriving DecidableEq, Repr

/-- A free lane. -/
def Lane.idle : Lane :=
  { st := .idle, ch := 0, mode := 0, metric := 0, timing := 0, detected := 0, h := [], ports := [], power := 0, rssi := 0,
    snr := 0, offset := 0, sfdts := 0, sfdAt := 0, lock := false, sfd := false, passed := false, len := 0, low := 0, corrSum := 0, corrCount := 0,
    desense := false, captr := false, rho := 0, stored := none, sigmix := false, sigmove := false, blend := false,
    others := [], syms := [], soft := [], count := 0, noDecoder := false, prov := [], fin := [], octets := [],
    look := .none, readPan := 0, gens := [], lookKey := [], revised := false, lastChip := 0, status := 0, report := [] }

/-- The noise floor of a channel (R135): the estimates so far, their sum, and the floor, in units of 2^−16 dBm. -/
structure NoiseFloor where
  count : Nat
  sum : Int
  nf : Int
  deriving DecidableEq, Repr

/-- The lane pool beside its registers: the lanes that are not idle, the noise floors, the grid window last closed, the
channels on which something disturbed the window in progress (R135), when a desense interval last ended on each channel that
it only desensed (R88) and on each that it desensed at all, and when a lane last left EST to FINAL on each channel (R207). -/
structure Lnp where
  lanes : List (Nat × Lane)
  floors : List (Nat × NoiseFloor)
  window : Nat
  disturbed : List Nat
  stepped : Bool
  desEnd : List (Nat × Nat)
  desAll : List (Nat × Nat)
  csEnd : List (Nat × Nat)
  deriving DecidableEq, Repr

/-- A lane context of a trellis decoder (R161 to R168): the blocks waiting in its input buffer, each with the instant it was
complete, soft values read but not yet a whole trellis step, the path metrics (12 bits), the decisions of the steps so far, latest
first, the number of steps, and the provisional and final bits released so far, latest first. -/
structure DecCtx where
  decoder : Nat
  lane : Nat
  blocks : List (Nat × List Int)
  rest : List Int
  metrics : List Nat
  history : List Nat
  steps : Nat
  prov : List Bool
  fin : List Bool
  deriving DecidableEq, Repr

/-- The classes of bookings, in order of precedence (R173, R181). -/
inductive TxClass where
  | beacon | ack | data
  deriving DecidableEq, Repr

/-- The outcomes of a booking (R174). -/
inductive TxOutcome where
  | sent | cancelled | nochain | displaced | late | synth | underrun
  deriving DecidableEq, Repr

/-- A booking as the link sequencer hands it over (R173); `first` is the first-chip instant and `asked` the instant it was
made, in timebase cycles. -/
structure BookReq where
  id : Nat
  cls : TxClass
  ch : Nat
  mode : Nat
  first : Nat
  mask : Nat
  sig : Option Sig
  mpdu : Octets
  asked : Nat
  deriving DecidableEq, Repr

/-- A booking placed on a chain: the step of R84 it has reached (0 to 5), whether its front end and its desense interval
are still in transmission, E, the level sampled (R79), whether it ran dry (R59), when its ramp-up began, and the sample the DAC
holds in its ramp-down where it ran dry (R59, R82). -/
structure Booking where
  req : BookReq
  chain : Nat
  step : Nat
  fem : Bool
  des : Bool
  e : Nat
  level : Nat
  under : Bool
  rampFrom : Nat
  heldAt : Option Nat
  deriving DecidableEq, Repr

/-- A transmit chain (R177, R178): the channel its synthesiser is locked on (0 for none), the channel it is locking on and
when it is locked, the consecutive SYNTH outcomes, the consecutive detector faults (R80), its recalibration in progress,
the recalibration it owes to a re-enable (R93), and the temperature of its last calibration. -/
structure Chain where
  locked : Nat
  tuning : Option (Nat × Nat)
  synfail : Nat
  faults : Nat
  recal : Option Nat
  owes : Bool
  calTemp : Int
  deriving DecidableEq, Repr

/-- The chain after device reset. -/
def Chain.off : Chain :=
  { locked := 0, tuning := none, synfail := 0, faults := 0, recal := none, owes := false, calTemp := 0 }

/-- The coding and transmit path beside its registers: the decoder contexts, the chains that are not in their reset state,
the bookings handed over and not yet placed, the cancels not yet served, the bookings placed, the outcomes on their way
to the link sequencer, the chain and the first chip of every booking placed whose outcome is not taken yet (R174), and when a
transmission last ended on each channel (R207). -/
structure Cod where
  ctxs : List DecCtx
  chains : List (Nat × Chain)
  asked : List BookReq
  cancels : List Nat
  placed : List Booking
  outcomes : List (Nat × TxOutcome)
  onChain : List (Nat × Nat × Nat)
  ownEnd : List (Nat × Nat)
  nextId : Nat
  deriving DecidableEq, Repr

/-- A frame report as the link sequencer receives it, with the PSDU of an OK frame and what the lookup has given. -/
structure RxFrame where
  lane : Nat
  ch : Nat
  mode : Nat
  mpdu : Octets
  sfdts : Nat
  lock : Bool
  rssi : Int
  snr : Int
  lqi : Nat
  sig : Sig
  sigmix : Bool
  sigmove : Bool
  desense : Bool
  look : Look
  /-- NR.PAN as the lookup read it (R282). -/
  readPan : Nat
  /-- The slots that a request for it may use, with the generations captured at its lookup (R235). -/
  gens : List (Nat × Nat)
  revised : Bool
  start : Nat
  lastChip : Nat
  verdict : Option (Nat × Octets)
  deriving DecidableEq, Repr


/-! ### Chapter 07: the link sequencer -/

/-- A frame decided and not yet at its mirror cut-off (R196, R197): its place in the order of decisions, the frame, its
decision code, the node and the PAN, the ticket of its counter's journal record, the MSEQ of its DECIDE and the XSEQ after
its FRAME item where it was mirrored, the counters before the decision and whether the decision advanced them, the booking
of its acknowledgement, the queue a FORWARD goes to, and the MPDU without its MIC with whether it was verified. -/
structure Decided where
  id : Nat
  frame : RxFrame
  code : Nat
  node : Option Nat
  pan : Option Nat
  ticket : Option Nat
  mseq : Option Nat
  xseq : Nat
  oldCtr : Nat
  oldNoCtr : Bool
  oldSeq : Nat
  oldSeqValid : Bool
  advanced : Bool
  ack : Option Nat
  queue : Option Nat
  plain : Octets
  secured : Bool
  /-- TS64 of the last chip (R198, R305). -/
  lastTs : Nat := 0
  deriving DecidableEq, Repr

/-- An acknowledgement booking (R202 to R204): the booking, its channel, its PAN, its span from step 2 to step 5 and its last
chip in cycles, what gives it its priority (ACKPRI, a command frame, the last chip of its frame, the lane), whether its frame
is released, whether it has ended without being sent, for an Enh-Ack that is to be secured (R200) the node and the outgoing
counter, and the node of a POLL whose pending bit was 1 (R218). -/
structure AckBooking where
  booking : Nat
  ch : Nat
  pan : Nat
  start : Nat
  stop : Nat
  ackEnd : Nat
  pri : Nat
  command : Bool
  lastChip : Nat
  lane : Nat
  released : Bool
  failed : Bool
  secure : Option (Nat × Nat)
  /-- The slot of its key and the generation captured when it was to be secured (R235). -/
  slot : Option (Nat × Nat)
  poll : Option Nat
  /-- It is the old primary's, in a planned handover to this device (R375). -/
  foreign : Bool := false
  deriving DecidableEq, Repr

/-- Where an attempt stands (R206, R209): in a back-off until an instant, in a CCA until an instant with its booking and first
chip, handed to the transmit path, or waiting for its acknowledgement since an instant and until another. -/
inductive AttemptPhase where
  | backoff (stop : Nat)
  | cca (stop booking first : Nat)
  | booked (booking first : Nat)
  | ackWait (start stop : Nat)
  deriving DecidableEq, Repr

/-- A channel access under way (R206 to R209): its PAN, octets, mode and DSN, NB, BE, CW and the retries made, whether it asks
for an acknowledgement and from whom, the instant its first chip must not pass (R218), and its phase. -/
structure Attempt where
  for_ : AttemptFor
  pan : Nat
  mode : Nat
  mpdu : Octets
  dsn : Nat
  nb : Nat
  be : Nat
  cw : Nat
  retries : Nat
  ar : Bool
  node : Option Nat
  deadline : Option Nat
  phase : AttemptPhase
  deriving DecidableEq, Repr

/-- A completion that waits to be written (R222, R26): its downstream queue, its octets and the MSEQ of its DDONE. -/
structure Completion where
  queue : Nat
  octets : Octets
  gate : Option Nat
  deriving DecidableEq, Repr

/-- A beacon booked for a beacon-enabled PAN (R210): the PAN, the booking, its instant (TS64) and its first chip (cycles). -/
structure BeaconBooking where
  pan : Nat
  booking : Nat
  instant : Nat
  first : Nat
  deriving DecidableEq, Repr

/-- The link sequencer beside its registers. `beacons` are the first chip and the end of the beacon whose active period runs,
by PAN, in cycles; `handled` the last beacon instant handled (TS64) and `lastBeacon` the first chip of the last beacon sent
(cycles), by PAN; `ring` the pending ring of the nodes with held frames (PAN, node); `deficits` those of the round robin;
`gaps` the instant before which no DATA first chip may fall on a channel (R208); `aborting` the queues an abort is under way
for with the index it stops at; `polls` the nodes whose POLL was acknowledged with the pending bit 1, with the end of that
acknowledgement and the PAN; `bcnreqs` the non-beacon PANs asked for a beacon; `heard` the decisions a standby makes itself
(channel, node, TS64 of the last chip, code). -/
structure Lnk where
  decided : List Decided
  acks : List AckBooking
  down : List Down
  attempts : List Attempt
  bookings : List BeaconBooking
  beacons : List (Nat × Nat × Nat)
  handled : List (Nat × Nat)
  lastBeacon : List (Nat × Nat)
  ring : List (Nat × Nat)
  deficits : List (Nat × Nat)
  lastServed : Nat
  gaps : List (Nat × Nat)
  aborting : List (Nat × Nat)
  completions : List Completion
  polls : List (Nat × Nat × Nat)
  bcnreqs : List Nat
  heard : List (Nat × Nat × Nat × Nat)
  nextId : Nat
  deriving DecidableEq, Repr


/-! ### Chapter 08: Gorse -/

/-- A key slot that is not in its reset state (R237): slots 0 to 511 are hot slots, 512 to 575 group slots. `kind` is 1
derived, 2 installed, 3 group, as `SEC_SLOT_INFO` codes it. -/
structure Slot where
  valid : Bool
  key : Octets
  kind : Nat
  pan : Nat
  gen : Nat
  deriving DecidableEq, Repr

/-- The slot after device reset. -/
def Slot.empty : Slot := { valid := false, key := [], kind := 0, pan := 0, gen := 0 }

/-- The counter space of a group slot beside SEC_GRPn_OCTR: the highest durable reserved block, and its marks of R250. -/
structure GroupSpace where
  block : Option Nat
  warned : Bool
  exhSent : Bool
  /-- The key the space counts for, where it is known (R250). -/
  last : Octets
  deriving DecidableEq, Repr

/-- A reservation under way (R246): the space (a group slot, or a node index), the block, its journal ticket (none after a
refusal), the MSEQ its RESV record must be acknowledged to, and when it was last tried. -/
structure Resv where
  group : Bool
  id : Nat
  block : Nat
  ticket : Option Nat
  gate : Option Nat
  since : Nat
  deriving DecidableEq, Repr

/-- A page operation under way (R257): its page, the initiator that wrote GO, the slot and generation it captured, and its
place in the order of service. -/
structure PageRun where
  page : Nat
  acc : Access
  slot : Option Nat
  gen : Nat
  words : List (Nat × Word)
  deriving DecidableEq, Repr

/-- A KEYS entry of the image that was loaded (R241): a group slot's key, or a PAN's master key, wrapped under the KWK. -/
structure KeyEntry where
  group : Bool
  id : Nat
  wrap : Octets
  deriving DecidableEq, Repr

/-- Gorse beside its registers. `live` are the alarm sources now active, as bits; `cores` the main-engine cores in service;
`kwkTried` says that the KWK has been derived or the fuses found invalid since reset; `cleared` that an
alarm is cleared and RUN not yet set; `served` is the page last served. -/
structure Sec where
  slots : List (Nat × Slot)
  drk : Option Octets
  kwk : Option Octets
  pmks : List (Nat × Octets)
  cores : Nat
  live : Nat
  kwkTried : Bool
  cleared : Bool
  groups : List (Nat × GroupSpace)
  resvs : List Resv
  keys : List KeyEntry
  pages : List PageRun
  served : Nat
  /-- The TX and EACK requests, in order of arrival (R235). -/
  shared : List SecWho
  /-- The main-engine cores that fail their known-answer test, as bits (R590). -/
  katFail : Nat
  deriving DecidableEq, Repr


/-! ### Chapter 09: the context store -/

/-- A hot context that holds a record (R268): the node index, the record's 256 octets, since when it is dirty, its place in
the order of use, and whether a write-back of it is under way. -/
structure Hot where
  node : Nat
  os : Octets
  dirty : Option Nat
  used : Nat
  writing : Bool
  deriving DecidableEq, Repr

/-- A fill under way (R269, R271): the lanes and the downstream queues that wait for it, the PAN and the address looked up,
the node index where it is known from the start, and the hot context chosen. -/
structure Fill where
  lanes : List Nat
  queues : List Nat
  pan : Nat
  key : Octets
  /-- Other keys of the same node that share the fill (R271). -/
  also : List Octets
  /-- When it was issued, in timebase cycles (R271). -/
  issued : Nat
  node : Option Nat
  slot : Nat
  /-- The port 0 reads it has issued to the DRAM controller (R269, R413): request number and engine address. -/
  reads : List (Nat × Nat) := []
  deriving DecidableEq, Repr

/-- A journal record that a node's context waits for beyond the decision (R273, R276): the node, the record's ticket, and the
NR.INCTR, NR.LASTSEQ and NOCTR to show until the record is durable. -/
structure Awaited where
  node : Nat
  ticket : Nat
  old : Option (Nat × Nat × Bool)
  deriving DecidableEq, Repr

/-- A command of a channel (0 A, 1 B) given and not ended (R282): its operation and arguments as captured at GO, with
the staging buffer's octets and whether an uncorrectable error is met; the MSEQ its CTXCMD record must be acknowledged to;
the ticket of its index reset record; and its result once it has one, with what it reports. -/
structure CtxCmd where
  chan : Nat
  op : Nat
  node : Nat
  saddr : Nat
  pan : Nat
  mask : Nat
  staging : Nat
  buf : Octets
  ecc : Bool
  gate : Option Nat
  ticket : Option Nat
  result : Option Nat
  revived : Bool
  outNode : Nat
  outAddr : Nat
  /-- When GO was given, in timebase cycles (R282). -/
  since : Nat
  deriving DecidableEq, Repr

/-- The context store beside its registers: the hot contexts, the write-back buffer (node index, record, whether a write is
under way, when it last failed), the fills under way in order of issue, the node indices whose pending bit is 1, the
quarantine ring (PAN, address, when it entered), the commands, the count of uses, and the nodes whose contexts
FLAGS.PINNED pins within the cap of R273. -/
structure Ctx where
  hot : List (Nat × Hot)
  wb : List (Nat × Octets × Bool × Nat)
  fills : List Fill
  pend : List Nat
  /-- The pending bits that changed last (R278): node index, instant, and the value before that instant. -/
  pendWas : List (Nat × Nat × Bool)
  quar : List (Nat × Nat × Nat)
  cmds : List CtxCmd
  uses : Nat
  swpins : List Nat
  awaiting : List Awaited
  deriving DecidableEq, Repr


/-! ### Chapter 10: Sheaf -/

/-- A class after LOAD. -/
def BatchClass.fresh : BatchClass := { cur := Batch.empty, waiting := none, bseq := 0, resumed := true }

/-- Sheaf beside its registers: the rules that are not all zero, the flows by slot, the classes, the input buffer, the count
of uses, the MSEQ of the last RELEASE processed, the frame that waits for room in a raw queue (R290), and the end of the windows
emitted last (R305). -/
structure Shf where
  rules : List (Nat × Octets)
  flows : List (Nat × Flow)
  classes : List (Nat × BatchClass)
  input : List ShfFrame
  uses : Nat
  lastRelease : Nat
  rawWait : Option Nat
  lastWindow : Nat
  deriving DecidableEq, Repr


/-! ### Chapter 11: the upstream ports -/

/-- A message in reassembly (R340): its queue, SEQ, segment count and length, the segments held, and when its first segment
came. -/
structure Reasm where
  queue : Nat
  seq : Nat
  segcnt : Nat
  mlen : Nat
  segs : List (Nat × Octets)
  since : Nat
  deriving DecidableEq, Repr

/-- A COMPL message that waits: TS64 and the lock flag when it was queued, and the completion descriptor. -/
structure UplCompl where
  ts : Nat
  lock : Bool
  data : Octets
  deriving DecidableEq, Repr

/-- What is being sent (R342): a reply (a whole frame), a queue's message, a completion, or STATUS with TS64 and the lock flag
when it was queued. -/
inductive UplMsg where
  | reply (frame : Octets)
  | queue (q : Nat)
  | compl (c : UplCompl)
  | status (ts : Nat) (lock : Bool)
  deriving DecidableEq, Repr

/-- An entry of a ring of queues 0 to 31 or 63 whose PI has not advanced yet (R332, R367): the queue, PI once it has, the
message of a DOWN with its SEQ (none where software wrote PI), and the MSEQ its QIN records must be acknowledged to. -/
structure Entering where
  queue : Nat
  pi : Nat
  down : Option (Nat × Octets)
  gate : Option Nat
  deriving DecidableEq, Repr

/-- A message being sent, with its port and its frames. -/
structure UplSend where
  port : Nat
  msg : UplMsg
  frames : List Octets
  deriving DecidableEq, Repr

/-- A foreign master (R349): its port identity (10 octets), the Announce messages counted, the fields of its last Announce
that the data set comparison uses (grandmaster priority 1, quality, priority 2, identity, stepsRemoved), currentUtcOffset,
logMessageInterval and when it came. -/
structure Foreign where
  port : Octets
  count : Nat
  prio1 : Nat
  quality : Nat
  prio2 : Nat
  gm : Nat
  steps : Nat
  utc : Nat
  interval : Int
  last : Nat
  deriving DecidableEq, Repr

/-- The PTP clock beside its registers (R347 to R350): the foreign masters, the master's port identity, the Sync that waits
for its Follow_Up (sequenceId, t2 and its correction, in 2^−16 ns, and when it came), the last Sync measurement
(t1, t2, cs), the Delay_Req under way (sequenceId and t3), the mean path delay, logMinDelayReqInterval, and the next
sequenceId. -/
structure Ptp where
  foreign : List Foreign
  master : Option Octets
  sync : Option (Nat × Int × Int × Nat)
  meas : Option (Int × Int × Int)
  req : Option (Nat × Int)
  dm : Option Int
  logReq : Int
  seqId : Nat
  deriving DecidableEq, Repr

/-- The upstream block beside its registers: for each port whether its link is up, since when, and until when it pauses; the
tries of a resolution under way and when the last one was sent; when the last resolution began; the reassembly contexts; the
windows; what is being sent; the queue served last in the round robin; the completions and the replies (with their ports)
that wait; whether a STATUS waits, its SEQ and the instant the timer runs from; the queues that have sent their first
message; the SEQ of the DOWN messages in the rings (queue, index, SEQ); the entries that wait to advance PI; the MDIO
transactions under way (port, command word, data); the PTP clock; and the frames last put on the wire. -/
structure Upl where
  up0 : Bool
  up1 : Bool
  upFrom0 : Nat
  upFrom1 : Nat
  pause0 : Nat
  pause1 : Nat
  tries : Nat
  triedAt : Nat
  resolvedAt : Nat
  reasm : List Reasm
  windows : List SeqWindow
  sending : Option UplSend
  lastQueue : Nat
  compls : List UplCompl
  replies : List (Nat × Octets)
  statusDue : Option (Nat × Bool)
  statusSeq : Nat
  statusFrom : Nat
  resumed : List Nat
  refs : List (Nat × Nat × Nat)
  entering : List Entering
  mdio : List (Nat × Nat × Nat)
  ptp : Ptp
  wire : List (Nat × Octets)
  deriving DecidableEq, Repr


/-! ### Chapter 12: Stile -/

/-- A Stile frame that waits for a lane (R357): its precedence, the lane it must go on or none for whichever comes free first, its
octets, and for a COMMIT or BULK frame which one it is. -/
structure StlWait where
  cls : Nat
  lane : Option Nat
  frame : Octets
  kept : Option (Bool × Nat)
  deriving DecidableEq, Repr

/-- A Stile lane (R359, R360): whether it is up, the valid HEART frames in a row, when the last one came (cycles), its TXTS
and TS64 of reception, for the echo, and the TXTS of the HEART frames sent, latest first. -/
structure StlLane where
  up : Bool
  run : Nat
  last : Nat
  txts : Nat
  rxts : Nat
  sent : List Nat
  deriving DecidableEq, Repr

/-- A COMMIT or BULK frame kept until it is acknowledged (R358): its sequence number, payload, LAST, the lane it was last
sent on and when. -/
structure StlSent where
  bulk : Bool
  seq : Nat
  payload : Octets
  last : Bool
  lane : Nat
  at_ : Nat
  deriving DecidableEq, Repr

/-- A COMMIT record or BULK frame received and not yet applied, with the pieces that a SNAP frame ends. -/
structure StlHeld where
  bulk : Bool
  seq : Nat
  payload : Octets
  last : Bool
  content : List SnapItem
  deriving DecidableEq, Repr

/-- A DECIDE that a standby has applied and holds pending (R370), and NOCTR of the record before it. -/
structure StlDecide where
  mseq : Nat
  record : Octets
  oldNoCtr : Bool
  /-- It moved the incoming counter: the frame was secured (R194, R370). -/
  secured : Bool := false
  deriving DecidableEq, Repr

/-- A bulk item received whole: ITEM, the XSEQ of its first frame and its octets. -/
structure StlItem where
  kind : Nat
  first : Nat
  data : Octets
  deriving DecidableEq, Repr

/-- A planned handover (R375): H as a TS64 instant, whether this device gives the authority up, whether H has come, and the
old primary's last MSEQ once YIELD_DONE has told it. -/
structure StlHandover where
  h : Nat
  giving : Bool
  moved : Bool
  lastMseq : Option Nat
  deriving DecidableEq, Repr

/-- Stile beside its registers. The lanes, when HEART was last sent and whether the link is up; MODE, STATE and PEPOCH of the
partner's last HEART; this device's SYNC; since when the election runs, when ELECT was last sent, whether it has ended with
both devices paired, whether this device then won against a partner in SELFTEST, and a mismatch; when the serving mode was
entered. `mseq` and `xseq` are the next numbers to send, `macked` and `xacked` the first not acknowledged, `unacked` the frames
kept, `sentTimes` when records were sent (MSEQ, TS64); `rxM` and `rxX` the first numbers not received, `applied` the next
record to apply, `held` the records and frames received and not yet applied, `partial_` the item being received with its first
XSEQ, `items` the items received, `decides` the pending DECIDEs. `joinStep` is 0 before the JSUM, 1 until SNAPEND, 2 until
SYNC; `snapStamps` the STAMP of each piece of the snapshot (region, piece, MSEQ). MISSED, when the OK reports since the last
supervision instant came (TS64), since when the device has been in STANDBY (TS64), the last supervision instant handled, the
beacons heard (PAN, BSN, SFDTS), the last instant judged of each PAN with the instants missed since its BSN was last known, when
the standby was detached and whether SPLITGUARD is raised; the handover; the time transfer (twice the sum of the offsets, their
number, since when); the last USENT of each queue that must be acknowledged (queue, MSEQ); and what has been put on the lanes,
latest first. -/
structure Stl where
  lane0 : StlLane
  lane1 : StlLane
  heartFrom : Nat
  link : Bool
  peerMode : Nat
  peerState : Nat
  peerEpoch : Nat
  sync : Nat
  electing : Option Nat
  electSent : Nat
  elected : Bool
  won : Option Bool
  mismatch : Bool
  serveFrom : Nat
  mseq : Nat
  xseq : Nat
  macked : Nat
  xacked : Nat
  unacked : List StlSent
  sentTimes : List (Nat × Nat)
  rxM : Nat
  rxX : Nat
  applied : Nat
  held : List StlHeld
  partial_ : Option (Nat × Octets)
  items : List StlItem
  decides : List StlDecide
  joinStep : Nat
  snapStamps : List (Nat × Nat × Nat)
  missed : Nat
  okReports : List Nat
  standbyTs : Nat
  lastSup : Nat
  beaconsHeard : List (Nat × Nat × Nat)
  judged : List (Nat × Nat × Nat)
  detachedAt : Option Nat
  splitSaid : Bool
  handover : Option StlHandover
  ttSum : Int
  ttCount : Nat
  ttFrom : Nat
  usent : List (Nat × Nat)
  out : List (Nat × Octets)
  /-- The frames that wait for a lane, in order of arrival, and when each lane has sent what it was given, in 1/125 of a timebase
  cycle (R357). -/
  waiting : List StlWait
  free0 : Nat
  free1 : Nat
  /-- TS64 at which `STL_CTRL.HANDOVER` made this standby ask its partner to yield (R375). -/
  asked : Option Nat
  /-- The join has started again at step 3, and the first frame of the new snapshot has not come (R372). -/
  resync : Bool
  /-- TS64 of the supervision instant judged last (R373). -/
  lastInstant : Nat
  /-- The old primary of a planned handover, whose partner has not reached step 5 (R375). -/
  yielded : Bool
  /-- TS64 of the decision instant from which this device decides (R375, R376). -/
  decidesFrom : Option Nat
  deriving DecidableEq, Repr

/-- Stile after a reset. -/
def Stl.fresh : Stl :=
  let lane : StlLane := { up := false, run := 0, last := 0, txts := 0, rxts := 0, sent := [] }
  { lane0 := lane, lane1 := lane, heartFrom := 0, link := false, peerMode := 0, peerState := 0, peerEpoch := 0, sync := 0,
    electing := none, electSent := 0, elected := false, won := none, mismatch := false, serveFrom := 0, mseq := 0, xseq := 0,
    macked := 0, xacked := 0, unacked := [], sentTimes := [], rxM := 0, rxX := 0, applied := 0, held := [], partial_ := none,
    items := [], decides := [], joinStep := 0, snapStamps := [], missed := 0, okReports := [], standbyTs := 0, lastSup := 0,
    beaconsHeard := [], judged := [], detachedAt := none, splitSaid := false, handover := none, ttSum := 0, ttCount := 0,
    ttFrom := 0, usent := [], out := [], waiting := [], free0 := 0, free1 := 0, asked := none,
    resync := false, lastInstant := 0, yielded := false, decidesFrom := none }


/-! ### Chapter 14: the DRAM controller -/

/-- A request in the DRAM controller (R407): its number, port, DRAM offset, length, the octets of a write, when it came
(cycles), whether it is urgent or late (R408), TARGET as it was at its arrival, and the bus access it serves (none for an engine's). -/
structure DmcReq where
  id : Nat
  port : Nat
  offset : Nat
  len : Nat
  data : Option Octets
  since : Nat
  target : Nat
  urgent : Bool
  late : Bool
  acc : Option Access
  deriving DecidableEq, Repr

/-- The DRAM controller beside its registers: the requests waiting, oldest first; the number of the next request; the port
served last (R409); the open row of each bank (16 × rank + bank, row); the ranks whose next refresh is forced, with the
number of the newest port 0 read it waits for; the refreshes issued early per rank; the offset the scrubber reads next; when
a port was last busy; whether self-refresh entry or exit is under way; whether the array keeps its contents in self-refresh
since a reset; the training step reached and when training or the fill began; and the outcome of the last request served, for its
initiator (number, octets read or none for an error outcome); whether self-refresh ended without an MR4 read since (R419); and the
DQS oscillator's reading, in picoseconds, at the last training of the write DQ delay (R412); and the offsets of the 64-bit words
in which an uncorrectable error stands (R405), which go with the array. -/
structure Dmc where
  queue : List DmcReq
  nextId : Nat
  lastPort : Nat
  rows : List (Nat × Nat)
  forced : List (Nat × Nat)
  early : List (Nat × Nat)
  scrub : Nat
  idleFrom : Nat
  entering : Bool
  exiting : Bool
  kept : Bool
  since : Nat
  served : Option (Nat × Option Octets)
  mr4Due : Bool
  oscAt : Int
  bad : List Nat
  deriving DecidableEq, Repr


/-! ### Chapter 15: flash, one-time row and journal -/

/-- A protected region of the flash (R434), as the protection page holds it. -/
structure FlsRegion where
  start : Nat
  stop : Nat
  wp : Bool
  rp : Bool
  core : Bool
  valid : Bool
  password : Nat
  deriving DecidableEq, Repr

/-- A region as it leaves the factory: not valid, its password all ones (R435, R436). -/
def FlsRegion.blank : FlsRegion :=
  { start := 0, stop := 0, wp := false, rp := false, core := false, valid := false, password := 2 ^ 64 - 1 }

/-- What the flash is doing: a program (with its page buffer) or an erase, which may wait for word 0 of its intent record
(`ticket`). -/
inductive FlsOp where
  | program (block page : Nat) (data : Octets) (ticket : Option Nat) (started : Bool)
  | erase (block : Nat) (ticket : Nat) (started : Bool)
  deriving DecidableEq, Repr

/-- What the protection page is doing: a password comparison, or a SETREGION. -/
inductive FlsProt where
  | unlock (region password : Nat)
  | setRegion (region : Nat) (value : FlsRegion)
  deriving DecidableEq, Repr

/-- The flash beside its registers: its bytes, keyed by offset, that are not erased; the pages left undefined by an
interruption (R427), numbered 64 × block + page; the regions and which are unlocked; the program or erase running, since when, and
the suspended erase; the command of the protection page under way, and since when. -/
structure Fls where
  cells : List Host.Cell
  undef : List Nat
  regions : List (Nat × FlsRegion)
  unlocked : List Nat
  op : Option FlsOp
  since : Nat
  susp : Option FlsOp
  prot : Option FlsProt
  protFrom : Nat
  deriving DecidableEq, Repr

/-- The one-time row (R437 to R439): the words programmed, the words left invalid, the shadow copied during RESET, the
programming in progress (word and value) with whether the supply was too low at its start. -/
structure Otp where
  words : List (Nat × Nat)
  bad : List Nat
  shadow : List (Nat × Nat)
  shadowBad : List Nat
  op : Option (Nat × Nat)
  lowSupply : Bool
  deriving DecidableEq, Repr

/-- A record put to the journal: its ticket, by which its writer knows it, its TYPE and its payload P[93:0] (R442); `whole`
is false for an intent record whose commit word follows at the end of its operation (R429). -/
structure JRec where
  ticket : Nat
  type : Nat
  payload : Nat
  whole : Bool
  deriving DecidableEq, Repr

/-- The journal (R440 to R449): its words (64 bits, keyed by offset / 8) and the unreadable ones; P of the next record; the
records put to it and not yet taken, the records accepted and not yet durable with their positions, the tickets refused, and
the next ticket; the intent records whose commit word is still owed, by ticket and position; the sweeper's next index and
the words it owes, and the indices whose newer word is in copy 1; the current SLOT item; the SLOT record JNL_SLOTCMD waits for; the
next item of RESTATE; whether FORMAT runs; and the commit words of intents and checkpoint words put to the array within the last
microsecond, each with its instant: a reset can cut those (R440). -/
structure Jnl where
  words : List (Nat × BitVec 64)
  unreadable : List Nat
  pos : Nat
  offered : List JRec
  accepted : List (Nat × JRec)
  refused : List Nat
  nextTicket : Nat
  intents : List (Nat × Nat × JRec)
  sweep : Nat
  owed : Nat
  newer1 : List Nat
  slot : Nat
  iseq : Nat
  slotTicket : Option Nat
  restate : Option Nat
  formatting : Bool
  recent : List (Nat × Nat)
  deriving DecidableEq, Repr


/-! ### Chapter 16: the loader, the pacer and the check-value units -/

/-- A run of a check-value unit with the identity it reads under (R551) and the registers it captured at its start (R474). -/
structure ChkRun where
  unit : Nat
  acc : Access
  poly : Nat
  cmp : Bool
  addr : Nat
  len : Nat
  exp : Nat
  deriving DecidableEq, Repr

/-- Block 0x04 beside its registers: the header of the image being loaded, when LOAD began and when its signature check
began (cycles), the sections loaded, the contents of REGS sections not yet applied, the words that REGS sections replaced
(newest first), the word each pair of a section gives its register, latest first (R4), whether the known-answer test has run
(R590), whether the LPWFW section has passed, whether the checks after the last section have passed, when SELFTEST began and the
results of its items once they are known, as `CFG_STRES`, since when the pacer's current step runs, and the runs of the
check-value units. -/
structure Cfg where
  header : Octets
  since : Nat
  sigFrom : Nat
  done : List Nat
  regsHeld : List (Nat × Octets)
  undo : List (Nat × Word)
  wanted : List (Nat × Word)
  kat : Bool
  lpwfw : Bool
  checked : Bool
  testFrom : Nat
  tested : Option Nat
  pacerFrom : Nat
  /-- The pacer's last step (R469): its instant, `LNK_ADM` before it and whether PACEDONE was set. -/
  paced : Option (Nat × Word × Bool)
  chks : List ChkRun
  deriving DecidableEq, Repr


/-! ### Chapter 17: Lapwing -/

/-- A life-cycle transition under way (R490, R491): the states it goes between and the bit it sets (0 to 11 for L0 to L11, 31
for S). -/
structure LcRun where
  old : Nat
  new : Nat
  bit : Nat
  deriving DecidableEq, Repr

/-- Lapwing beside its registers: the slot the loader found active (R455); whether power is good and whether RESET_N is low; when
the device watchdog was last kicked and whether it has warned; when each supervisor was last kicked and the resets each has made
(core, instant); the staged check under way; since when an activation runs; the pass-through command under way (LPW_SPIX_CMD,
address, buffer) and the octets the last one sends; the life-cycle transition under way; the token being checked, where it could
be read; the debug window (harts, and the instant it ends); and, while in RESET, the mode it was entered from with the cause,
which its log entry owes (R36, R480). -/
structure Lpw where
  slot : Nat
  powerGood : Bool
  resetLow : Bool
  wdtFrom : Nat
  warned : Bool
  supFrom : List (Nat × Nat)
  supResets : List (Nat × Nat)
  verifying : Bool
  updFrom : Option Nat
  spix : Option (Nat × Nat × Nat)
  spixOut : Octets
  lc : Option LcRun
  tok : Option (Option Octets)
  debug : Option (Nat × Nat)
  entered : Option (Nat × Nat)
  deriving DecidableEq, Repr


/-! ### Chapter 19: mains, hold-up store and backup domain -/

/-- The mains sense beside its registers: the consecutive values below INT and at or above INT + HYST, when the present span
of RESTORING began, when the last zero crossing came (cycles, R521, R522), and whether MIN holds a value since its last read. -/
structure Mains where
  low : Nat
  ok : Nat
  stableFrom : Nat
  zcAt : Nat
  minSeen : Bool
  deriving DecidableEq, Repr

/-- The hold-up store beside its registers: when the input FETs closed, when the present CHARGE began, the instants of the
current trips, when the present bleed began, whether it has reached BLEEDV and whether it has failed, whether HU_VSENSE was
in range at the last sample, the available energies of the last second (instant, EA in units of 0.5 nJ), and the entry to HOLDOVER. The
last-gasp work: when LASTGASP was entered, and the STATUS messages sent. -/
structure Hold where
  closedFrom : Nat
  chargeFrom : Nat
  trips : List Nat
  bleedFrom : Nat
  bled : Bool
  bleedFailed : Bool
  inRange : Bool
  samples : List (Nat × Nat)
  from_ : Nat
  gaspFrom : Nat
  gasps : Nat
  /-- RESET waits for the mains, for it came by LASTGASP (R535). -/
  gaspReset : Bool
  /-- For how long HU_CHG has been on in this CHARGE, as counted at `chgAt` (R585). -/
  chgOn : Nat
  chgAt : Nat
  /-- LASTGASP still waits for its frames and chains before it locks its domains off (R534). -/
  gaspDrain : Bool
  deriving DecidableEq, Repr

/-- The backup domain beside its registers: the calendar, the prescaler's start of the running second (cycles), the set that
is on its way (GO's TIME and DATE parts with their values, and when GO was written), and the interrupt flags owed until AON
is on (R537). -/
structure Bkp where
  sec : Nat
  min : Nat
  hour : Nat
  day : Nat
  month : Nat
  year : Nat
  setFrom : Option Nat
  setTime : Option Nat
  setDate : Option Nat
  owed : Nat
  tickFrom : Nat
  /-- The last tick: its instant, and the time and the date before it (R541). -/
  ticked : Option (Nat × Nat × Nat)
  deriving DecidableEq, Repr

/-- The backup domain after a backup POR: 2000-01-01 00:00:00 (R537). -/
def Bkp.por : Bkp :=
  { sec := 0, min := 0, hour := 0, day := 1, month := 1, year := 0, setFrom := none, setTime := none, setDate := none,
    owed := 0, tickFrom := 0, ticked := none }


/-! ### Chapter 21: the test access port -/

/-- The TAP (R586, R587, R561): the instruction, the update latches of the boundary cells, what the last scan shifted out,
and the debug module behind it: the result of the last DMI access, its data, dmcontrol, the abstract data and command error,
the program buffer, the system bus address, control and data. -/
structure Tap where
  ir : Nat
  cells : List Bool
  out : List Bool
  dmiOp : Nat
  dmiData : Word
  control : Word
  data0 : Word
  data1 : Word
  cmderr : Nat
  progbuf0 : Word
  progbuf1 : Word
  sbcs : Word
  sbaddr : Word
  sbdata : Word
  deriving DecidableEq, Repr

/-- The state of the part. `regs` holds every register that differs from its reset value, `cycles` the timebase cycles
since power was first applied (the model's own clock: every span of the manual is measured in it), `pending` the commands
that wait, first in, first out. -/
structure State where
  variant : Variant
  mode : Mode
  cycles : Nat
  regs : List (Nat × Word)
  /-- The time rim. -/
  tim : Tim
  /-- The voltage loop. -/
  volt : Volt
  /-- The Hedgerow event fabric. -/
  hdg : Hdg
  /-- The application complex. -/
  app : App
  /-- The bus accesses that wait for a domain, oldest first. -/
  stalled : List Stalled
  /-- What the last access got. -/
  resp : Resp
  /-- The application SRAM, keyed by byte offset. -/
  sram : List Host.Cell
  /-- The Lapwing SRAM, keyed by byte offset. -/
  lpwSram : List Host.Cell
  /-- The DRAM, keyed by byte offset. -/
  dram : List Host.Cell
  /-- The log ring, oldest entry first, at most 1,024 entries (R481). -/
  log : List LogEntry
  /-- The entries written since the log was last zeroed; its residues give NEXT and SEQ. -/
  logCount : Nat
  /-- The domain controller. -/
  pwr : Pwr
  /-- The alarm sources (bits of `SEC_ALARM`) that have fired and whose effect FAULT_ALARM carries out, oldest first. -/
  alarms : List Nat
  /-- The radio rim. -/
  rim : Rim
  /-- The lane pool. -/
  lnp : Lnp
  /-- The coding and transmit path. -/
  cod : Cod
  /-- The OK frames delivered to the link sequencer and not yet decided, oldest first. -/
  inbox : List RxFrame
  /-- The model's own counter of free values taken (assumption 13). -/
  free : Nat
  /-- The link sequencer. -/
  lnk : Lnk
  /-- Gorse. -/
  sec : Sec
  /-- The context store. -/
  ctx : Ctx
  /-- Sheaf. -/
  shf : Shf
  /-- The upstream ports. -/
  upl : Upl
  /-- The Stile link. -/
  stl : Stl
  /-- The DRAM controller. -/
  dmc : Dmc
  /-- The flash. -/
  fls : Fls
  /-- The one-time row. -/
  otp : Otp
  /-- The journal. -/
  jnl : Jnl
  /-- The loader, the pacer and the check-value units. -/
  cfg : Cfg
  /-- Lapwing. -/
  lpw : Lpw
  /-- The mains sense. -/
  mains : Mains
  /-- The hold-up store and the last gasp. -/
  hold : Hold
  /-- The backup domain. -/
  bkp : Bkp
  /-- The test access port and the debug module. -/
  tap : Tap
  /-- The commands that wait, first in, first out. -/
  pending : List Instr
  deriving DecidableEq, Repr

/-- The part right after reset: mode RESET, every register at its reset value, every buffer empty. The backup domain is
as its own power-on leaves it (R537): OSF and CLEARED are 1 and `BKP_DATE` reads 0x6000_0101.
DESIGN CHOICE, unsafe: log 5. DESIGN CHOICE, safe: log 150. -/
def State.reset : State :=
  { variant := .wv5280, mode := .reset, cycles := 0, regs := [(0x20020004, 0x60000101), (0x20020018, 0x6)],
    tim := { running := false, acc := 0, st := .free, src := .none, good := 0, bad := 0, lastMeas := 0, coastFrom := 0, pllLock := false, tcxoOk := true, secFired := 0, milliFired := 0, integ := 0 },
    volt := { state := .idle, code := 70, expo := 0, inflight := none, next := none, dwellFrom := 0, checkAt := none, alert := none, bus := [] },
    hdg := { seq := 0, emitted := [], held := [], legs := [], tasks := [], stamps := [] },
    app := { hart0 := { state := .reset, reservation := none, mtip := false, regs := pmpOff, cmpLo := none, entry := none }, hart1 := { state := .reset, reservation := none, mtip := false, regs := pmpOff, cmpLo := none, entry := none }, pendingIds := [], claimed := [], appfw := false, throttled := false },
    stalled := [],
    resp := .none,
    sram := [],
    lpwSram := [],
    dram := [],
    log := [],
    logCount := 0,
    pwr := { trans := [], lastUse := [], stopped := [], saved := [], doneAt := [] },
    alarms := [],
    rim := { gaps := [], loLost := none, calibrating := false, rxCal := none, rampEnd := 0, coeffs := [], inUse := [], calnf := [], lowFrom := [], frozenAt := 0, cap := { counts := [], gapPorts := [], left := [], stopping := false, lastGain := [], blanked := [], trigHop := 0 }, gapEnd := none, fading := [] },
    lnp := { lanes := [], floors := [], window := 0, disturbed := [], stepped := false, desEnd := [], desAll := [], csEnd := [] },
    cod := { ctxs := [], chains := [], asked := [], cancels := [], placed := [], outcomes := [], onChain := [], ownEnd := [], nextId := 0 },
    inbox := [],
    free := 0,
    lnk := { decided := [], acks := [], down := [], attempts := [], bookings := [], beacons := [], handled := [], lastBeacon := [], ring := [], deficits := [], lastServed := 31, gaps := [], aborting := [], completions := [], polls := [], bcnreqs := [], heard := [], nextId := 0 },
    sec := { slots := [], drk := none, kwk := none, pmks := [], cores := 0, live := 0, kwkTried := false, cleared := false, groups := [], resvs := [], keys := [], pages := [], served := 7, shared := [], katFail := 0 },
    ctx := { hot := [], wb := [], fills := [], pend := [], pendWas := [], quar := [], cmds := [], uses := 0, swpins := [], awaiting := [] },
    shf := { rules := [], flows := [], classes := [], input := [], uses := 0, lastRelease := 0, rawWait := none, lastWindow := 0 },
    upl := { up0 := false, up1 := false, upFrom0 := 0, upFrom1 := 0, pause0 := 0, pause1 := 0, tries := 0, triedAt := 0, resolvedAt := 0, reasm := [], windows := [], sending := none, lastQueue := 55, compls := [], replies := [], statusDue := none, statusSeq := 0, statusFrom := 0, resumed := [], refs := [], entering := [], mdio := [], ptp := { foreign := [], master := none, sync := none, meas := none, req := none, dm := none, logReq := 0, seqId := 0 }, wire := [] },
    stl := Stl.fresh,
    dmc := { queue := [], nextId := 0, lastPort := 7, rows := [], forced := [], early := [], scrub := 0, idleFrom := 0, entering := false, exiting := false, kept := false, since := 0, served := none, mr4Due := false, oscAt := 0, bad := [] },
    fls := { cells := [], undef := [], regions := [], unlocked := [0, 1, 2, 3], op := none, since := 0, susp := none, prot := none, protFrom := 0 },
    otp := { words := [], bad := [], shadow := [], shadowBad := [], op := none, lowSupply := false },
    jnl := { words := [], unreadable := [], pos := 0, offered := [], accepted := [], refused := [], nextTicket := 0, intents := [], sweep := 0, owed := 0, newer1 := [], slot := 0, iseq := 0, slotTicket := none, restate := none, formatting := false, recent := [] },
    cfg := { header := [], since := 0, sigFrom := 0, done := [], regsHeld := [], undo := [], wanted := [], kat := false, lpwfw := false, checked := false, testFrom := 0, tested := none, pacerFrom := 0, paced := none, chks := [] },
    lpw := { slot := 0, powerGood := false, resetLow := false, wdtFrom := 0, warned := false, supFrom := [], supResets := [], verifying := false, updFrom := none, spix := none, spixOut := [], lc := none, tok := none, debug := none, entered := none },
    mains := { low := 0, ok := 0, stableFrom := 0, zcAt := 0, minSeen := false },
    hold := { closedFrom := 0, chargeFrom := 0, trips := [], bleedFrom := 0, bled := false, bleedFailed := false, inRange := true, samples := [], from_ := 0, gaspFrom := 0, gasps := 0, gaspReset := false, chgOn := 0, chgAt := 0, gaspDrain := false },
    bkp := Bkp.por,
    tap := { ir := 0x1F, cells := List.replicate 162 false, out := [], dmiOp := 0, dmiData := 0, control := 0, data0 := 0, data1 := 0, cmderr := 0, progbuf0 := 0, progbuf1 := 0, sbcs := 0, sbaddr := 0, sbdata := 0 },
    pending := [] }

end Sys2Proof.Machine
end

