-- ==== Sys2Proof/Machine/Ops.lean ====
section
/-!
DEFINITION. The named operations every block uses: reading and writing a register field, saturating counters, interrupt
flags, time and TS64, and producing an event.
-/

namespace Sys2Proof.Machine

/-! ### Words and numbers -/

/-- Replace bits [lo + width − 1 : lo] of a word by a number taken modulo 2^width. -/
def insertBits (w : Word) (lo width v : Nat) : Word :=
  let n := w.toNat
  let below := n % 2 ^ lo
  let above := n / 2 ^ (lo + width)
  BitVec.ofNat 32 (below + 2 ^ lo * (v % 2 ^ width) + 2 ^ (lo + width) * above)

/-- Bits [lo + width − 1 : lo] of a word, as a number. -/
def extractBits (w : Word) (lo width : Nat) : Nat := w.toNat / 2 ^ lo % 2 ^ width

/-- A number of `width` bits read as two's complement. -/
def signed (width n : Nat) : Int :=
  let m := n % 2 ^ width
  if m < 2 ^ (width - 1) then (m : Int) else (m : Int) - (2 ^ width : Nat)

/-- The two's complement code of an integer in `width` bits. -/
def twos (width : Nat) (z : Int) : Nat := (z % ((2 ^ width : Nat) : Int)).toNat

/-- Clamp an integer. -/
def clamp (lo hi z : Int) : Int := if z < lo then lo else if hi < z then hi else z

/-- The largest value of a field of `width` bits. -/
def allOnes (width : Nat) : Nat := 2 ^ width - 1

/-- Bit `i` of a number. -/
def bitAt (n i : Nat) : Bool := n / 2 ^ i % 2 == 1

/-- 1 for true, 0 for false. -/
def flag (b : Bool) : Nat := if b then 1 else 0

/-- The number of ones among the low `width` bits. -/
def popCount (width n : Nat) : Nat := ((List.range width).filter (bitAt n)).length

/-- The integer square root, bit by bit. -/
def isqrt (n : Nat) : Nat :=
  (List.range (Nat.log2 n / 2 + 1)).reverse.foldl (fun r i => if (r + 2 ^ i) ^ 2 ≤ n then r + 2 ^ i else r) 0

/-- Insert into a sorted list, after the entries it does not come before. -/
def insertBy {α : Type} (before : α → α → Bool) (x : α) : List α → List α
  | [] => [x]
  | y :: t => if before x y then x :: y :: t else y :: insertBy before x t

/-- Sort a list by a strict order; entries neither comes before of keep their order. -/
def sortBy {α : Type} (before : α → α → Bool) (l : List α) : List α := l.foldl (fun acc x => insertBy before x acc) []

/-- The signed difference of two 32-bit counts, as R20 compares them. -/
def diff32 (a b : Nat) : Int := signed 32 (a + 2 ^ 32 - b % 2 ^ 32)

/-! ### Registers -/

/-- The word a register holds. -/
def State.word (s : State) (a : Nat) : Word := Sparse.get resetWord s.regs a

/-- Place a word in a register. -/
def State.setWord (a : Nat) (w : Word) (s : State) : State :=
  { s with regs := Sparse.put resetWord s.regs a w }

/-- The value of a register field. -/
def State.get (s : State) (f : Fld) : Nat := extractBits (s.word f.addr) f.lo f.width

/-- Place a value in a register field, modulo its width. -/
def State.set (f : Fld) (v : Nat) (s : State) : State :=
  s.setWord f.addr (insertBits (s.word f.addr) f.lo f.width v)

/-- A one-bit field read as a Boolean. -/
def State.is (s : State) (f : Fld) : Bool := s.get f == 1

/-- A field read as two's complement. -/
def State.getInt (s : State) (f : Fld) : Int := signed f.width (s.get f)

/-- Set a flag or a latched bit (R11: the hardware's set). -/
def raise (f : Fld) (s : State) : State := s.set f 1

/-- Add to an event counter, which saturates at its all-ones value (R12). -/
def count (f : Fld) (n : Nat) (s : State) : State :=
  s.set f (min (s.get f + n) (allOnes f.width))

/-- Lower a field to a value if that is less. -/
def lowerTo (f : Fld) (v : Nat) (s : State) : State := s.set f (min (s.get f) v)

/-- Raise a field to a value if that is more, saturating. -/
def raiseTo (f : Fld) (v : Nat) (s : State) : State := s.set f (max (s.get f) (min v (allOnes f.width)))

/-- A word's field is limited from above. -/
def limitField (f : Fld) (top : Nat) (s : State) : State := if top < s.get f then s.set f top else s

/-- A word's field is limited from below. -/
def floorField (f : Fld) (low : Nat) (s : State) : State := if s.get f < low then s.set f low else s

/-- Do something only where a condition holds. DESIGN CHOICE, safe: log 6. -/
def onlyIf (c : Bool) (f : State → State) (s : State) : State := if c then f s else s

/-- Apply an action for every member of a list, first member first. -/
def forEach {α : Type} (l : List α) (f : α → State → State) (s : State) : State :=
  l.foldl (fun t x => f x t) s

/-! ### Time -/

/-- Timebase cycles in a microsecond (R60: 320 MHz). -/
def usCycles : Nat := 320

/-- Timebase cycles in a millisecond. -/
def msCycles : Nat := 320000

/-- Timebase cycles in a second. -/
def secCycles : Nat := 320000000

/-- TS64 (R18, R64): the integer part of the accumulator, modulo 2^64. -/
def State.ts (s : State) : Nat := s.tim.acc / 2 ^ 40 % 2 ^ 64

/-- TS64 at a timebase cycle, past or to come, as the counter runs now (R65, R66). -/
def State.tsAt (s : State) (cycle : Nat) : Nat :=
  let step : Int := ((2 ^ 40 : Nat) : Int) + s.getInt TIM_RATE_RATE
  ((s.tim.acc : Int) + ((cycle : Int) - s.cycles) * step).toNat / 2 ^ 40 % 2 ^ 64

/-- TS32 (R18): the low 32 bits of TS64. -/
def State.ts32 (s : State) : Nat := s.ts % 2 ^ 32

/-- The exported lock flag: 1 in LOCKED and in COAST before its limit expires (R66; expiry leaves COAST). -/
def State.lock (s : State) : Bool :=
  match s.tim.st with
  | .locked => true
  | .coast => true
  | .free => false
  | .acq => false

/-- The rate limit of ±200 ppm, in units of 2^−40 (TIM_RATE). -/
def rateLimit : Int := 219902326

/-- The time that passes before a command: `dt` timebase cycles, each adding 1 + TIM_RATE × 2^−40 to TS64 (R64).
DESIGN CHOICE, safe: log 1. -/
def elapse (dt : Nat) (s : State) : State :=
  let step := ((2 ^ 40 : Nat) : Int) + s.getInt TIM_RATE_RATE
  { s with
    cycles := s.cycles + dt,
    tim := if s.tim.running then { s.tim with acc := s.tim.acc + dt * step.toNat } else s.tim }

/-- Whether `span` timebase cycles have passed since an instant. -/
def State.passed (s : State) (since span : Nat) : Bool := decide (since + span ≤ s.cycles)

/-- A value the manual states no rule for (assumption 13): the next free value. -/
def State.freeNow (s : State) : Nat := Config.freeValue s.free

/-- A free value has been used. -/
def useFree (s : State) : State := { s with free := s.free + 1 }

/-! ### Events -/

/-- Produce an event with a hop count (R390), from a block (R387). It reaches the channels by EVENT_ARRIVAL. -/
def emitAs (producer id hop : Nat) (s : State) : State :=
  { s with hdg := { s.hdg with
      seq := s.hdg.seq + 1,
      emitted := s.hdg.emitted ++ [{ id := id, hop := hop, producer := producer, seq := s.hdg.seq }] } }

/-- Produce an event; the producing block is bits [11:6] of its identifier (R381). -/
def emit (id hop : Nat) (s : State) : State := emitAs (id / 64) id hop s

/-! ### Task inputs (R389) -/

/-- The task input in its reset state. -/
def TaskInput.fresh (task : Nat) : TaskInput :=
  { task := task, busy := false, queued := false, hop := 0, start := none, coalesce := false, overrun := false,
    ccount := 0, ocount := 0 }

/-- A task input by its identifier. -/
def State.task (s : State) (id : Nat) : TaskInput :=
  (s.hdg.tasks.find? (fun t => t.task == id)).getD (TaskInput.fresh id)

/-- Put a task input back. -/
def setTask (t : TaskInput) (s : State) : State :=
  { s with hdg := { s.hdg with tasks := t :: s.hdg.tasks.filter (fun u => u.task != t.task) } }

/-- The hop count of a task's run: the run's own, or 0 where no run of Hedgerow's is under way (R390). -/
def State.taskHop (s : State) (id : Nat) : Nat := if (s.task id).busy then (s.task id).hop else 0

/-- A block takes up the accepted run of one of its tasks; the input stays busy. -/
def takeTask (id : Nat) (s : State) : State := setTask { s.task id with queued := false } s

/-- A task's action has taken effect: its input is idle again (R389). -/
def endTask (id : Nat) (s : State) : State :=
  setTask { s.task id with busy := false, queued := false, hop := 0 } s

/-- A block's own register starts a task: the input is busy in the same way, at hop count 0 (R389, R390). A run under way goes
on. -/
def startTask (id : Nat) (s : State) : State :=
  if (s.task id).busy then s else setTask { s.task id with busy := true, queued := false, hop := 0 } s

end Sys2Proof.Machine
end

