-- ==== Sys2Proof/Machine/Mem.lean ====
section
/-!
DEFINITION. The memories an engine reaches by a 40-bit address (R399): DRAM offset o stands at 0x10_0000_0000 + o, the
on-chip memories at the bus addresses of R552. Every byte of DRAM, SRAM and Lapwing SRAM that nothing has written reads 0
(assumption 4).
-/

namespace Sys2Proof.Machine

/-- What a byte of RAM reads as before anything has written it (R416 zero-fills DRAM, R501 an SRAM bank; assumption 4).
DESIGN CHOICE, unsafe: log 4. -/
def blankByte (_ : Nat) : Byte := 0

/-- The engine address of DRAM offset 0 (R399). -/
def dramBase : Nat := 0x1000000000

/-- The capacity visible to initiators (R399): seven eighths of the physical capacity. -/
def State.visible (s : State) : Nat :=
  let unit := 0x70000000
  let density := if s.is DMC_CFG_DENSITY then 2 else 1
  let ranks := if s.is DMC_CFG_RANKS then 2 else 1
  unit * density * ranks

/-- The physical capacity (R399). -/
def State.physical (s : State) : Nat := s.visible / 7 * 8

/-- The memories a 40-bit address can name. -/
inductive Region where
  | dram | sram | lpwSram
  deriving DecidableEq, Repr

/-- DRAM answers nothing: its training has failed (R414), or its domain is locked off (R507). -/
def State.dramDead (s : State) : Bool := s.get DMC_STAT_STATE == 5 || s.is (PWR_DOMn_LOCKOFF 18)

/-- The DRAM offset a 40-bit address names: its own, or, below 0x1_0000_0000, that of the DRAM window (R399, R553). -/
def State.dramOffset (s : State) (a : Nat) : Option Nat :=
  if dramBase ≤ a then some (a - dramBase)
  else if 0x80000000 ≤ a ∧ a < 0x100000000 then some (s.get APP_DRAMWIN_BASE * 0x10000000 + (a - 0x80000000))
  else none

/-- A 40-bit address names visible DRAM for an access of `n` bytes. -/
def State.namesDram (s : State) (a n : Nat) : Bool :=
  match s.dramOffset a with
  | some o => decide (o + n ≤ s.visible)
  | none => false

/-- The domains of the application SRAM banks that `n` octets at an offset lie in (R500). -/
def sramDomains (o n : Nat) : List Nat :=
  (List.range 8).filterMap (fun k => if k * 0x40000 < o + n ∧ o < (k + 1) * 0x40000 then some (10 + k) else none)

/-- An address lies in the application SRAM. -/
def inSram (a n : Nat) : Bool := decide (0x10000000 ≤ a ∧ a + n ≤ 0x10200000)

/-- The domains of the memory that `n` octets at a 40-bit address lie in; none where it names no memory of a domain. -/
def State.memoryDomains (s : State) (a n : Nat) : List Nat :=
  if s.namesDram a n then [18] else if inSram a n then sramDomains (a - 0x10000000) n else []

/-- A 40-bit address names memory, which may be locked off or dead (R399, R552). -/
def State.namesMemory (s : State) (a n : Nat) : Bool :=
  s.namesDram a n || ((s.dramOffset a).isNone &&
    (inSram a n || decide (0x11000000 ≤ a ∧ a + n ≤ 0x11040000)))

/-- The memory an access of `n` bytes at a 40-bit address lies in, and its byte offset there; none where the address names
no memory, the access leaves it, or the memory answers nothing (R399, R507, R552). -/
def State.locate (s : State) (a n : Nat) : Option (Region × Nat) :=
  match s.dramOffset a with
  | some o => if decide (o + n ≤ s.visible) && !s.dramDead then some (.dram, o) else none
  | none =>
  if inSram a n then
    if (sramDomains (a - 0x10000000) n).any (fun d => s.is (PWR_DOMn_LOCKOFF d)) then none else some (.sram, a - 0x10000000)
  else if 0x11000000 ≤ a ∧ a + n ≤ 0x11040000 then some (.lpwSram, a - 0x11000000)
  else none

/-- Read DRAM. -/
def State.dramGet (s : State) (o n : Nat) : Octets := Sparse.getRun blankByte s.dram o n

/-- A word of DRAM lies wholly within `n` octets at an offset. -/
def wordWithin (o n word : Nat) : Bool := decide (o ≤ word ∧ word + 8 ≤ o + n)

/-- Write DRAM: words written whole get fresh check bits (R403). -/
def dramPut (o : Nat) (os : Octets) (s : State) : State :=
  { s with
    dram := Sparse.putRun blankByte s.dram o os,
    dmc := { s.dmc with bad := s.dmc.bad.filter (fun w => !wordWithin o os.length w) } }

/-- A word that `n` octets at an offset touch stands uncorrectable (R405). -/
def State.dramBad (s : State) (o n : Nat) : Bool := s.dmc.bad.any (fun w => decide (w < o + n ∧ o < w + 8))

/-- Read a memory by a 40-bit address; none where the address gets the outcome of an uncorrectable error (R399, R405). -/
def State.memGet (s : State) (a n : Nat) : Option Octets :=
  match s.locate a n with
  | some (.dram, o) => if s.dramBad o n then none else some (s.dramGet o n)
  | some (.sram, o) => some (Sparse.getRun blankByte s.sram o n)
  | some (.lpwSram, o) => some (Sparse.getRun blankByte s.lpwSram o n)
  | none => none

/-- The 64-byte blocks an access to the application SRAM touches, as addresses divided by 64. -/
def touches (a n block : Nat) : Bool := decide (a / 64 ≤ block ∧ block ≤ (a + n - 1) / 64)

/-- A write to a block by any initiator clears the LR reservations that cover it (R547). -/
def clearReservations (a n : Nat) (s : State) : State :=
  let clear (h : Hart) : Hart :=
    match h.reservation with
    | some b => if touches a n b then { h with reservation := none } else h
    | none => h
  { s with app := { s.app with hart0 := clear s.app.hart0, hart1 := clear s.app.hart1 } }

/-- Write a memory by a 40-bit address. An address that names nothing writes nothing and sets ADDRERR (R399); a memory that
answers nothing takes nothing. -/
def memPut (a : Nat) (os : Octets) (s : State) : State :=
  match s.locate a os.length with
  | some (.dram, o) => dramPut o os s
  | some (.sram, o) =>
    clearReservations a os.length { s with sram := Sparse.putRun blankByte s.sram o os }
  | some (.lpwSram, o) => { s with lpwSram := Sparse.putRun blankByte s.lpwSram o os }
  | none => onlyIf (!s.namesMemory a os.length) (raise DMC_INT_STAT_ADDRERR) s

/-- An engine's access by an address that names nothing sets ADDRERR (R399). -/
def checkAddress (a n : Nat) (s : State) : State :=
  onlyIf (!s.namesMemory a n) (raise DMC_INT_STAT_ADDRERR) s

/-- Read a memory: zeros where it answers nothing. -/
def State.memOr0 (s : State) (a n : Nat) : Octets := (s.memGet a n).getD (zeros n)

end Sys2Proof.Machine
end

