-- ==== Sys2Proof/Machine/Flags.lean ====
section
/-!
DEFINITION. The interrupt sources: which flags and enables raise each of the 128 sources (R559 and the rules it names), and
the gateways of the interrupt controller (R558).
-/

namespace Sys2Proof.Machine

/-- A status bit and its enable bit are both 1. -/
def State.flagged (s : State) (stat en : Nat) (b : Nat) : Bool :=
  bitAt (s.word stat).toNat b && bitAt (s.word en).toNat b

/-- Some bit in a range of a status register is 1 together with its enable. -/
def State.anyFlagged (s : State) (stat en lo hi : Nat) : Bool :=
  (List.range (hi + 1 - lo)).any (fun k => s.flagged stat en (lo + k))

/-- Whether interrupt source `k` is raised (R559): for each block its status register, its enable register and the bits
that stand for the source. -/
def State.sourceRaised (s : State) (k : Nat) : Bool :=
  let any (stat en lo hi : Nat) : Bool := s.anyFlagged stat en lo hi
  let dom := any 0x20010030 0x20010034
  let mh := any 0x20010850 0x20010854
  let bkp := any 0x2002001C 0x20020020
  let lpw := any 0x20030010 0x20030014
  let cfg := any 0x20040030 0x20040034
  let fls := any 0x20050024 0x20050028
  let jnl := any 0x20060024 0x20060028
  let dmc := any 0x20080018 0x2008001C
  let sec := any 0x20090020 0x20090024
  let ctx := any 0x200A0030 0x200A0034
  let cod := any 0x200D0040 0x200D0044
  let rim := any 0x200E00D0 0x200E00D4
  let stl := any 0x20110040 0x20110044
  let tim := any 0x20120034 0x20120038
  match k with
  | 0 => dom 0 0
  | 1 => dom 1 3
  | 2 => mh 0 1
  | 3 => mh 2 4
  | 4 => mh 5 5
  | 5 => mh 6 7
  | 6 => s.is PWR_VL_ERR_FROZEN
  | 7 => mh 8 10
  | 8 => bkp 0 0
  | 9 => bkp 1 2
  | 10 => bkp 3 4
  | 11 => bkp 5 6
  | 12 => lpw 0 0
  | 13 => lpw 1 1
  | 14 => lpw 2 2
  | 15 => lpw 3 3
  | 16 => lpw 4 4
  | 17 => lpw 5 5 || lpw 8 8
  | 18 => lpw 6 7
  | 19 => lpw 9 9
  | 20 => cfg 0 1 || cfg 4 5
  | 21 => cfg 2 3 || cfg 6 7
  | 22 => cfg 10 10
  | 23 => cfg 8 9
  | 24 => fls 0 0
  | 25 => fls 1 3
  | 26 => fls 4 6
  | 27 => fls 7 7
  | 28 => fls 8 9
  | 29 => jnl 0 2
  | 30 => jnl 3 5
  | 31 => jnl 6 6
  | 40 => dmc 0 0
  | 41 => dmc 1 1 || dmc 4 4
  | 42 => dmc 2 3
  | 43 => dmc 5 7
  | 44 => sec 0 0
  | 45 => sec 1 1
  | 46 => sec 2 2
  | 47 => sec 3 3
  | 48 => sec 4 4
  | 49 => sec 5 5
  | 50 => sec 6 6
  | 51 => sec 8 15
  | 52 => ctx 0 1
  | 53 => ctx 2 2
  | 54 => ctx 3 4
  | 55 => ctx 5 6
  | 80 => cod 0 2
  | 81 => cod 3 4
  | 82 => cod 5 5 || cod 7 7
  | 83 => cod 6 6
  | 84 => rim 0 1
  | 85 => rim 2 3
  | 86 => rim 4 4
  | 87 => rim 5 7
  | 112 => stl 0 2
  | 113 => stl 3 6
  | 114 => stl 7 9
  | 115 => stl 10 13
  | 116 => tim 0 1
  | 117 => tim 2 2
  | 118 => tim 3 3
  | 119 => tim 4 4
  | 127 => bitAt (s.word 0x20130014).toNat 7 || any 0x20130014 0x20130018 8 10
  | k =>
    if 32 ≤ k ∧ k ≤ 39 then s.flagged 0x20070010 0x20070014 (k - 32)
    else if 56 ≤ k ∧ k ≤ 71 then s.flagged 0x200B0020 0x200B0024 (k - 56)
    else if 72 ≤ k ∧ k ≤ 79 then s.flagged 0x200C0030 0x200C0034 (k - 72)
    else if 88 ≤ k ∧ k ≤ 95 then s.flagged 0x200F0030 0x200F0034 (k - 88)
    else if 96 ≤ k ∧ k ≤ 111 then s.flagged 0x20100070 0x20100074 (k - 96)
    else if 120 ≤ k ∧ k ≤ 126 then bitAt (s.word 0x20130014).toNat (k - 120)
    else false

/-- Whether a PLIC ID is claimed by some context. -/
def State.idClaimed (s : State) (id : Nat) : Bool := s.app.claimed.any (fun c => c.1 == id)

/-- The gateways of R558: every ID whose source is raised and that is not claimed becomes pending. -/
def settle (s : State) : State :=
  let ids := (List.range 128).filter (fun k => s.sourceRaised k && !s.idClaimed (k + 1))
  { s with app := { s.app with
      pendingIds := (List.range 129).filter (fun i => 0 < i && (s.app.pendingIds.elem i || (ids.map (· + 1)).elem i)) } }

/-- The base of the interrupt controller. -/
def plicBase : Nat := 0x0C000000

/-- The priority of an ID. -/
def State.plicPriority (s : State) (id : Nat) : Nat := (s.word (plicBase + 4 * id)).toNat % 8

/-- Whether a context enables an ID. -/
def State.plicEnabled (s : State) (ctx id : Nat) : Bool :=
  bitAt (s.word (plicBase + 0x2000 + 0x80 * ctx + 4 * (id / 32))).toNat (id % 32)

/-- The threshold of a context. -/
def State.plicThreshold (s : State) (ctx : Nat) : Nat := (s.word (plicBase + 0x200000 + 0x1000 * ctx)).toNat % 8

/-- The IDs that interrupt a context: pending, enabled, and of a priority above its threshold. -/
def State.plicReady (s : State) (ctx : Nat) : List Nat :=
  s.app.pendingIds.filter (fun i => s.plicEnabled ctx i && decide (s.plicThreshold ctx < s.plicPriority i))

/-- MEIP of a hart, and the interrupt of Lapwing (R548): its context has an ID to claim. -/
def State.meip (s : State) (ctx : Nat) : Bool := !(s.plicReady ctx).isEmpty

/-- A hart by its number. -/
def State.hart (s : State) (c : Nat) : Hart := if c = 0 then s.app.hart0 else s.app.hart1

/-- Put a hart's record. -/
def setHart (c : Nat) (h : Hart) (s : State) : State :=
  if c = 0 then { s with app := { s.app with hart0 := h } } else { s with app := { s.app with hart1 := h } }

/-- An interrupt is pending for a hart (R548): MEIP, MSIP of `APP_MSIP`, or MTIP. -/
def State.hartPending (s : State) (c : Nat) : Bool :=
  s.meip c || bitAt (s.word 0x2013000C).toNat c || (s.hart c).mtip

/-- What stands once a command has taken effect: the gateways take up what it raised, and the queue of commands, the variant
and the instant, which are no command's to change, stand as `s` (the state before the command) and `dt` give them. -/
def after (dt : Nat) (s u : State) : State :=
  { settle u with variant := s.variant, cycles := s.cycles + dt, pending := s.pending }

/-- A command: the time since the last one passes, its effect takes place, and what it raised is taken up. -/
def command (dt : Nat) (body : State → State) (s : State) : Host.Outcome State Fault Refusal :=
  .next (after dt s (body (elapse dt s)))

end Sys2Proof.Machine
end

