-- ==== Sys2Proof/Machine/Operands.lean ====
section
/-!
DEFINITION. The forms in which a command reaches a register: the checks every bus access passes (R3, R7, R8, R478, R502,
R256, R394, R507), the effect of a write by the access code of each field (R10, R11), and the power domain an access
meets (R505 to R507).
-/

namespace Sys2Proof.Machine

/-! ### Initiators (R551) -/

def initNone : Nat := 0
def initHart0 : Nat := 1
def initHart1 : Nat := 2
def initLapwing : Nat := 4
def initLoader : Nat := 5
def initCheck : Nat := 6
def initRecovery : Nat := 7

/-- Whether an access comes from an application core. -/
def fromApp (a : Access) : Bool := a.init == initHart0 || a.init == initHart1

/-- Whether an owner code of R394 and R256 names an initiator. -/
def ownerAdmits (owner init : Nat) : Bool :=
  match owner with
  | 1 => init == initHart0
  | 2 => init == initHart1
  | 3 => init == initHart0 || init == initHart1
  | 4 => init == initLapwing
  | _ => false

/-! ### Power domains an access meets -/

/-- The domain numbers of R500 that accesses name. -/
def domSec : Nat := 3
def domJnl : Nat := 4
def domFls : Nat := 5
def domCfg : Nat := 6
def domHdg : Nat := 7
def domDmc : Nat := 18
def domCtx : Nat := 19
def domLnk : Nat := 20
def domShf : Nat := 21
def domUpl : Nat := 22
def domStl : Nat := 25
def domDec : Nat := 26
def domLnpc : Nat := 27
def domRx0 : Nat := 30
def domTx0 : Nat := 34

/-- The domain that holds a block's register window (R506). -/
def domainOfBlock (block : Nat) : Nat :=
  match block with
  | 0x03 => 1
  | 0x04 => domCfg
  | 0x05 => domFls
  | 0x06 => domJnl
  | 0x07 => domHdg
  | 0x08 => domDmc
  | 0x09 => domSec
  | 0x0A => domCtx
  | 0x0B => domLnk
  | 0x0C => domLnpc
  | 0x0D => domDec
  | 0x0E => domRx0
  | 0x0F => domShf
  | 0x10 => domUpl
  | 0x11 => domStl
  | 0x12 => 2
  | _ => 0

/-- A domain is absent on the variants that lack its instances (R500). -/
def domainAbsent (v : Variant) (d : Nat) : Bool :=
  match v with
  | .wv5280 => false
  | .wv5264 => d == 29
  | .wv5248 => d == 29 || d == 32 || d == 33 || d == 25

/-- Whether a domain is on: its STATE is 2 and no transition is under way (R500, R503). -/
def State.domainOn (s : State) (d : Nat) : Bool :=
  s.get (PWR_DOMn_STATE d) == 2 && s.get (PWR_DOMn_TRANS d) == 0

/-- Whether a domain is locked off (R507). -/
def State.domainLocked (s : State) (d : Nat) : Bool := s.is (PWR_DOMn_LOCKOFF d)

/-- Whether Hedgerow has started a run of a task that its block can take up now: its domain is on (R388). -/
def State.taskQueued (s : State) (id : Nat) : Bool := (s.task id).queued && s.domainOn (domainOfBlock (id / 64))

/-! ### What is assigned on a variant -/

/-- Registers of instances a variant lacks: they read 0 and ignore writes (R3). -/
def absentRegister (v : Variant) (a : Nat) : Bool :=
  let lane32 := decide (0x200C0280 ≤ a ∧ a ≤ 0x200C02FC) || a == 0x200C001C
  let dom := decide (0x20010100 ≤ a ∧ a ≤ 0x200101A4) && domainAbsent v ((a - 0x20010100) / 4)
  match v with
  | .wv5280 => false
  | .wv5264 => lane32 || dom
  | .wv5248 =>
    lane32 || dom
      || a == 0x200E004C || a == 0x200E0058 || a == 0x200E005C
      || decide (0x200E0080 ≤ a ∧ a ≤ 0x200E008C) || decide (0x200E00A0 ≤ a ∧ a ≤ 0x200E00AC)
      || (decide (0x200E0100 ≤ a ∧ a ≤ 0x200E017C) && decide (2 ≤ (a - 0x200E0100) / 4 % 4))

/-- Bits of shared registers that belong to instances a variant lacks: they read 0 and cannot be set (R3). On the WV-5264
`LNP_SEP.CORX` is one of them (R153); the rights of application cores to the fixed domains 0 to 2 read 0 on every variant (R502). -/
def presentMask (v : Variant) (a : Nat) : Word :=
  let fixed : Word := if a = 0x20010018 then 0xFFFFFFF8 else 0xFFFFFFFF
  fixed &&& match v with
  | .wv5248 =>
    if a = 0x200E0000 ∨ a = 0x200E0004 ∨ a = 0x200E0014 ∨ a = 0x200E0040 ∨ a = 0x200E0044 ∨ a = 0x200E0060 then
      0xFFFF00FF
    else if a = 0x200E00B0 then 0x00FFFFFF
    else if a = 0x20010018 then 0xFDFFFFFF &&& 0xDFFFFFFF
    else if a = 0x2001001C then 0xFFFFFFFC
    else 0xFFFFFFFF
  | .wv5264 =>
    if a = 0x20010018 then 0xDFFFFFFF
    else if a = 0x200C0008 then 0xFFFEFFFF
    else 0xFFFFFFFF
  | .wv5280 => 0xFFFFFFFF

/-- Whether a register answers at an address on a variant (R3, R8). -/
def assigned (v : Variant) (a : Nat) : Bool :=
  (regRow a).isSome && !(v == .wv5248 && blockOf a == 0x11)

/-! ### Who may access a register -/

/-- The channel of a Hedgerow channel register. -/
def hdgChannelOf (a : Nat) : Option Nat :=
  if 0x20071000 ≤ a ∧ a < 0x20073000 then some ((a - 0x20071000) / 0x20) else none

/-- The page of a Gorse page register. -/
def pageOf (a : Nat) : Option Nat :=
  if 0x20098000 ≤ a ∧ a < 0x200A0000 then some ((a - 0x20098000) / 0x1000) else none

/-- Rights of application cores to write `LPW` registers (R478, LPW_ACL, R484). -/
def lapwingWriteRight (acc : Access) (a : Nat) (s : State) : Bool :=
  if a = 0x20030034 then acc.init == initHart0 || acc.init == initLapwing
  else if a = 0x20030044 then acc.init == initHart1 || acc.init == initLapwing
  else if acc.init = initLapwing then true
  else if fromApp acc then
    if a = 0x20030008 then s.is LPW_ACL_APPRST
    else if a = 0x200300B0 then s.is LPW_ACL_APPUPD
    else if a = 0x200300A0 ∨ a = 0x200300A4 ∨ a = 0x200300A8 then s.is LPW_ACL_APPTOK
    else false
  else false

/-- A page answers an initiator (R256): its owner, with the secure attribute where SECURE is 1; page 7 is Lapwing's. -/
def pageAdmits (n : Nat) (acc : Access) (s : State) : Bool :=
  (if n = 7 then acc.init == initLapwing else ownerAdmits (s.get (PGn_OWNER_OWNER n)) acc.init)
    && (!s.is (PGn_OWNER_SECURE n) || acc.secure)

/-- Whether an initiator may write a register: the rules of the owning chapters. -/
def mayWrite (acc : Access) (a : Nat) (s : State) : Bool :=
  let lapwing := acc.init == initLapwing
  match blockOf a with
  | 0x01 =>
    if 0x20010100 ≤ a ∧ a ≤ 0x200101A4 then
      let n := (a - 0x20010100) / 4
      lapwing || (fromApp acc &&
        bitAt (if n < 32 then s.get PWR_ACL_LO_ACL else s.get PWR_ACL_HI_ACL) (n % 32))
    else true
  | 0x03 => lapwingWriteRight acc a s
  | 0x05 => if a = 0x20058000 then lapwing else true
  | 0x06 => if a = 0x20060000 ∨ a = 0x20060018 ∨ a = 0x2006001C then lapwing else true
  | 0x07 =>
    match hdgChannelOf a with
    | some n =>
      ownerAdmits (s.get (HDG_CHn_CFG_OWNER n)) acc.init &&
        (!s.is (HDG_CHn_CFG_SECURE n) || acc.secure)
    | none => true
  | 0x09 =>
    match pageOf a with
    | some n => pageAdmits n acc s
    | none => lapwing
  | 0x13 =>
    if a = 0x20130000 ∨ a = 0x20130004 ∨ 0x20130080 ≤ a then lapwing || acc.init == initLoader else true
  | _ => true

/-- Whether an initiator may read a register: pages answer their owner alone (R256), and a SECURE channel answers only
secure accesses of its owner or of Lapwing (R394). -/
def mayRead (acc : Access) (a : Nat) (s : State) : Bool :=
  match hdgChannelOf a with
  | some n =>
    !s.is (HDG_CHn_CFG_SECURE n) ||
      (acc.secure && (acc.init == initLapwing || ownerAdmits (s.get (HDG_CHn_CFG_OWNER n)) acc.init))
  | none =>
    match pageOf a with
    | some n => pageAdmits n acc s
    | none => true

/-! ### Work that meets a domain not on (R505, R514) -/

/-- Change the domain controller's own state. -/
def modPwr (f : Pwr → Pwr) (s : State) : State := { s with pwr := f s.pwr }

/-- Change the hold-up store's state. -/
def modHold (f : Hold → Hold) (s : State) : State := { s with hold := f s.hold }

/-- The number of domains (R500). -/
def domainCount : Nat := 42

/-- Domains of kind F: fixed on (R500). -/
def domainFixed (d : Nat) : Bool := decide (d ≤ 2)

/-- The domains present on the part. -/
def State.domains (s : State) : List Nat := (List.range domainCount).filter (fun d => !domainAbsent s.variant d)

/-- A domain has been used: its idle time starts again (R503). -/
def useDomain (d : Nat) (s : State) : State :=
  modPwr (fun p => { p with lastUse := (d, s.cycles) :: p.lastUse.filter (fun e => e.1 != d) }) s

/-- The idle time of a core's domain runs from when its last pending interrupt went (R503). -/
def keepPending (f : State → State) (s : State) : State :=
  forEach [0, 1] (fun c t => onlyIf (s.hartPending c && !t.hartPending c) (useDomain (8 + c)) t) (f s)

/-- The address of `APP_MTIMECMPc_LO`. -/
def mtimecmpLo (c : Nat) : Nat := 0x20130020 + 8 * c

/-- The compare value of a hart. -/
def State.mtimecmp (s : State) (c : Nat) : Nat :=
  (s.word (mtimecmpLo c)).toNat + 2 ^ 32 * (s.word (mtimecmpLo c + 4)).toNat

/-- MTIP follows the compare: it is 1 while TS64 is at or above it (R548). -/
def mtipFollows (c : Nat) : State → State :=
  keepPending (fun s => setHart c { s.hart c with mtip := decide (s.mtimecmp c ≤ s.ts) } s)

/-- The number of a cause and its initiator in `PWR_WAKESRC`. -/
def wakeCode : WakeCause → Nat × Nat
  | .access i => (1, i)
  | .hedgerow => (2, 0)
  | .interrupt => (3, 0)
  | .reqWrite => (4, 0)
  | .group => (5, 0)
  | .mode => (6, 0)
  | .booking => (7, 0)

/-- The transition of a domain, if one is under way. -/
def State.transOf (s : State) (d : Nat) : Option DomTrans := s.pwr.trans.find? (fun t => t.dom == d)

/-- Begin a wake (R505, R509); a wake that meets an entry follows it, and two accesses cause one wake. -/
def beginWake (d : Nat) (cause : Nat × Nat) (s : State) : State :=
  match s.transOf d with
  | some t =>
    if t.target = 2 ∨ t.again.isSome then s
    else modPwr (fun p => { p with
      trans := p.trans.map (fun u => if u.dom = d then { u with again := some cause } else u) }) s
  | none =>
    if s.get (PWR_DOMn_STATE d) = 2 then s
    else
      let s := s.set (PWR_DOMn_TRANS d) 1
      modPwr (fun p => { p with
        trans := p.trans ++
          [{ dom := d, target := 2, since := s.cycles, cause := cause.1, init := cause.2, again := none }] }) s

/-- The group that holds a domain, if one in progress does. -/
def State.groupOf (s : State) (d : Nat) : Option Nat :=
  if s.is (PWR_DOMn_INGRP d) then some (s.get (PWR_DOMn_GROUP d)) else none

/-- The states of a group, as `PWR_GRPg_STAT` codes them. -/
def grpIdle : Nat := 0
def grpPrepare : Nat := 1
def grpCommit : Nat := 2
def grpDone : Nat := 3
def grpRefused : Nat := 4
def grpRestoring : Nat := 5

/-- The group lets go of its members; a REQ of on written meanwhile acts now (R515). -/
def freeMembers (g : Nat) (s : State) : State :=
  forEach (s.domains.filter (fun d => s.groupOf d == some g)) (fun d t =>
    let t := (t.set (PWR_DOMn_INGRP d) 0).set (PWR_DOMn_GROUP d) 0
    onlyIf (t.get (PWR_DOMn_REQ d) == 2 && !t.domainOn d && !t.domainLocked d) (beginWake d (wakeCode .reqWrite)) t) s

/-- A group ends refused (R512, R514, R515). DEDUCED, unsafe: log 22. -/
def refuseGroup (g refuser reason : Nat) (late : Bool) (s : State) : State :=
  let s := s.set (PWR_GRPg_STAT_STATE g) grpRefused
  let s := s.set (PWR_GRPg_STAT_LATE g) (flag late)
  let s := (s.set (PWR_GRPg_STAT_REFUSER g) refuser).set (PWR_GRPg_STAT_REASON g) reason
  let s := s.set (PWR_GRPg_CTRL_GO g) 0
  let s := freeMembers g s
  emit 0x042 0 (raise PWR_DOM_INT_STAT_GROUPREF s)

/-- When a domain was last used. -/
def State.lastUse (s : State) (d : Nat) : Nat := ((s.pwr.lastUse.find? (fun e => e.1 == d)).map (·.2)).getD 0

/-- A domain has been idle for its IDLE time (R503). -/
def State.domainIdle (s : State) (d : Nat) : Bool :=
  s.passed (s.lastUse d) (s.get (PWR_DOMn_IDLE d) * 10 * usCycles)

/-! ### What a domain holds on to (R503, R504) -/

/-- Whether a domain may take a state (0 off, 1 retention, 2 on): the States column of R500. -/
def domainAllows (d target : Nat) : Bool :=
  if domainFixed d then target == 2
  else if d = 3 ∨ d = 7 then target == 1 || target == 2
  else decide (target ≤ 2)

/-- The RX domains with a port enabled in `RIM_PORT_EN.RXEN`. -/
def State.rxDomains (s : State) : List Nat :=
  (List.range 4).filterMap (fun k =>
    if s.get RIM_PORT_EN_RXEN / 2 ^ (4 * k) % 16 = 0 then none else some (domRx0 + k))

/-- The SER domains whose port mode is not 0 (R504). -/
def State.serDomains (s : State) : List Nat :=
  (if s.get UPL_CFG_MODE0 = 0 then [] else [23]) ++ (if s.get UPL_CFG_MODE1 = 0 then [] else [24])

/-- The domains a serving mode requires (R504). -/
def State.servingDomains (s : State) : List Nat :=
  [3, 4, 5, 7, 18, 19, 20, 21, 22, 26, 27, 28, 29] ++ s.rxDomains ++ s.serDomains
    ++ (if s.is STL_CFG_EN then [domStl] else [])

/-- The SER domain of the active port. -/
def State.activeSer (s : State) : Nat := if s.is UPL_STAT_ACTIVE then 24 else 23

/-- The domains the holdover profile locks off (R531). -/
def State.holdoverOff (s : State) : List Nat :=
  let rx := s.get PWR_HU_PROF_RXDOM
  let tx := s.get PWR_HU_PROF_TXCH
  ((List.range 4).filterMap (fun k => if k = rx then none else some (domRx0 + k)))
    ++ ((List.range 8).filterMap (fun k => if k = tx then none else some (domTx0 + k)))
    ++ [29, domCfg, if s.activeSer = 24 then 23 else 24]

/-- The domains LASTGASP locks off (R534). -/
def State.lastgaspOff (s : State) : List Nat :=
  [30, 31, 32, 33] ++ (List.range 8).map (fun k => domTx0 + k)
    ++ [domLnpc, 28, 29, domDec, domLnk, domShf, domCtx, domCfg, if s.activeSer = 24 then 23 else 24]

/-- The domains a mode holds on besides AON, LPW and TIM (R504, R531, R534). -/
def State.requiredIn (s : State) (m : Mode) : List Nat :=
  (match m with
   | .reset => []
   | .load => [3, 4, 5, 6, 18, 19]
   | .selftest => s.domains
   | .maker => s.domains
   | .solo => s.servingDomains
   | .primary => s.servingDomains
   | .standby => s.servingDomains
   | .takeover => s.servingDomains
   | .holdover =>
     s.servingDomains.filter (fun d => !s.holdoverOff.elem d) ++ [domTx0 + s.get PWR_HU_PROF_TXCH]
   | .lastgasp => s.servingDomains.filter (fun d => !s.lastgaspOff.elem d)
   | .update => [3, 4, 5, 6, 18, 19, 21, 22] ++ s.serDomains
   | .safe => [4, 5, 6, 23, 24]).filter (fun d => !domainFixed d && !domainAbsent s.variant d)

/-- Whether a domain is required now (R504). -/
def State.domainRequired (s : State) (d : Nat) : Bool :=
  domainFixed d || (s.requiredIn s.mode).elem d

/-- The stages of a domain's block hold work (R503): what its engines have begun or still have to do. For an application core it
is an interrupt that is pending and enabled. DEDUCED, unsafe: log 194. -/
def State.holdsWork (s : State) (d : Nat) : Bool :=
  match d with
  | 3 => !s.sec.pages.isEmpty || !s.sec.shared.isEmpty || s.sec.resvs.any (fun r => r.ticket.isSome)
  | 4 => !s.jnl.offered.isEmpty || !s.jnl.accepted.isEmpty || s.jnl.restate.isSome || s.jnl.formatting
  | 5 => s.fls.op.isSome || s.fls.susp.isSome || s.fls.prot.isSome || s.otp.op.isSome
  | 6 => !s.cfg.chks.isEmpty || s.lpw.spix.isSome
  | 7 => !s.hdg.emitted.isEmpty || !s.hdg.held.isEmpty || !s.hdg.legs.isEmpty
  | 8 => s.hartPending 0
  | 9 => s.hartPending 1
  | 18 => !s.dmc.queue.isEmpty
  | 19 => !s.ctx.fills.isEmpty || !s.ctx.cmds.isEmpty || !s.ctx.wb.isEmpty
  | 20 => !s.inbox.isEmpty || !s.lnk.decided.isEmpty || !s.lnk.acks.isEmpty || !s.lnk.attempts.isEmpty
            || !s.lnk.bookings.isEmpty
  | 21 => !s.shf.input.isEmpty || s.shf.rawWait.isSome
  | 22 => s.upl.sending.isSome || !s.upl.entering.isEmpty || !s.upl.replies.isEmpty || !s.upl.reasm.isEmpty
  | 23 => s.upl.sending.any (fun f => f.port == 0) || s.upl.mdio.any (fun m => m.1 == 0)
  | 24 => s.upl.sending.any (fun f => f.port == 1) || s.upl.mdio.any (fun m => m.1 == 1)
  | 25 => !s.stl.waiting.isEmpty
  | 26 => !s.cod.ctxs.isEmpty
  | 28 => s.lnp.lanes.any (fun e => e.1 / 32 == 0)
  | 29 => s.lnp.lanes.any (fun e => e.1 / 32 == 1)
  | _ => domTx0 ≤ d &&
      (let c := Sparse.get (fun _ => Chain.off) s.cod.chains (d - domTx0)
       c.tuning.isSome || c.recal.isSome)

/-- Whether a domain's block allows it to leave on beside idleness (R503): its stages hold no work, DMC must be in self-refresh, a TX
domain's chain must hold no booking. -/
def State.blockAllowsEntry (s : State) (d : Nat) : Bool :=
  !s.holdsWork d && (d != domDmc || s.get DMC_STAT_STATE == 4)
    && (!decide (domTx0 ≤ d ∧ d ≤ 41) || s.cod.placed.all (fun b => b.chain != d - domTx0))

/-! ### Sleep groups met by work (R512 to R515) -/

/-- The vote of a member (R512): none for an agreement, otherwise the reason. `busy` says that an application core is still not idle
100 µs after GO, which the state does not tell of a running core (assumption 194). -/
def State.vote (s : State) (g d : Nat) (busy : Bool) : Option Nat :=
  let target := s.get (PWR_GRPg_CTRL_TARGET g)
  if s.groupOf d ≠ some g then some 3
  else if domainAllows d target = false then some 5
  else if s.domainLocked d ∧ target ≠ 0 then some 4
  else if s.get (PWR_DOMn_STATE d) ≤ target then none
  else if s.domainRequired d then some 2
  else if (busy && (d == 8 || d == 9)) || !s.domainIdle d || !s.blockAllowsEntry d then some 1
  else none

/-- A member of a group is on its way to the group's target. -/
def State.memberEnters (s : State) (g : Nat) : Bool :=
  s.pwr.trans.any (fun t => t.target != 2 && s.groupOf t.dom == some g)

/-- The restart of the member of a group that stopped last begins (R514): each starts when the one before it is on. -/
def restartNext (g : Nat) (s : State) : State :=
  match s.pwr.stopped.find? (fun e => e.1 == g) with
  | some e => beginWake e.2 (wakeCode .group) s
  | none => s

/-- A late refusal during COMMIT (R514), the first that arises: REFUSER and REASON are kept, a member that is mid-entry finishes its
entry first, and the group is then RESTORING. -/
def lateRefusal (g refuser reason : Nat) (s : State) : State :=
  if s.get (PWR_GRPg_STAT_REFUSER g) ≠ 0 then s
  else
    let s := (s.set (PWR_GRPg_STAT_REFUSER g) refuser).set (PWR_GRPg_STAT_REASON g) reason
    if s.memberEnters g then s else restartNext g (s.set (PWR_GRPg_STAT_STATE g) grpRestoring)

/-- Work for a member of a group in progress refuses the group with ACCESS (R512, R514): in PREPARE where the member has agreed, by
its vote as it stands, and in COMMIT. A group of target on has no votes. DEDUCED, unsafe: log 22. -/
def groupAccess (d : Nat) (s : State) : State :=
  match s.groupOf d with
  | some g =>
    if s.get (PWR_GRPg_CTRL_TARGET g) = 2 then s
    else if s.get (PWR_GRPg_STAT_STATE g) = grpPrepare then
      onlyIf (s.vote g d false).isNone (refuseGroup g d 6 false) s
    else if s.get (PWR_GRPg_STAT_STATE g) = grpCommit then lateRefusal g d 6 s
    else s
  | none => s

/-- A group restores, or is about to: its stopped members restart in its own order, not by the work that waits for them (R514). -/
def State.groupRestarts (s : State) (d : Nat) : Bool :=
  match s.groupOf d with
  | some g =>
    s.get (PWR_GRPg_CTRL_TARGET g) != 2
      && (s.get (PWR_GRPg_STAT_STATE g) == grpCommit || s.get (PWR_GRPg_STAT_STATE g) == grpRestoring)
  | none => false

/-- Work wakes its domain (R505, R509), which a locked one does not (R507). -/
def wakeFor (d : Nat) (cause : WakeCause) (s : State) : State :=
  if s.groupRestarts d || s.domainLocked d then s else beginWake d (wakeCode cause) s

/-- Work other than a bus access for a domain (R503, R509): a delivery, a booking or an interrupt uses it or wakes it, and refuses a
group that holds it. -/
def workFor (d : Nat) (cause : WakeCause) (s : State) : State :=
  let s := groupAccess d s
  if s.domainOn d then useDomain d s else wakeFor d cause s

/-- A domain serves an access: it is on, and no earlier access still waits for it (R505). -/
def State.domainReady (s : State) (d : Nat) : Bool := s.domainOn d && s.stalled.all (fun x => x.dom != d)

/-! ### The access firewall (R554, R555) -/

/-- The regions owned by an engine (R554), as base and size. -/
def State.engineRegions (s : State) : List (Nat × Nat) :=
  [(s.get CTX_TBL_ADDR * 2 ^ 26, 0x4000000), (s.get CTX_MAP_ADDR * 2 ^ 22, 0x400000),
    (s.get CTX_EUIX_ADDR * 2 ^ 23, 0x800000), (s.get CTX_HDR_ADDR * 2 ^ 12, 0x1000),
    (s.get SHF_FLOWBASE_ADDR * 2 ^ 24, 0x1000000), (s.get SHF_INBASE_ADDR * 2 ^ 24, 0x1000000),
    (s.get JNL_CFG_RECBASE * 2 ^ 12, 0x200000)]

/-- Two runs of addresses meet. -/
def runsMeet (a n b m : Nat) : Bool := decide (a < b + m ∧ b < a + n)

/-- The base of a firewall window. -/
def State.fwBase (s : State) (w : Nat) : Nat :=
  s.get (APP_FWn_BASE_HI_ADDR w) * 2 ^ 32 + s.get (APP_FWn_BASE_LO_ADDR w) * 2 ^ 12

/-- Whether a window covers an access and does not admit it (R555). -/
def State.fwWindowRefuses (s : State) (acc : Access) (write : Bool) (a n w : Nat) : Bool :=
  let rights := if write then s.get (APP_FWn_ATTR_WR w) else s.get (APP_FWn_ATTR_RD w)
  s.is (APP_FWn_ATTR_VALID w) && runsMeet a n (s.fwBase w) (s.get (APP_FWn_SIZE_SIZE w) * 4096) &&
    (!bitAt rights acc.init || (s.is (APP_FWn_ATTR_SECURE w) && !acc.secure))

/-- What refuses an access to `n` bytes at a translated address: a window, 8 for an engine region, or nothing (R554). -/
def State.firewall (s : State) (acc : Access) (write : Bool) (a n : Nat) : Option Nat :=
  if acc.init = initNone ∨ acc.init = initRecovery then none
  else if write && s.engineRegions.any (fun r => runsMeet a n r.1 r.2) then some 8
  else (List.range 8).find? (s.fwWindowRefuses acc write a n)

/-- FIREWALL_REFUSAL (R554): the first is logged, every one is flagged and counted. -/
def firewallRefusal (acc : Access) (write : Bool) (a w : Nat) (s : State) : State :=
  let s := raise APP_INT_STAT_FWVIOL (count APP_FW_CNT_COUNT 1 s)
  if s.is APP_FW_INFO_VALID then s
  else
    let s := (s.set APP_FW_ADDR_LO_ADDR a).set APP_FW_INFO_ADDRHI (a / 2 ^ 32)
    let s := ((s.set APP_FW_INFO_INITIATOR acc.init).set APP_FW_INFO_WRITE (flag write)).set APP_FW_INFO_SECURE
      (flag acc.secure)
    raise APP_FW_INFO_VALID (s.set APP_FW_INFO_WINDOW w)

/-! ### The verdict on a register access -/

/-- What becomes of an access: it is served, it gets an error response, the firewall refuses it (by a window, or by 8 for an
engine region), it gets an error response for a domain that is locked off (R507), or it stalls until its domain is on
(R505). -/
inductive Verdict where
  | serve | error | refused (window : Nat) | locked | stall
  deriving DecidableEq, Repr

/-- The verdict on a 32-bit register access (R3, R7, R8, R256, R394, R478, R502, R505, R507, R554).
DEDUCED, unsafe: log 17. -/
def verdict (acc : Access) (a : Nat) (write : Bool) (s : State) : Verdict :=
  let d := domainOfBlock (blockOf a)
  if acc.bytes ≠ 4 ∨ assigned s.variant a = false then .error
  else if (if write then mayWrite acc a s else mayRead acc a s) = false then .error
  else
    match s.firewall acc write a 4 with
    | some n => .refused n
    | none => if s.domainLocked d then .locked else if s.domainReady d then .serve else .stall

/-- Record the first domain error while `PWR_ERR` shows none (`PWR_ERRINFO`), and set its flag. `kind` is the bit of
`PWR_ERR`. -/
def domainError (kind d init : Nat) (s : State) : State :=
  let first := s.get ⟨0x20010004, 0, 5⟩ == 0
  let s := if first then
      ((s.set PWR_ERRINFO_DOMAIN d).set PWR_ERRINFO_KIND kind).set PWR_ERRINFO_INITIATOR init
    else s
  raise PWR_DOM_INT_STAT_DOMERR (raise ⟨0x20010004, kind, 1⟩ s)

/-- The error response of an access. -/
def errorResponse (s : State) : State := { s with resp := .error }

/-- An access meets a domain that is on: the domain is in use (R503), and a sleep group that holds it is refused (R514). -/
def meetDomain (d : Nat) (s : State) : State := if domainFixed d then s else useDomain d (groupAccess d s)

/-- An access meets a domain that is not on, or for which others wait: it waits, and the domain wakes (R505). -/
def stallAccess (d : Nat) (w : Stalled) (s : State) : State :=
  let s := wakeFor d (.access w.acc.init) (groupAccess d s)
  { s with resp := .stalled, stalled := s.stalled ++ [{ w with dom := d }] }

/-- Serve an access by its verdict; the firewall comes before the domain (R554). -/
def access (acc : Access) (a : Nat) (w : Option Word) (serve : State → State) (s : State) : State :=
  let d := domainOfBlock (blockOf a)
  match verdict acc a w.isSome s with
  | .serve => serve { meetDomain d s with resp := .ok }
  | .error => errorResponse s
  | .refused n => errorResponse (firewallRefusal acc w.isSome a n s)
  | .locked => errorResponse (domainError 0 d acc.init s)
  | .stall => stallAccess d { acc := acc, addr := a, write := w, sram := none, since := s.cycles } s

/-! ### The effect of a write by access codes (R10, R11) -/

/-- The lock field of a register with RWL fields. -/
def lockOf (a : Nat) : Option Fld :=
  if a = 0x20030020 then some LPW_WDT_CFG_LOCK
  else if a = 0x20090018 then some SEC_CTRL_ALOCK
  else if a = 0x20130004 then some APP_DRAMWIN_LOCK
  else none

/-- Whether the RWL fields of a register are locked. -/
def State.lockedAt (s : State) (a : Nat) : Bool :=
  match lockOf a with
  | some f => s.is f
  | none => false

/-- The write of one field: RW and unlocked RWL take the value, W1C clears where 1 is written, W1S sets where 1 is
written, WO takes the value (a read returns 0); RO, RC and CL keep what they hold. -/
def writeField (locked : Bool) (w old : Word) (f : FieldRow) : Word :=
  let width := f.hi + 1 - f.lo
  let mask : Word := BitVec.ofNat 32 ((2 ^ width - 1) * 2 ^ f.lo)
  match f.acc with
  | .rw => (old &&& ~~~mask) ||| (w &&& mask)
  | .rwl => if locked then old else (old &&& ~~~mask) ||| (w &&& mask)
  | .w1c => old &&& ~~~(w &&& mask)
  | .w1s => old ||| (w &&& mask)
  | .ro => old
  | .wo => (old &&& ~~~mask) ||| (w &&& mask)
  | .rc => old
  | .cl => old

/-- The word a register holds after a write, by the access codes of its fields. -/
def writtenWord (locked : Bool) (r : RegRow) (w old : Word) : Word :=
  r.fields.foldl (writeField locked w) old

/-- Write a register by the access codes of its fields; bits and instances the variant lacks ignore the write. -/
def plainWrite (a : Nat) (w : Word) (s : State) : State :=
  if absentRegister s.variant a then s
  else
    match regRow a with
    | some r => s.setWord a (writtenWord (s.lockedAt a) r (w &&& presentMask s.variant a) (s.word a))
    | none => s

/-- What RC fields leave behind after a read: their reset value (R10). -/
def readLeaves (r : RegRow) (resetW old : Word) : Word :=
  r.fields.foldl (fun v f =>
    let mask : Word := BitVec.ofNat 32 ((2 ^ (f.hi + 1 - f.lo) - 1) * 2 ^ f.lo)
    match f.acc with
    | .rc => (v &&& ~~~mask) ||| (resetW &&& mask)
    | _ => v) old

/-- The side effect of a read: RC fields clear to their reset value. -/
def readClear (a : Nat) (s : State) : State :=
  match regRow a with
  | some r => s.setWord a (readLeaves r (resetWord a) (s.word a))
  | none => s

/-- What a served write leaves before the register's own action: the domain is in use, the response is OKAY, and the fields
hold what their access codes make of the write. -/
def written (a : Nat) (w : Word) (s : State) : State :=
  plainWrite a w { meetDomain (domainOfBlock (blockOf a)) s with resp := .ok }

/-- A register write that is a row of its own: the checks of the bus, the write by access codes, then the action. -/
def writeRow (acc : Access) (a : Nat) (w : Word) (action : State → State) (s : State) : State :=
  access acc a (some w) (fun t => action (plainWrite a w t)) s

/-- Whether a written word has a bit of a field set. -/
def wrote (w : Word) (f : Fld) : Bool := extractBits w f.lo f.width != 0

end Sys2Proof.Machine
end

