-- ==== Sys2Proof/Machine/Engine.lean ====
section
/-!
DEFINITION. The DRAM controller as requests meet it (R399 to R409): where an offset lies, the order in which requests on the same
bytes are served, error detection and correction, and the transfers that engines make for themselves.
-/

namespace Sys2Proof.Machine

/-- Change the DRAM controller's state. -/
def modDmc (f : Dmc → Dmc) (s : State) : State := { s with dmc := f s.dmc }

/-- The codes of `DMC_STAT.STATE`. -/
def dmcOff : Nat := 0
def dmcTrain : Nat := 1
def dmcZerofill : Nat := 2
def dmcReady : Nat := 3
def dmcSelfref : Nat := 4
def dmcFailed : Nat := 5

/-- Self-refresh begins to exit (R419). -/
def exitSelfRefresh (s : State) : State :=
  if s.get DMC_STAT_STATE = dmcSelfref then modDmc (fun d => { d with exiting := true }) s else s

/-! ### Where an offset lies (R399, R401) -/

/-- The rows of a bank (R399). -/
def State.dramRows (s : State) : Nat := if s.is DMC_CFG_DENSITY then 131072 else 65536

/-- The number of ranks. -/
def State.dramRanks (s : State) : Nat := if s.is DMC_CFG_RANKS then 2 else 1

/-- The place of an offset. -/
structure DramPlace where
  channel : Nat
  rank : Nat
  bank : Nat
  row : Nat
  slot : Nat
  deriving DecidableEq, Repr

/-- The place of an offset, by the order of `DMC_CFG.ORDER` (R401). -/
def State.dramPlace (s : State) (o : Nat) : DramPlace :=
  let b := o / 256
  let row := b / 112 % s.dramRows
  let slot := if s.get DMC_CFG_ORDER = 1 then b % 14 else b / 8 % 14
  let bank := match s.get DMC_CFG_ORDER with
    | 1 => b / 14 % 8
    | 2 => (b % 8) ^^^ (row % 8)
    | _ => b % 8
  { channel := o % 256 / 128, rank := b / (112 * s.dramRows), bank := bank, row := row, slot := slot }

/-- The bank of a place among all, as the open rows are kept. -/
def DramPlace.key (p : DramPlace) : Nat := 16 * p.rank + p.bank

/-- The byte of its row at which an offset's data stands (R400). -/
def State.rowByte (s : State) (o : Nat) : Nat := 128 * (s.dramPlace o).slot + o % 128

/-- The byte of the same row that holds the check bits of an offset's 64-bit word (R400). -/
def State.checkByteAt (s : State) (o : Nat) : Nat := 1792 + 16 * (s.dramPlace o).slot + o % 128 / 8

/-- The check byte of an offset's 64-bit word, by the (72,64) code (R400, R404), whose matrix is open (assumption 12). -/
def State.checkByte (s : State) (o : Nat) : Byte := Config.eccCheck (leNat (s.dramGet (o / 8 * 8) 8))

/-- The rank a request reads or writes first. -/
def State.rankOf (s : State) (r : DmcReq) : Nat := (s.dramPlace r.offset).rank

/-- Timebase cycles in a tenth of a microsecond. -/
def tenthCycles : Nat := 32

/-! ### Requests on the same bytes (R402) -/

/-- Two requests touch the same 128-byte half block (R402). -/
def sameHalf (r q : DmcReq) : Bool :=
  decide (r.offset / 128 ≤ (q.offset + q.len - 1) / 128 ∧ q.offset / 128 ≤ (r.offset + r.len - 1) / 128)

/-- The requests before one that it waits for, directly or through others, oldest first, and itself last (R402). -/
def State.waitsFor (s : State) (r : DmcReq) : List DmcReq :=
  let older := (s.dmc.queue.filter (fun q => decide (q.id < r.id))).reverse
  older.foldl (fun (acc : List DmcReq) q => if acc.any (sameHalf q) then q :: acc else acc) [r]

/-- What must be served so that a request can be: the oldest of the requests it waits for by R402; itself where there is none. -/
def State.firstFor (s : State) (r : DmcReq) : DmcReq := (s.waitsFor r).head?.getD r

/-! ### Errors (R404, R405) -/

/-- A syndrome of odd weight: what a corrected error shows (R404). The rest of it is open (assumption 12). -/
def oddSyndrome (bit : Nat) : Nat :=
  let w := (Config.eccSyndrome bit).toNat
  if popCount 8 w % 2 = 1 then w else w ^^^ 1

/-- A non-zero syndrome of even weight: what an uncorrectable error shows (R404). The rest of it is open (assumption 12). -/
def evenSyndrome (v : Nat) : Nat :=
  let w := v % 256
  let w := if popCount 8 w % 2 = 0 then w else w ^^^ 1
  if w = 0 then 3 else w

/-- The first correctable error while VALID is 0 is logged (R404). -/
def logCe (port word bit : Nat) (s : State) : State :=
  if s.is DMC_CE_INFO_VALID then s
  else
    let p := s.dramPlace word
    let s := (s.set DMC_CE_LO_OFFSET word).set DMC_CE_HI_OFFSET (word / 2 ^ 32)
    let s := ((s.set DMC_CE_INFO_SYNDROME (oddSyndrome bit)).set DMC_CE_INFO_CH p.channel).set DMC_CE_INFO_RANK p.rank
    let s := ((s.set DMC_CE_INFO_BANK p.bank).set DMC_CE_INFO_PORT port).set DMC_CE_INFO_BIT bit
    raise DMC_CE_INFO_VALID s

/-- The first uncorrectable error while VALID is 0 is logged (R405). -/
def logUe (port word : Nat) (s : State) : State :=
  if s.is DMC_UE_INFO_VALID then s
  else
    let p := s.dramPlace word
    let s := (s.set DMC_UE_LO_OFFSET word).set DMC_UE_HI_OFFSET (word / 2 ^ 32)
    let s := useFree (s.set DMC_UE_INFO_SYNDROME (evenSyndrome s.freeNow))
    let s := (s.set DMC_UE_INFO_CH p.channel).set DMC_UE_INFO_RANK p.rank
    let s := ((s.set DMC_UE_INFO_BANK p.bank).set DMC_UE_INFO_PORT port).set DMC_UE_INFO_BIT 0x7F
    raise DMC_UE_INFO_VALID s

/-- The port the scrubber is logged with (R406). -/
def scrubPort : Nat := 8

/-- An error the check of a word finds: ECC_CE corrects, writes back and counts (R404), ECC_UE counts (R405) and leaves the word
as it is, uncorrectable until it is written whole; what the scrubber corrects counts in SCRUBFIX in place of CE (R406). -/
def eccError (port : Nat) (e : EccError) (s : State) : State :=
  match e.bit with
  | some b =>
    let s := count (if port = scrubPort then DMC_CNT_SCRUBFIX else DMC_CNT_CE) 1 s
    emit 0x200 0 (logCe port e.word b (raise DMC_INT_STAT_CE s))
  | none =>
    let s := emit 0x201 0 (logUe port e.word (raise DMC_INT_STAT_UE (count DMC_CNT_UE 1 s)))
    modDmc (fun d => { d with bad := if d.bad.elem e.word then d.bad else e.word :: d.bad }) s

/-! ### Waits (R408, R413) -/

/-- LATE or P0LATE is set; URGENT says that it was 0 (R421). -/
def raiseLate (f : Fld) (s : State) : State :=
  if s.is f then s else emit 0x202 0 (raise f s)

/-- Change a request that waits. -/
def modReq (id : Nat) (f : DmcReq → DmcReq) (s : State) : State :=
  modDmc (fun d => { d with queue := d.queue.map (fun r => if r.id = id then f r else r) }) s

/-- A request of ports 1–7 that has waited TARGET is late, and is counted once (R408). -/
def becomeLate (r : DmcReq) (s : State) : State :=
  if r.port ≠ 0 ∧ r.late = false ∧ s.passed r.since (r.target * tenthCycles) then
    raiseLate DMC_INT_STAT_LATE
      (count DMC_CNT_LATE 1 (modReq r.id (fun q => { q with late := true, urgent := true }) s))
  else s

/-- A request leaves the queue: its port's longest wait is kept, and a port 0 read over 1.2 µs is counted (R413). -/
def leaveQueue (r : DmcReq) (s : State) : State :=
  let s := becomeLate r s
  let wait := s.cycles - r.since
  let s := raiseTo (DMC_PORTn_PLAT r.port) (wait / tenthCycles) s
  let s := if r.port = 0 ∧ 12 * tenthCycles < wait then
      raiseLate DMC_INT_STAT_P0LATE (count DMC_CNT_P0LATE 1 s) else s
  modDmc (fun d => { d with queue := d.queue.filter (fun q => q.id != r.id), idleFrom := s.cycles }) s

/-! ### Serving a request (R403 to R405) -/

/-- The offset of the 64-bit word that holds a byte. -/
def wordOf (o : Nat) : Nat := o / 8 * 8

/-- A write covers part of a word (R403). -/
def partialWrite (r : DmcReq) : Bool := decide (r.offset % 8 ≠ 0 ∨ (r.offset + r.len) % 8 ≠ 0)

/-- The words whose contents serving a request reads: all of a read's, and those a write covers in part (R403). -/
def readsWord (r : DmcReq) (word : Nat) : Bool :=
  let inside := decide (wordOf r.offset ≤ word ∧ word < r.offset + r.len ∧ word % 8 = 0)
  match r.data with
  | none => inside
  | some _ => inside && decide (word < r.offset ∨ r.offset + r.len < word + 8)

/-- The words a request reads that stand uncorrectable in the array (R403, R405). -/
def State.badOf (s : State) (r : DmcReq) : List Nat := s.dmc.bad.filter (readsWord r)

/-- What the initiator of a request gets: an error response on the bus, or the engine's error result; or the octets read; or
word that the write is done. -/
def answerRequest (r : DmcReq) (got : Option Octets) (s : State) : State :=
  let s := modDmc (fun d => { d with served := some (r.id, got) }) s
  match r.acc with
  | none => s
  | some _ =>
    match got with
    | none => { s with resp := .error }
    | some os =>
      match r.data with
      | some _ => { s with resp := .ok }
      | none => { s with resp := .octets os }

/-- A request is served: the rows it touches open, the errors found are handled, a read returns its octets and a write takes
place, or an uncorrectable error refuses it whole. DESIGN CHOICE, unsafe: log 115. -/
def serveRequest (errors : List EccError) (r : DmcReq) (s : State) : State :=
  let s := leaveQueue r s
  let p := s.dramPlace r.offset
  let s := modDmc (fun d => { d with
    rows := (p.key, p.row) :: d.rows.filter (fun (x : Nat × Nat) => x.1 != p.key),
    lastPort := if r.port = 0 then d.lastPort else r.port }) s
  let stand := s.badOf r
  let found := errors.filter (fun e => readsWord r e.word && !stand.elem e.word)
    ++ stand.map (fun w => { word := w, bit := none })
  let s := forEach found (eccError r.port) s
  let dead := found.any (fun e => e.bit.isNone)
  match r.data with
  | none => answerRequest r (if dead then none else some (s.dramGet r.offset r.len)) s
  | some os =>
    let s := onlyIf (partialWrite r) (count DMC_CNT_RMW 1) s
    if dead then answerRequest r none s else answerRequest r (some []) (dramPut r.offset os s)

/-! ### Transfers that engines make for themselves (R399, R402, R403, R405, R407, R416, R419, R506) -/

/-- An engine's transfer reaches the controller: its domain is in use or woken, its ports are not idle, and self-refresh begins to
end (R417, R419, R506). -/
def useDram (s : State) : State :=
  exitSelfRefresh (modDmc (fun d => { d with idleFrom := s.cycles }) (workFor domDmc (.access initNone) s))

/-- An engine's transfer on a port, as the controller takes it up. -/
def State.engineReq (s : State) (port o n : Nat) (data : Option Octets) : DmcReq :=
  { id := s.dmc.nextId, port := port, offset := o, len := n, data := data, since := s.cycles,
    target := s.get (DMC_PORTn_TARGET port), urgent := false, late := false, acc := none }

/-- The requests that reached the controller before an engine's transfer of the same half blocks are served before it (R402). -/
def serveEarlier (r : DmcReq) (s : State) : State := forEach (s.waitsFor r).dropLast (serveRequest []) s

/-- A transfer counts for the round robin of its port (R409). -/
def takePort (port : Nat) (s : State) : State :=
  modDmc (fun d => { d with nextId := d.nextId + 1, lastPort := if port = 0 then d.lastPort else port }) s

/-- Every uncorrectable word among those a transfer reads is counted and logged (R405). -/
def meetBad (r : DmcReq) (s : State) : State :=
  forEach (s.badOf r) (fun w => eccError r.port { word := w, bit := none }) s

/-- The banks of the application SRAM that `n` octets at an offset lie in are in use, or wake (R506). -/
def useSram (o n : Nat) (s : State) : State := forEach (sramDomains o n) (fun d => workFor d (.access initNone)) s

/-- What an engine's access finds nothing at: ADDRERR for an address that names nothing (R399), LOCKED for a domain locked off
(R507). -/
def refuseEngine (a n : Nat) (s : State) : State :=
  match (s.memoryDomains a n).find? s.domainLocked with
  | some d => domainError 0 d initNone s
  | none => checkAddress a n s

/-- An engine's own read on a port: the octets, or none with the error result of its block (R399, R405, R507).
DESIGN CHOICE, unsafe: log 9. -/
def engineGet (port a n : Nat) (s : State) : Option Octets × State :=
  match s.locate a n with
  | some (.dram, o) =>
    let r := s.engineReq port o n none
    let s := takePort port (serveEarlier r (useDram s))
    if (s.badOf r).isEmpty then (some (s.dramGet o n), s) else (none, meetBad r s)
  | some (.sram, o) => (some (Sparse.getRun blankByte s.sram o n), useSram o n s)
  | some (.lpwSram, o) => (some (Sparse.getRun blankByte s.lpwSram o n), s)
  | none => (none, refuseEngine a n s)

/-- What an engine's own read leaves. -/
def engineReads (port a n : Nat) (s : State) : State := (engineGet port a n s).2

/-- An engine's own write on a port. A partial write is a read-modify-write, refused whole where it meets an uncorrectable word
(R403); while the array is being filled with zeros the write waits (R416). DESIGN CHOICE, unsafe: log 9. -/
def enginePut (port a : Nat) (os : Octets) (s : State) : State :=
  match s.locate a os.length with
  | some (.dram, o) =>
    let r := s.engineReq port o os.length (some os)
    let s := takePort port (serveEarlier r (useDram s))
    let s := onlyIf (partialWrite r) (count DMC_CNT_RMW 1) s
    if s.get DMC_STAT_STATE = dmcZerofill then modDmc (fun d => { d with queue := d.queue ++ [r] }) s
    else if (s.badOf r).isEmpty then dramPut o os s else meetBad r s
  | some (.sram, o) => memPut a os (useSram o os.length s)
  | some (.lpwSram, _) => memPut a os s
  | none => refuseEngine a os.length s

/-- An engine's own write would take place: memory answers at the address, and no word it covers in part is uncorrectable. -/
def State.engineMayPut (s : State) (port a : Nat) (os : Octets) : Bool :=
  match s.locate a os.length with
  | some (.dram, o) => (s.badOf (s.engineReq port o os.length (some os))).isEmpty
  | some _ => true
  | none => false

end Sys2Proof.Machine
end

