-- ==== Sys2Proof/Machine/Queues.lean ====
section
/-!
DEFINITION. The 64 hardware queues (R331 to R338): rings and data slots in DRAM, free-running indices, and the descriptors
and records placed in them.
-/

namespace Sys2Proof.Machine

/-- The number of descriptors of a queue (R332). -/
def State.qSize (s : State) (q : Nat) : Nat := 2 ^ s.get (UPL_Qn_CFG_LOG2 q)

/-- The address of a queue's ring (R332). -/
def State.qBase (s : State) (q : Nat) : Nat :=
  s.get (UPL_Qn_BASE_HI_ADDR q) * 2 ^ 32 + s.get (UPL_Qn_BASE_LO_ADDR q) * 2 ^ 12

/-- The address of a queue's data slots (R332). -/
def State.qDataBase (s : State) (q : Nat) : Nat :=
  s.get (UPL_Qn_DBASE_HI_ADDR q) * 2 ^ 32 + s.get (UPL_Qn_DBASE_LO_ADDR q) * 2 ^ 12

/-- A queue's producer index. -/
def State.qPi (s : State) (q : Nat) : Nat := s.get (UPL_Qn_PI_PI q)

/-- A queue's consumer index. -/
def State.qCi (s : State) (q : Nat) : Nat := s.get (UPL_Qn_CI_CI q)

/-- How far one ring index is ahead of another, modulo 2³² (R332). -/
def ringDistance (ahead behind : Nat) : Nat := (ahead + 2 ^ 32 - behind) % 2 ^ 32

/-- The descriptors in a queue: PI − CI modulo 2^32. -/
def State.qUsed (s : State) (q : Nat) : Nat := ringDistance (s.qPi q) (s.qCi q)

/-- A queue is full when PI − CI = 2^LOG2 (R332); one whose EN is 0 counts as always full (R333). -/
def State.qFull (s : State) (q : Nat) : Bool := !s.is (UPL_Qn_CFG_EN q) || decide (s.qSize q ≤ s.qUsed q)

/-- A queue is empty when PI = CI (R332). -/
def State.qEmpty (s : State) (q : Nat) : Bool := s.qUsed q == 0

/-- The free descriptors of a queue. -/
def State.qFree (s : State) (q : Nat) : Nat := if s.is (UPL_Qn_CFG_EN q) then s.qSize q - s.qUsed q else 0

/-- The address of descriptor `i` of a queue. -/
def State.qDescAddr (s : State) (q i : Nat) : Nat := s.qBase q + 32 * (i % s.qSize q)

/-- The address of data slot `i` of a queue. -/
def State.qSlotAddr (s : State) (q i : Nat) : Nat := s.qDataBase q + 2048 * (i % s.qSize q)

/-- Read descriptor `i` of a queue. -/
def State.qDesc (s : State) (q i : Nat) : Octets := s.memOr0 (s.qDescAddr q i) 32

/-- Advance a queue's producer index by one. -/
def qAdvancePi (q : Nat) (s : State) : State := s.set (UPL_Qn_PI_PI q) (s.qPi q + 1)

/-- Advance a queue's consumer index by one. -/
def qAdvanceCi (q : Nat) (s : State) : State := s.set (UPL_Qn_CI_CI q) (s.qCi q + 1)

/-- Write descriptor and data of the next entry of a queue, without advancing PI. -/
def qPlace (q : Nat) (desc data : Octets) (s : State) : State :=
  enginePut 5 (s.qDescAddr q (s.qPi q)) desc (enginePut 5 (s.qSlotAddr q (s.qPi q)) data s)

/-- The kinds of upstream descriptors (R335). -/
def kindBatch : Nat := 0
def kindFrame : Nat := 1
def kindEvent : Nat := 2
def kindCompletion : Nat := 3
def kindManagement : Nat := 4

/-- An upstream descriptor (R335). -/
def upstreamDesc (len kind flags seq ts addr : Nat) : Octets :=
  le 2 len ++ le 1 kind ++ le 1 flags ++ le 4 seq ++ le 8 ts ++ le 5 addr ++ zeros 11

/-- The FLAGS octet of an upstream descriptor: RESUMED and UNLOCKED. -/
def upstreamFlags (resumed : Bool) (s : State) : Nat := flag resumed + 2 * flag (!s.lock)

/-- The producer writes the descriptor and its slot, then advances PI (R332). -/
def qPush (q kind seq : Nat) (resumed : Bool) (data : Octets) (s : State) : State :=
  let desc := upstreamDesc data.length kind (upstreamFlags resumed s) seq s.ts (s.qSlotAddr q (s.qPi q))
  qAdvancePi q (qPlace q desc data s)

/-- An event record (R337): CODE, ARG, two octets of 0, TS64. -/
def eventRecord (code arg ts : Nat) : Octets := le 2 code ++ le 4 arg ++ le 2 0 ++ le 8 ts

/-- A record bound for queue 59 or 60 finds it full: it is dropped and counted, and EVDROP is raised (R337). -/
def dropRecord (s : State) : State := raise UPL_INT_STAT_EVDROP (count UPL_CNT_EVDROP 1 s)

/-- Write an event record to a queue of software (R337). -/
def pushEvent (q code arg : Nat) (s : State) : State :=
  if s.qFull q then dropRecord s else qPush q kindEvent 0 false (eventRecord code arg s.ts) s

/-- A frame record (R336). -/
def frameRecord (sfdts : Nat) (lock : Bool) (mode pan ch rssi lqi index dec : Nat) (secured : Bool) (mpdu : Octets) :
    Octets :=
  le 8 sfdts ++ le 1 (flag lock + 2 * mode + 16 * pan) ++ le 1 ch ++ le 1 rssi ++ le 1 lqi ++ le 3 index ++ le 1 dec ++
    le 2 mpdu.length ++ le 1 (flag secured) ++ zeros 5 ++ mpdu

end Sys2Proof.Machine
end

