-- ==== Sys2Proof/Machine/Log.lean ====
section
/-!
DEFINITION. The event log of Lapwing (R481).
-/

namespace Sys2Proof.Machine

/-- The number of entries the ring holds. -/
def logSize : Nat := 1024

/-- Put an entry behind the newest ones, newest first; before those of the same instant with a higher CODE, whose sequence numbers
move up with them (R481). -/
def placeEntry (e : LogEntry) : List LogEntry → List LogEntry
  | [] => [e]
  | x :: t =>
    if x.cycle = e.cycle ∧ e.code < x.code then { x with seq := e.seq } :: placeEntry { e with seq := x.seq } t
    else e :: x :: t

/-- Write an entry to the event log and fire LOG (R481). A LOG of a LOG_MARK run carries that run's hop count (R390). -/
def logEntryHop (code arg hop : Nat) (s : State) : State :=
  let e : LogEntry :=
    { code := code, arg := arg, seq := s.logCount % 2 ^ 15, lock := s.lock, ts := s.ts, cycle := s.cycles }
  let full := decide (logSize ≤ s.log.length)
  let s := onlyIf full (raise LPW_INT_STAT_LOGWRAP) s
  let s := { s with
    log := (placeEntry e (if full then s.log.drop 1 else s.log).reverse).reverse,
    logCount := s.logCount + 1 }
  let s := onlyIf (s.is LPW_LOG_CFG_FWD) (pushEvent 60 code arg) s
  emit 0x0C1 hop s

/-- Write an entry to the event log. -/
def logEntry (code arg : Nat) (s : State) : State := logEntryHop code arg 0 s

/-- The 16 octets of an entry as `LPW_LOG_DATAk` shows them (R481). -/
def LogEntry.octets (e : LogEntry) : Octets :=
  le 2 e.code ++ le 4 e.arg ++ le 2 (e.seq % 2 ^ 15 + 2 ^ 15 * flag e.lock) ++ le 8 e.ts

/-- Entry `i` of the ring, blank where none has been written. -/
def State.logAt (s : State) (i : Nat) : Octets :=
  let oldest := s.logCount - s.log.length
  let k := (i + logSize - oldest % logSize) % logSize
  match s.log[k]? with
  | some e => e.octets
  | none => zeros 16

end Sys2Proof.Machine
end

