-- ==== Sys2Proof/Machine/Crc.lean ====
section
/-!
DEFINITION. The cyclic redundancy checks the part computes (R116, R117, and the CRC-32C the records carry), with bits taken
least significant first.
-/

namespace Sys2Proof.Machine

/-- One bit of a reflected CRC. -/
def crcBit {w : Nat} (poly c : BitVec w) : BitVec w := if c.getLsbD 0 then (c >>> 1) ^^^ poly else c >>> 1

/-- One octet of a reflected CRC. -/
def crcOctet {w : Nat} (poly c : BitVec w) (b : Byte) : BitVec w :=
  (List.range 8).foldl (fun r _ => crcBit poly r) (c ^^^ b.setWidth w)

/-- A reflected CRC register over octets. -/
def crcRun {w : Nat} (poly init : BitVec w) (os : Octets) : BitVec w := os.foldl (crcOctet poly) init

/-- The 16-bit FCS of R116. -/
def crc16 (os : Octets) : Nat := (crcRun (0x8408 : BitVec 16) 0 os).toNat

/-- The CRC-32 of R117. -/
def crc32 (os : Octets) : Nat := (~~~ crcRun (0xEDB88320 : BitVec 32) 0xFFFFFFFF os).toNat

/-- CRC-32C: polynomial 0x1EDC6F41, reflected, register and result inverted. -/
def crc32c (os : Octets) : Nat := (~~~ crcRun (0x82F63B78 : BitVec 32) 0xFFFFFFFF os).toNat

end Sys2Proof.Machine
end

