-- ==== Sys2Proof/Machine/Nvm.lean ====
section
/-!
DEFINITION. The contents of the non-volatile memories (R423 to R443): the flash with its regions, the one-time row and the
life cycle, and the words of the journal, with the reads each serves.
-/

namespace Sys2Proof.Machine

/-- Change the flash's own state. -/
def modFls (f : Fls → Fls) (s : State) : State := { s with fls := f s.fls }

/-- Change the journal's own state. -/
def modJnl (f : Jnl → Jnl) (s : State) : State := { s with jnl := f s.jnl }

/-- Change the one-time row's own state. -/
def modOtp (f : Otp → Otp) (s : State) : State := { s with otp := f s.otp }

/-! ### Flash -/

/-- The size of a page (R423). -/
def pageSize : Nat := 4096

/-- The size of a block (R423). -/
def blockSize : Nat := 0x40000

/-- An erased byte (R424). -/
def erasedByte (_ : Nat) : Byte := 0xFF

/-- The flash offset of a page. -/
def pageOffset (block page : Nat) : Nat := blockSize * block + pageSize * page

/-- The bytes of the flash. -/
def State.flashGet (s : State) (o n : Nat) : Octets := Sparse.getRun erasedByte s.fls.cells o n

/-- The lower page of a page's wordline (R423). -/
def lowerOf (page : Nat) : Nat := page % 32


/-! ### One-time row -/

/-- The value of a word of the shadow; 0 where nothing is programmed. -/
def State.otpWord (s : State) (w : Nat) : Nat := Sparse.get (fun _ => 0) s.otp.shadow w

/-- Whether a word of the shadow has been programmed: it stands in the shadow's list of words. -/
def State.otpProgrammed (s : State) (w : Nat) : Bool := s.otp.shadow.any (fun e => e.1 == w)

/-- Whether a word of the shadow is invalid (R439). -/
def State.otpInvalid (s : State) (w : Nat) : Bool := s.otp.shadowBad.elem w

/-- A word that is programmed and passes its check. -/
def State.otpValid (s : State) (w : Nat) : Bool := s.otpProgrammed w && !s.otpInvalid w

/-- The first word of customer slot `j` (R437). -/
def otpSlot (j : Nat) : Nat := 0x40 + 0x20 * j

/-- What a word of the one-time row holds (R437). -/
inductive OtpKind where
  | maker | lifeCycle | makerKey | drk | inv | customerKey | data | reserved
  deriving DecidableEq, Repr

/-- The content of a word by the table of R437. PRESUMED, unsafe: log 117. -/
def otpKind (w : Nat) : OtpKind :=
  if w < 0x10 then .maker
  else if w < 0x13 then .lifeCycle
  else if 0x20 ≤ w ∧ w < 0x30 then .makerKey
  else if 0x40 ≤ w ∧ w < 0xC0 then
    let k := w % 0x20
    if k < 4 then .drk else if k = 4 then .inv else if 8 ≤ k ∧ k < 0x18 then .customerKey else .reserved
  else if 0xC0 ≤ w ∧ w < 0x200 then .data
  else .reserved

/-- A bit of the life-cycle words: the majority of its three copies (R438). -/
def State.lcBit (s : State) (i : Nat) : Bool :=
  decide (2 ≤ ((List.range 3).filter (fun k => bitAt (s.otpWord (0x10 + k)) i)).length)

/-- The number of leading set life-cycle bits from L0 (R438). -/
def State.lcN (s : State) : Nat := ((List.range 12).takeWhile s.lcBit).length

/-- The life-cycle states, numbered as `OTP_LC.STATE`. -/
def lcBlank : Nat := 0
def lcMaker : Nat := 1
def lcField : Nat := 2
def lcReturn : Nat := 3
def lcScrapped : Nat := 4

/-- The life-cycle state (R438). -/
def State.lifeCycle (s : State) : Nat :=
  let n := s.lcN
  if s.lcBit 31 || ((List.range 12).drop n).any s.lcBit then lcScrapped
  else if n = 0 then lcBlank
  else (n - 1) % 3 + 1

/-- The current customer slot (R438). -/
def State.customerSlot (s : State) : Nat := (s.lcN - 1) / 3

/-- The customer key fuses are valid (R438). -/
def State.keyFusesValid (s : State) : Bool :=
  let w := otpSlot s.customerSlot
  (s.lifeCycle == lcMaker || s.lifeCycle == lcField) &&
    (List.range 4).all (fun k => s.otpValid (w + k)) && !s.otpProgrammed (w + 4) && !s.otpInvalid (w + 4)

/-- What OTP_RDATA shows of a word (R437): 0 for DRK and reserved words. -/
def State.otpRead (s : State) (w : Nat) : Nat :=
  match otpKind w with
  | .drk => 0
  | .reserved => 0
  | .maker => s.otpWord w
  | .lifeCycle => s.otpWord w
  | .makerKey => s.otpWord w
  | .inv => s.otpWord w
  | .customerKey => s.otpWord w
  | .data => s.otpWord w

/-- `OTP_STAT.RSTATE` of a word: 0 blank, 1 valid, 2 invalid, 3 hidden. -/
def State.otpState (s : State) (w : Nat) : Nat :=
  match otpKind w with
  | .drk => 3
  | .reserved => 0
  | _ => if s.otpInvalid w then 2 else if s.otpProgrammed w then 1 else 0

/-- The 32 octets of a hash of eight words, first word first, octet 0 of a word in [7:0] (R15). -/
def State.otpHash (s : State) (w : Nat) : Octets := (List.range 8).flatMap (fun k => le 4 (s.otpWord (w + k)))

/-- Whether a word may be programmed in the life-cycle state (R437). DEDUCED, unsafe: log 136. -/
def otpProgrammable (lc w : Nat) : Bool :=
  match otpKind w with
  | .maker => lc == lcBlank
  | .makerKey => lc == lcBlank || lc == lcMaker
  | .drk => lc == lcMaker || lc == lcField
  | .inv => lc == lcMaker || lc == lcField || lc == lcReturn
  | .customerKey => lc == lcMaker || lc == lcField
  | .data => lc == lcMaker || lc == lcField
  | .lifeCycle => false
  | .reserved => false

/-- Put a word into the row and its shadow. -/
def otpPut (w v : Nat) (s : State) : State :=
  let put (l : List (Nat × Nat)) : List (Nat × Nat) := Sparse.place w v (l.filter (fun e => e.1 != w))
  modOtp (fun o => { o with words := put o.words, shadow := put o.shadow }) s

/-! ### Regions and reads of the flash -/

/-- A region of the protection page: in BLANK none is VALID (R436). -/
def State.flsRegion (s : State) (r : Nat) : FlsRegion :=
  let g := Sparse.get (fun _ => FlsRegion.blank) s.fls.regions r
  { g with valid := g.valid && s.lifeCycle != lcBlank }

/-- Whether a region is locked. -/
def State.flsLocked (s : State) (r : Nat) : Bool := !s.fls.unlocked.elem r

/-- The valid regions that hold a block. -/
def State.regionsOf (s : State) (block : Nat) : List Nat :=
  (List.range 4).filter (fun r =>
    let g := s.flsRegion r
    g.valid && decide (g.start ≤ block ∧ block ≤ g.stop))

/-- Whether a block lies in a locked region with a given attribute (R434). -/
def State.flsGuard (s : State) (block : Nat) (attr : FlsRegion → Bool) : Bool :=
  (s.regionsOf block).any (fun r => attr (s.flsRegion r) && s.flsLocked r)

/-- A page whose every byte reads 0xFF. -/
def State.pageErased (s : State) (block page : Nat) : Bool :=
  let o := pageOffset block page
  !s.fls.cells.any (fun c => decide (o ≤ c.1 ∧ c.1 < o + pageSize))

/-- What an operation in progress makes of a read of a page (R431, R432). -/
inductive FlsRead where
  | served | busy | suspended
  deriving DecidableEq, Repr

/-- What the operation running and the suspended erase make of a read of a page (R431, R432). -/
def State.flsReadState (s : State) (block page : Nat) : FlsRead :=
  let running := match s.fls.op with
    | some (.program b p _ _ started) => started && b == block && lowerOf p == lowerOf page
    | some (.erase b _ started) => started && b == block
    | none => false
  let susp := match s.fls.susp with
    | some (.erase b _ _) => b == block
    | _ => false
  if running then .busy else if susp then .suspended else .served

/-- A read of the flash with more errors than the code corrects (R424). DEDUCED, unsafe: log 147. -/
def flashUncorrectable (o : Nat) (s : State) : State :=
  (raise FLS_INT_STAT_ECCERR (count FLS_CNT_UNCORR 1 s)).set FLS_ECCADDR_OFFSET (o / 32 * 32)

/-- The pages, numbered through the flash, that a read of `n` bytes touches. -/
def pagesOf (o n : Nat) : List Nat :=
  (List.range ((o + n - 1) / pageSize + 1 - o / pageSize)).map (fun k => o / pageSize + k)

/-- A page may hold a code that fails: it is neither erased nor left undefined (R424). -/
def State.pageCoded (s : State) (p : Nat) : Bool := !s.pageErased (p / 64) (p % 64)

/-- A read of the flash by an initiator (R424, R427, R431, R432, R434), which every page it touches must allow: `bad` and
`corrected` say what the code found; an erased page reads without error. A page left undefined reads as last programmed or fails,
by a free value. -/
def flashRead (acc : Access) (o n : Nat) (bad corrected : Bool) (s : State) : Option Octets × State :=
  let pages := pagesOf o n
  let undef := pages.any (fun p => s.fls.undef.elem p)
  let coded := pages.any s.pageCoded
  let states := pages.map (fun p => s.flsReadState (p / 64) (p % 64))
  if fromApp acc && pages.any (fun p => s.flsGuard (p / 64) FlsRegion.rp) then (none, s)
  else if states.elem .busy then (none, raise FLS_INT_STAT_BUSYREAD s)
  else if states.elem .suspended then
    (none, emit 0x142 0 (raise FLS_INT_STAT_SUSPREAD (raise FLS_STAT_SUSPREAD s)))
  else if undef && s.freeNow % 2 == 1 then (none, useFree (flashUncorrectable o s))
  else
    let s := onlyIf undef useFree s
    if bad && coded then (none, flashUncorrectable o s)
    else (some (s.flashGet o n), onlyIf (corrected && coded) (count FLS_CNT_CORR 1) s)

/-! ### Journal words -/

/-- N, the slots of the log (R440). -/
def logSlots : Nat := 262144

/-- The number of node indices. -/
def nodeCount : Nat := 262144

/-- The first words of the checkpoint copies (R440). -/
def copyBase (c : Nat) : Nat := 0x80000 + 0x40000 * c

/-- A blank journal word. -/
def blankWord (_ : Nat) : BitVec 64 := 0

/-- A word of the journal as a number; none where it is unreadable (R440). -/
def State.jnlWord (s : State) (w : Nat) : Option Nat :=
  if s.jnl.unreadable.elem w then none else some (Sparse.get blankWord s.jnl.words w).toNat

/-- Write a word of the journal in full. -/
def jnlPut (w v : Nat) (s : State) : State :=
  modJnl (fun j => { j with
    words := Sparse.put blankWord j.words w (BitVec.ofNat 64 v),
    unreadable := j.unreadable.filter (fun u => u != w) }) s

/-- Write a word whose making durable a reset within the next microsecond can cut (R440, R441). -/
def jnlPutSoon (w v : Nat) (s : State) : State :=
  modJnl (fun j => { j with
    recent := (w, s.cycles) :: j.recent.filter (fun e => e.1 != w && decide (s.cycles < e.2 + usCycles)) }) (jnlPut w v s)

/-- A write of a word that was cut off leaves it unreadable (R440). -/
def jnlTear (w : Nat) (s : State) : State :=
  modJnl (fun j => { j with unreadable := if j.unreadable.elem w then j.unreadable else w :: j.unreadable }) s

/-- An unreadable word has been met. -/
def jnlUnreadable (w : Nat) (s : State) : State :=
  (raise JNL_INT_STAT_UEWORD (count JNL_CNT_UEWORDS_COUNT 1 s)).set JNL_UEADDR_OFFSET w

/-- A read of the journal window (R440). -/
def journalRead (o n : Nat) (s : State) : Option Octets × State :=
  let ws := (List.range ((o + n - 1) / 8 - o / 8 + 1)).map (fun k => o / 8 + k)
  match ws.find? (fun w => s.jnl.unreadable.elem w) with
  | some w => (none, jnlUnreadable w s)
  | none => (some (slice (ws.flatMap (fun w => le 8 ((s.jnlWord w).getD 0))) (o % 8) n), s)

end Sys2Proof.Machine
end

