-- ==== Sys2Proof/Machine/Fabric.lean ====
section
/-!
DEFINITION. The address map (R552, R553), the access firewall (R554, R555), and the reads and writes an engine makes for an
initiator (R399, R550).
-/

namespace Sys2Proof.Machine

/-- What a bus address names (R552), with the offset in it. -/
inductive Target where
  | rom (o : Nat)
  | flash (o : Nat)
  | plic (o : Nat)
  | sram (o : Nat)
  | lpwSram (o : Nat)
  | journal (o : Nat)
  | register (a : Nat)
  | dram (o : Nat)
  | nothing
  deriving DecidableEq, Repr

/-- The row of R552 that holds `n` bytes at a bus address. -/
def State.route (s : State) (a n : Nat) : Target :=
  let within (base size : Nat) : Bool := decide (base ≤ a ∧ a + n ≤ base + size)
  if within 0 0x10000 then .rom a
  else if within 0x08000000 0x800000 then .flash (a - 0x08000000)
  else if within 0x0C000000 0x400000 then .plic (a - 0x0C000000)
  else if within 0x10000000 0x200000 then .sram (a - 0x10000000)
  else if within 0x11000000 0x40000 then .lpwSram (a - 0x11000000)
  else if within 0x18000000 0x800000 then .journal (a - 0x18000000)
  else if within 0x20000000 0x140000 then .register a
  else if within 0x80000000 0x80000000 then .dram (s.get APP_DRAMWIN_BASE * 0x10000000 + (a - 0x80000000))
  else .nothing

/-- The 40-bit address the firewall checks: translated for the DRAM window (R554). -/
def Target.address (t : Target) (a : Nat) : Nat :=
  match t with
  | .dram o => dramBase + o
  | _ => a

/-- The power domain an access to a target meets (R506). -/
def Target.domain : Target → Nat
  | .rom _ => 1
  | .flash _ => domFls
  | .plic _ => 0
  | .sram o => 10 + o / 0x40000
  | .lpwSram _ => 1
  | .journal _ => domJnl
  | .register a => domainOfBlock (blockOf a)
  | .dram _ => domDmc
  | .nothing => 0

/-- The power domains that an access of `n` bytes to a target meets: every bank of the application SRAM it lies in (R506). -/
def Target.domains (t : Target) (n : Nat) : List Nat :=
  match t with
  | .sram o => sramDomains o n
  | _ => [t.domain]

/-- An engine's access for an initiator uses the domains it meets, or wakes them (R503, R506). -/
def meetTarget (t : Target) (n init : Nat) (s : State) : State :=
  forEach ((t.domains n).filter (fun d => !domainFixed d)) (fun d => workFor d (.access init)) s

/-- Whether an initiator may use a target at all (R552). -/
def targetAdmits (t : Target) (acc : Access) (write : Bool) (m : Mode) : Bool :=
  let loading := acc.init == initLoader && m == .load
  match t with
  | .rom _ => !write && acc.init == initLapwing
  | .flash _ => !write
  | .plic _ => true
  | .sram _ => fromApp acc || acc.init == initLapwing || loading || acc.init == initCheck
  | .lpwSram _ => acc.init == initLapwing || loading
  | .journal _ => !write
  | .register _ => true
  | .dram _ => true
  | .nothing => false

/-- An access leaves visible DRAM, by a DRAM address or through the window (R399, R553). -/
def State.beyondDram (s : State) (t : Target) (n : Nat) : Bool :=
  match t with
  | .dram o => decide (s.visible < o + n)
  | _ => false

/-- A read that an engine makes for an initiator (R399, R550): the bytes, or none where any part of it gets an error. A
register or the interrupt controller gives an engine an error, since these answer 32-bit accesses alone (R7).
DEDUCED, unsafe: log 8. DESIGN CHOICE, unsafe: log 9. -/
def engineRead (acc : Access) (a n : Nat) (s : State) : Option Octets × State :=
  let target :=
    if dramBase ≤ a then Target.dram (a - dramBase) else if a < 2 ^ 32 then s.route a n else .nothing
  if !targetAdmits target acc false s.mode then
    (none, onlyIf (2 ^ 32 ≤ a) (raise DMC_INT_STAT_ADDRERR) s)
  else if s.beyondDram target n then (none, raise DMC_INT_STAT_ADDRERR s)
  else
    match s.firewall acc false (target.address a) n, (target.domains n).find? s.domainLocked with
    | some w, _ => (none, firewallRefusal acc false (target.address a) w s)
    | none, some d => (none, domainError 0 d acc.init s)
    | none, none =>
      let s := meetTarget target n acc.init s
      match target with
      | .rom o => (some ((List.range n).map (fun k => Config.bootRom (o + k))), s)
      | .flash o => flashRead acc o n false false s
      | .sram o => (some (Sparse.getRun blankByte s.sram o n), s)
      | .lpwSram o => (some (Sparse.getRun blankByte s.lpwSram o n), s)
      | .journal o => journalRead o n s
      | .dram o => engineGet 7 (dramBase + o) n s
      | .plic _ => (none, s)
      | .register _ => (none, s)
      | .nothing => (none, s)

/-- A write that an engine makes for an initiator: whether it took place. -/
def engineWrite (acc : Access) (a : Nat) (os : Octets) (s : State) : Bool × State :=
  let n := os.length
  let target :=
    if dramBase ≤ a then Target.dram (a - dramBase) else if a < 2 ^ 32 then s.route a n else .nothing
  if !targetAdmits target acc true s.mode then
    (false, onlyIf (2 ^ 32 ≤ a) (raise DMC_INT_STAT_ADDRERR) s)
  else if s.beyondDram target n then (false, raise DMC_INT_STAT_ADDRERR s)
  else
    match s.firewall acc true (target.address a) n, (target.domains n).find? s.domainLocked with
    | some w, _ => (false, firewallRefusal acc true (target.address a) w s)
    | none, some d => (false, domainError 0 d acc.init s)
    | none, none =>
      let s := meetTarget target n acc.init s
      match target with
      | .sram o => (true, memPut (0x10000000 + o) os s)
      | .lpwSram o => (true, memPut (0x11000000 + o) os s)
      | .dram o => (s.engineMayPut 7 (dramBase + o) os, enginePut 7 (dramBase + o) os s)
      | .rom _ => (false, s)
      | .flash _ => (false, s)
      | .plic _ => (false, s)
      | .journal _ => (false, s)
      | .register _ => (false, s)
      | .nothing => (false, s)

end Sys2Proof.Machine
end

