-- ==== Sys2Proof/Machine/Nodes.lean ====
section
/-!
DEFINITION. The node record (R263) and where it is held: the hot contexts, the write-back buffer and the node table in DRAM
(R264, R268, R274, R277), and the pending bitmap (R278).
-/

namespace Sys2Proof.Machine

/-- Change the context store's own state. -/
def modCtx (f : Ctx → Ctx) (s : State) : State := { s with ctx := f s.ctx }

/-! ### The node record -/

/-- A field of a node record: its offset and length in octets. -/
structure NrFld where
  off : Nat
  len : Nat
  deriving DecidableEq, Repr

def nrEui : NrFld := ⟨0x00, 8⟩
def nrSaddr : NrFld := ⟨0x08, 2⟩
def nrPan : NrFld := ⟨0x0A, 1⟩
def nrFlags : NrFld := ⟨0x0C, 4⟩
def nrWrap : NrFld := ⟨0x10, 24⟩
def nrKind : NrFld := ⟨0x28, 1⟩
def nrKidx : NrFld := ⟨0x29, 1⟩
def nrInctr : NrFld := ⟨0x30, 4⟩
def nrNext : NrFld := ⟨0x34, 4⟩
def nrReserved : NrFld := ⟨0x38, 4⟩
def nrLastseq : NrFld := ⟨0x3C, 1⟩
def nrLqiLast : NrFld := ⟨0x40, 1⟩
def nrLqiRssi : NrFld := ⟨0x41, 1⟩
def nrLqiAvg : NrFld := ⟨0x42, 2⟩
def nrLastheard : NrFld := ⟨0x48, 8⟩
def nrSig : NrFld := ⟨0x50, 32⟩
def nrNexthop : NrFld := ⟨0x70, 8⟩
def nrPend : NrFld := ⟨0x78, 8⟩
def nrFlow : NrFld := ⟨0x80, 4⟩
def nrSw : NrFld := ⟨0xE0, 28⟩
def nrCheck : NrFld := ⟨0xFC, 4⟩

/-- The bits of NR.FLAGS. -/
def fValid : Nat := 0
def fRetired : Nat := 1
def fNoctr : Nat := 2
def fSigvalid : Nat := 3
def fSaddrv : Nat := 4
def fLhlock : Nat := 8
def fCtrendsent : Nat := 9
def fWarned : Nat := 10
def fPinned : Nat := 11
def fExhsent : Nat := 12
def fLqiv : Nat := 13

/-- The number in a field. -/
def nr (os : Octets) (f : NrFld) : Nat := leAt os f.off f.len

/-- The octets of a field. -/
def nrOctets (os : Octets) (f : NrFld) : Octets := slice os f.off f.len

/-- Place a number in a field. -/
def nrSet (f : NrFld) (v : Nat) (os : Octets) : Octets := patch os f.off (le f.len v)

/-- Place octets in a field. -/
def nrPut (f : NrFld) (vs : Octets) (os : Octets) : Octets := patch os f.off (vs.take f.len)

/-- A bit of NR.FLAGS. -/
def nrFlag (os : Octets) (b : Nat) : Bool := bitAt (nr os nrFlags) b

/-- Set or clear a bit of NR.FLAGS. -/
def nrSetFlag (b : Nat) (v : Bool) (os : Octets) : Octets :=
  let w := nr os nrFlags
  nrSet nrFlags (w - flag (bitAt w b) * 2 ^ b + flag v * 2 ^ b) os

/-- FLAGS.MODE. -/
def nrMode (os : Octets) : Nat := nr os nrFlags / 32 % 8

/-- Set FLAGS.MODE. -/
def nrSetMode (m : Nat) (os : Octets) : Octets :=
  let w := nr os nrFlags
  nrSet nrFlags (w - w / 32 % 8 * 32 + m % 8 * 32) os

/-- The NR.OUTBLK reserved word (R263): the highest durable block, and RVALID. -/
def nrReservedBlock (os : Octets) : Option Nat :=
  let w := nr os nrReserved
  if bitAt w 20 then some (w % 2 ^ 20) else none

/-- A record in use. -/
def nrUsed (os : Octets) : Bool := nrFlag os fValid && !nrFlag os fRetired

/-- The check of a record (R263). -/
def nrChecksum (os : Octets) : Nat := crc32c (os.take 0xFC)

/-- The signature NR.SIG holds, where SIGVALID is 1 (R148, R263). -/
def nrSignature (os : Octets) : Option Sig :=
  if nrFlag os fSigvalid then
    some ((List.range 16).map (fun p => (signed 8 (octAt os (nrSig.off + 2 * p)), signed 8 (octAt os (nrSig.off + 2 * p + 1)))))
  else none

/-- Recompute NR.CHECK, as every write-back does (R275). -/
def withCheck (os : Octets) : Octets := nrSet nrCheck (nrChecksum os) os

/-- A blank record. -/
def blankRecord : Octets := zeros 256

/-! ### Regions in DRAM -/

/-- The engine address of a node's record (R263). -/
def State.nodeAddr (s : State) (i : Nat) : Nat := s.get CTX_TBL_ADDR * 2 ^ 26 + 256 * i

/-- The engine address of a map entry (R265). -/
def State.mapAddr (s : State) (pan a : Nat) : Nat := s.get CTX_MAP_ADDR * 2 ^ 22 + 4 * (65536 * pan + a)

/-- The engine address of an EUI bucket (R266). -/
def State.bucketAddr (s : State) (b : Nat) : Nat := s.get CTX_EUIX_ADDR * 2 ^ 23 + 64 * b

/-- The engine address of an index's entry in the recovery table (R447). -/
def State.recoveryAddr (s : State) (i : Nat) : Nat := s.get JNL_CFG_RECBASE * 2 ^ 12 + 8 * i

/-! ### Where a record is held -/

/-- The hot context of a node. -/
def State.hotOf (s : State) (i : Nat) : Option (Nat × Hot) := s.ctx.hot.find? (fun h => h.2.node == i)

/-- The write-back buffer's record of a node. -/
def State.wbOf (s : State) (i : Nat) : Option Octets := (s.ctx.wb.find? (fun e => e.1 == i)).map (fun e => e.2.1)

/-- A node's record wherever it is held at this moment (R277). -/
def State.nodeRec (s : State) (i : Nat) : Octets :=
  match s.hotOf i with
  | some (_, h) => h.os
  | none =>
    match s.wbOf i with
    | some os => os
    | none => s.memOr0 (s.nodeAddr i) 256

/-- Change a hot context. -/
def modHot (n : Nat) (f : Hot → Hot) (s : State) : State :=
  modCtx (fun c => { c with hot := c.hot.map (fun h => if h.1 = n then (h.1, f h.2) else h) }) s

/-- A hot context's record has changed: it is dirty from its first change (R275). -/
def Hot.touch (now : Nat) (os : Octets) (h : Hot) : Hot :=
  { h with os := os, dirty := match h.dirty with
      | some t => some t
      | none => some now }

/-- Put a record in the place of the write-back buffer's one of a node, where it holds one. -/
def putWb (i : Nat) (os : Octets) (s : State) : State :=
  modCtx (fun c => { c with wb := c.wb.map (fun e => if e.1 = i then (e.1, withCheck os, e.2.2) else e) }) s

/-- Update a record wherever it is held (R277): the hot context, the write-back buffer, or the DRAM record with its check. A record
that is hot again while the buffer still holds it is updated in both (R275). -/
def updateNode (i : Nat) (f : Octets → Octets) (s : State) : State :=
  match s.hotOf i with
  | some (n, h) => putWb i (f h.os) (modHot n (Hot.touch s.cycles (f h.os)) s)
  | none =>
    if (s.wbOf i).isSome then putWb i (f ((s.wbOf i).getD [])) s
    else enginePut 1 (s.nodeAddr i) (withCheck (f (s.memOr0 (s.nodeAddr i) 256))) s

/-- An uncorrectable error on the context store's path (R271, R275, R277, R287). -/
def contextError (s : State) : State := emit 0x281 0 (raise CTX_INT_STAT_CTXERR (count CTX_CNT_CTXERR 1 s))

/-- An update that may have to read the DRAM record: with an uncorrectable error there, or where DRAM does not answer, it is lost
(R277). -/
def updateNodeIf (bad : Bool) (i : Nat) (f : Octets → Octets) (s : State) : State :=
  let held := (s.hotOf i).isSome || (s.wbOf i).isSome
  if !held && (bad || (s.memGet (s.nodeAddr i) 256).isNone) then contextError s else updateNode i f s

/-! ### The pending bitmap (R278) -/

/-- A node's pending bit. -/
def State.pendingBit (s : State) (i : Nat) : Bool := s.ctx.pend.elem i

/-- A node's pending bit as a decision reads it (R278): a change at this same instant does not show yet. -/
def State.pendingRead (s : State) (i : Nat) : Bool :=
  match s.ctx.pendWas.find? (fun e => e.1 == i) with
  | some (_, t, v) => if t = s.cycles then v else s.pendingBit i
  | none => s.pendingBit i

/-- Set or clear a node's pending bit. -/
def setPending (i : Nat) (v : Bool) (s : State) : State :=
  modCtx (fun c => { c with
    pendWas := (i, s.cycles, s.pendingRead i) :: c.pendWas.filter (fun e => e.1 != i && e.2.1 == s.cycles)
    pend := if v then (if c.pend.elem i then c.pend else i :: c.pend) else c.pend.filter (· != i) }) s

end Sys2Proof.Machine
end

