-- ==== Sys2Proof/Machine/Journal.lean ====
section
/-!
DEFINITION. The journal (R440 to R449): records and their acceptance, the carry records, the checkpoint sweep, recovery,
RESTATE and FORMAT.
-/

namespace Sys2Proof.Machine

/-- The states of `JNL_STAT.STATE`. -/
def jnlRecovering : Nat := 0
def jnlReady : Nat := 1
def jnlFormatting : Nat := 2
def jnlFailed : Nat := 3

/-- The journal accepts records. -/
def State.jnlIsReady (s : State) : Bool := s.get JNL_STAT_STATE == jnlReady

/-! ### Records (R442, R443) -/

def recCounter : Nat := 1
def recVoid : Nat := 2
def recIreset : Nat := 3
def recResv : Nat := 4
def recState : Nat := 5
def recPepoch : Nat := 6
def recSlot : Nat := 7
def recErase : Nat := 8
def recProg : Nat := 9

/-- The payload of a COUNTER record. -/
def payCounter (i inctr lastseq : Nat) (secured : Bool) : Nat :=
  i + inctr * 2 ^ 18 + lastseq * 2 ^ 50 + flag secured * 2 ^ 58

/-- The payload of a VOID record. -/
def payVoid (i voided inctr lastseq : Nat) (cv : Bool) : Nat :=
  i + voided * 2 ^ 18 + inctr * 2 ^ 50 + lastseq * 2 ^ 82 + flag cv * 2 ^ 90

/-- The payload of a RESV record. -/
def payResv (i : Nat) (group : Bool) (block : Nat) : Nat := i + flag group * 2 ^ 18 + block * 2 ^ 19

/-- The payload of a STATE record. -/
def payState (i : Nat) (group : Bool) (block : Nat) (bv cv : Bool) (inctr : Nat) : Nat :=
  i + flag group * 2 ^ 18 + block * 2 ^ 19 + flag bv * 2 ^ 39 + flag cv * 2 ^ 40 + inctr * 2 ^ 41

/-- The payload of a SLOT record. -/
def paySlot (slot iseq : Nat) : Nat := slot + iseq * 4

/-- The payload of an ERASE or PROG record. -/
def payIntent (block page : Nat) (complete : Bool) : Nat := block + page * 32 + flag complete * 2 ^ 46

/-- The wrap of a position (R441). -/
def wrapOf (pos : Nat) : Nat := pos / logSlots % 16384

/-- Word 0 of a record. -/
def recWord0 (pos : Nat) (r : JRec) : Nat := r.type + wrapOf pos * 2 ^ 4 + r.payload % 2 ^ 46 * 2 ^ 18

/-- The check of a record: the low 16 bits of the CRC-32C over its bytes 0 to 13. -/
def recCheck (w0 high : Nat) : Nat := crc32c (le 8 w0 ++ le 6 high) % 65536

/-- The commit word of a record. -/
def recWord1 (pos : Nat) (r : JRec) : Nat :=
  let high := r.payload / 2 ^ 46 % 2 ^ 48
  high + recCheck (recWord0 pos r) high * 2 ^ 48

/-- The node index a record names. -/
def JRec.names (r : JRec) (i : Nat) : Bool :=
  let p := r.payload
  let index := p % 2 ^ 18 == i
  match r.type with
  | 1 => index
  | 2 => index
  | 3 => index
  | 4 => index && !bitAt p 18
  | 5 => index && !bitAt p 18
  | _ => false

/-! ### Putting records to the journal -/

/-- Put a record to the journal; its ticket is the `nextTicket` before. -/
def jnlOffer (type payload : Nat) (s : State) : State :=
  let whole := !(type == recErase || type == recProg)
  modJnl (fun j => { j with
    offered := j.offered ++ [{ ticket := j.nextTicket, type := type, payload := payload, whole := whole }],
    nextTicket := j.nextTicket + 1 }) s

/-- A ticket's record has not become durable and was not refused. -/
def State.jnlPending (s : State) (t : Nat) : Bool :=
  s.jnl.offered.any (fun r => r.ticket == t) || s.jnl.accepted.any (fun r => r.2.ticket == t)

/-- A ticket's record was refused (R441). -/
def State.jnlRefused (s : State) (t : Nat) : Bool := s.jnl.refused.elem t

/-- A ticket's record is durable. -/
def State.jnlDurable (s : State) (t : Nat) : Bool := !s.jnlPending t && !s.jnlRefused t

/-! ### The state of an index (R446) -/

/-- The journal state of an index: INCTR, BLOCK, BV and CV, as bits [53:0] of a checkpoint word (R445). -/
def stateBits (inctr block : Nat) (bv cv : Bool) : Nat :=
  inctr + block * 2 ^ 32 + flag bv * 2 ^ 52 + flag cv * 2 ^ 53

/-- The highest block a record's link-key space has reached, from its reservation and its next value (R446). -/
def nrBlock (os : Octets) : Option Nat :=
  let used := nr os nrNext / 4096
  match nrReservedBlock os with
  | some b => some (max b (used - 1))
  | none => if used = 0 then none else some (used - 1)

/-- The state of an index as the sweeper takes it (R446). -/
def State.indexState (s : State) (i : Nat) : Nat :=
  let os := s.nodeRec i
  if nrFlag os fValid || nrFlag os fRetired then
    stateBits (nr os nrInctr) ((nrBlock os).getD 0) (nrBlock os).isSome (!nrFlag os fNoctr)
  else leNat (s.memOr0 (s.recoveryAddr i) 8) % 2 ^ 54

/-- A counter space in which nothing is reserved. -/
def freshSpace : GroupSpace := { block := none, warned := false, exhSent := false, last := [] }

/-- The counter space of a group slot. -/
def State.groupSpace (s : State) (g : Nat) : GroupSpace := Sparse.get (fun _ => freshSpace) s.sec.groups g

/-- The payload of a STATE record for item k: an index, or group slot k − 262,144. -/
def State.statePayload (s : State) (k : Nat) : Nat :=
  if k < nodeCount then
    let w := s.indexState k
    payState k false (w / 2 ^ 32 % 2 ^ 20) (bitAt w 52) (bitAt w 53) (w % 2 ^ 32)
  else
    let b := (s.groupSpace (k - nodeCount)).block
    payState (k - nodeCount) true (b.getD 0) b.isSome false 0

/-! ### The sweeper (R445, R446) -/

/-- The largest multiple of 1,024 not above `h` whose floor(q / 1,024) mod 1,024 is SEG. -/
def qhat (h seg : Nat) : Option Nat :=
  let k := h / 1024
  let back := (k + 1024 - seg) % 1024
  if back ≤ k then some ((k - back) * 1024) else none

/-- The position below which every record is durable. -/
def State.durableTo (s : State) : Nat :=
  match s.jnl.accepted with
  | r :: _ => r.1
  | [] => s.jnl.pos

/-- The copy that holds an index's older word (R445): an unreadable word is older than any; copy 1 before either is written. -/
def State.olderCopy (s : State) (i : Nat) : Nat :=
  if s.jnl.unreadable.elem (copyBase 0 + i) then 0
  else if s.jnl.unreadable.elem (copyBase 1 + i) then 1
  else if s.jnl.newer1.elem i then 0 else 1

/-- The copy of an index written last. -/
def markNewer (i c : Nat) (s : State) : State :=
  modJnl (fun j => { j with newer1 := (if c = 1 then [i] else []) ++ j.newer1.filter (· != i) }) s

/-- Some record of an index is still in progress. -/
def State.indexBusy (s : State) (i : Nat) : Bool :=
  s.jnl.offered.any (fun r => r.names i) || s.jnl.accepted.any (fun r => r.2.names i)

/-- Write the next checkpoint word the sweeper owes, if the state of its index may be taken. -/
def sweepOne (s : State) : State :=
  let i := s.jnl.sweep
  if s.jnl.owed = 0 ∨ s.indexBusy i then s
  else
    let w := s.indexState i + s.durableTo / 1024 % 1024 * 2 ^ 54
    let c := s.olderCopy i
    let s := markNewer i c (jnlPutSoon (copyBase c + i) w s)
    let s := modJnl (fun j => { j with sweep := (i + 1) % nodeCount, owed := j.owed - 1 }) s
    onlyIf (i + 1 == nodeCount) (emit 0x180 0) s

/-- Write the words owed. -/
def sweep (s : State) : State := forEach (List.range s.jnl.owed) (fun _ => sweepOne) s

/-! ### Acceptance (R441, R444) -/

/-- The journal takes a record at the next position. -/
def jnlTake (r : JRec) (s : State) : State :=
  let p := s.jnl.pos
  let s := modJnl (fun j => { j with
    accepted := j.accepted ++ [(p, r)],
    pos := (p + 1) % 2 ^ 32,
    owed := j.owed + 1 + flag (p % 128 == 127) }) s
  let s := count JNL_CNT_RECORDS_COUNT 1 s
  sweep (onlyIf (r.type == recVoid) (count JNL_CNT_VOIDS_COUNT 1) s)

/-- The item a carry record repeats at a position: group slots 0 to 63, PEPOCH, SLOT, in turn (R444).
DEDUCED, unsafe: log 146. -/
def State.carryItem (s : State) (pos : Nat) : Nat × Nat :=
  let k := pos / 2048 % 66
  if k < 64 then (recState, s.statePayload (nodeCount + k))
  else if k = 64 then (recPepoch, s.get STL_PEPOCH_PEPOCH)
  else (recSlot, paySlot s.jnl.slot s.jnl.iseq)

/-- At every position with P mod 2,048 = 0 a carry record goes first (R444). -/
def jnlCarry (s : State) : State :=
  if s.jnl.pos % 2048 = 0 then
    let c := s.carryItem s.jnl.pos
    let t := s.jnl.nextTicket
    count JNL_CNT_CARRIES_COUNT 1
      (jnlTake { ticket := t, type := c.1, payload := c.2, whole := true } (modJnl (fun j => { j with nextTicket := t + 1 }) s))
  else s

/-- The next record the journal would take: the oldest put to it, else the next STATE record of RESTATE (R448). -/
def State.jnlNextRecord (s : State) : Option (JRec × Bool) :=
  match s.jnl.offered with
  | r :: _ => some (r, false)
  | [] =>
    match s.jnl.restate with
    | some k =>
      if k < nodeCount + 64 then
        some ({ ticket := s.jnl.nextTicket, type := recState, payload := s.statePayload k, whole := true }, true)
      else none
    | none => none

/-- The records by which the sweeper trails its schedule: the fewest last ones whose words it owes (R445, R446). -/
def State.sweepLag (s : State) : Nat :=
  let words (n : Nat) : Nat := n + (s.jnl.pos / 128 - (s.jnl.pos - n) / 128)
  ((List.range (s.jnl.owed + 1)).find? (fun n => decide (s.jnl.owed ≤ words n))).getD s.jnl.owed

/-- The sweeper trails as far as it may: no record is accepted (R446). -/
def State.sweepFull (s : State) : Bool := decide (512 ≤ s.sweepLag)

/-- JOURNAL_RECORD (R441, R444 to R446): the journal accepts the next record, or refuses it while it is not READY (a refused
reservation raises RESVFAIL, R246); 512 records behind its schedule, it accepts none. -/
def journalRecord (s : State) : State :=
  match s.jnlNextRecord with
  | none => s
  | some (r, restating) =>
    if !s.jnlIsReady then
      if restating then s
      else onlyIf (r.type == recResv) (raise SEC_INT_STAT_RESVFAIL) <| raise JNL_INT_STAT_REFUSED
        (modJnl (fun j => { j with offered := j.offered.drop 1, refused := r.ticket :: j.refused }) s)
    else if s.sweepFull then sweep (raise JNL_INT_STAT_LAG s)
    else if (jnlCarry s).sweepFull then raise JNL_INT_STAT_LAG (jnlCarry s)
    else
      let s := if restating then
          modJnl (fun j => { j with restate := j.restate.map (· + 1), nextTicket := j.nextTicket + 1 }) s
        else modJnl (fun j => { j with offered := j.offered.drop 1 }) s
      jnlTake r (jnlCarry s)

def execJournalRecord (dt : Nat) (s : State) : Host.Outcome State Fault Refusal := command dt journalRecord s

/-! ### Durability (R442) -/

/-- What a record that has become durable does beside its words: an index reset zeroes the entry of the recovery table
(R446), a SLOT record ends `JNL_SLOTCMD` (R443). -/
def durableEffect (r : JRec) (s : State) : State :=
  if r.type = recIreset then enginePut 7 (s.recoveryAddr (r.payload % 2 ^ 18)) (zeros 8) s
  else if r.type = recSlot then
    let s := if s.jnl.slotTicket = some r.ticket then
        modJnl (fun j => { j with slotTicket := none }) (s.set JNL_SLOTCMD_GO 0)
      else s
    modJnl (fun j => { j with slot := r.payload % 4, iseq := r.payload / 4 % 2 ^ 32 }) s
  else s

/-- RECORD_DURABLE (R441, R442): the oldest accepted record's words are written. The commit word of an intent waits for the
end of its operation (R429). -/
def recordDurable (s : State) : State :=
  match s.jnl.accepted with
  | [] => s
  | (p, r) :: rest =>
    let slot := p % logSlots
    let s := modJnl (fun j => { j with accepted := rest }) s
    let s := jnlPut (2 * slot) (recWord0 p r) s
    let s := if !r.whole then modJnl (fun j => { j with intents := (r.ticket, p, r) :: j.intents }) s
      else jnlPut (2 * slot + 1) (recWord1 p r) s
    let s := onlyIf (slot == 0) (fun s => emit 0x181 0 (raise JNL_INT_STAT_WRAP s)) s
    sweep (durableEffect r s)

def execRecordDurable (dt : Nat) (s : State) : Host.Outcome State Fault Refusal := command dt recordDurable s

/-- The flash writes the commit word of an intent record, with COMPLETE or without (R429), while the journal takes writes (R441); a
record still in progress becomes durable whole. -/
def closeIntent (ticket : Nat) (complete : Bool) (s : State) : State :=
  let close (r : JRec) : JRec :=
    if r.ticket = ticket then { r with payload := r.payload % 2 ^ 46 + flag complete * 2 ^ 46, whole := true } else r
  match s.jnl.intents.find? (fun i => i.1 == ticket) with
  | none =>
    modJnl (fun j => { j with
      offered := j.offered.map close, accepted := j.accepted.map (fun e => (e.1, close e.2)) }) s
  | some (_, p, r) =>
    let r := { r with payload := r.payload % 2 ^ 46 + flag complete * 2 ^ 46 }
    let s := onlyIf s.jnlIsReady (jnlPutSoon (2 * (p % logSlots) + 1) (recWord1 p r)) s
    modJnl (fun j => { j with intents := j.intents.filter (fun i => i.1 != ticket) }) s

/-! ### Reading the log -/

/-- A record read back from a slot: type, wrap, payload, and whether it is durable at a wrap (R442). -/
structure LogSlot where
  type : Nat
  wrap : Nat
  payload : Nat
  checks : Bool
  deriving DecidableEq, Repr

/-- The record in a slot; none where word 0 is unreadable. An unreadable commit word fails the check. -/
def State.logSlot (s : State) (slot : Nat) : Option LogSlot :=
  (s.jnlWord (2 * slot)).map (fun w0 =>
    let high := (s.jnlWord (2 * slot + 1)).getD 0
    { type := w0 % 16, wrap := w0 / 16 % 16384,
      payload := w0 / 2 ^ 18 % 2 ^ 46 + high % 2 ^ 48 * 2 ^ 46,
      checks := (s.jnlWord (2 * slot + 1)).isSome && high / 2 ^ 48 == recCheck w0 (high % 2 ^ 48) })

/-- The slots whose word 0 is not blank, in order. -/
def State.usedSlots (s : State) : List Nat :=
  let listed := (s.jnl.words.filter (fun e => decide (e.1 < 2 * logSlots ∧ e.1 % 2 = 0))).map (fun e => e.1 / 2)
  let torn := (s.jnl.unreadable.filter (fun w => decide (w < 2 * logSlots ∧ w % 2 = 0))).map (· / 2)
  sortBy (fun a b => decide (a < b)) (listed.filter (fun k => !torn.elem k) ++ torn)

/-- The length of the run of slots from 0 that hold a record of a wrap: the first slot that is torn, blank or of another
wrap ends it (R447). -/
def State.runOf (s : State) (wrap : Nat) : List Nat → Nat → Nat
  | [], at_ => at_
  | k :: ks, at_ =>
    if k = at_ then
      match s.logSlot k with
      | some r => if r.type ≠ 0 ∧ r.wrap = wrap then s.runOf wrap ks (at_ + 1) else at_
      | none => at_
    else at_

/-- The head h (R447). -/
def State.jnlHead (s : State) : Nat :=
  match s.logSlot 0 with
  | some r => if r.type = 0 then 0 else (r.wrap * logSlots + s.runOf r.wrap s.usedSlots 0) % 2 ^ 32
  | none =>
    match (s.usedSlots.filter (fun k => (s.logSlot k).any (fun r => r.type != 0))).getLast? with
    | some k => match s.logSlot k with
      | some r => (r.wrap + 1) * logSlots % 2 ^ 32
      | none => 0
    | none => 0

/-- The position of a slot's record below the head, if it lies in the log's last N positions. -/
def slotPosition (h slot : Nat) : Option Nat :=
  let base := h / logSlots * logSlots
  if slot < h % logSlots then some (base + slot)
  else if logSlots ≤ h then some (base - logSlots + slot) else none

/-- The durable records of the log in position order (R442, R447). -/
def State.replayList (s : State) (h : Nat) : List (Nat × LogSlot) :=
  let all := s.usedSlots.filterMap (fun k =>
    match slotPosition h k, s.logSlot k with
    | some p, some r => if r.type ≠ 0 ∧ r.checks = true ∧ r.wrap = wrapOf p then some (p, r) else none
    | _, _ => none)
  sortBy (fun a b => decide (a.1 < b.1)) all

/-! ### Recovery (R447) -/

/-- What recovery rebuilds for an index: the state bits of R445, LASTSEQ and LSV. -/
structure IndexState where
  inctr : Nat
  block : Nat
  bv : Bool
  cv : Bool
  lastseq : Nat
  lsv : Bool
  since : Nat
  deriving DecidableEq, Repr

/-- The state every index starts from: its newest readable checkpoint word (R447). -/
def State.startState (s : State) (h i : Nat) : IndexState :=
  let read (c : Nat) : Option (Nat × Nat) :=
    (s.jnlWord (copyBase c + i)).bind (fun w => (qhat h (w / 2 ^ 54)).map (fun q => (q, w)))
  let best := match read 0, read 1 with
    | some a, some b => some (if a.1 < b.1 then b else a)
    | some a, none => some a
    | none, b => b
  match best with
  | none => { inctr := 0, block := 0, bv := false, cv := false, lastseq := 0, lsv := false, since := 0 }
  | some (q, w) =>
    { inctr := w % 2 ^ 32, block := w / 2 ^ 32 % 2 ^ 20, bv := bitAt w 52, cv := bitAt w 53, lastseq := 0, lsv := false,
      since := q }

/-- Apply a record to the state of its index (R443). -/
def applyRecord (r : LogSlot) (st : IndexState) : IndexState :=
  let p := r.payload
  match r.type with
  | 1 => { st with inctr := p / 2 ^ 18 % 2 ^ 32, lastseq := p / 2 ^ 50 % 256, lsv := true, cv := st.cv || bitAt p 58 }
  | 2 =>
    if p / 2 ^ 18 % 2 ^ 32 ≤ st.inctr then
      { st with inctr := p / 2 ^ 50 % 2 ^ 32, lastseq := p / 2 ^ 82 % 256, lsv := true, cv := bitAt p 90 }
    else st
  | 3 => { st with inctr := 0, block := 0, bv := false, cv := false, lastseq := 0, lsv := true }
  | 4 => { st with block := p / 2 ^ 19 % 2 ^ 20, bv := true }
  | 5 => { st with inctr := p / 2 ^ 41 % 2 ^ 32, block := p / 2 ^ 19 % 2 ^ 20, bv := bitAt p 39, cv := bitAt p 40 }
  | _ => st

/-- A record that names a node index. -/
def LogSlot.onIndex (r : LogSlot) : Bool :=
  r.type == 1 || r.type == 2 || r.type == 3 || ((r.type == 4 || r.type == 5) && !bitAt r.payload 18)

/-- Replay the log for an index. -/
def State.replayIndex (s : State) (h i : Nat) (log : List (Nat × LogSlot)) : IndexState :=
  log.foldl (fun st (e : Nat × LogSlot) =>
    if e.2.onIndex && e.2.payload % 2 ^ 18 == i && decide (st.since ≤ e.1) then applyRecord e.2 st else st) (s.startState h i)

/-- The entry of the recovery table (R447). -/
def IndexState.entry (st : IndexState) : Nat :=
  stateBits st.inctr st.block st.bv st.cv + (if st.lsv then st.lastseq * 2 ^ 54 + 2 ^ 62 else 0)

/-- The indices that may differ from a blank entry: those with a checkpoint word or a record. -/
def State.namedIndices (s : State) (log : List (Nat × LogSlot)) : List Nat :=
  let copies := (s.jnl.words.filter (fun e => decide (2 * logSlots ≤ e.1))).map (fun e => (e.1 - copyBase 0) % nodeCount)
  let recs := (log.filter (fun e => e.2.onIndex)).map (fun e => e.2.payload % 2 ^ 18)
  (copies ++ recs).eraseDups

/-- Apply the items of the log that are not indices: group slots, PEPOCH and SLOT. -/
def recoverItem (r : LogSlot) (s : State) : State :=
  let p := r.payload
  let group (b : Option Nat) : State :=
    let g := p % 64
    let old := Sparse.get (fun _ => freshSpace) s.sec.groups g
    let sp : GroupSpace := { freshSpace with block := b, last := old.last }
    { s with sec := { s.sec with groups := Sparse.put (fun _ => freshSpace) s.sec.groups g sp } }
  match r.type with
  | 4 => if bitAt p 18 then group (some (p / 2 ^ 19 % 2 ^ 20)) else s
  | 5 => if bitAt p 18 then group (if bitAt p 39 then some (p / 2 ^ 19 % 2 ^ 20) else none) else s
  | 6 => s.set STL_PEPOCH_PEPOCH p
  | 7 => modJnl (fun j => { j with slot := p % 4, iseq := p / 4 % 2 ^ 32 }) s
  | _ => s

/-- Whether replay applies a record. -/
def State.replayed (s : State) (h : Nat) (e : Nat × LogSlot) : Bool :=
  if e.2.onIndex then decide ((s.startState h (e.2.payload % 2 ^ 18)).since ≤ e.1)
  else e.2.type == 4 || e.2.type == 5 || e.2.type == 6 || e.2.type == 7

/-- Each group space resumes after its highest durable block (R248). -/
def resumeGroups (s : State) : State :=
  forEach s.sec.groups (fun (e : Nat × GroupSpace) t =>
    match e.2.block with
    | some b => t.set (SEC_GRPn_OCTR_NEXT e.1) ((b + 1) * 4096)
    | none => t) s

/-- JOURNAL_RECOVERY (R447): `err` says that a write to the recovery table got an error outcome, `time` is its duration in
0.1 ms. -/
def journalRecovery (err : Bool) (time : Nat) (s : State) : State :=
  let base := s.recoveryAddr 0
  let bad := err || decide (base < dramBase ∨ s.visible < base - dramBase + 0x200000)
  if bad then raise JNL_INT_STAT_RECDONE ((onlyIf (!err) (raise DMC_INT_STAT_ADDRERR) s).set JNL_STAT_STATE jnlFailed)
  else
    let h := s.jnlHead
    let log := s.replayList h
    let entries := (s.namedIndices log).map (fun i => (i, (s.replayIndex h i log).entry))
    let torn := sortBy (fun a b => decide (a < b)) s.jnl.unreadable
    let fallback := torn.any (fun w => decide (2 * logSlots ≤ w))
    let applied := (log.filter (s.replayed h)).length
    let o := base - dramBase
    let s := { s with dram := Sparse.erase s.dram (fun a => decide (o ≤ a ∧ a < o + 0x200000)) }
    let s := forEach entries (fun (e : Nat × Nat) t => enginePut 7 (t.recoveryAddr e.1) (le 8 e.2) t) s
    let s := resumeGroups (forEach log (fun (e : Nat × LogSlot) => recoverItem e.2) s)
    let s := forEach torn jnlUnreadable s
    let s := modJnl (fun j => { j with pos := h, sweep := 0, owed := 0 }) s
    let s := ((s.set JNL_REC_REPLAYED applied).set JNL_REC_TIME time).set JNL_REC_FALLBACK (flag fallback)
    raise JNL_INT_STAT_RECDONE (s.set JNL_STAT_STATE jnlReady)

/-! ### RESTATE and FORMAT (R448, R449) -/

/-- The effect of a write of `JNL_CTRL`: RESTATE and FORMAT start; FORMAT only in BLANK, MAKER or RETURN. -/
def jnlCtrlWrite (w : Word) (s : State) : State :=
  let s := if wrote w JNL_CTRL_RESTATE && s.jnl.restate.isNone then modJnl (fun j => { j with restate := some 0 }) s else s
  if wrote w JNL_CTRL_FORMAT && !s.jnl.formatting then
    if s.lifeCycle = lcBlank ∨ s.lifeCycle = lcMaker ∨ s.lifeCycle = lcReturn then
      modJnl (fun j => { j with formatting := true }) (s.set JNL_STAT_STATE jnlFormatting)
    else s.set JNL_CTRL_FORMAT 0
  else s

/-- RESTATE (R448): a write of `JNL_CTRL`. DEDUCED, unsafe: log 145. -/
def execRestate (dt : Nat) (acc : Access) (w : Word) (s : State) : Host.Outcome State Fault Refusal :=
  command dt (writeRow acc 0x20060000 w (jnlCtrlWrite w)) s

/-- FORMAT (R449): a write of `JNL_CTRL`. -/
def execFormatJournal (dt : Nat) (acc : Access) (w : Word) (s : State) : Host.Outcome State Fault Refusal :=
  command dt (writeRow acc 0x20060000 w (jnlCtrlWrite w)) s

/-- RESTATED (R448): every STATE record is written. -/
def execRestated (dt : Nat) (s : State) : Host.Outcome State Fault Refusal :=
  command dt (fun s =>
    match s.jnl.restate with
    | some k =>
      if k = nodeCount + 64 ∧ s.jnl.accepted = [] then
        raise JNL_INT_STAT_RESTATED ((modJnl (fun j => { j with restate := none }) s).set JNL_CTRL_RESTATE 0)
      else s
    | none => s) s

/-- Every journal word zero, and P zero (R449). -/
def blankJournal (s : State) : State :=
  modJnl (fun j => { j with
    words := [], unreadable := [], pos := 0, accepted := [], intents := [], sweep := 0, owed := 0, newer1 := [], formatting := false,
    recent := [] }) s

/-- FMTDONE (R449). -/
def execFmtdone (dt : Nat) (s : State) : Host.Outcome State Fault Refusal :=
  command dt (fun s =>
    if s.jnl.formatting then
      raise JNL_INT_STAT_FMTDONE (((blankJournal s).set JNL_STAT_STATE jnlReady).set JNL_CTRL_FORMAT 0)
    else s) s

/-- The words of the journal in the order FORMAT zeroes them: copy 0, copy 1, then the log from its top slot (R449). -/
def formatOrder (w : Nat) : Nat :=
  if copyBase 0 ≤ w then w - copyBase 0 else 4 * logSlots - 2 - w / 2 * 2 + w % 2

/-- The word that FORMAT zeroes in a place of its order. -/
def formatWord (n : Nat) : Nat :=
  if n < 2 * logSlots then copyBase 0 + n else 4 * logSlots - 2 - n / 2 * 2 + n % 2

/-- A reset during FORMAT stops it: the words zeroed so far, and whether the next one was cut, are free values (R440, R449). -/
def stopFormat (s : State) : State :=
  if s.jnl.formatting then
    let done := s.freeNow / 2 % (4 * logSlots + 1)
    let cut := s.freeNow % 2 == 1 && decide (done < 4 * logSlots)
    useFree (onlyIf cut (jnlTear (formatWord done)) <| modJnl (fun j => { j with
      words := j.words.filter (fun e => decide (done ≤ formatOrder e.1)),
      unreadable := j.unreadable.filter (fun w => decide (done ≤ formatOrder w)),
      formatting := false }) s)
  else s

/-- A commit word of an intent, or a checkpoint word, that was being made durable at a reset may be cut, by free values (R440). -/
def cutRecent (s : State) : State :=
  let open_ := s.jnl.recent.filter (fun e => decide (s.cycles < e.2 + usCycles))
  forEach open_ (fun e t => useFree (onlyIf (t.freeNow % 2 == 1) (jnlTear e.1) t)) s

/-- The records in progress at a reset (R442): free values say how many words 0 and commit words were written in full, and
whether the next of each was cut. The commit word of an intent is not among them (R429). -/
def cutRecords (s : State) : State :=
  let rs := s.jnl.accepted
  let firsts := s.freeNow % (rs.length + 1)
  let s := useFree s
  let commits := s.freeNow % (firsts + 1)
  let s := useFree s
  let tear := s.freeNow % 4
  let s := useFree s
  let s := forEach (rs.take firsts) (fun (r : Nat × JRec) => jnlPut (2 * (r.1 % logSlots)) (recWord0 r.1 r.2)) s
  let s := forEach (rs.take commits) (fun (r : Nat × JRec) =>
    onlyIf r.2.whole (jnlPut (2 * (r.1 % logSlots) + 1) (recWord1 r.1 r.2))) s
  let s := match rs[firsts]? with
    | some r => onlyIf (bitAt tear 0) (jnlTear (2 * (r.1 % logSlots))) s
    | none => s
  match (rs.take firsts)[commits]? with
  | some r => onlyIf (bitAt tear 1 && r.2.whole) (jnlTear (2 * (r.1 % logSlots) + 1)) s
  | none => s

/-- The journal at a reset: its words stay, everything in progress is cut. DEDUCED, unsafe: log 144. -/
def jnlReset (s : State) : State :=
  let s := cutRecent s
  let s := if s.jnl.accepted.isEmpty then s else cutRecords s
  let s := stopFormat s
  modJnl (fun j => { j with
    pos := 0, offered := [], accepted := [], refused := [], intents := [], sweep := 0, owed := 0, slotTicket := none,
    restate := none, recent := [] }) s

/-! ### The SLOT record (R443) -/

/-- The effect of a write of `JNL_SLOTCMD`: GO writes a SLOT record with JNL_ISEQ. SLOT 2 and 3 get an error response. -/
def slotCmdWrite (old w : Word) (s : State) : State :=
  if 2 ≤ extractBits w 0 2 then errorResponse (s.setWord 0x20060018 old)
  else if wrote w JNL_SLOTCMD_GO && s.jnl.slotTicket.isNone then
    let t := s.jnl.nextTicket
    modJnl (fun j => { j with slotTicket := some t })
      (jnlOffer recSlot (paySlot (s.get JNL_SLOTCMD_SLOT) (s.get JNL_ISEQ_ISEQ)) s)
  else s

/-- SLOT_RECORD (R443). -/
def execSlotRecord (dt : Nat) (acc : Access) (w : Word) (s : State) : Host.Outcome State Fault Refusal :=
  command dt (fun s => writeRow acc 0x20060018 w (slotCmdWrite (s.word 0x20060018) w) s) s

end Sys2Proof.Machine
end

