-- ==== Sys2Proof/Machine/Flash.lean ====
section
/-!
DEFINITION. The flash commands (R426 to R436), reads of the flash window (R431), and the programming of the one-time row
(R439).
-/

namespace Sys2Proof.Machine

/-- The results of `FLS_STAT.RESULT`. -/
def flsDone : Nat := 1
def flsAborted : Nat := 2
def flsProtected : Nat := 3
def flsOrder : Nat := 4
def flsBadarg : Nat := 5
def flsPwdfail : Nat := 6
def flsLockout : Nat := 7
def flsBusy : Nat := 8
def flsSrcerr : Nat := 9

/-- The status bits of the operation running and the suspended erase. -/
def flsStatus (s : State) : State :=
  let blockOp (o : Option FlsOp) : Option Nat := match o with
    | some (.program b _ _ _ _) => some b
    | some (.erase b _ _) => some b
    | none => none
  let s := (s.set FLS_STAT_BUSY (flag (blockOp s.fls.op).isSome)).set FLS_STAT_SUSP (flag s.fls.susp.isSome)
  let s := match blockOp s.fls.op, blockOp s.fls.susp with
    | some b, _ => s.set FLS_STAT_SBLOCK b
    | none, some b => s.set FLS_STAT_SBLOCK b
    | none, none => s
  s.set FLS_CMD_GO (flag (s.fls.op.isSome || s.fls.prot.isSome))

/-- The password registers clear after every command (R435). -/
def clearPassword (s : State) : State := (s.set FLS_PWD_LO_PWD 0).set FLS_PWD_HI_PWD 0

/-- A command ends with a result (R426): DONE is raised at every end. -/
def flsEnd (result : Nat) (s : State) : State :=
  let s := (s.set FLS_STAT_RESULT result).set FLS_STAT_ABORT_LATE 0
  raise FLS_INT_STAT_DONE (clearPassword (flsStatus s))

/-- Whether an initiator may program or erase a block (R426, R434). -/
def State.flsMayChange (s : State) (acc : Access) (block : Nat) : Bool :=
  let core := (s.regionsOf block).any (fun r => (s.flsRegion r).core)
  (acc.init == initLapwing || (fromApp acc && core)) && !s.flsGuard block FlsRegion.wp

/-- A page number within the flash. -/
def pageNumber (block page : Nat) : Nat := 64 * block + page

/-- What the blank check finds (R426): a page left undefined checks as blank or not by a free value. -/
def blankCheck (block page : Nat) (s : State) : Bool × State :=
  if s.fls.undef.elem (pageNumber block page) then (s.pageErased block page && s.freeNow % 2 == 0, useFree s)
  else (s.pageErased block page, s)

/-- The page is left undefined (R427). -/
def undefine (pages : List Nat) (s : State) : State :=
  modFls (fun f => { f with undef := f.undef.filter (fun p => !pages.elem p) ++ pages }) s

/-- The block an operation changes. -/
def FlsOp.block : FlsOp → Nat
  | .program b _ _ _ _ => b
  | .erase b _ _ => b

/-- A change of a block of the inactive slot clears VERIFIED (R485). -/
def staleVerified (b : Nat) (s : State) : State :=
  if b < 12 ∧ b / 6 ≠ s.lpw.slot then s.set LPW_UPD_STAT_VERIFIED 0 else s

/-- Start an operation. -/
def flsRun (op : FlsOp) (s : State) : State :=
  staleVerified op.block <| flsStatus (modFls (fun f => { f with op := some op, since := s.cycles }) s)

/-- Start a command of the protection page. -/
def flsProtRun (op : FlsProt) (s : State) : State :=
  flsStatus (modFls (fun f => { f with prot := some op, protFrom := s.cycles }) s)

/-- PROGRAM (R426): the source is read, both pages of the wordline are blank-checked, and the program runs or waits for its
intent record. -/
def flsProgram (acc : Access) (srcErr : Bool) (s : State) : State :=
  let b := s.get FLS_CMD_BLOCK
  let p := s.get FLS_CMD_PAGE
  let suspended := match s.fls.susp with
    | some (.erase e _ _) => e == b
    | _ => false
  if !s.flsMayChange acc b then flsEnd flsProtected s
  else if suspended then flsEnd flsBusy s
  else
    let src := s.get FLS_SRC_HI_ADDR * 2 ^ 32 + s.get FLS_SRC_LO_ADDR * 8
    match engineRead acc src pageSize s with
    | (none, s) => flsEnd flsSrcerr s
    | (some data, s) =>
      if srcErr then flsEnd flsSrcerr s
      else
        let target := blankCheck b p s
        let lower := blankCheck b (lowerOf p) target.2
        let s := lower.2
        if !target.1 || (decide (32 ≤ p) && lower.1) then flsEnd flsOrder s
        else if p < 32 then flsRun (.program b p data none true) s
        else
          let t := s.jnl.nextTicket
          flsRun (.program b p data (some t) false) (jnlOffer recProg (payIntent b p false) s)

/-- ERASE (R426, R429, R432). -/
def flsErase (acc : Access) (s : State) : State :=
  let b := s.get FLS_CMD_BLOCK
  if s.fls.susp.isSome then flsEnd flsBusy s
  else if !s.flsMayChange acc b then flsEnd flsProtected s
  else
    let t := s.jnl.nextTicket
    flsRun (.erase b t false) (jnlOffer recErase (payIntent b 0 false) s)

/-- SUSPEND (R432). -/
def flsSuspend (s : State) : State :=
  match s.fls.op with
  | some (.erase b t true) => flsStatus (modFls (fun f => { f with op := none, susp := some (.erase b t true) }) s)
  | _ => if s.fls.susp.isSome && s.fls.op.isNone then flsEnd flsBusy s else flsStatus s

/-- RESUME (R432): the erase continues; ignored while another operation runs or none is suspended. -/
def flsResume (s : State) : State :=
  match s.fls.op, s.fls.susp with
  | none, some e =>
    staleVerified e.block (flsStatus (modFls (fun f => { f with op := some e, susp := none, since := s.cycles }) s))
  | _, _ => flsStatus s

/-- The end of a program. -/
def programEnd (b p : Nat) (data : Octets) (ticket : Option Nat) (s : State) : State :=
  let o := pageOffset b p
  let s := modFls (fun f => { f with
    cells := Sparse.putRun erasedByte f.cells o data,
    undef := f.undef.filter (· != pageNumber b p), op := none }) s
  let s := match ticket with
    | some t => closeIntent t true s
    | none => s
  emit 0x141 0 (flsEnd flsDone (staleVerified b s))

/-- The end of an erase: every page of the block reads 0xFF (R424). -/
def eraseEnd (b t : Nat) (s : State) : State :=
  let s := modFls (fun f => { f with
    cells := Sparse.erase f.cells (fun a => decide (a / blockSize = b)),
    undef := f.undef.filter (fun p => decide (p / 64 ≠ b)), op := none }) s
  emit 0x140 0 (flsEnd flsDone (closeIntent t true (staleVerified b s)))

/-- The pages an interrupted operation leaves undefined (R427). -/
def FlsOp.leaves : FlsOp → List Nat
  | .program b p _ _ started =>
    if started then
      if p < 32 then [pageNumber b p] else [pageNumber b p, pageNumber b (lowerOf p)]
    else []
  | .erase b _ started => if started then (List.range 64).map (pageNumber b) else []

/-- The ticket of an operation's intent record. -/
def FlsOp.ticket : FlsOp → Option Nat
  | .program _ _ _ t _ => t
  | .erase _ t _ => some t

/-- The effect of ABORT on an operation (R433). -/
def abortOp (op : FlsOp) (event : Nat) (s : State) : State :=
  let s := staleVerified op.block (undefine op.leaves s)
  let s := match op.ticket with
    | some t => closeIntent t false s
    | none => s
  emit event 0 (flsEnd flsAborted s)

/-- ABORT (R433): `finished` says that it meets completion. With a program running while an erase is suspended, it stops the
program. -/
def flsAbort (finished : Bool) (s : State) : State :=
  let late (s : State) : State := raise FLS_STAT_ABORT_LATE s
  match s.fls.op with
  | some (.program b p data t started) =>
    if finished && started then late (programEnd b p data t s)
    else abortOp (.program b p data t started) 0x141 (modFls (fun f => { f with op := none }) s)
  | some (.erase b t started) =>
    if finished && started then late (eraseEnd b t s)
    else abortOp (.erase b t started) 0x140 (modFls (fun f => { f with op := none }) s)
  | none =>
    match s.fls.susp with
    | some e => abortOp e 0x140 (modFls (fun f => { f with susp := none }) s)
    | none => flsStatus s

/-- The password the registers hold. -/
def State.flsPassword (s : State) : Nat := s.get FLS_PWD_HI_PWD * 2 ^ 32 + s.get FLS_PWD_LO_PWD

/-- Whether an application core may unlock or lock a region (R434). -/
def State.flsMayUnlock (s : State) (acc : Access) (r : Nat) : Bool :=
  acc.init == initLapwing || (fromApp acc && (s.flsRegion r).core)

/-- UNLOCK (R435). -/
def flsUnlock (acc : Access) (s : State) : State :=
  let r := s.get FLS_CMD_REGION
  if 8 ≤ s.get FLS_STAT_FAILS then raise FLS_INT_STAT_LOCKOUT (flsEnd flsLockout s)
  else if !s.flsMayUnlock acc r then flsEnd flsProtected s
  else clearPassword (flsProtRun (.unlock r s.flsPassword) s)

/-- LOCK (R435). -/
def flsLock (acc : Access) (s : State) : State :=
  let r := s.get FLS_CMD_REGION
  if !s.flsMayUnlock acc r then flsEnd flsProtected s
  else flsEnd flsDone (modFls (fun f => { f with unlocked := f.unlocked.filter (· != r) }) s)

/-- SETREGION (R436). -/
def flsSetRegion (acc : Access) (s : State) : State :=
  let r := s.get FLS_CMD_REGION
  let g : FlsRegion :=
    { start := s.get FLS_REGWR_START, stop := s.get FLS_REGWR_END, wp := s.is FLS_REGWR_WP, rp := s.is FLS_REGWR_RP,
      core := s.is FLS_REGWR_CORE, valid := s.is FLS_REGWR_VALID, password := s.flsPassword }
  let old := s.flsRegion r
  let overlaps := (List.range 4).any (fun q =>
    let o := s.flsRegion q
    q != r && o.valid && decide (g.start ≤ o.stop ∧ o.start ≤ g.stop))
  if acc.init ≠ initLapwing ∨ (old.valid = true ∧ s.flsLocked r = true) then flsEnd flsProtected s
  else if g.stop < g.start ∨ overlaps = true then flsEnd flsBadarg s
  else clearPassword (flsProtRun (.setRegion r g) s)

/-- The effect of a write of `FLS_CMD` (R426): with GO the operation OP; while an operation runs, PROGRAM, ERASE, UNLOCK, LOCK
and SETREGION are ignored with CMDREJ. DEDUCED, unsafe: log 148. -/
def flsCmdWrite (acc : Access) (srcErr finished : Bool) (w : Word) (s : State) : State :=
  if !wrote w FLS_CMD_GO then flsStatus s
  else
    let op := s.get FLS_CMD_OP
    let free (f : State → State) (s : State) : State :=
      if s.fls.op.isSome || s.fls.prot.isSome then raise FLS_INT_STAT_CMDREJ (flsStatus s) else f s
    match op with
    | 1 => free (flsProgram acc srcErr) s
    | 2 => free (flsErase acc) s
    | 3 => clearPassword (flsSuspend s)
    | 4 => clearPassword (flsResume s)
    | 5 => clearPassword (flsAbort finished s)
    | 6 => free (flsUnlock acc) s
    | 7 => free (flsLock acc) s
    | 8 => free (flsSetRegion acc) s
    | _ => flsEnd flsBadarg s

/-- A write of `FLS_CMD`. -/
def flsCmdRow (acc : Access) (w : Word) (srcErr finished : Bool) (s : State) : State :=
  writeRow acc 0x20050000 w (flsCmdWrite acc srcErr finished w) s

/-- PROGRAM (R426); `srcErr` says that a read of the source met an uncorrectable error. -/
def execProgram (dt : Nat) (acc : Access) (w : Word) (srcErr : Bool) (s : State) : Host.Outcome State Fault Refusal :=
  command dt (flsCmdRow acc w srcErr false) s

/-- ERASE (R426). -/
def execErase (dt : Nat) (acc : Access) (w : Word) (s : State) : Host.Outcome State Fault Refusal :=
  command dt (flsCmdRow acc w false false) s

/-- SUSPEND (R432). -/
def execSuspend (dt : Nat) (acc : Access) (w : Word) (s : State) : Host.Outcome State Fault Refusal :=
  command dt (flsCmdRow acc w false false) s

/-- RESUME (R432). -/
def execResume (dt : Nat) (acc : Access) (w : Word) (s : State) : Host.Outcome State Fault Refusal :=
  command dt (flsCmdRow acc w false false) s

/-- ABORT (R433). -/
def execAbortFlash (dt : Nat) (acc : Access) (w : Word) (finished : Bool) (s : State) :
    Host.Outcome State Fault Refusal :=
  command dt (flsCmdRow acc w false finished) s

/-- UNLOCK (R435). -/
def execUnlockRegion (dt : Nat) (acc : Access) (w : Word) (s : State) : Host.Outcome State Fault Refusal :=
  command dt (flsCmdRow acc w false false) s

/-- LOCK (R435). -/
def execLockRegion (dt : Nat) (acc : Access) (w : Word) (s : State) : Host.Outcome State Fault Refusal :=
  command dt (flsCmdRow acc w false false) s

/-- SETREGION (R436). -/
def execSetregion (dt : Nat) (acc : Access) (w : Word) (s : State) : Host.Outcome State Fault Refusal :=
  command dt (flsCmdRow acc w false false) s

/-- FLASH_BADARG (R426): an undefined OP. -/
def execFlashBadarg (dt : Nat) (acc : Access) (w : Word) (s : State) : Host.Outcome State Fault Refusal :=
  command dt (flsCmdRow acc w false false) s

/-- The word 0 of a ticket's intent record is durable. -/
def State.intentOpen (s : State) (t : Nat) : Bool := s.jnl.intents.any (fun i => i.1 == t)

/-- FLASH_OPERATION_START (R429). -/
def execFlashOperationStart (dt : Nat) (s : State) : Host.Outcome State Fault Refusal :=
  command dt (fun s =>
    match s.fls.op with
    | some (.program b p data (some t) false) =>
      if s.intentOpen t then
        modFls (fun f => { f with op := some (.program b p data (some t) true), since := s.cycles }) s
      else s
    | some (.erase b t false) =>
      if s.intentOpen t then modFls (fun f => { f with op := some (.erase b t true), since := s.cycles }) s else s
    | _ => s) s

/-- PROG_DONE (R429). -/
def execProgDone (dt : Nat) (s : State) : Host.Outcome State Fault Refusal :=
  command dt (fun s =>
    match s.fls.op with
    | some (.program b p data t true) => programEnd b p data t s
    | _ => s) s

/-- ERASE_DONE (R429). -/
def execEraseDone (dt : Nat) (s : State) : Host.Outcome State Fault Refusal :=
  command dt (fun s =>
    match s.fls.op with
    | some (.erase b t true) => eraseEnd b t s
    | _ => s) s

/-- PASSWORD_COMPARE_END (R435): 1 ms after UNLOCK. -/
def execPasswordCompareEnd (dt : Nat) (s : State) : Host.Outcome State Fault Refusal :=
  command dt (fun s =>
    match s.fls.prot with
    | some (.unlock r pwd) =>
      if s.passed s.fls.protFrom msCycles then
        let s := modFls (fun f => { f with prot := none }) s
        if (s.flsRegion r).password = pwd then
          flsEnd flsDone (modFls (fun f => { f with unlocked := r :: f.unlocked.filter (· != r) }) s)
        else raise FLS_INT_STAT_PWDFAIL (flsEnd flsPwdfail (s.set FLS_STAT_FAILS (min 8 (s.get FLS_STAT_FAILS + 1))))
      else s
    | _ => s) s

/-- SETREGION_DONE (R436). -/
def execSetregionDone (dt : Nat) (s : State) : Host.Outcome State Fault Refusal :=
  command dt (fun s =>
    match s.fls.prot with
    | some (.setRegion r g) =>
      flsEnd flsDone (modFls (fun f => { f with
        prot := none, regions := Sparse.put (fun _ => FlsRegion.blank) f.regions r g }) s)
    | _ => s) s

/-- The flash at a reset (R427, R430, R435, R436): an operation in progress stops and its record stays open; a SETREGION
leaves the earlier setting; a region whose password is all ones is unlocked. -/
def flashReset (s : State) : State :=
  let cut (o : Option FlsOp) (s : State) : State := match o with
    | some op => undefine op.leaves s
    | none => s
  let s := cut s.fls.susp (cut s.fls.op s)
  let open_ := (List.range 4).filter (fun r => (s.flsRegion r).password == 2 ^ 64 - 1)
  modFls (fun f => { f with op := none, susp := none, since := 0, prot := none, unlocked := open_ }) s

/-! ### Open intent records at the next LOAD (R430) -/

/-- The intent records of the log whose commit word is not written: slot, type, block and page, in position order. -/
def State.openIntents (s : State) : List (Nat × LogSlot) :=
  let h := s.jnlHead
  let all := s.usedSlots.filterMap (fun k =>
    match slotPosition h k, s.logSlot k with
    | some p, some r =>
      if (r.type = recErase ∨ r.type = recProg) ∧ r.checks = false ∧ r.wrap = wrapOf p then some (p, r) else none
    | _, _ => none)
  sortBy (fun a b => decide (a.1 < b.1)) all

/-- The closed ERASE records with COMPLETE, by position and block. -/
def State.erasesDone (s : State) : List (Nat × Nat) :=
  let h := s.jnlHead
  (s.replayList h).filterMap (fun e =>
    if e.2.type = recErase ∧ bitAt e.2.payload 46 = true then some (e.1, e.2.payload % 32) else none)

/-- Write the commit word of an open record found in the log. -/
def closeOpen (p : Nat) (r : LogSlot) (complete : Bool) (s : State) : State :=
  let rec_ : JRec := { ticket := 0, type := r.type, payload := r.payload % 2 ^ 46 + flag complete * 2 ^ 46, whole := true }
  jnlPut (2 * (p % logSlots) + 1) (recWord1 p rec_) s

/-- Handle one open record (R430): an erase is done again unless a later one has completed, a program is closed. -/
def recoverIntent (e : Nat × LogSlot) (s : State) : State :=
  let block := e.2.payload % 32
  let page := e.2.payload / 32 % 64
  if e.2.type = recErase then
    let again := !s.erasesDone.any (fun d => decide (e.1 < d.1 ∧ d.2 = block))
    if again then
      let s := modFls (fun f => { f with
        cells := Sparse.erase f.cells (fun a => decide (a / blockSize = block)),
        undef := f.undef.filter (fun p => decide (p / 64 ≠ block)) }) s
      let s := closeOpen e.1 e.2 true s
      raise FLS_INT_STAT_RECOV (s.setWord 0x2005001C (BitVec.ofNat 32 (1 + block * 4)))
    else s
  else
    let s := closeOpen e.1 e.2 false s
    raise FLS_INT_STAT_RECOV
      (s.setWord 0x2005001C (BitVec.ofNat 32 (3 + block * 4 + page * 2 ^ 7 + (page - 32) * 2 ^ 13)))

/-- OPEN_RECORD_RECOVERY (R430). -/
def openRecordRecovery (s : State) : State := forEach s.openIntents recoverIntent s

/-! ### Reads of the flash window -/

/-- The answer of a read: data, or an error response. -/
def answer (r : Option Octets × State) : State :=
  match r.1 with
  | some os => { r.2 with resp := .octets os }
  | none => { r.2 with resp := .error }

/-- FLASH_READ (R424, R431, R432, R434) of `n` bytes at flash offset `o`; `bad` and `corrected` say what the code found. -/
def execFlashRead (dt : Nat) (acc : Access) (o n : Nat) (bad corrected : Bool) (s : State) :
    Host.Outcome State Fault Refusal :=
  command dt (fun s =>
    let a := 0x08000000 + o
    if 0x800000 < o + n ∨ s.domainLocked domFls = true then errorResponse s
    else
      match s.firewall acc false a n with
      | some w => errorResponse (firewallRefusal acc false a w s)
      | none => answer (flashRead acc o n bad corrected s)) s

/-! ### The one-time row (R439) -/

/-- The effect of a write of `OTP_CMD`; `mv` is the always-on supply in millivolts. -/
def otpCmdWrite (mv : Nat) (w : Word) (s : State) : State :=
  if wrote w OTP_CMD_GO && s.otp.op.isNone then
    raise OTP_STAT_BUSY
      (modOtp (fun o => { o with op := some (s.get OTP_CMD_WORD, s.get OTP_WDATA_DATA), lowSupply := decide (mv < 1700) }) s)
  else s.set OTP_CMD_GO (flag s.otp.op.isSome)

/-- OTP_PROGRAM (R439). -/
def execOtpProgram (dt : Nat) (acc : Access) (w : Word) (mv : Nat) (s : State) : Host.Outcome State Fault Refusal :=
  command dt (writeRow acc 0x20058000 w (otpCmdWrite mv w)) s

/-- Whether a programming writes at all: the word is programmable, blank, and the supply is high enough (R439). -/
def State.otpRefusal (s : State) (w : Nat) : Option Nat :=
  if !otpProgrammable s.lifeCycle w then some 2
  else if s.otpProgrammed w || s.otpInvalid w then some 3
  else if s.otp.lowSupply then some 5
  else none

/-- A word becomes invalid and can never be programmed (R439). -/
def otpSpoil (w : Nat) (s : State) : State :=
  modOtp (fun o => { o with bad := w :: o.bad, shadowBad := w :: o.shadowBad }) s

/-- OTP_PROGRAM_DONE (R439); `ok` says that the read-back agrees. -/
def execOtpProgramDone (dt : Nat) (ok : Bool) (s : State) : Host.Outcome State Fault Refusal :=
  command dt (fun s =>
    match s.otp.op with
    | none => s
    | some (w, v) =>
      let refusal := s.otpRefusal w
      let result := match refusal with
        | some r => r
        | none => if ok then 1 else 4
      let s := match refusal with
        | some _ => s
        | none => if ok then otpPut w v s else otpSpoil w s
      let s := modOtp (fun o => { o with op := none, lowSupply := false }) s
      let s := ((s.set OTP_STAT_RESULT result).set OTP_STAT_BUSY 0).set OTP_CMD_GO 0
      if result = 1 then raise FLS_INT_STAT_OTPDONE s else raise FLS_INT_STAT_OTPERR s) s

/-- The one-time row at a reset (R439): a programming in progress leaves its word invalid. The shadow stands until RESET copies the
row again, so that the life cycle is never in doubt (R438). -/
def otpReset (s : State) : State :=
  let s := match s.otp.op with
    | some (w, _) => if (s.otpRefusal w).isNone then otpSpoil w s else s
    | none => s
  modOtp (fun o => { o with op := none, lowSupply := false }) s

/-- The shadow copied during RESET (R439). -/
def otpShadowRead (s : State) : State := modOtp (fun o => { o with shadow := o.words, shadowBad := o.bad }) s

end Sys2Proof.Machine
end

