-- ==== Sys2Proof/Machine/Crypto.lean ====
section
/-!
DEFINITION. The ciphers and hashes the manual names: AES-128 with CMAC, CCM* and key wrap (R231, R240 to R242), SHA-256 and
ECDSA over P-256 (R458). The manual gives the modes and names the standards; the algorithms are those of the standards
(assumption 33).
-/

namespace Sys2Proof.Machine

/-! ### AES-128 -/

/-- The substitution table of AES (FIPS-197). -/
def aesSbox : List Nat :=
  [0x63, 0x7c, 0x77, 0x7b, 0xf2, 0x6b, 0x6f, 0xc5, 0x30, 0x01, 0x67, 0x2b, 0xfe, 0xd7, 0xab, 0x76] ++
  [0xca, 0x82, 0xc9, 0x7d, 0xfa, 0x59, 0x47, 0xf0, 0xad, 0xd4, 0xa2, 0xaf, 0x9c, 0xa4, 0x72, 0xc0] ++
  [0xb7, 0xfd, 0x93, 0x26, 0x36, 0x3f, 0xf7, 0xcc, 0x34, 0xa5, 0xe5, 0xf1, 0x71, 0xd8, 0x31, 0x15] ++
  [0x04, 0xc7, 0x23, 0xc3, 0x18, 0x96, 0x05, 0x9a, 0x07, 0x12, 0x80, 0xe2, 0xeb, 0x27, 0xb2, 0x75] ++
  [0x09, 0x83, 0x2c, 0x1a, 0x1b, 0x6e, 0x5a, 0xa0, 0x52, 0x3b, 0xd6, 0xb3, 0x29, 0xe3, 0x2f, 0x84] ++
  [0x53, 0xd1, 0x00, 0xed, 0x20, 0xfc, 0xb1, 0x5b, 0x6a, 0xcb, 0xbe, 0x39, 0x4a, 0x4c, 0x58, 0xcf] ++
  [0xd0, 0xef, 0xaa, 0xfb, 0x43, 0x4d, 0x33, 0x85, 0x45, 0xf9, 0x02, 0x7f, 0x50, 0x3c, 0x9f, 0xa8] ++
  [0x51, 0xa3, 0x40, 0x8f, 0x92, 0x9d, 0x38, 0xf5, 0xbc, 0xb6, 0xda, 0x21, 0x10, 0xff, 0xf3, 0xd2] ++
  [0xcd, 0x0c, 0x13, 0xec, 0x5f, 0x97, 0x44, 0x17, 0xc4, 0xa7, 0x7e, 0x3d, 0x64, 0x5d, 0x19, 0x73] ++
  [0x60, 0x81, 0x4f, 0xdc, 0x22, 0x2a, 0x90, 0x88, 0x46, 0xee, 0xb8, 0x14, 0xde, 0x5e, 0x0b, 0xdb] ++
  [0xe0, 0x32, 0x3a, 0x0a, 0x49, 0x06, 0x24, 0x5c, 0xc2, 0xd3, 0xac, 0x62, 0x91, 0x95, 0xe4, 0x79] ++
  [0xe7, 0xc8, 0x37, 0x6d, 0x8d, 0xd5, 0x4e, 0xa9, 0x6c, 0x56, 0xf4, 0xea, 0x65, 0x7a, 0xae, 0x08] ++
  [0xba, 0x78, 0x25, 0x2e, 0x1c, 0xa6, 0xb4, 0xc6, 0xe8, 0xdd, 0x74, 0x1f, 0x4b, 0xbd, 0x8b, 0x8a] ++
  [0x70, 0x3e, 0xb5, 0x66, 0x48, 0x03, 0xf6, 0x0e, 0x61, 0x35, 0x57, 0xb9, 0x86, 0xc1, 0x1d, 0x9e] ++
  [0xe1, 0xf8, 0x98, 0x11, 0x69, 0xd9, 0x8e, 0x94, 0x9b, 0x1e, 0x87, 0xe9, 0xce, 0x55, 0x28, 0xdf] ++
  [0x8c, 0xa1, 0x89, 0x0d, 0xbf, 0xe6, 0x42, 0x68, 0x41, 0x99, 0x2d, 0x0f, 0xb0, 0x54, 0xbb, 0x16]

/-- The inverse substitution table of AES. -/
def aesInvSbox : List Nat :=
  [0x52, 0x09, 0x6a, 0xd5, 0x30, 0x36, 0xa5, 0x38, 0xbf, 0x40, 0xa3, 0x9e, 0x81, 0xf3, 0xd7, 0xfb] ++
  [0x7c, 0xe3, 0x39, 0x82, 0x9b, 0x2f, 0xff, 0x87, 0x34, 0x8e, 0x43, 0x44, 0xc4, 0xde, 0xe9, 0xcb] ++
  [0x54, 0x7b, 0x94, 0x32, 0xa6, 0xc2, 0x23, 0x3d, 0xee, 0x4c, 0x95, 0x0b, 0x42, 0xfa, 0xc3, 0x4e] ++
  [0x08, 0x2e, 0xa1, 0x66, 0x28, 0xd9, 0x24, 0xb2, 0x76, 0x5b, 0xa2, 0x49, 0x6d, 0x8b, 0xd1, 0x25] ++
  [0x72, 0xf8, 0xf6, 0x64, 0x86, 0x68, 0x98, 0x16, 0xd4, 0xa4, 0x5c, 0xcc, 0x5d, 0x65, 0xb6, 0x92] ++
  [0x6c, 0x70, 0x48, 0x50, 0xfd, 0xed, 0xb9, 0xda, 0x5e, 0x15, 0x46, 0x57, 0xa7, 0x8d, 0x9d, 0x84] ++
  [0x90, 0xd8, 0xab, 0x00, 0x8c, 0xbc, 0xd3, 0x0a, 0xf7, 0xe4, 0x58, 0x05, 0xb8, 0xb3, 0x45, 0x06] ++
  [0xd0, 0x2c, 0x1e, 0x8f, 0xca, 0x3f, 0x0f, 0x02, 0xc1, 0xaf, 0xbd, 0x03, 0x01, 0x13, 0x8a, 0x6b] ++
  [0x3a, 0x91, 0x11, 0x41, 0x4f, 0x67, 0xdc, 0xea, 0x97, 0xf2, 0xcf, 0xce, 0xf0, 0xb4, 0xe6, 0x73] ++
  [0x96, 0xac, 0x74, 0x22, 0xe7, 0xad, 0x35, 0x85, 0xe2, 0xf9, 0x37, 0xe8, 0x1c, 0x75, 0xdf, 0x6e] ++
  [0x47, 0xf1, 0x1a, 0x71, 0x1d, 0x29, 0xc5, 0x89, 0x6f, 0xb7, 0x62, 0x0e, 0xaa, 0x18, 0xbe, 0x1b] ++
  [0xfc, 0x56, 0x3e, 0x4b, 0xc6, 0xd2, 0x79, 0x20, 0x9a, 0xdb, 0xc0, 0xfe, 0x78, 0xcd, 0x5a, 0xf4] ++
  [0x1f, 0xdd, 0xa8, 0x33, 0x88, 0x07, 0xc7, 0x31, 0xb1, 0x12, 0x10, 0x59, 0x27, 0x80, 0xec, 0x5f] ++
  [0x60, 0x51, 0x7f, 0xa9, 0x19, 0xb5, 0x4a, 0x0d, 0x2d, 0xe5, 0x7a, 0x9f, 0x93, 0xc9, 0x9c, 0xef] ++
  [0xa0, 0xe0, 0x3b, 0x4d, 0xae, 0x2a, 0xf5, 0xb0, 0xc8, 0xeb, 0xbb, 0x3c, 0x83, 0x53, 0x99, 0x61] ++
  [0x17, 0x2b, 0x04, 0x7e, 0xba, 0x77, 0xd6, 0x26, 0xe1, 0x69, 0x14, 0x63, 0x55, 0x21, 0x0c, 0x7d]

/-- Multiplication by x in the field of AES. -/
def xtime (b : Nat) : Nat := if b < 128 then 2 * b else (2 * b) % 256 ^^^ 0x1b

/-- Multiplication in the field of AES by a factor below 16. -/
def aesMul (k b : Nat) : Nat :=
  let b2 := xtime b
  let b4 := xtime b2
  let b8 := xtime b4
  (if bitAtNat k 0 then b else 0) ^^^ (if bitAtNat k 1 then b2 else 0) ^^^ (if bitAtNat k 2 then b4 else 0) ^^^
    (if bitAtNat k 3 then b8 else 0)
where
  bitAtNat (n i : Nat) : Bool := n / 2 ^ i % 2 == 1

/-- An octet of a block, as a number. -/
def nth (l : List Nat) (i : Nat) : Nat := (l[i]?).getD 0

/-- Exclusive or of two blocks. -/
def xorBlock (a b : List Nat) : List Nat := List.zipWith (fun x y => x ^^^ y) a b

/-- The next round key from the one before it: four words of four octets. -/
def nextRoundKey (rcon : Nat) (k : List Nat) : List Nat :=
  let g := [nth aesSbox (nth k 13) ^^^ rcon, nth aesSbox (nth k 14), nth aesSbox (nth k 15), nth aesSbox (nth k 12)]
  let w0 := xorBlock (k.take 4) g
  let w1 := xorBlock ((k.drop 4).take 4) w0
  let w2 := xorBlock ((k.drop 8).take 4) w1
  let w3 := xorBlock ((k.drop 12).take 4) w2
  w0 ++ w1 ++ w2 ++ w3

/-- The round keys that follow a round key, `n` of them, first one first. -/
def roundKeys : Nat → Nat → List Nat → List (List Nat)
  | 0, _, _ => []
  | n + 1, rcon, k =>
    let k' := nextRoundKey rcon k
    k' :: roundKeys n (xtime rcon) k'

/-- ShiftRows, and its inverse with `back`. -/
def shiftRows (back : Bool) (b : List Nat) : List Nat :=
  (List.range 16).map (fun i =>
    let r := i % 4
    let c := i / 4
    nth b (4 * ((if back then c + 4 - r else c + r) % 4) + r))

/-- MixColumns with the factors of its first row. -/
def mixColumns (m : List Nat) (b : List Nat) : List Nat :=
  (List.range 16).map (fun i =>
    let r := i % 4
    let c := i / 4
    (List.range 4).foldl (fun v k => v ^^^ aesMul (nth m ((k + 4 - r) % 4)) (nth b (4 * c + k))) 0)

/-- The rounds of the cipher after the first key. -/
def aesRounds : List (List Nat) → List Nat → List Nat
  | [], b => b
  | [k], b => xorBlock (shiftRows false (b.map (nth aesSbox))) k
  | k :: ks, b => aesRounds ks (xorBlock (mixColumns [2, 3, 1, 1] (shiftRows false (b.map (nth aesSbox)))) k)

/-- AES-128 on numbers. -/
def aesNat (key block : List Nat) : List Nat := aesRounds (roundKeys 10 1 key) (xorBlock block key)

/-- The rounds of the inverse cipher; the keys come last round first. -/
def aesInvRounds : List (List Nat) → List Nat → List Nat
  | [], b => b
  | [k], b => xorBlock ((shiftRows true b).map (nth aesInvSbox)) k
  | k :: ks, b => aesInvRounds ks (mixColumns [14, 11, 13, 9] (xorBlock ((shiftRows true b).map (nth aesInvSbox)) k))

/-- The inverse of AES-128 on numbers. -/
def aesInvNat (key block : List Nat) : List Nat :=
  match (key :: roundKeys 10 1 key).reverse with
  | [] => block
  | k :: ks => aesInvRounds ks (xorBlock block k)

/-- Octets as numbers. -/
def nats (os : Octets) : List Nat := os.map BitVec.toNat

/-- Numbers as octets. -/
def octetsOf (l : List Nat) : Octets := l.map octet

/-- AES-128 of a 16-octet block. -/
def aes (key block : Octets) : Octets := octetsOf (aesNat (nats key) (nats block))

/-- The inverse of AES-128. -/
def aesInv (key block : Octets) : Octets := octetsOf (aesInvNat (nats key) (nats block))

/-- An octet string in blocks of 16, the last one as long as what is left; `fuel` bounds their number. -/
def blocks16 : Nat → Octets → List Octets
  | 0, _ => []
  | fuel + 1, os => if os.isEmpty then [] else os.take 16 :: blocks16 fuel (os.drop 16)

/-- The blocks of a string. -/
def blocksOf (os : Octets) : List Octets := blocks16 (os.length / 16 + 1) os

/-- CBC-MAC from a first value over whole blocks. -/
def cbcMac (key x : Octets) (bs : List Octets) : Octets := bs.foldl (fun v b => aes key (xorOctets v b)) x

/-- Doubling in the field of CMAC. -/
def cmacDouble (os : Octets) : Octets :=
  let v := beNat os
  be 16 (if v < 2 ^ 127 then 2 * v else (2 * v) % 2 ^ 128 ^^^ 0x87)

/-- AES-CMAC. -/
def cmac (key msg : Octets) : Octets :=
  let k1 := cmacDouble (aes key (zeros 16))
  let k2 := cmacDouble k1
  let bs := blocksOf msg
  let last := (bs.getLast?).getD []
  let tail := if last.length = 16 then xorOctets last k1 else xorOctets (padTo 16 (last ++ [0x80])) k2
  cbcMac key (zeros 16) (bs.dropLast ++ [tail])

/-! ### CCM* (R230, R231) -/

/-- The nonce of R230. -/
def ccmNonce (eui counter level : Nat) : Octets := be 8 eui ++ be 4 counter ++ be 1 level

/-- Block B0 (R231). -/
def ccmB0 (nonce : Octets) (la lm m : Nat) : Octets :=
  let adata := if 0 < la then 0x40 else 0
  [octet (if 0 < m then adata + 8 * ((m - 2) / 2) + 1 else adata + 1)] ++ nonce ++ be 2 lm

/-- The authentication data with its length, filled up to whole blocks. -/
def ccmAuthData (a : Octets) : Octets := if a.isEmpty then [] else padTo (16 * ((a.length + 17) / 16)) (be 2 a.length ++ a)

/-- The CBC-MAC value T. -/
def ccmTag (key nonce a m : Octets) (mic : Nat) : Octets :=
  let body := ccmAuthData a ++ padTo (16 * ((m.length + 15) / 16)) m
  cbcMac key (aes key (ccmB0 nonce a.length m.length mic)) (blocksOf body)

/-- Counter block A_i. -/
def ccmCounter (nonce : Octets) (i : Nat) : Octets := [1] ++ nonce ++ be 2 i

/-- Encryption or decryption of m in counter mode. -/
def ccmCrypt (key nonce m : Octets) : Octets :=
  xorOctets m ((List.range (m.length / 16 + 1)).flatMap (fun i => aes key (ccmCounter nonce (i + 1))))

/-- The MIC of M octets. -/
def ccmMic (key nonce a m : Octets) (mic : Nat) : Octets :=
  (xorOctets (ccmTag key nonce a m mic) (aes key (ccmCounter nonce 0))).take mic

/-! ### Key wrap (RFC 3394) -/

/-- The default initial value of R241. -/
def wrapIv : Octets := List.replicate 8 0xA6

/-- The steps of a wrap of two halves; t counts from 1. -/
def wrapSteps (kek : Octets) : List Nat → Octets × Octets × Octets → Octets × Octets × Octets
  | [], x => x
  | t :: ts, (a, r1, r2) =>
    let first := t % 2 == 1
    let b := aes kek (a ++ (if first then r1 else r2))
    let a' := xorOctets (b.take 8) (be 8 t)
    wrapSteps kek ts (if first then (a', b.drop 8, r2) else (a', r1, b.drop 8))

/-- The steps of an unwrap, t falling. -/
def unwrapSteps (kek : Octets) : List Nat → Octets × Octets × Octets → Octets × Octets × Octets
  | [], x => x
  | t :: ts, (a, r1, r2) =>
    let first := t % 2 == 1
    let b := aesInv kek (xorOctets a (be 8 t) ++ (if first then r1 else r2))
    unwrapSteps kek ts (if first then (b.take 8, b.drop 8, r2) else (b.take 8, r1, b.drop 8))

/-- The numbers 1 to 12 of the steps. -/
def wrapTs : List Nat := (List.range 12).map (· + 1)

/-- Wrap a 16-octet key: 24 octets. -/
def keyWrap (kek key : Octets) : Octets :=
  let r := wrapSteps kek wrapTs (wrapIv, key.take 8, key.drop 8)
  r.1 ++ r.2.1 ++ r.2.2

/-- Unwrap 24 octets; none where the integrity check fails. -/
def keyUnwrap (kek w : Octets) : Option Octets :=
  let r := unwrapSteps kek wrapTs.reverse (slice w 0 8, slice w 8 8, slice w 16 8)
  if r.1 = wrapIv then some (r.2.1 ++ r.2.2) else none

/-! ### SHA-256 -/

/-- The round constants of SHA-256 (FIPS 180-4). -/
def shaK : List Nat :=
  [0x428a2f98, 0x71374491, 0xb5c0fbcf, 0xe9b5dba5, 0x3956c25b, 0x59f111f1, 0x923f82a4, 0xab1c5ed5] ++
  [0xd807aa98, 0x12835b01, 0x243185be, 0x550c7dc3, 0x72be5d74, 0x80deb1fe, 0x9bdc06a7, 0xc19bf174] ++
  [0xe49b69c1, 0xefbe4786, 0x0fc19dc6, 0x240ca1cc, 0x2de92c6f, 0x4a7484aa, 0x5cb0a9dc, 0x76f988da] ++
  [0x983e5152, 0xa831c66d, 0xb00327c8, 0xbf597fc7, 0xc6e00bf3, 0xd5a79147, 0x06ca6351, 0x14292967] ++
  [0x27b70a85, 0x2e1b2138, 0x4d2c6dfc, 0x53380d13, 0x650a7354, 0x766a0abb, 0x81c2c92e, 0x92722c85] ++
  [0xa2bfe8a1, 0xa81a664b, 0xc24b8b70, 0xc76c51a3, 0xd192e819, 0xd6990624, 0xf40e3585, 0x106aa070] ++
  [0x19a4c116, 0x1e376c08, 0x2748774c, 0x34b0bcb5, 0x391c0cb3, 0x4ed8aa4a, 0x5b9cca4f, 0x682e6ff3] ++
  [0x748f82ee, 0x78a5636f, 0x84c87814, 0x8cc70208, 0x90befffa, 0xa4506ceb, 0xbef9a3f7, 0xc67178f2]

/-- The initial hash value of SHA-256. -/
def shaH : List Nat :=
  [0x6a09e667, 0xbb67ae85, 0x3c6ef372, 0xa54ff53a, 0x510e527f, 0x9b05688c, 0x1f83d9ab, 0x5be0cd19]

/-- Rotate a 32-bit word right. -/
def rotr (n x : Nat) : Nat := x / 2 ^ n + x % 2 ^ n * 2 ^ (32 - n)

/-- The 64 words of a block's message schedule, latest first. -/
def shaExtend : Nat → List Nat → List Nat
  | 0, w => w
  | n + 1, w =>
    let a := nth w 14
    let b := nth w 1
    let s0 := rotr 7 a ^^^ rotr 18 a ^^^ (a / 8)
    let s1 := rotr 17 b ^^^ rotr 19 b ^^^ (b / 1024)
    shaExtend n ((nth w 15 + s0 + nth w 6 + s1) % 2 ^ 32 :: w)

/-- One round. -/
def shaRound (h : List Nat) (kw : Nat × Nat) : List Nat :=
  let a := nth h 0
  let b := nth h 1
  let c := nth h 2
  let e := nth h 4
  let f := nth h 5
  let g := nth h 6
  let s1 := rotr 6 e ^^^ rotr 11 e ^^^ rotr 25 e
  let ch := (e &&& f) ^^^ ((2 ^ 32 - 1 - e) &&& g)
  let t1 := nth h 7 + s1 + ch + kw.1 + kw.2
  let s0 := rotr 2 a ^^^ rotr 13 a ^^^ rotr 22 a
  let maj := (a &&& b) ^^^ (a &&& c) ^^^ (b &&& c)
  [(t1 + s0 + maj) % 2 ^ 32, a, b, c, (nth h 3 + t1) % 2 ^ 32, e, f, g]

/-- One block of 64 octets. -/
def shaBlock (h : List Nat) (block : Octets) : List Nat :=
  let w := (List.range 16).map (fun i => beAt block (4 * i) 4)
  let ws := (shaExtend 48 w.reverse).reverse
  List.zipWith (fun x y => (x + y) % 2 ^ 32) h ((List.zip shaK ws).foldl shaRound h)

/-- The blocks of the padded message. -/
def shaBlocks : Nat → Octets → List Octets
  | 0, _ => []
  | fuel + 1, os => if os.isEmpty then [] else os.take 64 :: shaBlocks fuel (os.drop 64)

/-- SHA-256. -/
def sha256 (msg : Octets) : Octets :=
  let n := msg.length
  let padded := msg ++ [0x80] ++ zeros ((119 - n % 64) % 64) ++ be 8 (8 * n)
  ((shaBlocks (n / 64 + 2) padded).foldl shaBlock shaH).flatMap (be 4)

/-! ### ECDSA over P-256 -/

/-- The prime of P-256. -/
def p256 : Nat := 2 ^ 256 - 2 ^ 224 + 2 ^ 192 + 2 ^ 96 - 1

/-- The order of its base point. -/
def p256n : Nat := 0xffffffff00000000ffffffffffffffffbce6faada7179e84f3b9cac2fc632551

/-- The coefficient b. -/
def p256b : Nat := 0x5ac635d8aa3a93e7b3ebbd55769886bc651d06b0cc53b0f63bce3c3e27d2604b

/-- The base point. -/
def p256g : Nat × Nat :=
  (0x6b17d1f2e12c4247f8bce6e563a440f277037d812deb33a0f4a13945d898c296,
    0x4fe342e2fe1a7f9b8ee7eb4a7c0f9e162bce33576b315ececbb6406837bf51f5)

/-- A power modulo m; `fuel` bounds the bits of the exponent. -/
def powMod (m : Nat) : Nat → Nat → Nat → Nat
  | 0, _, _ => 1 % m
  | fuel + 1, b, e =>
    let r := powMod m fuel (b * b % m) (e / 2)
    if e % 2 = 1 then r * b % m else r

/-- The inverse modulo a prime. -/
def invMod (m a : Nat) : Nat := powMod m 256 (a % m) (m - 2)

/-- A point of the curve; none is the point at infinity. -/
abbrev EcPoint := Option (Nat × Nat)

/-- The chord or tangent through points. -/
def ecLine (l x1 y1 x2 : Nat) : Nat × Nat :=
  let x3 := (l * l + 2 * p256 - x1 - x2) % p256
  (x3, (l * (x1 + p256 - x3) + p256 - y1) % p256)

/-- Addition of points. -/
def ecAdd (a b : EcPoint) : EcPoint :=
  match a, b with
  | none, q => q
  | q, none => q
  | some (x1, y1), some (x2, y2) =>
    if x1 = x2 then
      if (y1 + y2) % p256 = 0 then none
      else some (ecLine ((3 * x1 * x1 + p256 - 3) * invMod p256 (2 * y1) % p256) x1 y1 x2)
    else some (ecLine ((y2 + p256 - y1) * invMod p256 (x2 + p256 - x1) % p256) x1 y1 x2)

/-- A multiple of a point, bit by bit. -/
def ecMul : Nat → Nat → EcPoint → EcPoint
  | 0, _, _ => none
  | fuel + 1, k, p =>
    let r := ecMul fuel (k / 2) (ecAdd p p)
    if k % 2 = 1 then ecAdd r p else r

/-- A public key lies on the curve. -/
def ecOnCurve (x y : Nat) : Bool :=
  decide (x < p256 ∧ y < p256) && (y * y % p256 == (x * x * x + (p256 - 3) * x + p256b) % p256)

/-- ECDSA verification: the public key, the hash, and the signature r and s. -/
def ecdsaVerify (x y : Nat) (hash : Octets) (r s : Nat) : Bool :=
  let ok := decide (0 < r ∧ r < p256n ∧ 0 < s ∧ s < p256n) && ecOnCurve x y
  let w := invMod p256n s
  let u1 := beNat hash * w % p256n
  let u2 := r * w % p256n
  match ecAdd (ecMul 256 u1 (some p256g)) (ecMul 256 u2 (some (x, y))) with
  | none => false
  | some (px, _) => ok && px % p256n == r % p256n

end Sys2Proof.Machine
end

