-- ==== Sys2Proof/Machine/Mac.lean ====
section
/-!
DEFINITION. MAC frames of IEEE 802.15.4-2020 as the link sequencer reads them (R190 to R192, R228, R231): frame control,
addressing, auxiliary security header, information elements and commands; the logical PAN a frame belongs to. The field
layouts are those of the standard the manual names (assumption 32).
-/

namespace Sys2Proof.Machine

/-- An address of a MAC frame; an extended one as a 64-bit value whose bits [7:0] are the octet sent first (R263). -/
inductive Addr where
  | none
  | short (a : Nat)
  | ext (a : Nat)
  deriving DecidableEq, Repr

/-- The MAC header of a frame. `srcEnd` is the offset after the source address, `hdrEnd` the offset of the MAC payload,
`ctrOff` that of the frame counter; `level`, `kim`, `counter` and `keyId` are those of the auxiliary header, `keyId` being
the key identifier field as sent. `counterSup` and `counter5` are the unsupported options of R191. -/
structure Mhr where
  type : Nat
  secured : Bool
  pending : Bool
  ar : Bool
  comp : Bool
  dsnSup : Bool
  ie : Bool
  dstMode : Nat
  version : Nat
  srcMode : Nat
  dsn : Nat
  dstPan : Option Nat
  dst : Addr
  srcPan : Option Nat
  src : Addr
  srcEnd : Nat
  level : Nat
  kim : Nat
  counterSup : Bool
  counter5 : Bool
  counter : Nat
  keyId : Octets
  hdrEnd : Nat
  payEnd : Nat
  /-- Payload IEs follow the header. -/
  payIes : Bool
  deriving DecidableEq, Repr

/-- Frame types. -/
def tyBeacon : Nat := 0
def tyData : Nat := 1
def tyAck : Nat := 2
def tyCommand : Nat := 3

/-- The octets of an address mode. -/
def addrLen (mode : Nat) : Nat := if mode = 2 then 2 else if mode = 3 then 8 else 0

/-- Read an address. -/
def readAddr (mode : Nat) (os : Octets) (o : Nat) : Addr :=
  if mode = 2 then .short (leAt os o 2) else if mode = 3 then .ext (leAt os o 8) else .none

/-- Whether the destination PAN ID is present: versions 0b00 and 0b01 with a destination address; version 0b10 by the PAN
ID compression table of the standard. -/
def dstPanPresent (version dstMode srcMode : Nat) (comp : Bool) : Bool :=
  let d := dstMode != 0
  let s := srcMode != 0
  if version < 2 then d
  else if !d && !s then comp
  else if d && !s then !comp
  else if !d && s then false
  else if dstMode = 3 ∧ srcMode = 3 then !comp
  else true

/-- Whether the source PAN ID is present. -/
def srcPanPresent (version dstMode srcMode : Nat) (comp : Bool) : Bool :=
  let d := dstMode != 0
  let s := srcMode != 0
  if version < 2 then s && !(comp && d)
  else if !d && s then !comp
  else if d && s then (if dstMode = 3 ∧ srcMode = 3 then false else !comp)
  else false

/-- The length of a key identifier field (R229). -/
def keyIdLen (kim : Nat) : Nat := if kim = 0 then 0 else if kim = 1 then 1 else if kim = 2 then 5 else 9

/-- M of a security level (R228). -/
def micLen (level : Nat) : Nat :=
  match level % 4 with
  | 0 => 0
  | 1 => 4
  | 2 => 8
  | _ => 16

/-- A level that encrypts (R228). -/
def encrypts (level : Nat) : Bool := decide (4 ≤ level)

/-- Skip header IEs from an offset up to `last`: the offset after them, and whether payload IEs follow (header termination
1). Each IE is a 2-octet descriptor with its length in bits [6:0] and its element in bits [14:7]. -/
def skipHeaderIes (os : Octets) (last : Nat) : Nat → Nat → Nat × Bool
  | 0, o => (o, false)
  | n + 1, o =>
    if last < o + 2 then (o, false)
    else
      let d := leAt os o 2
      let id := d / 128 % 256
      if id = 0x7E then (o + 2, true)
      else if id = 0x7F then (o + 2, false)
      else skipHeaderIes os last n (o + 2 + d % 128)

/-- Skip payload IEs: the length is in bits [10:0], the group in bits [14:11]; group 15 ends them. -/
def skipPayloadIes (os : Octets) (last : Nat) : Nat → Nat → Nat
  | 0, o => o
  | n + 1, o =>
    if last < o + 2 then o
    else
      let d := leAt os o 2
      if d / 2048 % 16 = 15 then o + 2 else skipPayloadIes os last n (o + 2 + d % 2048)

/-- Parse a MAC header; none where the octets end before the header does. PRESUMED, unsafe: log 32. -/
def parseMhr (os : Octets) : Option Mhr :=
  let fc := leAt os 0 2
  let bit (i : Nat) : Bool := bitAt fc i
  let version := fc / 4096 % 4
  let dstMode := fc / 1024 % 4
  let srcMode := fc / 16384 % 4
  let dsnSup := bit 8 && version == 2
  let o1 := if dsnSup then 2 else 3
  let dp := dstPanPresent version dstMode srcMode (bit 6)
  let o2 := o1 + (if dp then 2 else 0)
  let o3 := o2 + addrLen dstMode
  let sp := srcPanPresent version dstMode srcMode (bit 6)
  let o4 := o3 + (if sp then 2 else 0)
  let o5 := o4 + addrLen srcMode
  let secured := bit 3
  let sc := octAt os o5
  let sup := secured && bitAt sc 5
  let kim := sc / 8 % 4
  let five := secured && bitAt sc 6
  let o6 := if secured then o5 + 1 + (if sup then 0 else if five then 5 else 4) else o5
  let o7 := if secured then o6 + keyIdLen kim else o5
  let mic := if secured then micLen (sc % 8) else 0
  let last := os.length - mic
  let ies := bit 9 && version == 2
  let h := if ies then skipHeaderIes os last os.length o7 else (o7, false)
  if os.length < 2 ∨ last < h.1 ∨ os.length < mic then none
  else
    some { type := fc % 8, secured := secured, pending := bit 4, ar := bit 5, comp := bit 6, dsnSup := dsnSup, ie := ies,
           dstMode := dstMode, version := version, srcMode := srcMode, dsn := if dsnSup then 0 else octAt os 2,
           dstPan := if dp then some (leAt os o1 2) else none, dst := readAddr dstMode os o2,
           srcPan := if sp then some (leAt os o3 2) else none, src := readAddr srcMode os o4, srcEnd := o5,
           level := if secured then sc % 8 else 0, kim := if secured then kim else 0, counterSup := sup,
           counter5 := five, counter := if secured then leAt os (o5 + 1) 4 else 0,
           keyId := if secured then slice os o6 (keyIdLen kim) else [],
           hdrEnd := h.1,
           payEnd := if h.2 then skipPayloadIes os last os.length h.1 else h.1, payIes := h.2 }

/-- The offset at which the source address of a frame ends, where the octets so far reach it (R167, R269). -/
def sourceEnd (os : Octets) : Option Nat :=
  if os.length < 2 then none
  else
    let fc := leAt os 0 2
    let version := fc / 4096 % 4
    let dstMode := fc / 1024 % 4
    let srcMode := fc / 16384 % 4
    let comp := bitAt fc 6
    let n := (if bitAt fc 8 && version == 2 then 2 else 3)
      + (if dstPanPresent version dstMode srcMode comp then 2 else 0) + addrLen dstMode
      + (if srcPanPresent version dstMode srcMode comp then 2 else 0) + addrLen srcMode
    if n ≤ os.length then some n else none

/-- Where the MAC payload of a frame begins in plain octets, after any payload IEs. Payload IEs that were encrypted are skipped
as the plain octets show them (R231). -/
def Mhr.payloadAt (m : Mhr) (plain : Octets) : Nat :=
  if m.payIes && m.secured && encrypts m.level then skipPayloadIes plain plain.length plain.length m.hdrEnd else m.payEnd

/-- The command identifier of a command frame in plaintext: the octet after any payload IEs. -/
def Mhr.command (m : Mhr) (os : Octets) : Option Nat :=
  if m.type = tyCommand ∧ m.payloadAt os < os.length then some (octAt os (m.payloadAt os)) else none

/-- Where the encrypted part m begins at levels 4 to 7 (R231): after the header, and after the command identifier where
that is the first octet of the MAC payload. -/
def Mhr.secureStart (m : Mhr) : Nat :=
  if m.type = tyCommand ∧ m.payIes = false then m.hdrEnd + 1 else m.hdrEnd

/-! ### Logical PANs (R186, R192, R267) -/

/-- A logical PAN is configured (R186). -/
def State.panConfigured (s : State) (n : Nat) : Bool := s.get (LNK_PANn_CFG_CH n) != 0

/-- A logical PAN runs (R186); none does in MAKER or SAFE (R466, R496). -/
def State.panRuns (s : State) (n : Nat) : Bool := s.mode != .maker && s.mode != .safe && s.panConfigured n && bitAt (s.get LNK_CTRL_PANRUN) n

/-- The running PANs on a channel, in ascending order. -/
def State.pansOn (s : State) (ch : Nat) : List Nat :=
  (List.range 16).filter (fun n => s.panRuns n && s.get (LNK_PANn_CFG_CH n) == ch)

/-- The running PAN with a PAN ID on a channel. -/
def State.panWithId (s : State) (ch id : Nat) : Option Nat :=
  (s.pansOn ch).find? (fun n => s.get (LNK_PANn_ID_PANID n) == id)

/-- The coordinator's extended address of a PAN. -/
def State.panEui (s : State) (n : Nat) : Nat := s.get (LNK_PANn_EUI_HI n) * 2 ^ 32 + s.get (LNK_PANn_EUI_LO n)

/-- A destination address is one of the PAN's own (R192). -/
def State.ownAddress (s : State) (n : Nat) (a : Addr) : Bool :=
  match a with
  | .none => false
  | .short v => v == 0xFFFF || v == s.get (LNK_PANn_ID_SADDR n)
  | .ext v => v == s.panEui n

/-- The PAN that a frame without any PAN ID implies (R192): the one whose own address its destination is, or, without a
destination address, the first that coordinators' frames may omit it for; else the lowest running PAN of the channel.
DEDUCED, unsafe: log 171. -/
def State.impliedPan (s : State) (ch : Nat) (dst : Addr) : Option Nat :=
  let own := if dst = .none then (s.pansOn ch).find? (fun n => s.is (LNK_PANn_CFG_COORDDST n))
    else (s.pansOn ch).find? (fun n => s.ownAddress n dst)
  match own with
  | some n => some n
  | none => (s.pansOn ch).head?

/-- The PAN whose map serves a short source address (R267): the PAN matched by destination PAN ID, by source PAN ID where
there is no destination address (R192) or the destination PAN ID is the broadcast one, by implication where the frame carries
no PAN ID, else the lowest running PAN. -/
def State.lookupPan (s : State) (ch : Nat) (m : Mhr) : Option Nat :=
  match m.dstPan with
  | some p =>
    if p = 0xFFFF then
      match m.srcPan with
      | some q => s.panWithId ch q
      | none => (s.pansOn ch).head?
    else s.panWithId ch p
  | none =>
    match m.srcPan with
    | some q => s.panWithId ch q
    | none => s.impliedPan ch m.dst

/-- A header whose octets reach at least the source address, with no more read than that. -/
def parseSource (os : Octets) : Option Mhr :=
  match sourceEnd os with
  | some n => parseMhr (le 2 (leAt os 0 2 - (if bitAt (leAt os 0 2) 3 then 8 else 0)
      - (if bitAt (leAt os 0 2) 9 then 512 else 0)) ++ slice os 2 (n - 2))
  | none => none

/-- A key that starts no lookup: no source address, or a short one in no PAN (R192, R267). -/
def keyOfNoLookup (k : Octets) : Bool :=
  match k with
  | [] => true
  | m :: p => m == 0 || (m == 2 && p.head? == some 0xFF)

/-- What a lookup is started for: the address mode and address of the source, and the PAN its map belongs to (R170). -/
def State.sourceKey (s : State) (ch : Nat) (os : Octets) : Octets :=
  match parseSource os with
  | some m =>
    let pan := octet (match s.lookupPan ch m with
      | some n => n
      | none => 0xFF)
    match m.src with
    | .none => [0, pan]
    | .short a => [2, pan] ++ le 2 a
    | .ext a => [3, pan] ++ le 8 a
  | none => []

/-- The security level, key identifier mode and group slot of a descriptor (R334). -/
def descMode (d : Octets) : Nat := octAt d 3 % 8
def descLevel (d : Octets) : Nat := octAt d 3 / 8 % 8
def descKim (d : Octets) : Nat := octAt d 3 / 64
def descSlot (d : Octets) : Nat := octAt d 4 % 64
def descCtl (d : Octets) (b : Nat) : Bool := bitAt (octAt d 2) b
def ctlIndirect : Nat := 0
def ctlAr : Nat := 1
def ctlDstExt : Nat := 2
def ctlBcast : Nat := 3
def ctlCmd : Nat := 4
def ctlIep : Nat := 5
def ctlSrcExt : Nat := 6

end Sys2Proof.Machine
end

