-- ==== Sys2Proof/Machine/Air.lean ====
section
/-!
DEFINITION. The air interface (R105 to R131): from an MPDU to the chips on air, and the durations of frames. Modes are
numbered as a frame report numbers them: 0 standard, 1 to 4 for X1 to X4.
-/

namespace Sys2Proof.Machine

/-! ### PHR and FCS -/

/-- Check bit `i` of the extended PHR: the inverted parity of the bits of its residue class (R114). -/
def phrCheckBit (bits i : Nat) : Nat :=
  (1 + ((List.range 13).filter (fun j => j % 3 == i && bits / 2 ^ j % 2 == 1)).length) % 2

/-- The check bits of an extended PHR, from its bits [12:0]. -/
def phrCheck (bits : Nat) : Nat := phrCheckBit bits 0 + 2 * phrCheckBit bits 1 + 4 * phrCheckBit bits 2

/-- The extended PHR of a mode (1 to 4) and a LEN (R114). -/
def phrExt (mode len : Nat) : Nat :=
  let bits := (mode - 1) % 4 + 4 * (len % 2048)
  bits + 8192 * phrCheck bits

/-- A standard PHR is accepted with L from 5 to 127; bit 7 is ignored (R113). -/
def phrStdOk (phr : Nat) : Bool := decide (5 ≤ phr % 128)

/-- An extended PHR is accepted when CHK agrees and LEN is not 0 (R115). -/
def phrExtOk (phr : Nat) : Bool :=
  phr / 8192 % 8 == phrCheck (phr % 8192) && phr / 4 % 2048 != 0

/-- The FCS octets of a mode over what they cover (R116, R117), low-order octet first. -/
def fcs (mode : Nat) (os : Octets) : Octets := if mode = 0 then le 2 (crc16 os) else le 4 (crc32 os)

/-- The octets of the FCS of a mode. -/
def fcsLen (mode : Nat) : Nat := if mode = 0 then 2 else 4

/-- The PSDU of an MPDU without its FCS (R173). -/
def psduOf (mode : Nat) (mpdu : Octets) : Octets := mpdu ++ fcs mode mpdu

/-- Whether the FCS of a PSDU matches (R118). -/
def fcsOk (mode : Nat) (psdu : Octets) : Bool :=
  let body := psdu.take (psdu.length - fcsLen mode)
  psdu.drop (psdu.length - fcsLen mode) == fcs mode body

/-! ### Chips (R119 to R123) -/

/-- The parity of the bitwise and of two numbers below 16. -/
def walsh (s j : Nat) : Bool :=
  ((List.range 4).filter (fun i => s / 2 ^ i % 2 == 1 && j / 2 ^ i % 2 == 1)).length % 2 == 1

/-- The chips of SF32 symbol 0, chip 0 as the least significant bit. -/
def sf32Base : Nat := 0x744AC39B

/-- Chip `j` of SF32 symbol `s` (R120). -/
def sf32 (s j : Nat) : Bool :=
  let c := sf32Base / 2 ^ ((j + 32 - 4 * (s % 8)) % 32) % 2 == 1
  if 8 ≤ s ∧ j % 2 = 1 then !c else c

/-- Chip `j` of SF16 symbol `s` (R121). -/
def sf16 (s j : Nat) : Bool := (sf32Base / 2 ^ j % 2 == 1) != walsh s j

/-- Chip `j` of SF8 symbol `s` (R122). -/
def sf8 (s j : Nat) : Bool := ((sf32Base / 2 ^ j % 2 == 1) != walsh (s % 8) j) != decide (8 ≤ s)

/-- The chips of a symbol in a set of 32, 16 or 8. -/
def symbolChips (sf s : Nat) : List Bool :=
  (List.range sf).map (fun j => if sf = 32 then sf32 s j else if sf = 16 then sf16 s j else sf8 s j)

/-- The chips per payload symbol of a mode (R109). -/
def spreading (mode : Nat) : Nat := if mode ≤ 1 then 32 else if mode = 2 then 16 else 8

/-- The symbols of octets, low nibble first (R119). -/
def nibbles (os : Octets) : List Nat := os.flatMap (fun b => [b.toNat % 16, b.toNat / 16])

/-! ### Coding of the extended modes (R124 to R128) -/

/-- Whether two Booleans differ. -/
def xor3 (l : List Bool) : Bool := l.foldl (fun a b => a != b) false

/-- Output a of the encoder for input u, with the state number of R166 (bit i − 1 is s[i]). -/
def convA (u : Bool) (st : Nat) : Bool :=
  xor3 [u, st / 2 % 2 == 1, st / 4 % 2 == 1, st / 16 % 2 == 1, st / 32 % 2 == 1]

/-- Output b of the encoder. -/
def convB (u : Bool) (st : Nat) : Bool :=
  xor3 [u, st % 2 == 1, st / 2 % 2 == 1, st / 4 % 2 == 1, st / 32 % 2 == 1]

/-- The next state number. -/
def convNext (u : Bool) (st : Nat) : Nat := (if u then 1 else 0) + 2 * (st % 32)

/-- The pairs (a, b) of an input, from a state (R124). -/
def convPairs (st : Nat) : List Bool → List (Bool × Bool)
  | [] => []
  | u :: us => (convA u st, convB u st) :: convPairs (convNext u st) us

/-- Puncturing in X4: b of every second input bit is deleted (R125). -/
def puncture : List (Bool × Bool) → List Bool
  | [] => []
  | [p] => [p.1, p.2]
  | p :: q :: t => p.1 :: p.2 :: q.1 :: puncture t

/-- The coded bits of a PSDU, padded to a multiple of 32 (R124 to R126). -/
def codedBits (mode : Nat) (psdu : Octets) : List Bool :=
  let pairs := convPairs 0 (bitsOf psdu ++ List.replicate 6 false)
  let g := if mode = 4 then puncture pairs else pairs.flatMap (fun p => [p.1, p.2])
  g ++ List.replicate ((32 - g.length % 32) % 32) false

/-- The symbols of one block of 32 coded bits (R127). -/
def interleaveBlock (g : List Bool) : List Nat :=
  (List.range 8).map (fun m =>
    bitsNat [(g[m]?).getD false, (g[8 + m]?).getD false, (g[16 + m]?).getD false, (g[24 + m]?).getD false])

/-- The symbols of coded bits, block by block. -/
def interleave (g : List Bool) : List Nat :=
  (List.range (g.length / 32)).flatMap (fun b => interleaveBlock ((g.drop (32 * b)).take 32))

/-- A frame as symbols with their spreading: preamble, SFD, PHR and payload (R112 to R128). -/
def frameSymbols (mode : Nat) (psdu : Octets) : List (Nat × Nat) :=
  let std (l : List Nat) : List (Nat × Nat) := l.map (fun s => (32, s))
  let shr := List.replicate 8 0 ++ (if mode = 0 then [7, 10] else [12, 5])
  let phr := if mode = 0 then nibbles [octet (psdu.length % 128)] else nibbles (le 2 (phrExt mode (psdu.length - 4)))
  let pay := if mode = 0 then nibbles psdu else interleave (codedBits mode psdu)
  std shr ++ std phr ++ pay.map (fun s => (spreading mode, s))

/-- The chips of a frame, chip 0 of the preamble first. -/
def frameChips (mode : Nat) (psdu : Octets) : List Bool :=
  (frameSymbols mode psdu).flatMap (fun p => symbolChips p.1 p.2)

/-! ### Modulation and ramp (R81, R123, R175) -/

/-- A sample of one rail: the sign of its pulse (0 for none) and n of its value sin(π n / 40). -/
structure RailSample where
  sign : Int
  n : Nat
  deriving DecidableEq, Repr

/-- The sign of chip `i` of a frame: +1, −1, or 0 beyond its ends. -/
def chipSign (chips : List Bool) (i : Nat) : Int :=
  match chips[i]? with
  | some true => 1
  | some false => -1
  | none => 0

/-- Sample `k` (at 25 ns) of a frame on I and Q: Q is delayed by one chip, each pulse lasts 40 samples (R123, R175). -/
def oqpskSample (chips : List Bool) (k : Nat) : RailSample × RailSample :=
  ({ sign := chipSign chips (2 * (k / 40)), n := k % 40 },
   if k < 20 then { sign := 0, n := 0 }
   else { sign := chipSign chips (2 * ((k - 20) / 40) + 1), n := (k - 20) % 40 })

/-- The amplitude codes of the ramp's 16 steps (R81). -/
def rampCodes : List Nat := [2, 10, 21, 37, 57, 79, 103, 128, 152, 176, 198, 218, 234, 245, 253, 255]

/-- The step of a ramp of `ramp` µs that a sample at k × 25 ns lies in: step j begins at the first sample at or after
(j − 1) × RAMP / 16 (R81). -/
def rampStep (ramp k : Nat) : Nat := min 15 (k * 16 / (40 * ramp))

/-- The code at sample k of a ramp-up. -/
def rampUpCode (ramp k : Nat) : Nat := (rampCodes[rampStep ramp k]?).getD 255

/-- The code at sample k of a ramp-down: the codes in the reverse order. -/
def rampDownCode (ramp k : Nat) : Nat := (rampCodes[15 - rampStep ramp k]?).getD 255

/-! ### Durations (R109, R131), in timebase cycles -/

/-- A chip: 0.5 µs. -/
def chipCycles : Nat := 160

/-- A standard symbol: 16 µs. -/
def symCycles : Nat := 5120

/-- The payload symbol time of a mode. -/
def payloadSymbolCycles (mode : Nat) : Nat := chipCycles * spreading mode

/-- The coded bits N of a PSDU of P octets (R125). -/
def codedCount (mode p : Nat) : Nat := if mode = 4 then 12 * p + 9 else 16 * p + 12

/-- The payload symbols of a PSDU of P octets. -/
def payloadSymbols (mode p : Nat) : Nat := if mode = 0 then 2 * p else 8 * ((codedCount mode p + 31) / 32)

/-- The symbols before the payload: SHR and PHR. -/
def headSymbols (mode : Nat) : Nat := if mode = 0 then 12 else 14

/-- From the first chip to the end of the last chip's slot (R131, without the Q offset). -/
def frameCycles (mode p : Nat) : Nat := headSymbols mode * symCycles + payloadSymbols mode p * payloadSymbolCycles mode

/-- From the first chip to E, the end of the half-sine pulse of the last chip (R131). -/
def pulseEndCycles (mode p : Nat) : Nat := frameCycles mode p + chipCycles

end Sys2Proof.Machine
end

