-- ==== Sys2Proof/Machine/Beacon.lean ====
section
/-!
DEFINITION. The beacon instants (R210, R211): which modes serve and may book, the instants of a PAN, and those that a step of
TS64 passes over.
-/

namespace Sys2Proof.Machine

/-- Change the transmit path's own state. -/
def modCod (f : Cod → Cod) (s : State) : State := { s with cod := f s.cod }

/-- Change the link sequencer's own state. -/
def modLnk (f : Lnk → Lnk) (s : State) : State := { s with lnk := f s.lnk }

/-- A serving mode (R359): SOLO, PRIMARY, TAKEOVER or HOLDOVER. -/
def Mode.serving : Mode → Bool
  | .solo => true
  | .primary => true
  | .takeover => true
  | .holdover => true
  | .reset => false
  | .load => false
  | .selftest => false
  | .standby => false
  | .lastgasp => false
  | .update => false
  | .safe => false
  | .maker => false

/-- The codes of SYNC (R359). -/
def syncNone : Nat := 0
def syncJoining : Nat := 1
def syncSync : Nat := 2
def syncDetached : Nat := 3

/-- The partner reports SYNC in its HEART (R366). -/
def State.partnerSynced (s : State) : Bool := s.stl.peerState % 8 == syncSync

/-- The device serves (R367): a serving mode, but not a PRIMARY whose partner has not reached SYNC yet (R366). -/
def State.serves (s : State) : Bool :=
  s.mode.serving && match s.mode with
    | .primary => s.partnerSynced
    | _ => true

/-- The device may book new transmissions other than acknowledgements: it serves and, in a planned handover, gives the
authority up at an H that is ahead; the device that takes it waits for step 5 (R375). -/
def State.mayBook (s : State) : Bool :=
  s.serves && s.stl.handover.all (fun h => h.giving && decide (s.ts < h.h))

/-! ### Bookings (R174) -/

/-- Cancel a booking. -/
def cancel (id : Nat) (s : State) : State := modCod (fun c => { c with cancels := c.cancels ++ [id] }) s

/-- A booking has reached step 1 of R84. -/
def State.pastStep1 (s : State) (id : Nat) : Bool :=
  s.cod.placed.any (fun b => b.req.id == id && decide (1 ≤ b.step))

/-! ### Instants (R210, R211) -/

/-- A PAN with BO 0 to 14 (R210). -/
def State.panBeacons (s : State) (pan : Nat) : Bool := s.get (LNK_PANn_CFG_BO pan) != 15

/-- Beacons of a PAN are missed, as many as a number (R211). -/
def beaconsMissed (n pan : Nat) (s : State) : State :=
  let s := count (LNK_PANn_STAT_BCNMISS pan) n (count LNK_CNT_BCNMISS n s)
  emit 0x2C1 0 (raise LNK_INT_STAT_BCNMISS s)

/-- A beacon of a PAN is missed (R211). -/
def beaconMissed (pan : Nat) (s : State) : State := beaconsMissed 1 pan s

/-- Ticks of a beacon interval (R210). -/
def State.beaconInterval (s : State) (pan : Nat) : Nat := 960 * 2 ^ s.get (LNK_PANn_CFG_BO pan) * symCycles

/-- The first beacon instant at or after a TS64 value (R210). -/
def State.instantFrom (s : State) (pan t : Nat) : Nat :=
  let off := s.get (LNK_PANn_BCN_OFF pan) * symCycles
  let i := s.beaconInterval pan
  off + (t - off + i - 1) / i * i

/-- 2 ms. -/
def bookAhead : Nat := 2 * msCycles

/-- The beacon instant to handle next, as seen at a TS64 value: the one after the last handled, or, where there is none, it lies
behind, or a step has put TS64 back behind it, the first not yet past. The instants that a step passed over were missed at the
step (R211); those of a time in which the PAN did not run, or the device did not serve, were not the device's to send. -/
def State.instantAfter (ts pan : Nat) (s : State) : Nat :=
  match s.lnk.handled.find? (fun e => e.1 == pan) with
  | some (_, t) => if ts + bookAhead < t ∨ t + s.beaconInterval pan < ts then s.instantFrom pan ts else t + s.beaconInterval pan
  | none => s.instantFrom pan ts

/-- The beacon instant to handle next. -/
def State.nextInstant (s : State) (pan : Nat) : Nat := State.instantAfter s.ts pan s

/-- How many instants that are not handled yet lie before a TS64 value. -/
def State.unhandled (before after pan : Nat) (s : State) : Nat :=
  let t := State.instantAfter before pan s
  if t < after then (after - t + s.beaconInterval pan - 1) / s.beaconInterval pan else 0

/-- TS64 has stepped on from an earlier value: the instants of a PAN that it passed over are missed. The beacons booked for them
are cancelled, and so end with an outcome other than SENT; the others are counted at once (R211).
DESIGN CHOICE, unsafe: log 176. -/
def passBeacons (before after pan : Nat) (s : State) : State :=
  if s.panRuns pan = false ∨ s.panBeacons pan = false ∨ s.mayBook = false then s
  else
    let gone := s.lnk.bookings.filter (fun b =>
      b.pan == pan && decide (before ≤ b.instant ∧ b.instant < after) && !s.pastStep1 b.booking)
    let u := forEach gone (fun b t => cancel b.booking t) s
    let n := State.unhandled before after pan s
    if n = 0 then u
    else
      let last := State.instantAfter before pan s + (n - 1) * s.beaconInterval pan
      beaconsMissed n pan (modLnk (fun l => { l with handled := (pan, last) :: l.handled.filter (fun e => e.1 != pan) }) u)

end Sys2Proof.Machine
end

