-- ==== Sys2Proof/Machine/Net.lean ====
section
/-!
DEFINITION. Frames of the upstream ports (R321 to R328, R347): Ethernet, ARP, IPv4, IPv6, ICMP and UDP as the device builds
and takes them apart (assumption 35).
-/

namespace Sys2Proof.Machine

/-- Change the upstream block's state. -/
def modUpl (f : Upl → Upl) (s : State) : State := { s with upl := f s.upl }

/-! ### Checksums -/

/-- The sum of an octet string as 16-bit words, most significant octet first. -/
def sum16 : Octets → Nat
  | [] => 0
  | [a] => a.toNat * 256
  | a :: b :: rest => a.toNat * 256 + b.toNat + sum16 rest

/-- Fold a sum to 16 bits. -/
def fold16 (n : Nat) : Nat :=
  let once (x : Nat) : Nat := x % 65536 + x / 65536
  once (once (once n))

/-- The internet checksum. -/
def inetSum (os : Octets) : Nat := 65535 - fold16 (sum16 os)

/-- A checksum that covers itself verifies. -/
def inetOk (os : Octets) : Bool := fold16 (sum16 os) == 65535

/-! ### Addresses -/

/-- The device's own MAC address. -/
def State.mac (s : State) : Octets := be 2 (s.get UPL_MAC_HI_MAC) ++ be 4 (s.get UPL_MAC_LO_MAC)

/-- The next-hop MAC address. -/
def State.nhMac (s : State) : Octets := be 2 (s.get UPL_NH_HI_MAC) ++ be 4 (s.get UPL_NH_LO_MAC)

/-- The octets of an address: four registers for IPv6, the first alone for IPv4. -/
def State.ipOf (s : State) (f : Nat → Fld) : Octets :=
  if s.is UPL_CFG_IPV6 then (List.range 4).flatMap (fun k => be 4 (s.get (f k))) else be 4 (s.get (f 0))

/-- The modified EUI-64 interface identifier of a MAC address. -/
def modifiedEui (mac : Octets) : Octets :=
  (mac.take 1).map (fun b => b ^^^ 2) ++ slice mac 1 2 ++ [0xFF, 0xFE] ++ mac.drop 3

/-- The link-local address (R323). -/
def State.linkLocal (s : State) : Octets := [0xFE, 0x80] ++ zeros 6 ++ modifiedEui s.mac

/-- The device holds the service address (R325): in a serving mode, but not before step 5 of a handover to it (R375). -/
def State.ownsService (s : State) : Bool := s.mode.serving && !(s.mode == .takeover && s.stl.handover.isSome)

/-- The addresses the device holds. -/
def State.ownAddresses (s : State) : List Octets :=
  [s.ipOf UPL_DEVIPn] ++ (if s.ownsService then [s.ipOf UPL_SVCIPn] else [])
    ++ (if s.is UPL_CFG_IPV6 then [s.linkLocal] else [])

/-- The next hop (R324): the gateway, or the peer where that is 0. -/
def State.nextHop (s : State) : Octets :=
  let g := s.ipOf UPL_GWIPn
  if g.all (fun b => b == 0) then s.ipOf UPL_RIPn else g

def macBroadcast : Octets := List.replicate 6 0xFF

/-- The solicited-node multicast address of an IPv6 address, and its MAC address. -/
def solicitedNode (ip : Octets) : Octets := [0xFF, 0x02] ++ zeros 9 ++ [1, 0xFF] ++ ip.drop 13
def solicitedMac (ip : Octets) : Octets := [0x33, 0x33, 0xFF] ++ ip.drop 13

/-- The all-nodes multicast address and its MAC address. -/
def allNodes : Octets := [0xFF, 0x02] ++ zeros 13 ++ [1]
def allNodesMac : Octets := [0x33, 0x33, 0, 0, 0, 1]

/-! ### Building -/

/-- An Ethernet frame (R326): header, tag, payload filled up to the least size, and FCS.
PRESUMED, unsafe: log 35. -/
def State.ethernet (s : State) (dst : Octets) (pcp type : Nat) (payload : Octets) : Octets :=
  let tag := if s.is UPL_CFG_VLANEN then be 2 0x8100 ++ be 2 (s.get UPL_VLAN_VID + 8192 * pcp) else []
  let body := padTo 60 (dst ++ s.mac ++ tag ++ be 2 type ++ payload)
  body ++ le 4 (crc32 body)

/-- An IPv4 header without options. -/
def State.ip4Header (s : State) (proto len : Nat) (src dst : Octets) : Octets :=
  let h (sum : Nat) : Octets :=
    [0x45] ++ le 1 (s.get UPL_CFG_DSCP * 4) ++ be 2 (20 + len) ++ be 2 0 ++ be 2 0x4000 ++ le 1 (s.get UPL_CFG_TTL)
      ++ le 1 proto ++ be 2 sum ++ src ++ dst
  h (inetSum (h 0))

/-- An IPv6 header with no extension headers. -/
def State.ip6Header (s : State) (proto len hops : Nat) (src dst : Octets) : Octets :=
  be 4 (6 * 2 ^ 28 + s.get UPL_CFG_DSCP * 4 * 2 ^ 20) ++ be 2 len ++ le 1 proto ++ le 1 hops ++ src ++ dst

/-- The pseudo-header of the upper-layer checksum. -/
def State.pseudo (s : State) (proto len : Nat) (src dst : Octets) : Octets :=
  if s.is UPL_CFG_IPV6 then src ++ dst ++ be 4 len ++ zeros 3 ++ le 1 proto else src ++ dst ++ [0] ++ le 1 proto ++ be 2 len

/-- A UDP datagram with its checksum (R326); a computed 0 is sent as all ones. -/
def State.udp (s : State) (sport dport : Nat) (src dst data : Octets) : Octets :=
  let len := 8 + data.length
  let h (sum : Nat) : Octets := be 2 sport ++ be 2 dport ++ be 2 len ++ be 2 sum
  let full := inetSum (s.pseudo 17 len src dst ++ h 0 ++ data)
  let sum := if !s.is UPL_CFG_IPV6 && !s.is UPL_CFG_UDPCS4 then 0 else if full = 0 then 65535 else full
  h sum ++ data

/-- An IP packet of either family; `hops` is the IPv6 hop limit. -/
def State.ipPacket (s : State) (proto hops : Nat) (src dst body : Octets) : Octets :=
  (if s.is UPL_CFG_IPV6 then s.ip6Header proto body.length hops src dst else s.ip4Header proto body.length src dst) ++ body

/-- The EtherType of the family. -/
def State.ipType (s : State) : Nat := if s.is UPL_CFG_IPV6 then 0x86DD else 0x0800

/-- An ARP packet. -/
def arpPacket (op : Nat) (sha spa tha tpa : Octets) : Octets :=
  be 2 1 ++ be 2 0x0800 ++ [6, 4] ++ be 2 op ++ sha ++ spa ++ tha ++ tpa

/-- An ICMPv6 message with its checksum. -/
def State.icmp6 (s : State) (type : Nat) (rest src dst : Octets) : Octets :=
  let m (sum : Nat) : Octets := le 1 type ++ [0] ++ be 2 sum ++ rest
  m (inetSum (s.pseudo 58 (4 + rest.length) src dst ++ m 0))

/-- A neighbour advertisement for an address (R323); `flags` are Solicited and Override. -/
def State.neighbourAdvert (s : State) (ip dst dstMac : Octets) (flags : Nat) : Octets :=
  let rest := be 4 flags ++ ip ++ [2, 1] ++ s.mac
  s.ethernet dstMac (s.get UPL_VLAN_PCPM) 0x86DD (s.ip6Header 58 (4 + rest.length) 255 ip dst ++ s.icmp6 136 rest ip dst)

/-- The announcement of an address (R323): a gratuitous ARP, or an unsolicited neighbour advertisement. -/
def State.announceFrame (s : State) (ip : Octets) : Octets :=
  if s.is UPL_CFG_IPV6 then s.neighbourAdvert ip allNodes allNodesMac (2 ^ 29)
  else s.ethernet macBroadcast (s.get UPL_VLAN_PCPM) 0x0806 (arpPacket 1 s.mac ip (zeros 6) ip)

/-- The request that resolves the next hop (R324). -/
def State.resolveFrame (s : State) : Octets :=
  let me := s.ipOf UPL_DEVIPn
  let hop := s.nextHop
  if s.is UPL_CFG_IPV6 then
    let dst := solicitedNode hop
    let rest := zeros 4 ++ hop ++ [1, 1] ++ s.mac
    s.ethernet (solicitedMac hop) (s.get UPL_VLAN_PCPM) 0x86DD
      (s.ip6Header 58 (4 + rest.length) 255 me dst ++ s.icmp6 135 rest me dst)
  else s.ethernet macBroadcast (s.get UPL_VLAN_PCPM) 0x0806 (arpPacket 1 s.mac me (zeros 6) hop)

/-! ### Taking apart -/

/-- A received frame without FCS: addresses, EtherType and payload, after the tag check of R327; none where that fails. -/
def State.untag (s : State) (os : Octets) : Option (Octets × Octets × Nat × Octets) :=
  let dst := os.take 6
  let src := slice os 6 6
  let type := beAt os 12 2
  if s.is UPL_CFG_VLANEN then
    if type = 0x8100 ∧ beAt os 14 2 % 4096 = s.get UPL_VLAN_VID then some (dst, src, beAt os 16 2, os.drop 18) else none
  else if type = 0x8100 then none
  else some (dst, src, type, os.drop 14)

/-- An IP packet that is valid and no fragment (R327): protocol, source, destination, hop limit and body. -/
def State.parseIp (s : State) (os : Octets) : Option (Nat × Octets × Octets × Nat × Octets) :=
  if s.is UPL_CFG_IPV6 then
    let len := beAt os 4 2
    if os.length < 40 + len ∨ octAt os 0 / 16 ≠ 6 ∨ os.length < 40 then none
    else some (octAt os 6, slice os 8 16, slice os 24 16, octAt os 7, slice os 40 len)
  else
    let ihl := octAt os 0 % 16 * 4
    let len := beAt os 2 2
    if os.length < 20 ∨ octAt os 0 / 16 ≠ 4 ∨ ihl < 20 ∨ len < ihl ∨ os.length < len then none
    else if !inetOk (os.take ihl) || beAt os 6 2 % 2 ^ 14 != 0 then none
    else some (octAt os 9, slice os 12 4, slice os 16 4, octAt os 8, slice os ihl (len - ihl))

/-- A UDP datagram whose length and checksum are right: ports and data. -/
def State.parseUdp (s : State) (src dst os : Octets) : Option (Nat × Nat × Octets) :=
  let len := beAt os 4 2
  let sum := beAt os 6 2
  let body := os.take len
  let ok := if sum = 0 then !s.is UPL_CFG_IPV6 else inetOk (s.pseudo 17 len src dst ++ body)
  if len < 8 ∨ os.length < len ∨ ok = false then none else some (beAt os 0 2, beAt os 2 2, body.drop 8)

/-! ### The Weavan header (R328) -/

/-- The message types of R329. -/
def msgUp : Nat := 0
def msgDown : Nat := 1
def msgCompl : Nat := 2
def msgStatus : Nat := 3

/-- The largest segment payload. -/
def segmentSize : Nat := 1400

/-- One segment of a message. -/
def State.segment (s : State) (type queue flags seq segno segcnt mlen ts : Nat) (payload : Octets) : Octets :=
  [0x57] ++ le 1 (16 + type) ++ le 1 queue ++ le 1 flags ++ be 4 seq ++ be 2 (s.get UPL_SYSID_SYSID) ++ le 1 segno
    ++ le 1 segcnt ++ be 2 payload.length ++ be 2 mlen ++ be 8 ts ++ payload

/-- The frames of a message (R326, R330): `data` says that it is of type UP or COMPL, for its PCP; `service` that it leaves
from the service address. -/
def State.messageFrames (s : State) (type queue flags seq ts : Nat) (data service : Bool) (payload : Octets) :
    List Octets :=
  let n := if payload.length ≤ segmentSize then 1 else 2
  let src := s.ipOf (if service then UPL_SVCIPn else UPL_DEVIPn)
  let dst := s.ipOf UPL_RIPn
  let pcp := if data then s.get UPL_VLAN_PCPD else s.get UPL_VLAN_PCPM
  (List.range n).map (fun k =>
    let part := if k = 0 then payload.take segmentSize else payload.drop segmentSize
    let seg := s.segment type queue flags seq k n payload.length ts part
    let dgram := s.udp (s.get UPL_UDP_LPORT) (s.get UPL_UDP_RPORT) src dst seg
    s.ethernet s.nhMac pcp s.ipType (s.ipPacket 17 (s.get UPL_CFG_TTL) src dst dgram))

end Sys2Proof.Machine
end

