-- ==== Sys2Proof/Machine/Ports.lean ====
section
/-!
DEFINITION. The links of the upstream ports (R319, R320, R323, R324) and the port state of PTP (R346, R352): what brings a link up
or down, and what a port sends of its own.
-/

namespace Sys2Proof.Machine

/-- The IEEE 1588 port state values the port takes (`UPL_PTP_STAT.STATE`). -/
def ptpListening : Nat := 4
def ptpUncalibrated : Nat := 8
def ptpSlave : Nat := 9

/-- Change the clock's state. -/
def modPtp (f : Ptp → Ptp) (s : State) : State := modUpl (fun u => { u with ptp := f u.ptp }) s

/-- The active port is up. -/
def State.portUp (s : State) (p : Nat) : Bool := if p = 0 then s.upl.up0 else s.upl.up1

/-- PTP runs: it is enabled, in a mode that accepts it, on an active port at 1,000 or 2,500 Mb/s (R346, R347). -/
def State.ptpRuns (s : State) : Bool :=
  let p := s.get UPL_STAT_ACTIVE
  let speed := if p = 0 then s.get UPL_STAT_SPEED0 else s.get UPL_STAT_SPEED1
  s.is UPL_PTP_CFG_EN && s.portUp p && decide (2 ≤ speed) && s.mode != .reset && s.mode != .load && s.mode != .lastgasp

/-- The value of `UPL_PTP_STAT.STATE` (assumption 36). PRESUMED, unsafe: log 36. -/
def State.ptpState (s : State) : Nat :=
  if s.mode = .reset ∨ s.mode = .load then 1
  else if !s.is UPL_PTP_CFG_EN then 3
  else if !s.ptpRuns then 2
  else
    let v := s.get UPL_PTP_STAT_STATE
    if v = ptpUncalibrated ∨ v = ptpSlave then v else ptpListening

/-- What is left of PTP once it does not run: the next run begins with no master (R347). DEDUCED, unsafe: log 183. -/
def forgetMaster (s : State) : State :=
  modPtp (fun p => { p with foreign := [], master := none, sync := none, meas := none, req := none, dm := none }) s

/-- A change of what decides the port's state: another state raises PTPSTATE (R352). -/
def watchPtp (f : State → State) (s : State) : State :=
  let v := s.ptpState
  let t := f s
  let n := t.ptpState
  if n = v then t else raise UPL_INT_STAT_PTPSTATE (State.set UPL_PTP_STAT_STATE n (onlyIf (decide (n < ptpListening)) forgetMaster t))

/-- The port enters a state; a change raises PTPSTATE. -/
def enterPtp (v : Nat) (s : State) : State :=
  if s.get UPL_PTP_STAT_STATE = v then s else raise UPL_INT_STAT_PTPSTATE (s.set UPL_PTP_STAT_STATE v)

/-! ### Ports and neighbours (R319 to R324) -/

/-- A port may have its link up (R319, R346): a mode is set, RUN is 1, and the device is past LOAD. -/
def State.ethRuns (s : State) (p : Nat) : Bool :=
  let m := if p = 0 then s.get UPL_CFG_MODE0 else s.get UPL_CFG_MODE1
  m != 0 && bitAt (s.get UPL_CTRL_RUN) p && s.mode != .reset && s.mode != .load

/-- A port may start a message. -/
def State.portFree (s : State) (p : Nat) : Bool :=
  s.portUp p && decide ((if p = 0 then s.upl.pause0 else s.upl.pause1) ≤ s.cycles)

/-- The speed a port's link comes up with (R319), as `UPL_STAT.SPEEDp` codes it. -/
def State.linkSpeed (s : State) (p signalled : Nat) : Nat :=
  match (if p = 0 then s.get UPL_CFG_MODE0 else s.get UPL_CFG_MODE1) with
  | 1 => 2
  | 2 => min signalled 2
  | _ => 3

/-- Change a port's link. -/
def setLink (p : Nat) (up : Bool) (s : State) : State :=
  let s := watchPtp (fun s => if p = 0 then modUpl (fun u => { u with up0 := up, upFrom0 := s.cycles, pause0 := 0 }) s
    else modUpl (fun u => { u with up1 := up, upFrom1 := s.cycles, pause1 := 0 }) s) s
  if p = 0 then raise UPL_INT_STAT_LINK0 s else raise UPL_INT_STAT_LINK1 s

/-- The tag of a frame that leaves from whichever port is active when its turn comes (R320). -/
def portActive : Nat := 2

/-- The port a reply leaves from. -/
def State.replyPort (s : State) (p : Nat) : Nat := if p = portActive then s.get UPL_STAT_ACTIVE else p

/-- A frame to be sent from a port in its turn. -/
def reply (p : Nat) (frame : Octets) (s : State) : State := modUpl (fun u => { u with replies := u.replies ++ [(p, frame)] }) s

/-- The modes in which announcements are sent (R346). -/
def State.announces (s : State) : Bool := s.mode != .reset && s.mode != .load && s.mode != .lastgasp

/-- The announcements of R323 for some addresses, from the active port. -/
def announce (ips : List Octets) (s : State) : State :=
  if s.announces && s.portUp (s.get UPL_STAT_ACTIVE) then
    forEach ips (fun ip t => reply portActive (t.announceFrame ip) t) s
  else s

/-- One try of a resolution (R324). -/
def resolveTry (s : State) : State :=
  let s := modUpl (fun u => { u with tries := u.tries + 1, triedAt := s.cycles }) s
  reply portActive s.resolveFrame s

/-- A resolution begins (R324). DEDUCED, unsafe: log 92. -/
def startResolve (s : State) : State := resolveTry (modUpl (fun u => { u with tries := 0, resolvedAt := s.cycles }) s)

/-- A port becomes active (R320, R323, R324): announcements and a resolution. DEDUCED, unsafe: log 91. -/
def becomeActive (p : Nat) (s : State) : State :=
  let s := watchPtp (State.set UPL_STAT_ACTIVE p) s
  startResolve (announce s.ownAddresses s)

/-- The service address is gained (R323, R325). -/
def announceService (s : State) : State := if s.ownsService then announce s.ownAddresses s else s

/-- A message that a link loss cut short is sent again in full (R320). -/
def cutShort (p : Nat) (s : State) : State :=
  match s.upl.sending with
  | some m =>
    if m.port ≠ p then s
    else
      let s := modUpl (fun u => { u with sending := none }) s
      (match m.msg with
       | .reply f => modUpl (fun u => { u with replies := (portActive, f) :: u.replies }) s
       | .queue _ => s
       | .compl c => modUpl (fun u => { u with compls := c :: u.compls }) s
       | .status ts lock => modUpl (fun u => { u with statusDue := some (ts, lock) }) s)
  | none => s

/-- A port's link goes down (R320), with failover where it was active and the other's link is up. -/
def linkDown (p : Nat) (s : State) : State :=
  let s := emit 0x401 0 (setLink p false s)
  let s := cutShort p s
  let active := s.get UPL_STAT_ACTIVE
  if s.portUp (1 - p) then
    if active = p then
      let s := emit 0x402 0 (raise UPL_INT_STAT_FAILOVER (count UPL_CNT_FAILOVER 1 s))
      let s := modUpl (fun u => { u with
        replies := u.replies.map (fun (r : Nat × Octets) => if r.1 = p then (1 - p, r.2) else r) }) s
      becomeActive (1 - p) s
    else s
  else raise UPL_INT_STAT_NOPORT s

end Sys2Proof.Machine
end

