-- ==== Sys2Proof/Machine/Time.lean ====
section
/-!
DEFINITION. The time rim (R60 to R72): the discipline of TS64, steps, the active source, the whole-second and
whole-millisecond events and the capture task.
-/

namespace Sys2Proof.Machine

/-- Change the time rim's own state. -/
def modTim (f : Tim → Tim) (s : State) : State := { s with tim := f s.tim }

/-- The active source's number in `TIM_STAT.ACTSRC`. -/
def TimSource.code : TimSource → Nat
  | .none => 0
  | .ptp => 1
  | .stile => 2

/-- The state's number in `TIM_STAT.STATE`. -/
def TimState.code : TimState → Nat
  | .free => 0
  | .acq => 1
  | .locked => 2
  | .coast => 3

/-- The PTP port enters SLAVE when the time rim reaches LOCKED and returns to UNCALIBRATED when it leaves it (R349). -/
def ptpFollowsLock (st : TimState) (s : State) : State :=
  let p := s.get UPL_PTP_STAT_STATE
  let q := match st with
    | .locked => if p = ptpUncalibrated then ptpSlave else p
    | .free => if p = ptpSlave then ptpUncalibrated else p
    | .acq => if p = ptpSlave then ptpUncalibrated else p
    | .coast => if p = ptpSlave then ptpUncalibrated else p
  if q = p then s else raise UPL_INT_STAT_PTPSTATE (s.set UPL_PTP_STAT_STATE q)

/-- Enter a state of the time rim (R66, R72): LOCKED and the loss of the lock flag are flagged, counted and reported. -/
def enterTim (st : TimState) (s : State) : State :=
  let before := s.lock
  let s := modTim (fun t => { t with
    st := st, good := 0, bad := 0,
    coastFrom := match st with
      | .coast => s.cycles
      | _ => t.coastFrom }) s
  let s := ptpFollowsLock st s
  let s := match st with
    | .locked => emit 0x480 0 (raise TIM_INT_STAT_LOCKED s)
    | _ => s
  if before && !s.lock then emit 0x481 0 (count TIM_CNT_UNLOCKS 1 (raise TIM_INT_STAT_UNLOCKED s)) else s

/-- Add a signed amount, in units of 2^−40 tick, to TS64 as a step (R68); the beacon instants that a
forward step passes over are missed (R211), and MTIP follows (R548). -/
def applyStep (d : Int) (s : State) : State :=
  let acc := (((s.tim.acc : Int) + d) % ((2 ^ 104 : Nat) : Int)).toNat
  let before := s.ts
  let s := modTim (fun t => { t with acc := acc }) s
  let s := { s with lnp := { s.lnp with stepped := true } }
  let s := onlyIf (decide (0 < d)) (forEach (List.range 16) (passBeacons before s.ts)) s
  let s := onlyIf (decide (d < 0)) (fun s => { s with shf := { s.shf with lastWindow := min s.shf.lastWindow (s.ts - 64000000) } }) s
  emit 0x482 0 (count TIM_CNT_STEPS 1 (raise TIM_INT_STAT_STEPPED (mtipFollows 1 (mtipFollows 0 s))))

/-- Round an integer quotient to the nearest, a half away from zero. -/
def roundDiv (x : Int) (y : Nat) : Int :=
  if x < 0 then -(((2 * x.natAbs + y) / (2 * y) : Nat) : Int) else (((2 * x.natAbs + y) / (2 * y) : Nat) : Int)

/-- Offsets are held in units of 2^−16 ns, the unit of the IEEE 1588 correction field. -/
def offsetUnit : Nat := 65536

/-- An offset in units of 2^−40 tick: one tick is 3.125 ns = 25/8 ns. -/
def offsetToAcc (theta : Int) : Int := theta * (2 ^ 27 : Nat) / 25

/-- The clamp of the servo's terms: ±200,000 ppb in units of 2^−16 ppb. -/
def servoLimit : Int := 200000 * 65536

/-- One update of the servo (R351): θ in 2^−16 ns, Δ in ticks, clamped to 1/128 s to 2 s; the results in 2^−16 ppb.
DEDUCED, unsafe: log 24. -/
def servo (theta : Int) (kp ki delta : Nat) (integ : Int) : Int × Int :=
  let delta := max 2500000 (min delta 640000000)
  let p := -(theta * kp * secCycles / (256 * delta : Nat))
  let i := clamp (-servoLimit) servoLimit (integ - theta * ki * secCycles / (256 * delta : Nat))
  (i, clamp (-servoLimit) servoLimit (i + p))

/-- TIM_RATE of a rate in 2^−16 ppb: round(rate × 2^40 / 10^9), within ±200 ppm. -/
def rateOf (rate : Int) : Int := clamp (-rateLimit) rateLimit (roundDiv (rate * (2 ^ 24 : Nat)) 1000000000)

/-- The servo's write of `TIM_RATE` after a measurement. -/
def servoUpdate (theta : Int) (kp ki delta : Nat) (s : State) : State :=
  let r := servo theta kp ki delta s.tim.integ
  (modTim (fun t => { t with integ := r.1 }) s).set TIM_RATE_RATE (twos 32 (rateOf r.2))

/-- `TIM_OFFSET`: the offset in ns, saturating. -/
def offsetNs (theta : Int) : Nat := twos 32 (clamp (-(2 ^ 31 : Nat)) ((2 ^ 31 : Nat) - 1) (roundDiv theta offsetUnit))

/-- One discipline measurement (R67): the state machine of the time rim, the automatic step in ACQ, and the rate servo of
R351. A measurement of a source that is not active changes nothing here. DEDUCED, unsafe: log 25. -/
def measurement (src : TimSource) (theta : Int) (kp ki delta : Nat) (s : State) : State :=
  if src ≠ s.tim.src ∨ src = .none then s
  else
    let lockThr : Int := (s.get TIM_LOCKCFG_LOCK_THR * offsetUnit : Nat)
    let unlockThr : Int := (s.get TIM_LOCKCFG_UNLOCK_THR * offsetUnit : Nat)
    let size : Int := theta.natAbs
    let isGood := decide (size ≤ lockThr)
    let isBad := decide (unlockThr < size)
    let earlier := s.tim.lastMeas != 0
    let s := s.set TIM_OFFSET_OFFSET (offsetNs theta)
    let s := modTim (fun t => { t with
      lastMeas := s.cycles,
      good := if isGood then t.good + 1 else 0,
      bad := if isBad then t.bad + 1 else 0 }) s
    let enough := decide (s.get TIM_COAST_LOCK_N ≤ s.tim.good)
    match s.tim.st with
    | .free => enterTim .acq (onlyIf earlier (servoUpdate theta kp ki delta) s)
    | .acq =>
      if isBad then applyStep (-(offsetToAcc theta)) (modTim (fun t => { t with good := 0, bad := 0 }) s)
      else
        let s := servoUpdate theta kp ki delta s
        if enough then enterTim .locked s else s
    | .locked =>
      let s := servoUpdate theta kp ki delta s
      if 3 ≤ s.tim.bad then enterTim .acq s else s
    | .coast =>
      let s := servoUpdate theta kp ki delta s
      if isBad then enterTim .acq s else if enough then enterTim .locked s else s

/-- The span without a measurement that loses a source: 2 s (R67). -/
def sourceLostSpan : Nat := 2 * secCycles

/-- SOURCE_TIMEOUT (R67): ACQ goes to FREE, LOCKED to COAST. DESIGN CHOICE, unsafe: log 156. -/
def execSourceTimeout (dt : Nat) (s : State) : Host.Outcome State Fault Refusal :=
  command dt (fun s =>
    let lost (st : TimState) (s : State) : State :=
      emit 0x483 0 (count TIM_CNT_SRCLOSS 1 (raise TIM_INT_STAT_SRC_LOST (enterTim st s)))
    if s.passed s.tim.lastMeas sourceLostSpan then
      match s.tim.st with
      | .acq => lost .free s
      | .locked => lost .coast s
      | .free => s
      | .coast => s
    else s) s

/-- COAST_EXPIRY (R67): COAST_S seconds in COAST without a measurement. -/
def execCoastExpiry (dt : Nat) (s : State) : Host.Outcome State Fault Refusal :=
  command dt (fun s =>
    match s.tim.st with
    | .coast =>
      if s.passed (max s.tim.coastFrom s.tim.lastMeas) (s.get TIM_COAST_COAST_S * secCycles) then enterTim .free s
      else s
    | .free => s
    | .acq => s
    | .locked => s) s

/-- The active source with SRC at AUTO follows the mode (R69). -/
def autoSource (m : Mode) (now : TimSource) : TimSource :=
  match m with
  | .reset => .none
  | .load => .none
  | .standby => .stile
  | .selftest => .ptp
  | .solo => .ptp
  | .primary => .ptp
  | .takeover => .ptp
  | .holdover => .ptp
  | .update => .ptp
  | .safe => .ptp
  | .maker => .ptp
  | .lastgasp => now

/-- The source that `TIM_CTRL.SRC` and the mode select. -/
def State.selectedSource (s : State) : TimSource :=
  match s.get TIM_CTRL_SRC with
  | 0 => .none
  | 1 => .ptp
  | 2 => .stile
  | _ => autoSource s.mode s.tim.src

/-- Take up the selected source: a change from LOCKED goes through COAST (R69). -/
def changeSource (s : State) : State :=
  let src := s.selectedSource
  if src = s.tim.src then s
  else
    let s := modTim (fun t => { t with src := src, good := 0, bad := 0 }) s
    match s.tim.st with
    | .locked => enterTim .coast s
    | .free => s
    | .acq => s
    | .coast => s

/-- ACTIVE_SOURCE_CHANGE (R69): a write of `TIM_CTRL`, or the change a mode change brings. -/
def execActiveSourceChange (dt : Nat) (wr : Option (Access × Word)) (s : State) :
    Host.Outcome State Fault Refusal :=
  command dt (fun s =>
    match wr with
    | some (acc, w) => writeRow acc 0x20120000 w changeSource s
    | none => changeSource s) s

/-- The effect of GO (R68): the signed step is added in FREE and ACQ, and refused in LOCKED and COAST. -/
def stepGo (w : Word) (s : State) : State :=
  if wrote w TIM_STEP_CMD_GO then
    let s := s.set TIM_STEP_CMD_GO 0
    let step := signed 64 (s.get TIM_STEP_HI * 2 ^ 32 + s.get TIM_STEP_LO)
    if s.lock then raise TIM_STEP_CMD_REFUSED s else applyStep (step * (2 ^ 40 : Nat)) s
  else s

/-- STEP_GO (R68): a write of `TIM_STEP_CMD`. -/
def execStepGo (dt : Nat) (acc : Access) (w : Word) (s : State) : Host.Outcome State Fault Refusal :=
  command dt (writeRow acc 0x20120020 w (stepGo w)) s

/-- A read of `TIM_TS_LO`: the low half is returned and the high half of the same instant latched (R70). -/
def tsLoRead (s : State) : State :=
  { s.set TIM_TS_HI (s.ts / 2 ^ 32) with resp := .data (BitVec.ofNat 32 s.ts) }

/-- TS_LO_READ (R70). -/
def execTsLoRead (dt : Nat) (acc : Access) (s : State) : Host.Outcome State Fault Refusal :=
  command dt (access acc 0x20120010 none tsLoRead) s

/-- SECOND (R72): the next multiple of 320,000,000 ticks that TS64 has reached or passed.
DEDUCED, unsafe: log 26. -/
def execSecond (dt : Nat) (s : State) : Host.Outcome State Fault Refusal :=
  command dt (fun s =>
    if s.tim.secFired < s.ts / 320000000 then
      emit 0x484 0 (modTim (fun t => { t with secFired := t.secFired + 1 }) s)
    else s) s

/-- MILLI (R72): the next multiple of 320,000 ticks that TS64 has reached or passed. -/
def execMilli (dt : Nat) (s : State) : Host.Outcome State Fault Refusal :=
  command dt (fun s =>
    if s.tim.milliFired < s.ts / 320000 then
      emit 0x485 0 (modTim (fun t => { t with milliFired := t.milliFired + 1 }) s)
    else s) s

/-- CAPTURE (R72): the task copies TS64. -/
def execCapture (dt : Nat) (s : State) : Host.Outcome State Fault Refusal :=
  command dt (fun s =>
    if s.taskQueued 0x480 then
      endTask 0x480 ((s.set TIM_CAP_LO_CAP s.ts).set TIM_CAP_HI_CAP (s.ts / 2 ^ 32))
    else s) s

end Sys2Proof.Machine
end

