-- ==== Sys2Proof/Machine/Mirror.lean ====
section
/-!
DEFINITION. What the device with decision authority sends to its standby (R356 to R358, R367, R368): frames, commit records
and bulk items, and what waits for an acknowledgement. Every family that the records concern uses it.
-/

namespace Sys2Proof.Machine

/-- Change Stile's own state. -/
def modStl (f : Stl → Stl) (s : State) : State := { s with stl := f s.stl }

/-- The number of a mode in `LPW_MODE`. -/
def Mode.code : Mode → Nat
  | .reset => 0
  | .load => 1
  | .selftest => 2
  | .solo => 3
  | .primary => 4
  | .standby => 5
  | .takeover => 6
  | .holdover => 7
  | .lastgasp => 8
  | .update => 9
  | .safe => 10
  | .maker => 11

/-- The Stile frame types (R356). -/
def tyHeart : Nat := 1
def tyElect : Nat := 2
def tyStileAck : Nat := 3
def tyCmd : Nat := 4
def tyCommit : Nat := 0x10
def tyBulk : Nat := 0x20

/-- A Stile frame (R356): header, payload and CRC-32C. -/
def stileFrame (type : Nat) (last : Bool) (seq : Nat) (payload : Octets) : Octets :=
  let body := le 1 type ++ le 1 (flag last) ++ le 2 payload.length ++ le 4 seq ++ payload
  body ++ le 4 (crc32c body)

/-- A lane's record. -/
def State.stlLane (s : State) (n : Nat) : StlLane := if n = 0 then s.stl.lane0 else s.stl.lane1

/-- The precedence of a frame on a lane (R357); ELECT has that of HEART. -/
def framePrecedence (frame : Octets) : Nat :=
  match octAt frame 0 with
  | 4 => 0
  | 3 => 1
  | 1 => 2
  | 2 => 2
  | 0x10 => 3
  | _ => 4

/-- How long a frame holds a lane (R355, R356), in 1/125 of a timebase cycle: its octets between a start and a terminate control
octet, in blocks of 8 octets, each 66 bits at 10.3125 GBd. -/
def laneTime (frame : Octets) : Nat := 256 * ((frame.length + 9) / 8)

/-- When a lane comes free. -/
def State.laneFree (s : State) (n : Nat) : Nat := if n = 0 then s.stl.free0 else s.stl.free1

/-- A lane comes free at an instant. -/
def setLaneFree (n t : Nat) (s : State) : State :=
  if n = 0 then modStl (fun p => { p with free0 := t }) s else modStl (fun p => { p with free1 := t }) s

/-- A waiting frame may go on a lane: its own, or any that is up. -/
def State.mayGo (s : State) (n : Nat) (w : StlWait) : Bool :=
  match w.lane with
  | some m => m == n
  | none => (s.stlLane n).up || !(s.stlLane (1 - n)).up

/-- The frame that a lane sends next (R357): CMD, ACK, HEART, COMMIT, BULK, each in order of arrival. -/
def State.nextFrame (s : State) (n : Nat) : Option StlWait :=
  (s.stl.waiting.filter (s.mayGo n)).foldl (fun (best : Option StlWait) w =>
    match best with
    | some b => if w.cls < b.cls then some w else some b
    | none => some w) none

/-- The lane that starts a frame next, no later than an instant: the one that comes free first, lane 0 on a tie (R357). -/
def State.nextLane (s : State) (now : Nat) : Option Nat :=
  let ready (n : Nat) : Bool := decide (s.laneFree n ≤ now) && (s.nextFrame n).isSome
  if ready 0 && (!ready 1 || decide (s.stl.free0 ≤ s.stl.free1)) then some 0
  else if ready 1 then some 1
  else none

/-- Change a lane. -/
def modStlLane (n : Nat) (f : StlLane → StlLane) (s : State) : State :=
  if n = 0 then modStl (fun p => { p with lane0 := f p.lane0 }) s else modStl (fun p => { p with lane1 := f p.lane1 }) s

/-- A frame as it leaves, its first bit at a TS64 instant: TXTS of a HEART is that instant (R359), and its check follows it. -/
def stampFrame (ts : Nat) (frame : Octets) : Octets :=
  if octAt frame 0 = tyHeart then stileFrame tyHeart false 0 (patch (slice frame 8 32) 4 (le 8 ts)) else frame

/-- The HEARTs sent on a lane in the last 100 µs, which ECHOTX may name (R362). -/
def noteHeart (n ts : Nat) (frame : Octets) (s : State) : State :=
  if octAt frame 0 = tyHeart then
    modStlLane n (fun l => { l with sent := ts :: l.sent.filter (fun t => decide (ts ≤ t + 100 * usCycles)) }) s
  else s

/-- Start the waiting frames that the lanes come free for, no later than an instant in 1/125 of a cycle. -/
def drainLanes : Nat → Nat → State → State
  | 0, _, s => s
  | k + 1, now, s =>
    match s.nextLane now with
    | none => s
    | some n =>
      match s.nextFrame n with
      | none => s
      | some w =>
        let start := s.laneFree n
        let sent (f : StlSent) : StlSent := if w.kept = some (f.bulk, f.seq) then { f with lane := n, at_ := start / 125 } else f
        let ts := s.tsAt (start / 125)
        drainLanes k now (noteHeart n ts w.frame (setLaneFree n (start + laneTime w.frame) (modStl (fun p => { p with
          waiting := p.waiting.erase w, out := (n, stampFrame ts w.frame) :: p.out, unacked := p.unacked.map sent }) s)))

/-- Give a frame to the lanes (R357): to one of them, or to whichever comes free first. DEDUCED, unsafe: log 101. -/
def putFrame (lane : Option Nat) (kept : Option (Bool × Nat)) (frame : Octets) (s : State) : State :=
  let now := s.cycles * 125
  let s := drainLanes s.stl.waiting.length now s
  let s := modStl (fun p => { p with
    free0 := max p.free0 now, free1 := max p.free1 now,
    waiting := p.waiting ++ [{ cls := framePrecedence frame, lane := lane, frame := frame, kept := kept }] }) s
  drainLanes s.stl.waiting.length now s

/-- A kept frame still waits for its lane. -/
def State.stillWaits (s : State) (f : StlSent) : Bool := s.stl.waiting.any (fun w => w.kept == some (f.bulk, f.seq))

/-- Send a COMMIT or BULK frame and keep it until it is acknowledged (R358). -/
def sendKept (bulk : Bool) (seq : Nat) (last : Bool) (payload : Octets) (s : State) : State :=
  let s := modStl (fun p => { p with
    unacked := p.unacked ++
      [{ bulk := bulk, seq := seq, payload := payload, last := last, lane := 0, at_ := s.cycles }] }) s
  putFrame none (some (bulk, seq)) (stileFrame (if bulk then tyBulk else tyCommit) last seq payload) s

/-- The device mirrors what it does (R367, R375): it holds the authority, the link is up, and its partner is in STANDBY or the
two are in a planned handover. -/
def State.mirrors (s : State) : Bool :=
  s.mode.serving && s.stl.link && s.stl.elected && (s.stl.peerMode == Mode.standby.code || s.stl.handover.isSome)

/-- Mirroring gates the release at the mirror cut-off: the device is PRIMARY (R24). -/
def State.gated (s : State) : Bool :=
  s.mirrors && match s.mode with
    | .primary => true
    | _ => false

/-- What an action waits for (R367): the MSEQ of the record about to be sent, where it must be acknowledged first. -/
def State.gate (s : State) : Option Nat := if s.mirrors then some s.stl.mseq else none

/-- Whether a record is acknowledged, or need not be: MACK has reached it, or the device mirrors no longer. -/
def State.ackedM (s : State) (w : Option Nat) : Bool :=
  match w with
  | some m => decide (m < s.stl.macked) || !s.mirrors
  | none => true

/-- Whether the BULK frames before a number are acknowledged. -/
def State.ackedX (s : State) (x : Nat) : Bool := decide (x ≤ s.stl.xacked) || !s.gated

/-- A 32-octet record: its KIND and octets at places; the rest is 0. -/
def record (kind : Nat) (parts : List (Nat × Octets)) : Octets :=
  parts.foldl (fun r p => patch r p.1 p.2) (octet kind :: zeros 31)

/-- Send a commit record. MSEQ numbers it (R358). -/
def mirror (rec : Octets) (s : State) : State :=
  if s.mirrors then
    let m := s.stl.mseq
    let s := sendKept false (m % 2 ^ 32) false rec s
    let s := modStl (fun p => { p with mseq := m + 1, sentTimes := (m, s.ts) :: p.sentTimes }) s
    count STL_CNT_COMMIT 1 (s.set STL_MSEQ_MSEQ m)
  else s

/-- The frames of a bulk item from its data, with at most 240 octets each (R368). -/
def itemFrames (item region ilen stamp : Nat) (data : Octets) : List Octets :=
  let n := max 1 ((data.length + 239) / 240)
  (List.range n).map (fun part =>
    le 1 item ++ le 1 region ++ le 2 part ++ le 4 ilen ++ le 4 stamp ++ zeros 4 ++ slice data (240 * part) 240)

/-- Send the frames of an item in order, the last one with LAST. -/
def sendParts : List Octets → State → State
  | [], s => s
  | f :: fs, s =>
    let x := s.stl.xseq
    sendParts fs (modStl (fun p => { p with xseq := x + 1 }) (sendKept true (x % 2 ^ 32) fs.isEmpty f s))

/-- Send a bulk item (R368). Its STAMP is the MSEQ of the last COMMIT record sent before it. -/
def mirrorItem (item region ilen : Nat) (data : Octets) (s : State) : State :=
  sendParts (itemFrames item region ilen ((s.stl.mseq + 2 ^ 32 - 1) % 2 ^ 32) data) s

/-- Send a bulk item where the device mirrors. -/
def mirrorBulk (item : Nat) (data : Octets) (s : State) : State :=
  if s.mirrors then mirrorItem item 0 data.length data s else s

/-- A REG record for a register (R367). -/
def mirrorReg (a : Nat) (s : State) : State :=
  mirror (record 0x0E [(4, le 4 a), (8, le 4 (s.word a).toNat)]) s

/-- The registers that REG records carry. -/
def mirroredRegister (a : Nat) : Bool :=
  a == 0x200B0000 || a == 0x200B000C || a == 0x200B0010 || a == 0x200B0014 || decide (0x200B0100 ≤ a ∧ a < 0x200B0180)
    || decide (0x200F0040 ≤ a ∧ a < 0x200F0080) || a == 0x200D0014

/-- Change a register that is mirrored: a REG record where it changes. DEDUCED, unsafe: log 104. -/
def changeMirrored (a : Nat) (f : State → State) (s : State) : State :=
  let t := f s
  if t.word a = s.word a then t else mirrorReg a t

end Sys2Proof.Machine
end

