-- ==== Sys2Proof/Machine/Gorse.lean ====
section
/-!
DEFINITION. Gorse (R228 to R262): slots and generations, the key hierarchy, received and outgoing frames, counter spaces and
reservations, fault alarms, and the register pages.
-/

namespace Sys2Proof.Machine

/-- Change Gorse's own state. -/
def modSec (f : Sec → Sec) (s : State) : State := { s with sec := f s.sec }

/-! ### Slots (R237) -/

/-- The number of slots. -/
def slotCount : Nat := 576

/-- A slot. -/
def State.slot (s : State) (n : Nat) : Slot := Sparse.get (fun _ => Slot.empty) s.sec.slots n

/-- Change a slot: its generation increments. -/
def changeSlot (n : Nat) (f : Slot → Slot) (s : State) : State :=
  let old := s.slot n
  let new := { f old with gen := (old.gen + 1) % 2 ^ 24 }
  modSec (fun g => { g with slots := Sparse.put (fun _ => Slot.empty) g.slots n new }) s

/-- Write a key into a slot. -/
def writeSlot (n : Nat) (key : Octets) (kind pan : Nat) (s : State) : State :=
  changeSlot n (fun l => { l with valid := true, key := key, kind := kind, pan := pan }) s

/-- Erase a slot. -/
def eraseSlot (n : Nat) (s : State) : State :=
  changeSlot n (fun l => { l with valid := false, key := [], kind := 0, pan := 0 }) s

/-! ### The image as the loader found it (R454 to R460) -/

/-- A field of the header. -/
def State.hdr (s : State) (o n : Nat) : Nat := leAt s.cfg.header o n

/-- NSEC. -/
def State.nsec (s : State) : Nat := s.hdr 0x0E 1

/-- The flash offset of an image slot (R454). -/
def slotBase (slot : Nat) : Nat := 0x180000 * slot

/-- A field of section entry `i`. -/
def State.sec_ (s : State) (i o n : Nat) : Nat := s.hdr (0x80 + 64 * i + o) n

/-- The section types (R460). -/
def secRegs : Nat := 1
def secKeys : Nat := 2
def secRules : Nat := 3
def secAppfw : Nat := 4
def secLpwfw : Nat := 5

/-- TYPE, LOC, SRCOFF, LEN and DEST of a section. -/
def State.secType (s : State) (i : Nat) : Nat := s.sec_ i 0 1
def State.secLoc (s : State) (i : Nat) : Nat := s.sec_ i 1 1
def State.secSrc (s : State) (i : Nat) : Nat := s.sec_ i 4 4
def State.secLen (s : State) (i : Nat) : Nat := s.sec_ i 8 4
def State.secDest (s : State) (i : Nat) : Nat := s.sec_ i 12 4

/-- The entries of a KEYS section (R460). -/
def keyEntries (os : Octets) : List Octets := (List.range (os.length / 32)).map (fun k => (os.drop (32 * k)).take 32)

/-- A KEYS entry as Gorse keeps it. -/
def keyEntryOf (e : Octets) : KeyEntry := { group := octAt e 0 == 1, id := octAt e 1, wrap := e.drop 8 }

/-- A counter space: of a group slot, or of a node's link key. -/
structure Space where
  group : Bool
  id : Nat
  deriving DecidableEq, Repr

/-- Change the marks or the block of a group space. -/
def modGroup (g : Nat) (f : GroupSpace → GroupSpace) (s : State) : State :=
  let new := f (s.groupSpace g)
  modSec (fun c => { c with groups := Sparse.put (fun _ => freshSpace) c.groups g new }) s

/-! ### The key hierarchy (R239 to R242) -/

/-- D_KW of R240. -/
def labelKw : Octets := octetsOf [0x01, 0x57, 0x56, 0x4B, 0x57, 0, 0, 0, 0, 0, 0, 0, 0, 0, 0, 0x80]

/-- D_LK of R242 for an EUI-64. -/
def labelLk (eui : Nat) : Octets := octetsOf [0x01, 0x57, 0x56, 0x4C, 0x4B, 0x00] ++ be 8 eui ++ octetsOf [0x00, 0x80]

/-- A derived link key (R242). -/
def deriveKey (pmk : Octets) (eui : Nat) : Octets := cmac pmk (labelLk eui)

/-- Read the DRK and derive the KWK (R239, R240): without valid customer key fuses there is none. -/
def deriveKwk (s : State) : State :=
  if s.keyFusesValid then
    let w := otpSlot s.customerSlot
    let drk := (List.range 4).flatMap (fun k => le 4 (s.otpWord (w + k)))
    let kwk := cmac drk labelKw
    let s := modSec (fun g => { g with drk := some drk, kwk := some kwk, kwkTried := true }) s
    (s.set SEC_KCV_KCV (beNat ((aes kwk (zeros 16)).take 3))).set SEC_KCV_VALID 1
  else (modSec (fun g => { g with drk := none, kwk := none, kwkTried := true }) s).set SEC_KCV_VALID 0

/-- A PAN's master key, where its register is valid. -/
def State.pmk (s : State) (pan : Nat) : Option Octets := (s.sec.pmks.find? (fun e => e.1 == pan)).map (·.2)

/-- A key goes into a group slot: under another key than the one the slot's space counts for, the space restarts at 0 with
nothing reserved and its marks cleared (R250, R251). DESIGN CHOICE, unsafe: log 178. -/
def groupKey (g : Nat) (key : Octets) (s : State) : State :=
  let old := (s.groupSpace g).last
  if old ≠ [] ∧ old ≠ key then
    let s := modSec (fun c => { c with resvs := c.resvs.filter (fun x => !(x.group && x.id == g)) }) s
    modGroup g (fun _ => { freshSpace with last := key }) (s.set (SEC_GRPn_OCTR_NEXT g) 0)
  else modGroup g (fun x => { x with last := key }) s

/-- Write a key into a slot, a group slot's with what it means for its space. -/
def writeKey (n : Nat) (key : Octets) (kind pan : Nat) (s : State) : State :=
  writeSlot n key kind pan (onlyIf (decide (512 ≤ n)) (groupKey (n - 512) key) s)

/-- The fall-back engine's two computations of a block differ (R255). -/
def fallbackMismatch (s : State) : State := raise SEC_INT_STAT_FBFAULT (count SEC_CNT_FBMISM 1 s)

/-- Unwrap a KEYS entry into its register (R241): whether its integrity check passed. Where the engine's computations differ
the operation ends FAULT (R255). -/
def unwrapEntry (mism : Bool) (e : KeyEntry) (s : State) : Bool × State :=
  if mism then (false, fallbackMismatch s)
  else
    match s.sec.kwk.bind (fun k => keyUnwrap k e.wrap) with
    | none => (false, s)
    | some key =>
      if e.group then (true, writeKey (512 + e.id) key 3 (s.get (SEC_GRPn_CFG_PAN e.id)) s)
      else (true, modSec (fun g => { g with pmks := (e.id, key) :: g.pmks.filter (fun x => x.1 != e.id) }) s)

/-- Unwrap KEYS entries: whether every one passed; `mism` says which of them meet a mismatch. -/
def unwrapAll : List Bool → List KeyEntry → State → Bool × State
  | _, [], s => (true, s)
  | mism, e :: es, s =>
    let r := unwrapEntry (mism.headD false) e s
    let t := unwrapAll mism.tail es r.2
    (r.1 && t.1, t.2)

/-- The wrapped keys of the image as they stand in flash now (R254); those of a section in the configuration NVM are the ones
read at LOAD. DEDUCED, unsafe: log 72. -/
def State.imageKeys (s : State) : List KeyEntry :=
  if s.sec.keys.isEmpty then []
  else
    match (List.range s.nsec).find? (fun i => s.secType i == secKeys) with
    | some i =>
      if s.secLoc i = 0 then
        (keyEntries (s.flashGet (slotBase (s.get CFG_STAT_SLOT) + s.secSrc i) (s.secLen i))).map keyEntryOf
      else s.sec.keys
    | none => []

/-- SLOT_PREPARE (R243): the link key of the record of a hot context; while RUN is 0 the fill is refused (R254). -/
def slotPrepare (n : Nat) (os : Octets) (s : State) : State :=
  let failed (s : State) : State := count SEC_CNT_NOKEY 1 (if (s.slot n).valid then eraseSlot n s else s)
  if !s.is SEC_CTRL_RUN then s
  else
    match nr os nrKind with
    | 1 =>
      match s.pmk (nr os nrPan) with
      | some pmk => writeSlot n (deriveKey pmk (nr os nrEui)) 1 (nr os nrPan) s
      | none => failed s
    | 2 =>
      match s.sec.kwk.bind (fun k => keyUnwrap k (nrOctets os nrWrap)) with
      | some key => writeSlot n key 2 (nr os nrPan) s
      | none => failed s
    | _ => failed s

/-- The known-answer test of the main-engine cores (R254, R590): `fail` are the cores that fail, as bits. -/
def knownAnswerTest (fail : Nat) (s : State) : State :=
  let cores := (List.range 8).foldl (fun v k => v + flag (!bitAt fail k) * 2 ^ k) 0
  onlyIf (cores != 255) (raise SEC_INT_STAT_KATFAIL) (modSec (fun g => { g with cores := cores }) s)

/-- Whether RUN can be set (R254): no alarm stands and at least 6 cores are in service. -/
def State.runAllowed (s : State) : Bool := s.get ⟨0x20090010, 0, 6⟩ == 0 && decide (6 ≤ popCount 8 s.sec.cores)

/-! ### Key resolution (R229) -/

/-- Whether group slot `g` matches a PAN and a key identifier. -/
def State.groupMatches (s : State) (pan kim : Nat) (keyId : Octets) (g : Nat) : Bool :=
  let idx := octAt keyId (keyId.length - 1)
  let src := keyId.take (keyId.length - 1)
  let have_ := le 4 (s.get (SEC_GRPn_SRC_LO_SRC g)) ++ le 4 (s.get (SEC_GRPn_SRC_HI_SRC g))
  s.is (SEC_GRPn_CFG_VALID g) && s.get (SEC_GRPn_CFG_KIM g) == kim && s.get (SEC_GRPn_CFG_PAN g) == pan &&
    idx != 0 && s.get (SEC_GRPn_CFG_KIDX g) == idx && src == have_.take src.length

/-- The slot a secured frame's key stands in, given the node's hot slot (R229). -/
def State.resolveSlot (s : State) (pan kim : Nat) (keyId : Octets) (hot : Option Nat) : Option Nat :=
  if kim = 0 then hot
  else
    match (List.range 64).find? (s.groupMatches pan kim keyId) with
    | some g => if s.is (SEC_GRPn_CFG_LINK g) then hot else some (512 + g)
    | none => none

/-! ### Securing and verifying (R230, R231) -/

/-- The generations that a request for a node captures when it is queued (R235): those of its hot slot and of the valid group slots
of its PAN. -/
def State.keyGens (s : State) (i : Nat) : List (Nat × Nat) :=
  let own := match s.hotOf i with
    | some (n, _) => [(n, (s.slot n).gen)]
    | none => []
  let pan := nr (s.nodeRec i) nrPan % 16
  let groups := (List.range 64).filter (fun g => s.is (SEC_GRPn_CFG_VALID g) && s.get (SEC_GRPn_CFG_PAN g) == pan)
  own ++ groups.map (fun g => (512 + g, (s.slot (512 + g)).gen))

/-- A captured generation no longer stands (R238). -/
def State.genMoved (s : State) (gens : List (Nat × Nat)) (n : Nat) : Bool :=
  gens.any (fun e => e.1 == n && e.2 != (s.slot n).gen)

/-- A slot's key can be used: RUN is 1, a KWK exists (R239) and the slot is valid. -/
def State.keyUsable (s : State) (n : Nat) : Bool := s.is SEC_CTRL_RUN && s.sec.kwk.isSome && (s.slot n).valid

/-- The results of R236. -/
def resPass : Nat := 0
def resMicfail : Nat := 1
def resKeyChanged : Nat := 2
def resNokey : Nat := 3
def resExhausted : Nat := 4
def resNoresv : Nat := 5

/-- Secure a frame: `a` up to the start of m, m, the level and the nonce (R231). At levels 1 to 3 both are authenticated.
PRESUMED, unsafe: log 33. -/
def secureOctets (key nonce : Octets) (level : Nat) (a m : Octets) : Octets :=
  let mic := micLen level
  if level = 0 then a ++ m
  else if encrypts level then a ++ ccmCrypt key nonce m ++ ccmMic key nonce a m mic
  else a ++ m ++ ccmMic key nonce (a ++ m) [] mic

/-- Verify and decrypt a received frame: the plaintext MPDU without its MIC, or none where the MIC differs. -/
def unsecureOctets (key nonce : Octets) (level : Nat) (h : Mhr) (mpdu : Octets) : Option Octets :=
  let mic := micLen level
  let body := mpdu.take (mpdu.length - mic)
  let tag := mpdu.drop (mpdu.length - mic)
  if level = 0 then some mpdu
  else
    let start := h.secureStart
    if encrypts level then
      let a := body.take start
      let m := ccmCrypt key nonce (body.drop start)
      if ccmMic key nonce a m mic = tag then some (a ++ m) else none
    else if ccmMic key nonce body [] mic = tag then some body else none

/-- A TX or EACK request is still to be served. -/
def State.secLive (s : State) (w : SecWho) : Bool :=
  match w with
  | .tx q => s.lnk.down.any (fun d => d.queue == q && d.needsKey)
  | .eack b => s.lnk.acks.any (fun a => a.booking == b && a.secure.isSome)
  | .rx _ => false

/-- A TX or EACK request arrives (R235). -/
def askShared (w : SecWho) (s : State) : State :=
  modSec (fun g => { g with shared := g.shared.filter (fun x => s.secLive x && x != w) ++ [w] }) s

/-- A TX or EACK request holds one of the 32 shared contexts: it is among the 32 that arrived first (R235). -/
def State.hasContext (s : State) (w : SecWho) : Bool := ((s.sec.shared.filter s.secLive).take 32).elem w

/-- A NOKEY result. -/
def nokey (s : State) : State := count SEC_CNT_NOKEY 1 s

/-- A KEY_CHANGED result (R238). -/
def keyChanged (s : State) : State := raise SEC_INT_STAT_KEYCHG (count SEC_CNT_KEYCHG 1 s)

/-- An RX request (R235, R236): verify a frame from a node with the key its header names; `gens` are the generations
captured when the request was queued. DEDUCED, unsafe: log 74. -/
def rxRequest (node : Nat) (gens : List (Nat × Nat)) (pan : Nat) (h : Mhr) (mpdu : Octets) (s : State) : (Nat × Octets) × State :=
  let s := count SEC_CNT_RX 1 s
  let hot := (s.hotOf node).map (·.1)
  match s.resolveSlot pan h.kim h.keyId hot with
  | none => ((resNokey, []), nokey s)
  | some n =>
    if s.genMoved gens n then ((resKeyChanged, []), keyChanged s)
    else if !s.keyUsable n then ((resNokey, []), nokey s)
    else
      let l := s.slot n
      let nonce := ccmNonce (nr (s.nodeRec node) nrEui) h.counter h.level
      match unsecureOctets l.key nonce h.level h mpdu with
      | some os => ((resPass, os), s)
      | none => ((resMicfail, []), count SEC_CNT_MICFAIL 1 s)

/-! ### Counter spaces (R246 to R250) -/

/-- The next value of a space. -/
def State.spaceNext (s : State) (p : Space) : Nat :=
  if p.group then s.get (SEC_GRPn_OCTR_NEXT p.id) else nr (s.nodeRec p.id) nrNext

/-- The highest block of a space whose reservation is durable. -/
def State.spaceBlock (s : State) (p : Space) : Option Nat :=
  if p.group then (s.groupSpace p.id).block else nrReservedBlock (s.nodeRec p.id)

/-- A value of the space may be used: its block's reservation is durable (R246). -/
def State.spaceReady (s : State) (p : Space) : Bool :=
  match s.spaceBlock p with
  | some b => decide (s.spaceNext p / 4096 ≤ b)
  | none => false

/-- The space's next value is at or above LIMIT (R250). -/
def State.spaceExhausted (s : State) (p : Space) : Bool := decide (s.get SEC_LIMIT_LIMIT ≤ s.spaceNext p)

/-- The ARG that names a space in an event record (R337). -/
def Space.arg (p : Space) : Nat := if p.group then 0x80000000 + p.id else p.id

/-- The RESV record of R367. -/
def resvRecord (p : Space) (block : Nat) : Octets :=
  record 0x04 [(1, le 1 (flag p.group)), (2, le 3 p.id), (8, le 4 block)]

/-- RESERVATION (R246): put the reservation record of a block to the journal and, in PRIMARY, to the standby. -/
def reserveBlock (p : Space) (block : Nat) (s : State) : State :=
  let r : Resv :=
    { group := p.group, id := p.id, block := block, ticket := some s.jnl.nextTicket, gate := s.gate, since := s.cycles }
  let s := mirror (resvRecord p block) (jnlOffer recResv (payResv p.id p.group block) s)
  let others := s.sec.resvs.filter (fun x => !(x.group == p.group && x.id == p.id))
  count SEC_CNT_RESV 1 (modSec (fun g => { g with resvs := others ++ [r] }) s)

/-- The reservation of a space under way. -/
def State.resvOf (s : State) (p : Space) : Option Resv :=
  s.sec.resvs.find? (fun r => r.group == p.group && r.id == p.id)

/-- A reservation whose record the journal refused. -/
def State.resvRefused (s : State) (r : Resv) : Bool :=
  match r.ticket with
  | some t => s.jnlRefused t
  | none => true

/-- The block a space needs next (R246): that of its next value where it is not reserved, or the following one once 3,072
values of the block in use have been used. Blocks at or above LIMIT are never needed. -/
def State.blockNeeded (s : State) (p : Space) : Option Nat :=
  let next := s.spaceNext p
  let b := next / 4096
  let want := if !s.spaceReady p then some b
    else if 3072 ≤ next % 4096 ∧ s.spaceBlock p = some b then some (b + 1) else none
  match want with
  | some w => if w * 4096 < s.get SEC_LIMIT_LIMIT then some w else none
  | none => none

/-- Reserve what a space needs, at a request for a value of it: a refused reservation is tried again (R246). A standby
reserves nothing of its own (R370). -/
def reserve (p : Space) (s : State) : State :=
  match (if s.mode = .standby then none else s.blockNeeded p) with
  | none => s
  | some b =>
    match s.resvOf p with
    | some r => if s.resvRefused r then reserveBlock p b s else s
    | none => reserveBlock p b s

/-- A request that would need a value at or above LIMIT (R250): the message goes to queue 59 once for the space.
DEDUCED, unsafe: log 73. -/
def exhausted (p : Space) (s : State) : State :=
  let s := count SEC_CNT_EXHAUST 1 s
  let sent := if p.group then (s.groupSpace p.id).exhSent else nrFlag (s.nodeRec p.id) fExhsent
  if sent then s
  else
    let s := if p.group then modGroup p.id (fun g => { g with exhSent := true }) s
      else updateNode p.id (nrSetFlag fExhsent true) s
    emit 0x242 0 (raise SEC_INT_STAT_EXHAUSTED (pushEvent 59 0x0902 p.arg s))

/-- Assign the next value of a space (R247, R250): KEY_WARN once at LIMIT − 2^20, and the next reservation when due. -/
def takeCounter (p : Space) (s : State) : Nat × State :=
  let v := s.spaceNext p
  let warned := if p.group then (s.groupSpace p.id).warned else nrFlag (s.nodeRec p.id) fWarned
  let s := if p.group then s.set (SEC_GRPn_OCTR_NEXT p.id) (v + 1) else updateNode p.id (nrSet nrNext (v + 1)) s
  let s := if !warned && decide (s.get SEC_LIMIT_LIMIT ≤ v + 2 ^ 20) then
      let s := if p.group then modGroup p.id (fun g => { g with warned := true }) s
        else updateNode p.id (nrSetFlag fWarned true) s
      emit 0x241 0 (raise SEC_INT_STAT_WARN (pushEvent 60 0x0901 p.arg s))
    else s
  (v, reserve p s)

/-- A link-key space restarts at 0 under a new key (R245, R250). -/
def restartSpace (os : Octets) : Octets :=
  nrSetFlag fWarned false (nrSetFlag fExhsent false (nrSet nrNext 0 (nrSet nrReserved 0 os)))

/-- A reservation whose record is durable and, in PRIMARY, acknowledged. -/
def State.resvReady (s : State) (r : Resv) : Bool :=
  match r.ticket with
  | some t => s.jnlDurable t && s.ackedM r.gate
  | none => false

/-- RESERVATION_DURABLE (R246): the oldest reservation whose record is durable and, in PRIMARY, acknowledged.
Whether a node record in DRAM meets an uncorrectable error there (R277) is open. DESIGN CHOICE, safe: log 193. -/
def execReservationDurable (dt : Nat) (s : State) : Host.Outcome State Fault Refusal :=
  command dt (fun s =>
    match s.sec.resvs.find? s.resvReady with
    | none => s
    | some r =>
      let s := modSec (fun g => { g with resvs := g.resvs.filter (fun x => !(x.group == r.group && x.id == r.id)) }) s
      let s := if r.group then modGroup r.id (fun g => { g with block := some r.block }) s
        else useFree (updateNodeIf (s.freeNow % 2 == 1) r.id (nrSet nrReserved (r.block % 2 ^ 20 + 2 ^ 20)) s)
      reserve { group := r.group, id := r.id } s) s

/-- The space of a downstream frame (R246). -/
def State.downSpace (s : State) (d : Down) : Space :=
  if descKim d.desc = 0 ∨ s.is (SEC_GRPn_CFG_LINK (descSlot d.desc)) = true then { group := false, id := d.node.getD 0 }
  else { group := true, id := descSlot d.desc }

/-- A refused reservation is tried again (R246): a request for a value of the space waits, or 3,072 or more values of its current
block are used. -/
def State.resvWanted (s : State) (p : Space) : Bool :=
  s.lnk.down.any (fun d => d.needsKey && s.downSpace d == p)
    || (match s.spaceBlock p with
        | some b => decide (b * 4096 + 3072 ≤ s.spaceNext p)
        | none => false)

/-- RESERVATION_RETRY (R246): every reservation still wanted that was refused 1 ms ago or more is tried again. -/
def execReservationRetry (dt : Nat) (s : State) : Host.Outcome State Fault Refusal :=
  command dt (fun s =>
    forEach (s.sec.resvs.filter (fun r => s.resvRefused r && s.passed r.since msCycles
        && s.resvWanted { group := r.group, id := r.id }))
      (fun r t => reserveBlock { group := r.group, id := r.id } r.block t) s) s

/-! ### Register pages (R256 to R258) -/

/-- The results of PGn_STAT.RESULT. -/
def pgDone : Nat := 1
def pgAborted : Nat := 2
def pgMicfail : Nat := 3
def pgKeyChanged : Nat := 4
def pgDenied : Nat := 5
def pgFault : Nat := 6
def pgBadarg : Nat := 7

/-- A page operation ends with a result. -/
def pageEnd (n result : Nat) (s : State) : State :=
  let s := modSec (fun g => { g with pages := g.pages.filter (fun r => r.page != n) }) s
  let s := (((s.set (PGn_STAT_BUSY n) 0).set (PGn_STAT_RESULT n) result).set (PGn_STAT_ABORT_LATE n) 0).set
    (PGn_CTRL_GO n) 0
  let s := (s.set (PGn_CTRL_ABORT n) 0).set ⟨SEC_INT_STAT_PAGEDONE.addr, 8 + n, 1⟩ 1
  emit 0x243 0 s

/-- The four words of a page's register group as octets, octet 0 in [7:0] of the first. -/
def State.pageWords (s : State) (f : Nat → Fld) : Octets := (List.range 4).flatMap (fun k => le 4 (s.get (f k)))

/-- The page key. -/
def State.pageKey (s : State) (n : Nat) : Octets := s.pageWords (fun k => ⟨(PGn_KEY0 n).addr + 4 * k, 0, 32⟩)

/-- The tag. -/
def State.pageTag (s : State) (n : Nat) : Octets := s.pageWords (fun k => ⟨(PGn_TAG0 n).addr + 4 * k, 0, 32⟩)

/-- The 13 octets of the nonce. -/
def State.pageNonce (s : State) (n : Nat) : Octets :=
  (s.pageWords (fun k => ⟨(PGn_NONCE0 n).addr + 4 * k, 0, 32⟩)).take 13

/-- Put 16 octets into four registers. -/
def putPageWords (a : Nat) (os : Octets) (s : State) : State :=
  forEach (List.range 4) (fun k t => t.setWord (a + 4 * k) (BitVec.ofNat 32 (leAt os (4 * k) 4))) s

/-- Put a MIC or CMAC value into the tag registers. -/
def setTag (n : Nat) (os : Octets) (s : State) : State := putPageWords (PGn_TAG0 n).addr (padTo 16 os) s

/-- A right of a page: bit 0 SLOTUSE, 1 SLOTWR, 2 WRAP, 3 DERIVE. -/
def State.pageRight (s : State) (n b : Nat) : Bool := n == 7 || bitAt (s.get (PGn_OWNER_RIGHTS n)) b

/-- Whether an operation lacks its right or names a slot above 575 (R257). OP 3 with USESLOT 1, OP 4 and 5 without a KWK, OP 6 without
a PMK, and OP 0 to 2 on a slot that is not valid end DENIED too. DESIGN CHOICE, unsafe: log 208. -/
def State.pageDenied (s : State) (n : Nat) : Bool :=
  let slotBad := decide (slotCount ≤ s.get (PGn_OP_SLOT n))
  let use := s.is (PGn_OP_USESLOT n) && (!s.pageRight n 0 || slotBad)
  match s.get (PGn_OP_OP n) with
  | 0 => use
  | 1 => use
  | 2 => use
  | 3 => s.is (PGn_OP_USESLOT n)
  | 4 => !s.pageRight n 2 || s.sec.kwk.isNone
  | 5 => !s.pageRight n 1 || slotBad || s.sec.kwk.isNone
  | 6 => !s.pageRight n 3 || !s.pageRight n 1 || slotBad || (s.pmk (s.get (PGn_OP_PAN n))).isNone
  | 7 => !s.pageRight n 1 || slotBad
  | _ => !s.pageRight n 1 || slotBad

/-- Whether the arguments of a GO are bad (R258): OP 9 to 15, or lengths above 4,096 together. -/
def State.pageBad (s : State) (n : Nat) : Bool :=
  decide (9 ≤ s.get (PGn_OP_OP n)) || decide (4096 < s.get (PGn_ALEN_LEN n) + s.get (PGn_MLEN_LEN n))

/-- The slot an operation names: for a key it uses or writes. -/
def State.pageSlot (s : State) (n : Nat) : Option Nat :=
  if decide (5 ≤ s.get (PGn_OP_OP n)) || s.is (PGn_OP_USESLOT n) then some (s.get (PGn_OP_SLOT n)) else none

/-- The registers of a page that an operation reads, as GO finds them: OP, the lengths, the nonce, the addresses, the key and the
tag. -/
def State.pageLatch (s : State) (n : Nat) : List (Nat × Word) :=
  let base := (PGn_CTRL_GO n).addr
  [4, 0x0C, 0x10, 0x14, 0x18, 0x1C, 0x20, 0x24, 0x28, 0x2C, 0x30, 0x40, 0x44, 0x48, 0x4C, 0x50, 0x54, 0x58, 0x5C].map (fun o =>
    (base + o, s.word (base + o)))

/-- The state as an operation sees it: its page's registers as GO found them. DEDUCED, unsafe: log 70. -/
def State.pageView (s : State) (r : PageRun) : State := forEach r.words (fun e t => t.setWord e.1 e.2) s

/-- GO (R257, R258): arguments are tested before rights, so that BADARG comes before DENIED where both apply; the page's registers are
taken as they stand now, and a write of them while BUSY changes nothing of the operation. DESIGN CHOICE, unsafe: log 70. -/
def pageGo (acc : Access) (n : Nat) (s : State) : State :=
  if s.pageBad n then pageEnd n pgBadarg s
  else if s.pageDenied n then pageEnd n pgDenied s
  else
    let slot := s.pageSlot n
    let gen := match slot with
      | some k => (s.slot k).gen
      | none => 0
    let run : PageRun := { page := n, acc := acc, slot := slot, gen := gen, words := s.pageLatch n }
    modSec (fun g => { g with pages := g.pages ++ [run] }) ((s.set (PGn_GEN n) gen).set (PGn_STAT_BUSY n) 1)

/-- The PAN and kind of a slot that a page writes. -/
def State.slotKind (s : State) (n slot kind : Nat) : Nat × Nat :=
  if 512 ≤ slot then (3, s.get (SEC_GRPn_CFG_PAN (slot - 512))) else (kind, s.get (PGn_OP_PAN n))

/-- The source address of a page. -/
def State.pageSrc (s : State) (n : Nat) : Nat := s.get (PGn_SRC_HI n) * 2 ^ 32 + s.get (PGn_SRC_LO n)

/-- The destination address of a page. -/
def State.pageDst (s : State) (n : Nat) : Nat := s.get (PGn_DST_HI n) * 2 ^ 32 + s.get (PGn_DST_LO n)

/-- The octets an operation reads at SRC. -/
def State.pageInput (s : State) (n : Nat) : Nat :=
  match s.get (PGn_OP_OP n) with
  | 0 => s.get (PGn_ALEN_LEN n) + s.get (PGn_MLEN_LEN n)
  | 1 => s.get (PGn_ALEN_LEN n) + s.get (PGn_MLEN_LEN n)
  | 2 => s.get (PGn_MLEN_LEN n)
  | 3 => 16
  | 5 => 24
  | _ => 0

/-- The AES blocks of an operation, for `SEC_CNT_FBOPS`. -/
def State.pageBlocks (s : State) (n : Nat) : Nat :=
  let blocks (k : Nat) : Nat := (k + 15) / 16
  let a := s.get (PGn_ALEN_LEN n)
  let m := s.get (PGn_MLEN_LEN n)
  match s.get (PGn_OP_OP n) with
  | 0 => 2 + blocks (a + 2) + 2 * blocks m
  | 1 => 2 + blocks (a + 2) + 2 * blocks m
  | 2 => 1 + max 1 (blocks m)
  | 3 => 1
  | 4 => 12
  | 5 => 12
  | 6 => 2
  | _ => 0

/-- What an operation makes of its input (R257): its result, what it writes at DST, the tag, and the slot's new content. -/
structure PageOut where
  result : Nat
  out : Octets
  tag : Option Octets
  write : Option (Option Octets × Nat)
  deriving DecidableEq, Repr

/-- Run an operation on its input. OP 5 whose integrity check fails ends MICFAIL. DESIGN CHOICE, unsafe: log 209. -/
def State.pageCompute (s : State) (n : Nat) (r : PageRun) (input : Octets) : PageOut :=
  let key := if s.is (PGn_OP_USESLOT n) then (s.slot (r.slot.getD 0)).key else s.pageKey n
  let level := s.get (PGn_OP_LEVEL n)
  let a := input.take (s.get (PGn_ALEN_LEN n))
  let m := input.drop (s.get (PGn_ALEN_LEN n))
  let nonce := s.pageNonce n
  let mic := micLen level
  let done : PageOut := { result := pgDone, out := [], tag := none, write := none }
  match s.get (PGn_OP_OP n) with
  | 0 =>
    if encrypts level then { done with out := ccmCrypt key nonce m, tag := some (ccmMic key nonce a m mic) }
    else { done with out := m, tag := some (ccmMic key nonce (a ++ m) [] mic) }
  | 1 =>
    let plain := if encrypts level then ccmCrypt key nonce m else m
    let want := if encrypts level then ccmMic key nonce a plain mic else ccmMic key nonce (a ++ m) [] mic
    if want = (s.pageTag n).take mic then { done with out := plain } else { done with result := pgMicfail }
  | 2 => { done with tag := some (cmac key input) }
  | 3 => { done with out := aes (s.pageKey n) input }
  | 4 => { done with out := keyWrap (s.sec.kwk.getD []) (s.pageKey n) }
  | 5 =>
    match keyUnwrap (s.sec.kwk.getD []) input with
    | some k => { done with write := some (some k, 2) }
    | none => { done with result := pgMicfail }
  | 6 => { done with write := some (some (deriveKey ((s.pmk (s.get (PGn_OP_PAN n))).getD [])
      (leNat ((s.pageNonce n).take 8))), 1) }
  | 7 => { done with write := some (some (s.pageKey n), 2) }
  | _ => { done with write := some (none, 0) }

/-- What a KEY_CHANGED releases: zeros at DST and in the tag (R236, R238). -/
def pageZeros (r : PageRun) (s : State) : State :=
  let v := s.pageView r
  let op := v.get (PGn_OP_OP r.page)
  let n := v.get (PGn_MLEN_LEN r.page)
  let s := onlyIf (op == 0 || op == 2) (setTag r.page []) s
  if 1 < op ∨ n = 0 then s else (engineWrite r.acc (v.pageDst r.page) (zeros n) s).2

/-- A page operation completes (R255, R257, R258): `fault` says that the two computations differed, `memErr` that a read or a
write met an uncorrectable error. -/
def pageComplete (r : PageRun) (fault memErr : Bool) (s : State) : State :=
  let n := r.page
  let v := s.pageView r
  let useSlot := v.is (PGn_OP_USESLOT n) && decide (v.get (PGn_OP_OP n) ≤ 2)
  let changed := match r.slot with
    | some k => useSlot && (s.slot k).gen != r.gen
    | none => false
  let missing := match r.slot with
    | some k => useSlot && !(s.slot k).valid
    | none => false
  if changed then pageEnd n pgKeyChanged (pageZeros r (keyChanged s))
  else if missing then pageEnd n pgDenied s
  else
    let want := v.pageInput n
    let got := if want = 0 then (some [], s) else engineRead r.acc (v.pageSrc n) want s
    match got with
    | (none, s) => pageEnd n pgFault s
    | (some input, s) =>
      let s := count SEC_CNT_FBOPS (v.pageBlocks n) s
      let o := v.pageCompute n r input
      if fault then
        let s := fallbackMismatch s
        let s := if o.out.isEmpty then s else (engineWrite r.acc (v.pageDst n) (zeros o.out.length) s).2
        pageEnd n pgFault (onlyIf o.tag.isSome (setTag n []) s)
      else if memErr then pageEnd n pgFault s
      else
        let w := if o.out.isEmpty then (true, s) else engineWrite r.acc (v.pageDst n) o.out s
        let s := w.2
        if !w.1 then pageEnd n pgFault s
        else
          let s := match o.tag with
            | some t => setTag n t s
            | none => s
          let s := match o.write, r.slot with
            | some (some k, kind), some slot =>
              let kp := v.slotKind n slot kind
              writeKey slot k kp.1 kp.2 s
            | some (none, _), some slot => eraseSlot slot s
            | _, _ => s
          pageEnd n o.result s

/-- The operation of a page under way. -/
def State.pageRun (s : State) (n : Nat) : Option PageRun := s.sec.pages.find? (fun r => r.page == n)

/-- ABORT of a page (R258); `finished` says that it meets completion. -/
def pageAbort (n : Nat) (finished : Bool) (s : State) : State :=
  match s.pageRun n with
  | none => s.set (PGn_CTRL_ABORT n) 0
  | some r =>
    if finished then (pageComplete r false false s).set (PGn_STAT_ABORT_LATE n) 1
    else pageEnd n pgAborted s

/-- CLEAR of a page (R257): ignored while BUSY. -/
def pageClear (n : Nat) (s : State) : State :=
  if (s.pageRun n).isSome then s
  else
    putPageWords (PGn_KEY0 n).addr (zeros 16)
      (putPageWords (PGn_TAG0 n).addr (zeros 16) (putPageWords (PGn_NONCE0 n).addr (zeros 16) s))

/-- The address of a page's PGn_CTRL. -/
def pageCtrlAddr (n : Nat) : Nat := (PGn_CTRL_GO n).addr

/-- The effect of a write of PGn_CTRL. -/
def pageCtrlWrite (acc : Access) (n : Nat) (finished : Bool) (w : Word) (s : State) : State :=
  let busy := (s.pageRun n).isSome
  let s := if wrote w (PGn_CTRL_CLEAR n) then pageClear n s else s
  let s := s.set (PGn_CTRL_CLEAR n) 0
  let s := if wrote w (PGn_CTRL_GO n) && !busy then pageGo acc n s else s
  let s := if wrote w (PGn_CTRL_ABORT n) && busy then pageAbort n finished s else s.set (PGn_CTRL_ABORT n) 0
  s.set (PGn_CTRL_GO n) (flag (s.pageRun n).isSome)

/-- A write of a page's PGn_CTRL. -/
def pageRow (acc : Access) (n : Nat) (w : Word) (finished : Bool) (s : State) : State :=
  writeRow acc (pageCtrlAddr n) w (pageCtrlWrite acc n finished w) s

/-- PAGE_CCM_SECURE (R257). -/
def execPageCcmSecure (dt : Nat) (acc : Access) (page : Nat) (w : Word) (s : State) :
    Host.Outcome State Fault Refusal := command dt (pageRow acc page w false) s

/-- PAGE_CCM_UNSECURE (R257). -/
def execPageCcmUnsecure (dt : Nat) (acc : Access) (page : Nat) (w : Word) (s : State) :
    Host.Outcome State Fault Refusal := command dt (pageRow acc page w false) s

/-- PAGE_CMAC (R257). -/
def execPageCmac (dt : Nat) (acc : Access) (page : Nat) (w : Word) (s : State) : Host.Outcome State Fault Refusal :=
  command dt (pageRow acc page w false) s

/-- PAGE_ECB (R257). -/
def execPageEcb (dt : Nat) (acc : Access) (page : Nat) (w : Word) (s : State) : Host.Outcome State Fault Refusal :=
  command dt (pageRow acc page w false) s

/-- PAGE_WRAP (R257). -/
def execPageWrap (dt : Nat) (acc : Access) (page : Nat) (w : Word) (s : State) : Host.Outcome State Fault Refusal :=
  command dt (pageRow acc page w false) s

/-- PAGE_UNWRAP (R257). -/
def execPageUnwrap (dt : Nat) (acc : Access) (page : Nat) (w : Word) (s : State) : Host.Outcome State Fault Refusal :=
  command dt (pageRow acc page w false) s

/-- PAGE_DERIVE (R257). -/
def execPageDerive (dt : Nat) (acc : Access) (page : Nat) (w : Word) (s : State) : Host.Outcome State Fault Refusal :=
  command dt (pageRow acc page w false) s

/-- PAGE_COPY (R257). -/
def execPageCopy (dt : Nat) (acc : Access) (page : Nat) (w : Word) (s : State) : Host.Outcome State Fault Refusal :=
  command dt (pageRow acc page w false) s

/-- PAGE_ERASE (R257). -/
def execPageErase (dt : Nat) (acc : Access) (page : Nat) (w : Word) (s : State) : Host.Outcome State Fault Refusal :=
  command dt (pageRow acc page w false) s

/-- PAGE_BADARG (R258). -/
def execPageBadarg (dt : Nat) (acc : Access) (page : Nat) (w : Word) (s : State) : Host.Outcome State Fault Refusal :=
  command dt (pageRow acc page w false) s

/-- PAGE_ABORT (R258). -/
def execPageAbort (dt : Nat) (acc : Access) (page : Nat) (w : Word) (finished : Bool) (s : State) :
    Host.Outcome State Fault Refusal := command dt (pageRow acc page w finished) s

/-- PAGE_CLEAR (R257). -/
def execPageClear (dt : Nat) (acc : Access) (page : Nat) (w : Word) (s : State) : Host.Outcome State Fault Refusal :=
  command dt (pageRow acc page w false) s

/-- The page served next (R257): page 7 first, then round robin from the page last served. -/
def State.nextPage (s : State) : Option PageRun :=
  match s.pageRun 7 with
  | some r => some r
  | none => ((List.range 8).map (fun k => (s.sec.served + 1 + k) % 8)).findSome? s.pageRun

/-- PAGE_DONE (R258): the page served next completes. -/
def execPageDone (dt : Nat) (fault memErr : Bool) (s : State) : Host.Outcome State Fault Refusal :=
  command dt (fun s =>
    match s.nextPage with
    | none => s
    | some r => modSec (fun g => { g with served := r.page }) (pageComplete r fault memErr s)) s

/-! ### Fault alarms (R252 to R254) -/

/-- Zeroise Gorse (R253): every slot with its generation, the DRK, the KWK, the PMKs and the page keys; page operations end
FAULT. -/
def zeroise (s : State) : State :=
  let s := forEach (List.range slotCount) eraseSlot s
  let s := modSec (fun g => { g with drk := none, kwk := none, pmks := [], cleared := false }) s
  let s := (forEach (List.range 8) (fun n => putPageWords (PGn_KEY0 n).addr (zeros 16)) s).set SEC_KCV_VALID 0
  forEach (s.sec.pages.map (·.page)) (fun n => pageEnd n pgFault) (s.set SEC_CTRL_RUN 0)

/-- The effect of an alarm source that fires (R253). -/
def alarmFires (source : Nat) (s : State) : State :=
  let s := zeroise s
  let s := raise SEC_INT_STAT_ALARM (count SEC_ALARM_CNT_COUNT 1 (raise ⟨0x20090010, source, 1⟩ s))
  emit 0x240 (if source = 5 then s.taskHop 0x240 else 0) s

/-- FAULT_ALARM (R252, R253): a source of the die fires, or the alarm sources STALL and SW, fired before, take effect. `live`
are the sources now active, as bits. DESIGN CHOICE, unsafe: log 71. -/
def execFaultAlarm (dt : Nat) (source live : Nat) (s : State) : Host.Outcome State Fault Refusal :=
  command dt (fun s =>
    let fired := s.alarms.elem source
    let outside := decide (source < 4)
    let s := { s with alarms := s.alarms.erase source }
    let s := modSec (fun g => { g with live := live % 32 }) s
    if (fired || outside) && (source == 5 || bitAt (s.get ⟨0x20090018, 0, 6⟩) source) then
      let s := alarmFires source s
      if source = 5 ∧ (s.task 0x240).busy ∧ !s.alarms.elem 5 then endTask 0x240 s else s
    else s) s

/-- Alarm source SW fires (R252): it is always armed. -/
def fireSw (s : State) : State := { s with alarms := s.alarms ++ [5] }

/-- Whether each of `n` operations of the fall-back engine meets a mismatch, where no command says it: free values. -/
def State.openFlags (s : State) (n : Nat) : List Bool := (List.range n).map (fun k => Config.freeValue (s.free + k) % 2 == 1)

/-- Free values have been used. -/
def useFrees (n : Nat) (s : State) : State := { s with free := s.free + n }

/-- A hot slot is rebuilt with the fall-back engine (R254): a mismatch leaves it not valid (R243, R255). -/
def slotRebuild (mism : Bool) (n : Nat) (os : Octets) (s : State) : State :=
  if mism && s.is SEC_CTRL_RUN && nr os nrKind != 0 then
    count SEC_CNT_NOKEY 1 (fallbackMismatch (if (s.slot n).valid then eraseSlot n s else s))
  else slotPrepare n os s

/-- The effect of a write of `SEC_CTRL`: RUN is ignored while it cannot be set; ZEROISE fires source SW; setting RUN after an
alarm raises REBUILT once the keys of the image and the hot slots are rebuilt (R254). Whether the fall-back engine meets a mismatch
there (R255) is open. DESIGN CHOICE, safe: log 193. -/
def secCtrlWrite (old w : Word) (s : State) : State :=
  let ran := bitAt old.toNat 0
  let s := if wrote w SEC_CTRL_RUN && !ran && !s.runAllowed then s.set SEC_CTRL_RUN 0 else s
  let s := if s.is SEC_CTRL_RUN && s.sec.cleared then
      let n := s.imageKeys.length
      let s := (unwrapAll (s.openFlags n) s.imageKeys (modSec (fun g => { g with pmks := [] }) (useFrees n s))).2
      let s := forEach s.ctx.hot (fun (h : Nat × Hot) t => slotRebuild (t.freeNow % 2 == 1) h.1 h.2.os (useFree t)) s
      emit 0x244 0 (modSec (fun g => { g with cleared := false }) s)
    else s
  let s := if wrote w SEC_CTRL_ZEROISE then startTask 0x240 (fireSw s) else s
  s.set SEC_CTRL_ZEROISE 0

/-- A write of `SEC_CTRL`. -/
def secCtrlRow (acc : Access) (w : Word) (s : State) : State :=
  writeRow acc 0x20090000 w (secCtrlWrite (s.word 0x20090000) w) s

/-- ZEROISE (R252): a write, or the task. -/
def execZeroise (dt : Nat) (trig : WordTrigger) (s : State) : Host.Outcome State Fault Refusal :=
  command dt (fun s =>
    match trig with
    | .write acc w => secCtrlRow acc w s
    | .task => if s.taskQueued 0x240 then fireSw (takeTask 0x240 s) else s) s

/-- REBUILT (R254): Lapwing sets RUN.
DEDUCED, unsafe: log 72. -/
def execRebuilt (dt : Nat) (acc : Access) (w : Word) (s : State) : Host.Outcome State Fault Refusal :=
  command dt (secCtrlRow acc w) s

/-- ALOCK (R259): the lock bit of `SEC_ALARM_EN`. -/
def execAlock (dt : Nat) (acc : Access) (w : Word) (s : State) : Host.Outcome State Fault Refusal :=
  command dt (secCtrlRow acc w) s

/-- The effect of a write of `SEC_ALARM` (R254): a bit whose source is still active stays; when every bit is 0, Gorse derives
the KWK and runs its known-answer test. -/
def alarmClear (old : Word) (live katFail : Nat) (s : State) : State :=
  let before := old.toNat % 64
  let kept := (List.range 5).foldl (fun v k => if bitAt live k && bitAt before k then v ||| 2 ^ k else v) (s.get ⟨0x20090010, 0, 6⟩)
  let s := modSec (fun g => { g with live := live % 32 }) (s.set ⟨0x20090010, 0, 6⟩ kept)
  if before ≠ 0 ∧ kept = 0 then
    modSec (fun g => { g with cleared := true }) (knownAnswerTest katFail (deriveKwk s))
  else s

/-- ALARM_CLEAR (R254); `live` are the sources now active, `katFail` the cores that fail the test. -/
def execAlarmClear (dt : Nat) (acc : Access) (w : Word) (live katFail : Nat) (s : State) :
    Host.Outcome State Fault Refusal :=
  command dt (fun s => writeRow acc 0x20090010 w (alarmClear (s.word 0x20090010) live katFail) s) s

end Sys2Proof.Machine
end

