-- ==== Sys2Proof/Machine/Array.lean ====
section
/-!
DEFINITION. The arithmetic of the antenna array (R137 to R151): powers in hundredths of a decibel, signatures and their inner
products, projections off a span, and the MMSE weights. A component of a signature or of a correlation is an amplitude at the
ball: its squared magnitude is a power in units of −180 dBm. DESIGN CHOICE, safe: log 164.
-/

namespace Sys2Proof.Machine

/-! ### Decibels -/

/-- The largest number below 2^k, on top of `acc`, that a test admits which holds up to some number: one bit at a time. -/
def bisect (f : Nat → Bool) : Nat → Nat → Nat
  | 0, acc => acc
  | k + 1, acc => bisect f k (if f (acc + 2 ^ k) then acc + 2 ^ k else acc)

/-- A power of 0 in hundredths of a decibel: below every other. -/
def noPower : Int := -100000

/-- A ratio of powers in hundredths of a decibel, rounded down: the largest c with 10^(c / 1000) ≤ x.
DESIGN CHOICE, safe: log 164. -/
def centiBels (x : Nat) : Int := if x = 0 then noPower else bisect (fun c => decide (10 ^ c ≤ x ^ 1000)) 16 0

/-- The ratio that a number of hundredths of a decibel stands for, rounded down. -/
def ratioOf (c : Int) : Nat := bisect (fun x => decide (x ^ 1000 ≤ 10 ^ c.toNat)) 64 0

/-- The unit of a squared amplitude, −180 dBm, below 0 dBm in hundredths of a decibel. -/
def unitBels : Int := 18000

/-! ### Signatures (R148, R149) -/

/-- The signature with the components of non-contributing ports 0. -/
def maskSig (ports : List Nat) (h : Sig) : Sig :=
  (List.range 16).map (fun p => if ports.elem p then (h[p]?).getD (0, 0) else (0, 0))

/-- aᴴb as a Gaussian integer. -/
def sigDot (a b : Sig) : Int × Int :=
  (List.zip a b).foldl (fun z q =>
    (z.1 + q.1.1 * q.2.1 + q.1.2 * q.2.2, z.2 + q.1.1 * q.2.2 - q.1.2 * q.2.1)) (0, 0)

/-- The squared norm of a signature. -/
def sigNorm (a : Sig) : Nat := a.foldl (fun n z => n + z.1.natAbs ^ 2 + z.2.natAbs ^ 2) 0

/-- The squared magnitude of a Gaussian integer. -/
def normSq (z : Int × Int) : Nat := z.1.natAbs ^ 2 + z.2.natAbs ^ 2

/-! ### Determinants of Gaussian integers -/

/-- The product of two Gaussian integers. -/
def gaussMul (a b : Int × Int) : Int × Int := (a.1 * b.1 - a.2 * b.2, a.1 * b.2 + a.2 * b.1)

/-- The determinant of the first rows of a square matrix, expanded along its first row. -/
def gaussDet : Nat → List (List (Int × Int)) → Int × Int
  | 0, _ => (1, 0)
  | _ + 1, [] => (1, 0)
  | n + 1, r :: rs =>
    (List.zip (List.range r.length) r).foldl (fun z e =>
      let m := gaussMul e.2 (gaussDet n (rs.map (fun row => row.eraseIdx e.1)))
      if e.1 % 2 = 0 then (z.1 + m.1, z.2 + m.2) else (z.1 - m.1, z.2 - m.2)) (0, 0)

/-- The inner products of signatures, with a value added on the diagonal. -/
def gram (diag : Nat) (hs : List Sig) : List (List (Int × Int)) :=
  (List.zip (List.range hs.length) hs).map (fun a =>
    (List.zip (List.range hs.length) hs).map (fun b =>
      let z := sigDot a.2 b.2
      if a.1 = b.1 then (z.1 + diag, z.2) else z))

/-- The Gram determinant: the squared volume that signatures span. -/
def gramDet (hs : List Sig) : Nat := (gaussDet hs.length (gram 0 hs)).1.toNat

/-- Signatures that span what a list spans, those that add nothing left out. -/
def spanning (hs : List Sig) : List Sig := hs.foldl (fun b h => if gramDet (b ++ [h]) = 0 then b else b ++ [h]) []

/-- The squared norm of the part of a vector orthogonal to the span of independent signatures (R140): for a unit vector it is
d, which is 1 − ρ² for a single signature. Rounded down. -/
def orthogonal (basis : List Sig) (c : Sig) : Nat := gramDet (basis ++ [c]) / gramDet basis

/-! ### The MMSE weights (R151) -/

/-- A matrix with its column k replaced. -/
def withColumn (m : List (List (Int × Int))) (k : Nat) (v : List (Int × Int)) : List (List (Int × Int)) :=
  (List.zip m v).map (fun e => e.1.set k e.2)

/-- The weights (Σ p_j h_j h_jᴴ + N I)⁻¹ h of R151 up to a positive factor, which combining does not see. A signature here carries
its frame's power (p = ‖h‖² / n, R149), so that p_j times the outer product of the signature scaled to mean square 1 is the outer
product of the signature itself. With
G = N I + HᴴH they are det(G) h − Σ h_k det(G with column k replaced by Hᴴh). With no other signature they are h.
DEDUCED, unsafe: log 165. -/
def mmseWeights (noise : Nat) (hs : List Sig) (h : Sig) : Sig :=
  let g := gram noise hs
  let v := hs.map (fun a => sigDot a h)
  let d := gaussDet hs.length g
  let start := h.map (fun z => gaussMul d z)
  (List.zip (List.range hs.length) hs).foldl (fun w e =>
    let x := gaussDet hs.length (withColumn g e.1 v)
    List.zipWith (fun a z => let m := gaussMul x z; (a.1 - m.1, a.2 - m.2)) w e.2) start

end Sys2Proof.Machine
end

