-- ==== Sys2Proof/Machine/Volt.lean ====
section
/-!
DEFINITION. The core voltage loop (R45 to R56), the canary readings (R43) and the stall alarm (R41, R42).
-/

namespace Sys2Proof.Machine

/-- The highest code: 0.90 V (R47). -/
def codeMax : Nat := 70

/-- The commanded core voltage in mV (R47). -/
def codeMv (code : Nat) : Nat := 550 + 5 * code

/-- `x / y` to the nearest integer, a half upwards. -/
def divRound (x y : Nat) : Nat := (2 * x + y) / (2 * y)

/-- The VOUT_COMMAND word of a code: round(V × 2^−N) (R46). -/
def voutWord (n : Int) (code : Nat) : Nat :=
  if n ≤ 0 then divRound (codeMv code * 2 ^ (-n).toNat) 1000 else divRound (codeMv code) (1000 * 2 ^ n.toNat)

/-- READ_VOUT converted to mV, to the nearest (assumption 20). DESIGN CHOICE, unsafe: log 20. -/
def voutMv (n : Int) (raw : Nat) : Nat :=
  if n ≤ 0 then divRound (raw * 1000) (2 ^ (-n).toNat) else raw * 1000 * 2 ^ n.toNat

/-- READ_VOUT differs from the commanded voltage by more than 15 mV (R54), compared without rounding. -/
def voutMismatch (n : Int) (raw code : Nat) : Bool :=
  let scale : Nat := if n ≤ 0 then 2 ^ (-n).toNat else 1
  let got : Int := if n ≤ 0 then (raw * 1000 : Nat) else (raw * 1000 * 2 ^ n.toNat : Nat)
  decide (15 * scale < (got - ((codeMv code * scale : Nat) : Int)).natAbs)

/-- The exponent N of a VOUT_MODE octet: its low five bits in two's complement (PMBus; assumption 21).
PRESUMED, unsafe: log 21. -/
def voutExponent (mode : Byte) : Int := signed 5 (mode.toNat % 32)

/-- The mode bits select the linear format (PMBus; assumption 21). -/
def voutLinear (mode : Byte) : Bool := mode.toNat / 32 == 0

/-- One of the VOUT, IOUT, INPUT, TEMPERATURE and CML bits is set in STATUS_WORD (PMBus bits 15, 14, 13, 2 and 1;
assumption 21). -/
def statusFault (status : Nat) : Bool :=
  bitAt status 15 || bitAt status 14 || bitAt status 13 || bitAt status 2 || bitAt status 1

/-- Change the voltage loop's own state. -/
def modVolt (f : Volt → Volt) (s : State) : State := { s with volt := f s.volt }

/-- Put a transaction on the PMBus, with PEC when `PWR_VL_CFG.PEC` is 1 (R45). -/
def pmbus (c : PmbusCmd) (data : Nat) (s : State) : State :=
  let tx : PmbusTx := { cmd := c, data := data, pec := s.is PWR_VL_CFG_PEC }
  modVolt (fun v => { v with bus := tx :: v.bus }) s

/-- Start a VOUT_COMMAND write of a code (R47, R52). -/
def startCommand (code : Nat) (st : VoltState) (s : State) : State :=
  let s := pmbus .voutCommand (voutWord s.volt.expo code) s
  modVolt (fun v => { v with inflight := some code, code := code, state := st, next := none }) s

/-- The precedence of R53, highest first. -/
def causeRank (st : VoltState) : Nat :=
  match st with
  | .emerg => 3
  | .up => 2
  | .hold => 1
  | .down => 0
  | .idle => 0
  | .frozen => 4
  | .fixed => 0

/-- Command a code: at once, or after the transaction in flight, where a waiting command of lower precedence gives way
(R52, R53). -/
def commandCode (code : Nat) (st : VoltState) (s : State) : State :=
  match s.volt.inflight with
  | none => startCommand code st s
  | some _ =>
    let keep := match s.volt.next with
      | some (_, w) => decide (causeRank st < causeRank w)
      | none => false
    if keep then s else modVolt (fun v => { v with next := some (code, st) }) s

/-- Whether the loop runs: it is neither idle, frozen nor fixed. -/
def Volt.running (v : Volt) : Bool :=
  match v.state with
  | .idle => false
  | .frozen => false
  | .fixed => false
  | .hold => true
  | .down => true
  | .up => true
  | .emerg => true

/-- Restart the dwell timer (R50). -/
def restartDwell (s : State) : State := modVolt (fun v => { v with dwellFrom := s.cycles }) s

/-- An emergency (R51): the loop enters EMERG and commands CODE 70. -/
def emergency (s : State) : State :=
  if s.volt.running then
    let s := count PWR_VL_CNT_EMERGS 1 s
    modVolt (fun v => { v with state := .emerg }) (commandCode codeMax .emerg s)
  else s

/-- A bit of `PWR_VL_ERR`. -/
def errFld (bit : Nat) : Fld := ⟨0x20010414, bit, 1⟩

/-- Enter FROZEN (R55): one CLEAR_FAULTS, one VOUT_COMMAND of CODE 70 (none where the format is not linear, R46), then
nothing more; source 6 is raised by the flag and the log gets its entry. DESIGN CHOICE, unsafe: log 153. -/
def frozen (errBit : Nat) (command : Bool) (s : State) : State :=
  let s := raise (errFld errBit) s
  let s := raise PWR_VL_ERR_FROZEN s
  let s := modVolt (fun v => { v with state := .frozen, inflight := none, next := none, checkAt := none, alert := none }) s
  let s := pmbus .clearFaults 0 s
  let s := if command then
      modVolt (fun v => { v with code := codeMax }) (pmbus .voutCommand (voutWord s.volt.expo codeMax) s)
    else s
  logEntry 0x0180 (s.word 0x20010414).toNat s

/-- A reading of the eight canaries (R43): the current codes and the lowest since the last read. -/
def readCanaries (slacks : List Nat) (s : State) : State :=
  forEach ((List.range 8).zip slacks) (fun p t =>
    let c := min p.2 255
    lowerTo (PWR_CANARYn_LOW p.1) c (t.set (PWR_CANARYn_SLACK p.1) c)) s

/-- The lowest current canary code. -/
def State.minSlack (s : State) : Nat :=
  (List.range 8).foldl (fun m n => min m (s.get (PWR_CANARYn_SLACK n))) 255

/-- A canary reads below EMERG, or 0 (R51). -/
def State.slackEmergency (s : State) : Bool := s.minSlack == 0 || decide (s.minSlack < s.get PWR_VL_THRESH_EMERG)

/-- What the loop does about a reading of the canaries, in the order of R53: an emergency, a step-up, or nothing but the
restart of the dwell where one reads below DOWN (R50). DESIGN CHOICE, unsafe: log 154. -/
def reactToSlack (s : State) : State :=
  let s := onlyIf (decide (s.minSlack < s.get PWR_VL_THRESH_DOWN)) restartDwell s
  if s.volt.running = false then s
  else if s.slackEmergency then emergency s
  else if s.minSlack < s.get PWR_VL_THRESH_UP then
    let s := count PWR_VL_CNT_UPS 1 s
    commandCode (min codeMax (s.volt.code + s.get PWR_VL_TIME_UPSTEP)) .up s
  else s

/-- The start of the loop (R46, R49): CODE 70 once with EN 0, CODE 70 and HOLD with EN 1, FROZEN without the linear
format, without an answer, or with a fault in STATUS_WORD (R54). -/
def loopStart (ack pecOk : Bool) (mode : Byte) (status vout : Nat) (s : State) : State :=
  let s := pmbus .readVout 0 (pmbus .statusWord 0 (pmbus .voutMode 0 s))
  if ack = false then frozen 0 true s
  else if s.is PWR_VL_CFG_PEC && !pecOk then frozen 1 true s
  else
    let s := modVolt (fun v => { v with expo := voutExponent mode }) s
    let s := (s.set PWR_VL_VOUT_MV (voutMv s.volt.expo vout)).set PWR_VL_VOUT_STATUS status
    if voutLinear mode = false then frozen 4 false s
    else if statusFault status then frozen 3 true s
    else if s.is PWR_VL_CFG_EN then commandCode codeMax .hold (modVolt (fun v => { v with state := .hold }) s)
    else modVolt (fun v => { v with state := .fixed }) (commandCode codeMax .fixed s)

/-- LOOP_START (R49): at the end of LOAD, or after a restart of a frozen loop. -/
def execLoopStart (dt : Nat) (ack pecOk : Bool) (voutMode : Byte) (status vout : Nat) (s : State) :
    Host.Outcome State Fault Refusal :=
  command dt (fun s =>
    let loaded := match s.mode with
      | .reset => false
      | .load => false
      | _ => true
    onlyIf (loaded && s.volt.state == .idle) (loopStart ack pecOk voutMode status vout) s) s

/-- The dwell has expired with every canary at or above DOWN, and nothing of higher precedence stands (R50, R53). -/
def State.mayStepDown (s : State) : Bool :=
  s.volt.state == .hold && s.volt.inflight == none && s.volt.next == none
    && !s.is PWR_VL_FORCE_HOLDMAX
    && s.passed s.volt.dwellFrom (s.get PWR_VL_TIME_DWELL * usCycles)
    && decide (s.get PWR_VL_THRESH_DOWN ≤ s.minSlack)
    && decide (s.get PWR_VL_CFG_VMIN < s.volt.code)

/-- STEP_DOWN (R50): one code lower, never below VMIN (R47). -/
def execStepDown (dt : Nat) (slacks : List Nat) (s : State) : Host.Outcome State Fault Refusal :=
  command dt (fun s =>
    let s := readCanaries slacks s
    if s.mayStepDown then count PWR_VL_CNT_DOWNS 1 (commandCode (s.volt.code - 1) .down s)
    else reactToSlack s) s

/-- STEP_UP (R51): a canary reads below UP. -/
def execStepUp (dt : Nat) (slacks : List Nat) (s : State) : Host.Outcome State Fault Refusal :=
  command dt (fun s => reactToSlack (readCanaries slacks s)) s

/-- EMERGENCY (R51): a canary reads below EMERG or 0. The other causes (a D1 miss, a late decision, a stall) reach the loop
in the steps that meet them. -/
def execEmergency (dt : Nat) (slacks : List Nat) (s : State) : Host.Outcome State Fault Refusal :=
  command dt (fun s =>
    let s := readCanaries slacks s
    if s.slackEmergency then emergency s else reactToSlack s) s

/-- HOLDMAX asks for CODE 70, which is not commanded (R53): a command of higher precedence stood before it. -/
def State.holdmaxDue (s : State) : Bool :=
  s.volt.running && s.is PWR_VL_FORCE_HOLDMAX && decide (s.volt.code ≠ codeMax)

/-- The end of a VOUT_COMMAND write (R50 to R54): the dwell restarts, the check falls due 200 µs later, and a waiting
command starts, or the one that HOLDMAX asks for. -/
def commandDone (s : State) : State :=
  let s := modVolt (fun v => { v with
    inflight := none,
    dwellFrom := s.cycles,
    checkAt := some (s.cycles + 200 * usCycles),
    state := if v.running then .hold else v.state }) s
  match s.volt.next with
  | some (code, st) => startCommand code st s
  | none => onlyIf s.holdmaxDue (startCommand codeMax .hold) s

/-- VOUT_COMMAND_DONE (R52): the write ends; a NACK freezes the loop (R54). -/
def execVoutCommandDone (dt : Nat) (ack : Bool) (s : State) : Host.Outcome State Fault Refusal :=
  command dt (fun s =>
    match s.volt.inflight with
    | none => s
    | some _ => if ack then commandDone s else frozen 0 true s) s

/-- The scheduled check is due: 200 µs after the last command, or 10 ms after the last scheduled check (R54). -/
def State.scheduled (s : State) : Bool :=
  match s.volt.checkAt with
  | some t => decide (t ≤ s.cycles)
  | none => false

/-- A readback check (R54): a scheduled one makes the next fall due 10 ms later, one on an alert alone moves none.
DESIGN CHOICE, unsafe: log 155. -/
def readback (ack pecOk : Bool) (status vout : Nat) (s : State) : State :=
  let s := pmbus .statusWord 0 (pmbus .readVout 0 s)
  let s := modVolt (fun v => { v with
    checkAt := if s.scheduled then some (s.cycles + 10 * msCycles) else v.checkAt, alert := none }) s
  if ack = false then frozen 0 true s
  else if s.is PWR_VL_CFG_PEC && !pecOk then frozen 1 true s
  else
    let s := (s.set PWR_VL_VOUT_MV (voutMv s.volt.expo vout)).set PWR_VL_VOUT_STATUS status
    if voutMismatch s.volt.expo vout s.volt.code then frozen 2 true (onlyIf (statusFault status) (raise (errFld 3)) s)
    else if statusFault status then frozen 3 true s
    else s

/-- A check is due: 200 µs after the last command, every 10 ms, or on an alert (R54). -/
def State.checkDue (s : State) : Bool :=
  (s.volt.running || s.volt.state == .fixed) && s.volt.inflight == none
    && (s.volt.alert.isSome || s.scheduled)

/-- READBACK_CHECK (R54). -/
def execReadbackCheck (dt : Nat) (ack pecOk : Bool) (status vout : Nat) (s : State) :
    Host.Outcome State Fault Refusal :=
  command dt (fun s => onlyIf s.checkDue (readback ack pecOk status vout) s) s

/-- PMB_ALERT (R54): the alert makes a check fall due within 150 µs. -/
def execPmbAlert (dt : Nat) (s : State) : Host.Outcome State Fault Refusal :=
  command dt (fun s => modVolt (fun v => { v with alert := some s.cycles }) s) s

/-- The restart of a frozen loop (R55): CODE 70 is commanded first, then the loop starts as at the end of LOAD.
DESIGN CHOICE, unsafe: log 152. -/
def frozenRestart (w : Word) (s : State) : State :=
  if wrote w PWR_VL_ERR_FROZEN && s.volt.state == .frozen then
    let s := modVolt (fun v => { v with bus := [], state := .idle, dwellFrom := s.cycles }) s
    startCommand codeMax .idle s
  else s

/-- FROZEN_RESTART (R55): a write of `PWR_VL_ERR`. -/
def execFrozenRestart (dt : Nat) (acc : Access) (w : Word) (s : State) : Host.Outcome State Fault Refusal :=
  command dt (writeRow acc 0x20010414 w (frozenRestart w)) s

/-- The effect of a write of `PWR_VL_FORCE`: setting HOLDMAX commands CODE 70 and holds it, clearing it restarts the
dwell. -/
def holdmaxWrite (before : Bool) (s : State) : State :=
  let now := s.is PWR_VL_FORCE_HOLDMAX
  if now && !before then (if s.volt.running then commandCode codeMax .hold s else s)
  else if before && !now then restartDwell s
  else s

/-- HOLDMAX (R50): a write of `PWR_VL_FORCE`. -/
def execHoldmax (dt : Nat) (acc : Access) (w : Word) (s : State) : Host.Outcome State Fault Refusal :=
  command dt (fun s => writeRow acc 0x20010418 w (holdmaxWrite (s.is PWR_VL_FORCE_HOLDMAX)) s) s

/-- An alarm source fires; FAULT_ALARM carries out its effect (R252, R253). -/
def fireAlarm (bit : Nat) (s : State) : State := { s with alarms := s.alarms ++ [bit] }

/-- STALL_ALARM (R41, R42, R51): the flag, the log entry with the site, the Gorse alarm source STALL, and the loop's
emergency. -/
def execStallAlarm (dt : Nat) (site : Nat) (s : State) : Host.Outcome State Fault Refusal :=
  command dt (fun s =>
    let s := raise PWR_VL_ERR_STALL s
    emergency (fireAlarm 4 (logEntry 0x0181 site s))) s

/-- A D1 miss (R58, R59): the flag and the emergency of R51. -/
def d1Miss (s : State) : State := emergency (raise PWR_VL_ERR_D1_MISS s)

/-- A D2 decision committed later than 1 µs (R39, R40): the flag and the emergency of R51. -/
def d2Late (s : State) : State := emergency (raise PWR_VL_ERR_D2_LATE s)

end Sys2Proof.Machine
end

