-- ==== Sys2Proof/Machine/Power.lean ====
section
/-!
DEFINITION. Power domains (R500 to R518): what each holds, when it is required, entry to retention and off, wakes, pad hold
latches and sleep groups.
-/

namespace Sys2Proof.Machine

/-- Domains of kind A: they contain analog circuits (R500). -/
def domainAnalog (d : Nat) : Bool := d == 18 || d == 23 || d == 24 || d == 25 || decide (30 ≤ d)

/-- Domains that hold pads while not on: the last column of R500. -/
def domainHoldsPads (d : Nat) : Bool := d == 6 || d == 18 || d == 23 || d == 24 || d == 25 || decide (30 ≤ d ∧ d ≤ 33)

/-- What a pad hold latch keeps (R500): electrical idle is that of a transmit pair; the other DRAM outputs are those but CKE and the
DRAM reset; the front-end outputs stand at PAT_OFF. -/
inductive HeldPad where
  | nvmCs (high : Bool)
  | nvmSck (high : Bool)
  | nvmIoInput
  | dramCke (high : Bool)
  | dramReset (high : Bool)
  | dramOther (high : Bool)
  | electricalIdle (pairs : Nat)
  | mdc (port : Nat) (high : Bool)
  | mdioReleased (port : Nat)
  | femOff (port : Nat)
  deriving DecidableEq, Repr

/-- The Pads column of R500. -/
def domainPads (d : Nat) : List HeldPad :=
  if d = 6 then [.nvmCs true, .nvmSck false, .nvmIoInput]
  else if d = 18 then [.dramCke false, .dramReset true, .dramOther false]
  else if d = 23 ∨ d = 24 then [.electricalIdle 1, .mdc (d - 23) false, .mdioReleased (d - 23)]
  else if d = 25 then [.electricalIdle 2]
  else if 30 ≤ d ∧ d ≤ 33 then (List.range 4).map (fun k => .femOff (4 * (d - 30) + k))
  else []

/-- The values that the pads of a domain keep while its latch is closed (R510, R511). -/
def State.heldPads (s : State) (d : Nat) : List HeldPad := if s.is (PWR_DOMn_HOLD d) then domainPads d else []

/-- The deadline class of a domain's block is D1 or D2 (R39, R43). -/
def domainDeadline (d : Nat) : Bool :=
  d == domSec || d == domCtx || d == domLnk || d == domStl || d == domDec || d == domLnpc || d == 28 || d == 29
    || decide (30 ≤ d)

/-- The bits of a register that a domain keeps in AON in every state: its CL, RW and RWL fields (R501). -/
def keptMask (a : Nat) : Word :=
  match regRow a with
  | some r => r.fields.foldl (fun m f =>
      let mask : Word := BitVec.ofNat 32 ((2 ^ (f.hi + 1 - f.lo) - 1) * 2 ^ f.lo)
      match f.acc with
      | .cl => m ||| mask
      | .rw => m ||| mask
      | .rwl => m ||| mask
      | .ro => m
      | .wo => m
      | .w1c => m
      | .w1s => m
      | .rc => m) 0
  | none => 0xFFFFFFFF

/-- The status of ports and chains in block 0x0E, which is lost with the domains of those ports and chains: the gains and powers, the
overflow and clip counts, and the isolation that belongs with the coefficients, which stay (R91). -/
def portStatus (a : Nat) : Bool :=
  decide (0x200E0048 ≤ a ∧ a < 0x200E0060) || decide (0x200E0070 ≤ a ∧ a < 0x200E00B0) || decide (0x200E0100 ≤ a ∧ a < 0x200E0180)

/-- Status fields and counters of a range of registers go to their reset values; configuration stays (R501). -/
def loseStatus (lo hi : Nat) (s : State) : State :=
  forEach (s.regs.filter (fun e => decide (lo ≤ e.1 ∧ e.1 < hi) && !portStatus e.1)) (fun e t =>
    t.setWord e.1 ((e.2 &&& keptMask e.1) ||| (resetWord e.1 &&& ~~~keptMask e.1))) s

/-- The register window whose status a domain's off state loses: that of its block (R501, R506). -/
def domainWindow (d : Nat) : Option (Nat × Nat) :=
  let block (n : Nat) : Option (Nat × Nat) := some (0x20000000 + n * 0x10000, 0x20000000 + (n + 1) * 0x10000)
  match d with
  | 4 => block 0x06
  | 5 => block 0x05
  | 6 => block 0x04
  | 18 => block 0x08
  | 19 => block 0x0A
  | 20 => block 0x0B
  | 21 => block 0x0F
  | 22 => some (0x20100000, 0x20110000)
  | 23 => some (0x20100080, 0x20100090)
  | 24 => some (0x20100090, 0x201000A0)
  | 25 => block 0x11
  | 26 => block 0x0D
  | 27 => block 0x0C
  | 30 => block 0x0E
  | _ => none

/-! The fields of a port in the status registers of the rim. -/

/-- The GAIN field of a port. -/
def gainFld (p : Nat) : Fld := ⟨0x200E0048 + 4 * (p / 8), 4 * (p % 8), 4⟩

/-- The input power field of a port. -/
def pwrFld (p : Nat) : Fld := ⟨0x200E0050 + 4 * (p / 4), 8 * (p % 4), 8⟩

/-- The clip count of a port. -/
def clipFld (p : Nat) : Fld := ⟨0x200E0090 + 4 * (p / 2), 16 * (p % 2), 16⟩

/-- The overflow count of a port. -/
def ovfFld (p : Nat) : Fld := ⟨0x200E0070 + 4 * (p / 2), 16 * (p % 2), 16⟩

/-- A field goes to its reset value. -/
def resetField (f : Fld) (s : State) : State := s.set f (extractBits (resetWord f.addr) f.lo f.width)

/-- The ports of an RX domain. -/
def domainPorts (d : Nat) : List Nat := (List.range 4).map (fun k => 4 * (d - domRx0) + k)

/-- An RX domain loses its ports' status, the levels before it and the overflow in progress; the coefficients stay (R91). -/
def losePorts (d : Nat) (s : State) : State :=
  let s := forEach (domainPorts d) (fun p t =>
    resetField (gainFld p) (resetField (pwrFld p) (resetField (clipFld p) (resetField (ovfFld p) t)))) s
  { s with rim := { s.rim with
      gaps := s.rim.gaps.filter (fun p => !(domainPorts d).elem p),
      inUse := s.rim.inUse.filter (fun e => !(domainPorts d).elem e.1) } }

/-- A chain as its domain's off state leaves it: what it owes to a re-enable and the temperature of its calibration
stay. -/
def Chain.lost (c : Chain) : Chain := { Chain.off with owes := c.owes, calTemp := c.calTemp }

/-- What a domain loses in the off state beside its registers: its FIFOs and internal memories (R501). Memory that other
domains, the DRAM or non-volatile cells hold stays. -/
def loseMemories (d : Nat) (s : State) : State :=
  if d = 4 then
    let fresh := State.reset.jnl
    let jnl : Jnl :=
      { fresh with
        words := s.jnl.words, unreadable := s.jnl.unreadable, newer1 := s.jnl.newer1, pos := s.jnl.pos, nextTicket := s.jnl.nextTicket,
        slot := s.jnl.slot, iseq := s.jnl.iseq }
    { s with jnl := jnl }
  else if d = 5 then
    let open_ (r : Nat) : Bool :=
      ((s.fls.regions.find? (fun (e : Nat × FlsRegion) => e.1 == r)).map (·.2.password)).getD (2 ^ 64 - 1) == 2 ^ 64 - 1
    { s with fls := { s.fls with op := none, susp := none, prot := none, unlocked := (List.range 4).filter open_ } }
  else if d = 6 then { s with cfg := { s.cfg with chks := [] } }
  else if d = 8 ∨ d = 9 then
    let lost (h : Hart) : Hart :=
      { h with state := if h.state == .held then .held else .reset, reservation := none, regs := pmpOff, entry := none }
    if d = 8 then { s with app := { s.app with hart0 := lost s.app.hart0 } }
    else { s with app := { s.app with hart1 := lost s.app.hart1 } }
  else if 10 ≤ d ∧ d ≤ 17 then
    { s with sram := Sparse.erase s.sram (fun a => decide (a / 0x40000 = d - 10)) }
  else if d = 18 then
    let fresh := State.reset.dmc
    let dmc : Dmc :=
      { fresh with
        queue := s.dmc.queue, nextId := s.dmc.nextId, kept := s.dmc.kept, oscAt := s.dmc.oscAt, bad := s.dmc.bad,
        served := s.dmc.served }
    { s with dmc := dmc }
  else if d = 19 then { s with ctx := { State.reset.ctx with uses := s.ctx.uses } }
  else if d = 20 then { s with lnk := State.reset.lnk, inbox := [] }
  else if d = 21 then { s with shf := { s.shf with classes := [], input := [], rawWait := none } }
  else if d = 22 then
    let fresh := State.reset.upl
    let upl : Upl :=
      { fresh with up0 := s.upl.up0, up1 := s.upl.up1, upFrom0 := s.upl.upFrom0, upFrom1 := s.upl.upFrom1 }
    { s with upl := upl }
  else if d = 23 ∨ d = 24 then onlyIf (s.portUp (d - 23)) (linkDown (d - 23)) s
  else if d = 25 then { s with stl := Stl.fresh }
  else if d = 26 then { s with cod := { s.cod with ctxs := [] } }
  else if d = 27 then
    forEach (List.range 16) (fun n t =>
      let nf := twos 8 (clamp (-128) 127 ((t.rim.calnf[n]?).getD 0))
      (t.set (LNP_NFn_CALNF n) nf).set (LNP_NFn_NF n) nf)
      { s with lnp := { s.lnp with floors := [], disturbed := [], desEnd := [], desAll := [], csEnd := [] } }
  else if d = 28 ∨ d = 29 then
    { s with lnp := { s.lnp with lanes := s.lnp.lanes.filter (fun (e : Nat × Lane) => e.1 / 32 != d - 28) } }
  else if domRx0 ≤ d ∧ d < domTx0 then losePorts d s
  else if domTx0 ≤ d ∧ d ≤ 41 then
    let t := d - domTx0
    let c := (Sparse.get (fun _ => Chain.off) s.cod.chains t).lost
    { s with
      cod := { s.cod with chains := Sparse.put (fun _ => Chain.off) s.cod.chains t c },
      rim := { s.rim with inUse := s.rim.inUse.filter (fun e => e.1 != 16 + t) } }
  else s

/-- A domain enters off. The DRAM stays in self-refresh (R503, R419). DEDUCED, unsafe: log 16. -/
def domainLose (d : Nat) (s : State) : State :=
  let dram := s.get DMC_STAT_STATE
  let s := match domainWindow d with
    | some (lo, hi) => loseStatus lo hi s
    | none => s
  loseMemories d (onlyIf (d == domDmc) (fun t => t.set DMC_STAT_STATE dram) s)

/-- Remove a domain's transition. -/
def dropTrans (d : Nat) (s : State) : State :=
  modPwr (fun p => { p with trans := p.trans.filter (fun t => t.dom != d) }) s

/-- Begin an entry to a state (R503): the pads are driven to their held values and the latch closes (R510). -/
def beginEntry (d target : Nat) (s : State) : State :=
  let s := s.set (PWR_DOMn_TRANS d) 1
  let s := onlyIf (domainHoldsPads d) (raise (PWR_DOMn_HOLD d)) s
  modPwr (fun p => { p with
    trans := p.trans ++ [{ dom := d, target := target, since := s.cycles, cause := 0, init := 0, again := none }] }) s

/-- The wake record (R516). -/
def wakeRecord (d : Nat) (fromOff : Bool) (cause init : Nat) (s : State) : State :=
  let s := s.set PWR_WAKESRC_DOMAIN d
  let s := s.set PWR_WAKESRC_FROMOFF (flag fromOff)
  let s := s.set PWR_WAKESRC_LOCK (flag s.lock)
  let s := s.set PWR_WAKESRC_CAUSE cause
  let s := s.set PWR_WAKESRC_INITIATOR init
  let s := s.set PWR_WAKETS_TS32 s.ts32
  let s := count (if fromOff then PWR_WAKECNT_FROMOFF else PWR_WAKECNT_FROMRET) 1 s
  if s.is (PWR_DOMn_WEVT d) then emit 0x040 0 (raise PWR_DOM_INT_STAT_WAKE s) else s

/-- A hart whose domain comes back from off restarts at its reset vector, and its supervisor with it (R509,
R484, R546). -/
def restartHart (c : Nat) (s : State) : State :=
  let restart (h : Hart) : Hart :=
    match h.state with
    | .held => { h with reservation := none }
    | _ => { h with state := .running, reservation := none, regs := [], entry := some (0x10000000 + 4 * s.get APP_BOOT_RVEC) }
  let s := { s with lpw := { s.lpw with
    supFrom := (c, s.cycles) :: s.lpw.supFrom.filter (fun (e : Nat × Nat) => e.1 != c) } }
  if s.app.appfw then
    if c = 0 then { s with app := { s.app with hart0 := restart s.app.hart0 } }
    else { s with app := { s.app with hart1 := restart s.app.hart1 } }
  else s

/-- What a port or a chain uses is the stored coefficients again (R91). -/
def reloadCoeffs (keys : List Nat) (s : State) : State :=
  { s with rim := { s.rim with
      inUse := s.rim.coeffs.filter (fun e => keys.elem e.1) ++ s.rim.inUse.filter (fun e => !keys.elem e.1) } }

/-- The ports of an RX domain that comes back from off take their stored coefficients and start at GAIN 8, or at STEP where they
are fixed (R76, R91). -/
def restartGains (d : Nat) (s : State) : State :=
  let s := reloadCoeffs (domainPorts d) { s with rim := { s.rim with
    lowFrom := (domainPorts d).map (fun p => (p, s.cycles)) ++ s.rim.lowFrom.filter (fun e => !(domainPorts d).elem e.1) } }
  forEach (domainPorts d) (fun p t =>
    t.set (gainFld p) (if bitAt (t.get RIM_AGC_FIX_FIX) p then t.get RIM_AGC_FIX_STEP else 8)) s

/-- A domain is on: its pads follow again unless KEEP is 1 (R511), a deadline block's return from off restarts the dwell
(R50), and the wake is recorded (R516). -/
def domainOnNow (d cause init : Nat) (s : State) : State :=
  let fromOff := s.get (PWR_DOMn_STATE d) == 0
  let s := modPwr (fun p => { p with stopped := p.stopped.filter (fun e => e.2 != d) }) (dropTrans d s)
  let s := (s.set (PWR_DOMn_STATE d) 2).set (PWR_DOMn_TRANS d) 0
  let s := onlyIf (!s.is (PWR_DOMn_KEEP d)) (fun t => t.set (PWR_DOMn_HOLD d) 0) s
  let s := onlyIf (fromOff && domainDeadline d) restartDwell s
  let s := onlyIf (fromOff && (d == 8 || d == 9)) (restartHart (d - 8)) s
  let s := onlyIf (fromOff && decide (domRx0 ≤ d ∧ d < domTx0) && !domainAbsent s.variant d) (restartGains d) s
  let s := onlyIf (fromOff && decide (domTx0 ≤ d)) (reloadCoeffs [16 + (d - domTx0)]) s
  wakeRecord d fromOff cause init (useDomain d s)

/-- A chain whose domain is no longer on has no locked synthesiser (R178). -/
def unlockChain (t : Nat) (s : State) : State :=
  let c := Sparse.get (fun _ => Chain.off) s.cod.chains t
  { s with cod := { s.cod with
      chains := Sparse.put (fun _ => Chain.off) s.cod.chains t { c with locked := 0, tuning := none } } }

/-- A domain stands in the state it entered. -/
def enterState (d target : Nat) (s : State) : State :=
  let s := dropTrans d s
  let s := (s.set (PWR_DOMn_STATE d) target).set (PWR_DOMn_TRANS d) 0
  let s := onlyIf (target == 0) (domainLose d) s
  onlyIf (decide (domTx0 ≤ d)) (unlockChain (d - domTx0)) s

/-! ### The course of a sleep group (R513, R514) -/

/-- The members of a group: the bits of its mask that name present domains above 2. -/
def State.members (s : State) (g : Nat) : List Nat :=
  let mask := s.get (PWR_GRPg_MASK_LO_MASK g) + s.get (PWR_GRPg_MASK_HI_MASK g) * 2 ^ 32
  s.domains.filter (fun d => bitAt mask d && !domainFixed d)

/-- The member that a group in COMMIT stops or wakes next: the highest one above the target, or, for target on, the lowest one that
is not on and not locked off (R507, R513). -/
def State.nextMember (s : State) (g : Nat) : Option Nat :=
  let target := s.get (PWR_GRPg_CTRL_TARGET g)
  if target = 2 then (s.members g).find? (fun d => !s.domainOn d && !s.domainLocked d)
  else (s.members g).reverse.find? (fun d => decide (target < s.get (PWR_DOMn_STATE d)))

/-- Every member has reached the target: REQ takes TARGET and the group is DONE (R513). -/
def groupDone (g : Nat) (s : State) : State :=
  let s := forEach (s.members g) (fun d t => t.set (PWR_DOMn_REQ d) (s.get (PWR_GRPg_CTRL_TARGET g))) s
  let s := modPwr (fun p => { p with
    stopped := p.stopped.filter (fun e => e.1 != g),
    doneAt := (g, s.cycles) :: p.doneAt.filter (fun e => e.1 != g) }) s
  let s := (s.set (PWR_GRPg_STAT_STATE g) grpDone).set (PWR_GRPg_CTRL_GO g) 0
  emit 0x041 0 (raise PWR_DOM_INT_STAT_GROUPDONE (freeMembers g s))

/-- A group in COMMIT goes on with its next member; with none left it is DONE. -/
def groupNext (g : Nat) (s : State) : State :=
  match s.nextMember g with
  | some d =>
    if s.get (PWR_GRPg_CTRL_TARGET g) = 2 then beginWake d (wakeCode .group) s
    else beginEntry d (s.get (PWR_GRPg_CTRL_TARGET g)) s
  | none => groupDone g s

/-- A group's last restart has ended: it is REFUSED with LATE (R514). -/
def restoreEnds (g : Nat) (s : State) : State :=
  refuseGroup g (s.get (PWR_GRPg_STAT_REFUSER g)) (s.get (PWR_GRPg_STAT_REASON g)) true s

/-- A restoring group goes on with its next restart; with none left it is REFUSED. -/
def restoreNext (g : Nat) (s : State) : State :=
  if s.pwr.stopped.any (fun e => e.1 == g) then restartNext g s else restoreEnds g s

/-- What the end of a member's entry means to its group (R513, R514). -/
def groupEntered (d : Nat) (s : State) : State :=
  match s.groupOf d with
  | none => s
  | some g =>
    if s.get (PWR_GRPg_STAT_STATE g) ≠ grpCommit ∨ s.get (PWR_GRPg_CTRL_TARGET g) = 2 then s
    else
      let s := modPwr (fun p => { p with stopped := (g, d) :: p.stopped }) s
      if s.get (PWR_GRPg_STAT_REFUSER g) = 0 then groupNext g s
      else restartNext g (s.set (PWR_GRPg_STAT_STATE g) grpRestoring)

/-- What the wake of a member means to its group (R513, R514). -/
def groupWoken (d : Nat) (s : State) : State :=
  match s.groupOf d with
  | none => s
  | some g =>
    if s.get (PWR_GRPg_STAT_STATE g) = grpRestoring then restoreNext g s
    else if s.get (PWR_GRPg_STAT_STATE g) = grpCommit ∧ s.get (PWR_GRPg_CTRL_TARGET g) = 2 then groupNext g s
    else s

/-- An entry completes: the domain is in the state it entered, its group goes on, and a wake that waited begins. -/
def entryDone (d target : Nat) (again : Option (Nat × Nat)) (s : State) : State :=
  let s := groupEntered d (enterState d target s)
  match again with
  | some c => beginWake d c s
  | none => s

/-- A mode requires its domains (R504): their LOCKOFF is cleared, with FORCED and UNLOCKED where it was set, and those not on
are woken before the mode change completes; an entry in progress ends first (R505). A group in COMMIT that would stop one of
them is refused late (R514). DESIGN CHOICE, unsafe: log 196. -/
def requireDomains (m : Mode) (s : State) : State :=
  forEach (s.requiredIn m) (fun d s =>
    let s := match s.groupOf d with
      | some g =>
        onlyIf (s.get (PWR_GRPg_STAT_STATE g) == grpCommit && s.get (PWR_GRPg_CTRL_TARGET g) != 2) (lateRefusal g 0x3F 2) s
      | none => s
    let s := if s.domainLocked d then
        domainError 4 d 0 (raise (PWR_DOMn_FORCED d) (s.set (PWR_DOMn_LOCKOFF d) 0))
      else s
    let s := match s.transOf d with
      | some t => if t.target = 2 then s else groupEntered d (enterState d t.target s)
      | none => s
    if s.domainOn d then s else groupWoken d (domainOnNow d 6 0 s)) s

/-! ### Writes of PWR_DOMn (R502, R507, R511) -/

/-- The effect of a write of `PWR_DOMn` of a domain that is present: REQ outside the States column is refused, LOCKOFF needs REQ
off and a domain not required, IDLE 0 stores 1, RELEASE and a cleared KEEP open the latch of a domain that is on. -/
def domWrite (acc : Access) (n : Nat) (old w : Word) (s : State) : State :=
  let req := extractBits w 0 2
  let oldReq := extractBits old 0 2
  let badReq := !domainAllows n req
  let s := if badReq then domainError 3 n acc.init (s.set (PWR_DOMn_REQ n) oldReq) else s
  let lockWanted := bitAt w.toNat 5
  let mayLock := s.get (PWR_DOMn_REQ n) == 0 && !s.domainRequired n
  let s := if lockWanted && !bitAt old.toNat 5 && !mayLock then
      domainError 2 n acc.init (s.set (PWR_DOMn_LOCKOFF n) 0)
    else s
  let s := if s.get (PWR_DOMn_IDLE n) = 0 then s.set (PWR_DOMn_IDLE n) 1 else s
  let release := bitAt w.toNat 19 || (bitAt old.toNat 18 && !bitAt w.toNat 18)
  let s := s.set (PWR_DOMn_RELEASE n) 0
  let s := if release && s.domainOn n then s.set (PWR_DOMn_HOLD n) 0 else s
  if s.get (PWR_DOMn_REQ n) = 2 ∧ req = 2 ∧ s.domainOn n = false ∧ s.domainLocked n = false ∧ s.is (PWR_DOMn_INGRP n) = false then
    beginWake n (wakeCode .reqWrite) s
  else s

/-- The address of `PWR_DOMn`. -/
def domAddr (n : Nat) : Nat := 0x20010100 + 4 * n

/-- Whether a domain may leave on for REQ (R503). -/
def State.mayEnter (s : State) (d : Nat) : Bool :=
  decide (s.get (PWR_DOMn_REQ d) < 2) && s.domainOn d && !s.domainRequired d && !s.is (PWR_DOMn_INGRP d)
    && s.domainIdle d && s.blockAllowsEntry d
    && !domainAbsent s.variant d

/-- DOMAIN_IDLE (R503): the entry to REQ begins. -/
def execDomainIdle (dt : Nat) (n : Nat) (s : State) : Host.Outcome State Fault Refusal :=
  command dt (fun s => onlyIf (s.mayEnter n) (fun s => beginEntry n (s.get (PWR_DOMn_REQ n)) s) s) s

/-- DOMAIN_ENTRY_DONE (R503): the entry completes with its pad latch closed. -/
def execDomainEntryDone (dt : Nat) (n : Nat) (s : State) : Host.Outcome State Fault Refusal :=
  command dt (fun s =>
    match s.transOf n with
    | some t => if t.target = 2 then s else entryDone n t.target t.again s
    | none => s) s

/-! ### Sleep groups (R512 to R515) -/

/-- The effect of GO (R512): PREPARE, with the members of another group in progress refusing at their vote. -/
def groupGo (acc : Access) (g : Nat) (w : Word) (s : State) : State :=
  if wrote w (PWR_GRPg_CTRL_GO g) then
    if s.get (PWR_GRPg_CTRL_TARGET g) = 3 ∨ s.members g = [] then
      domainError 3 0 acc.init (s.set (PWR_GRPg_CTRL_GO g) 0)
    else
      let s := s.set (PWR_GRPg_STAT_STATE g) grpPrepare
      let s := (s.set (PWR_GRPg_STAT_LATE g) 0).set (PWR_GRPg_STAT_ABORT_LATE g) 0
      let s := (s.set (PWR_GRPg_STAT_REFUSER g) 0).set (PWR_GRPg_STAT_REASON g) 0
      forEach (s.members g) (fun d t =>
        if (t.groupOf d).isSome then t else (t.set (PWR_DOMn_INGRP d) 1).set (PWR_DOMn_GROUP d) g) s
  else s

/-- The effect of ABORT (R515): a refusal in PREPARE, a late refusal in COMMIT; one that meets the stop of the last member, at the same
instant, finds the group DONE and sets ABORT_LATE. -/
def groupAbort (g : Nat) (s : State) : State :=
  let s := s.set (PWR_GRPg_CTRL_ABORT g) 0
  let st := s.get (PWR_GRPg_STAT_STATE g)
  if st = grpPrepare then refuseGroup g 0x3E 7 false s
  else if st = grpCommit then lateRefusal g 0x3E 7 s
  else if st = grpDone ∧ s.pwr.doneAt.elem (g, s.cycles) = true then raise (PWR_GRPg_STAT_ABORT_LATE g) s
  else s

/-- The address of `PWR_GRPg_CTRL`. -/
def grpCtrlAddr (g : Nat) : Nat := 0x20010208 + 0x10 * g

/-- The effect of a write of `PWR_GRPg_CTRL`; while GO reads 1, TARGET is not written and GO has no effect. -/
def grpCtrlWrite (acc : Access) (g : Nat) (old w : Word) (s : State) : State :=
  let busy := bitAt old.toNat 31
  let s := if busy then s.set (PWR_GRPg_CTRL_TARGET g) (extractBits old 0 2) else groupGo acc g w s
  if wrote w (PWR_GRPg_CTRL_ABORT g) then groupAbort g s else s

/-- GROUP_GO (R512): a write of `PWR_GRPg_CTRL`. -/
def execGroupGo (dt : Nat) (acc : Access) (g : Nat) (w : Word) (s : State) : Host.Outcome State Fault Refusal :=
  command dt (fun s => writeRow acc (grpCtrlAddr g) w (grpCtrlWrite acc g (s.word (grpCtrlAddr g)) w) s) s

/-- GROUP_ABORT (R515): a write of `PWR_GRPg_CTRL`. -/
def execGroupAbort (dt : Nat) (acc : Access) (g : Nat) (w : Word) (s : State) : Host.Outcome State Fault Refusal :=
  command dt (fun s => writeRow acc (grpCtrlAddr g) w (grpCtrlWrite acc g (s.word (grpCtrlAddr g)) w) s) s

/-- Every member has agreed: COMMIT begins with its first member (R513). -/
def beginCommit (g : Nat) (s : State) : State := groupNext g (s.set (PWR_GRPg_STAT_STATE g) grpCommit)

/-- GROUP_VOTE_END (R512): the last member votes. `busy` lists the application cores that are still not idle. The first refuser is the
lowest-numbered member that refused at once, else the lowest-numbered busy one (assumption 22). A group of target on needs no
vote (R513). -/
def execGroupVoteEnd (dt : Nat) (g : Nat) (busy : List Nat) (s : State) : Host.Outcome State Fault Refusal :=
  command dt (fun s =>
    if s.get (PWR_GRPg_STAT_STATE g) ≠ grpPrepare then s
    else if s.get (PWR_GRPg_CTRL_TARGET g) = 2 then beginCommit g s
    else
      let votes := (s.members g).filterMap (fun d => (s.vote g d (busy.elem d)).map (fun r => (d, r)))
      let first := match votes.find? (fun v => v.2 != 1) with
        | some v => some v
        | none => votes.head?
      match first with
      | some (d, r) => refuseGroup g d r false s
      | none => beginCommit g s) s

/-- The rest of a COMMIT: the entry or wake under way ends, and the members after it follow, each when the one before it has ended. -/
def commitRest : Nat → Nat → State → State
  | 0, _, s => s
  | n + 1, g, s =>
    if s.get (PWR_GRPg_STAT_STATE g) ≠ grpCommit then s
    else
      match s.nextMember g with
      | none => groupDone g s
      | some d =>
        let target := s.get (PWR_GRPg_CTRL_TARGET g)
        commitRest n g
          (if target = 2 then groupWoken d (domainOnNow d 5 0 s) else groupEntered d (enterState d target s))

/-- GROUP_COMMIT (R513): the members that are left stop in descending order, or are woken in ascending order for target on, and
the group is DONE. A COMMIT that has met a late refusal does not go on. -/
def execGroupCommit (dt : Nat) (g : Nat) (s : State) : Host.Outcome State Fault Refusal :=
  command dt (fun s =>
    onlyIf (s.get (PWR_GRPg_STAT_STATE g) == grpCommit && s.get (PWR_GRPg_STAT_REFUSER g) == 0)
      (commitRest (domainCount + 1) g) s) s

/-- A member's entry under way ends, so that the group restores (R514). -/
def endEntries (g : Nat) (s : State) : State :=
  match s.pwr.trans.find? (fun t => t.target != 2 && s.groupOf t.dom == some g) with
  | some t => groupEntered t.dom (enterState t.dom t.target s)
  | none => s

/-- The rest of RESTORING: each member that stopped restarts, the last stopped first. -/
def restoreRest : Nat → Nat → State → State
  | 0, _, s => s
  | n + 1, g, s =>
    if s.get (PWR_GRPg_STAT_STATE g) ≠ grpRestoring then s
    else
      match s.pwr.stopped.find? (fun e => e.1 == g) with
      | none => restoreEnds g s
      | some e => restoreRest n g (groupWoken e.2 (domainOnNow e.2 5 0 s))

/-- GROUP_REFUSED (R514): a late refusal (of `late`, where the refusal and its end are one step) ends: the member mid-entry finishes its
entry, the stopped members restart in the reverse of their stopping order, and the group is REFUSED with LATE. -/
def execGroupRefused (dt : Nat) (g : Nat) (late : Option Nat) (s : State) : Host.Outcome State Fault Refusal :=
  command dt (fun s =>
    let s := match late with
      | some d => if s.get (PWR_GRPg_STAT_STATE g) = grpCommit then lateRefusal g d 6 s else s
      | none => s
    let s := onlyIf (s.get (PWR_GRPg_STAT_STATE g) == grpCommit && s.get (PWR_GRPg_STAT_REFUSER g) != 0) (endEntries g) s
    restoreRest (domainCount + 1) g s) s

/-- What a wake cause says holds (R504, R509): an interrupt is pending and enabled for the core, REQ asks for on, the mode requires the
domain, or a booking holds the chain. An access, a delivery and a group come from outside the domain. -/
def State.causeHolds (s : State) (n : Nat) : WakeCause → Bool
  | .access _ => true
  | .hedgerow => true
  | .group => true
  | .interrupt => (n == 8 && s.hartPending 0) || (n == 9 && s.hartPending 1)
  | .reqWrite => s.get (PWR_DOMn_REQ n) == 2
  | .mode => s.domainRequired n
  | .booking => decide (domTx0 ≤ n) && s.cod.placed.any (fun b => b.chain == n - domTx0)

/-- DOMAIN_WAKE (R505, R509): work for a domain that is not on wakes it; one that is locked off stays off (R507); work for a
member of a group in progress refuses the group. An interrupt that is pending and enabled for an application core comes by this row. -/
def execDomainWake (dt : Nat) (n : Nat) (cause : WakeCause) (s : State) : Host.Outcome State Fault Refusal :=
  command dt (fun s =>
    if !s.causeHolds n cause || domainAbsent s.variant n then s
    else wakeFor n cause (groupAccess n s)) s

end Sys2Proof.Machine
end

