-- ==== Sys2Proof/Machine/Lanes.lean ====
section
/-!
DEFINITION. The lane pool (R133 to R160): the noise floor, preamble detection and lane claims, the lane state machine,
co-reception and capture, and the frame report.
-/

namespace Sys2Proof.Machine

/-! ### Ports -/

/-- The number of receive ports of a variant (R1). -/
def State.portCount (s : State) : Nat :=
  match s.variant with
  | .wv5280 => 16
  | .wv5264 => 16
  | .wv5248 => 8

/-- The number of lanes of a variant. -/
def State.laneCount (s : State) : Nat :=
  match s.variant with
  | .wv5280 => 64
  | .wv5264 => 32
  | .wv5248 => 32

/-- The field of `RIM_ISO` for chain t and port p. -/
def isoFld (t p : Nat) : Fld := ⟨0x200E0100 + 4 * ((16 * t + p) / 4), 8 * ((16 * t + p) % 4), 8⟩

/-- A pair of chain and port was measured below 25 dB (R89). -/
def State.isoLow (s : State) (t p : Nat) : Bool := decide (s.get (isoFld t p) < 25)

/-- The bookings between step 1 and step 8 of R84. -/
def State.onAir (s : State) : List Booking := s.cod.placed.filter (fun b => decide (1 ≤ b.step))

/-- A chain. -/
def State.chain (s : State) (t : Nat) : Chain := Sparse.get (fun _ => Chain.off) s.cod.chains t

/-- A port is blanked: by a transmission of its own chain or of one it is poorly isolated from (R84, R89), or by a
calibration (R93, R94). -/
def State.portBlanked (s : State) (p : Nat) : Bool :=
  s.onAir.any (fun b => b.chain == p || s.isoLow b.chain p)
    || (match s.rim.rxCal with
        | some (q, _) => q == p
        | none => false)
    || (decide (p < 8) && (s.chain p).recal.isSome)

/-- The port is enabled by the image and by the runtime mask (R95). -/
def State.portRuns (s : State) (p : Nat) : Bool :=
  decide (p < s.portCount) && bitAt (s.get RIM_PORT_EN_RXEN) p && bitAt (s.get RIM_PORT_RUN_RXRUN) p

/-- The port contributes to lanes and detectors (R86, R96, R137). -/
def State.portContributes (s : State) (p : Nat) : Bool :=
  s.portRuns p && s.domainOn (domRx0 + p / 4) && !s.portBlanked p && !s.rim.gaps.elem p

/-- The contributing ports. -/
def State.contributing (s : State) : List Nat := (List.range 16).filter s.portContributes

/-! ### Lanes -/

/-- Change the lane pool's own state. -/
def modLnp (f : Lnp → Lnp) (s : State) : State := { s with lnp := f s.lnp }

/-- A lane. -/
def State.lane (s : State) (n : Nat) : Lane := Sparse.get (fun _ => Lane.idle) s.lnp.lanes n

/-- Put a lane. -/
def setLane (n : Nat) (l : Lane) (s : State) : State :=
  modLnp (fun p => { p with lanes := Sparse.put (fun _ => Lane.idle) p.lanes n l }) s

/-- Change a lane. -/
def modLane (n : Nat) (f : Lane → Lane) (s : State) : State := setLane n (f (s.lane n)) s

/-- The lanes on a channel that are not IDLE and not LOST, with their numbers. A LOST lane that has moved to REPORT counts again
until its report is accepted. DESIGN CHOICE, unsafe: log 206. -/
def State.lanesOn (s : State) (ch : Nat) : List (Nat × Lane) :=
  s.lnp.lanes.filter (fun p => p.2.ch == ch && p.2.st != .idle && p.2.st != .lost)

/-- A lane is in EST or SFDS. -/
def Lane.unconfirmed (l : Lane) : Bool := l.st == .est || l.st == .sfds

/-- Channel k is disturbed in the noise window in progress (R135). -/
def disturb (chs : List Nat) (s : State) : State :=
  modLnp (fun p => { p with disturbed := (List.range 27).filter (fun k => p.disturbed.elem k || chs.elem k) }) s

/-- All channels. -/
def channels : List Nat := (List.range 16).map (· + 11)

/-- Unbind a lane from its decoder context; output still pending is discarded (R161). -/
def unbind (n : Nat) (s : State) : State :=
  { s with cod := { s.cod with ctxs := s.cod.ctxs.filter (fun c => c.lane != n) } }

/-- A lane is in one of the states from EST to FINAL, by which a clear channel assessment finds a carrier (R207). -/
def Lane.busy (l : Lane) : Bool := l.st != .idle && l.st != .report

/-- A lane that was in EST to FINAL leaves: a CCA window that has begun has seen it (R207). -/
def laneLeaves (l : Lane) (s : State) : State :=
  if l.busy then modLnp (fun p => { p with csEnd := (l.ch, s.cycles) :: p.csEnd.filter (fun e => e.1 != l.ch) }) s else s

/-- A lane becomes IDLE. -/
def freeLane (n : Nat) (s : State) : State := setLane n Lane.idle (laneLeaves (s.lane n) (unbind n s))

/-! ### Signatures (R148, R149) -/

/-- ρ(a, b) > pct / 100 (R149), decided exactly. -/
def rhoAbove (a b : Sig) (pct : Nat) : Bool :=
  decide (pct ^ 2 * sigNorm a * sigNorm b < 10000 * normSq (sigDot a b))

/-- ρ(a, b) in hundredths, rounded to the nearest (assumption 30). DEDUCED, unsafe: log 30. -/
def rhoHundredths (a b : Sig) : Nat :=
  let d := sigNorm a * sigNorm b
  if d = 0 then 0 else (isqrt (40000 * normSq (sigDot a b) / d) + 1) / 2

/-- Round a quotient to the nearest integer, halves away from zero. -/
def roundAway (x : Int) (y : Nat) : Int := if y = 0 then 0 else roundDiv x y

/-- The quantised form of a signature (R148): rotated to the reference component, scaled to 127. -/
def quantise (ports : List Nat) (h : Sig) : Sig :=
  match ((List.range 16).filter (fun p => ports.elem p)).find? (fun p => (h[p]?).getD (0, 0) != (0, 0)) with
  | none => List.replicate 16 (0, 0)
  | some p =>
    let r := (h[p]?).getD (0, 0)
    let turned := h.map (fun z => (z.1 * r.1 + z.2 * r.2, z.2 * r.1 - z.1 * r.2))
    let top := turned.foldl (fun m z => max m (max z.1.natAbs z.2.natAbs)) 0
    turned.map (fun z => (roundAway (127 * z.1) top, roundAway (127 * z.2) top))

/-- The octets of a quantised signature (R155): I then Q of every port. -/
def sigOctets (h : Sig) : Octets := h.flatMap (fun z => [octet (twos 8 z.1), octet (twos 8 z.2)])

/-- The stored signature s rotated by the phase of sᴴh and scaled to the norm of h (R147), in the unit of h, rounded
(assumption 30). -/
def alignStored (st h : Sig) : Sig :=
  let c := sigDot st h
  let den := normSq c * sigNorm st
  if den = 0 then h
  else
    let scale : Int := isqrt (sigNorm h * 2 ^ 120 / den)
    st.map (fun z =>
      (roundAway ((z.1 * c.1 - z.2 * c.2) * scale) (2 ^ 60), roundAway ((z.1 * c.2 + z.2 * c.1) * scale) (2 ^ 60)))

/-- (h + s') / 2 (R147). DESIGN CHOICE, unsafe: log 46. -/
def blendSig (h st : Sig) : Sig :=
  List.zipWith (fun a b => (roundAway (a.1 + b.1) 2, roundAway (a.2 + b.2) 2)) h st

/-! ### Desense (R88, R182) -/

/-- The row of R88 that a transmission on c puts on channel k: 2 for its own channel, 1 for a neighbour, 0 otherwise; WIDE
makes the neighbours take the first row (R182). -/
def State.desenseRow (s : State) (c k : Nat) : Nat :=
  if k = c then 2
  else if k = c + 1 ∨ c = k + 1 then (if s.is COD_TXCFG_WIDE then 2 else 1)
  else 0

/-- The most severe row any desense interval puts on channel k. -/
def State.desenseOf (s : State) (k : Nat) : Nat :=
  (s.cod.placed.filter (fun b => b.des)).foldl (fun m b => max m (s.desenseRow b.req.ch k)) 0

/-! ### Reports (R155, R156) -/

/-- The status codes of a report (R155). -/
def stOk : Nat := 0
def stFcsBad : Nat := 1
def stPhrBad : Nat := 2
def stTrunc : Nat := 3
def stCaptured : Nat := 4
def stOvf : Nat := 5
def stTxBlank : Nat := 6
def stLoUnlock : Nat := 7

/-- LQI: floor(255 × c) of the mean correlation, clamped (R156). With no symbol despread the manual gives no mean: a free
value (assumption 13). -/
def State.lqiOf (s : State) (l : Lane) : Nat :=
  if l.corrCount = 0 then s.freeNow % 256
  else min 255 (255 * l.corrSum / (l.corrCount * 65536))

/-- The other lanes of a channel past their SFD, as NCO and COREC count them; LOST lanes are left out. DESIGN CHOICE, unsafe: log
207. DESIGN CHOICE, unsafe: log 207. -/
def State.pastSfd (s : State) (n : Nat) : List (Nat × Lane) :=
  (s.lanesOn (s.lane n).ch).filter (fun p => p.1 != n && p.2.sfd)

/-- The 52 octets of a frame report (R155). -/
def State.reportOf (s : State) (n : Nat) (l : Lane) : Octets :=
  let nco := min 3 (s.pastSfd n).length
  let w0 := l.sfdts % 2 ^ 64
  let w1 := flag l.lock + 2 * l.mode + 16 * l.status + 128 * flag l.desense + 256 * l.ch + 8192 * nco
    + 32768 * flag l.captr + 65536 * twos 8 l.rssi + 2 ^ 24 * twos 8 l.snr + 2 ^ 32 * s.lqiOf l
    + 2 ^ 40 * (n % 64) + 2 ^ 46 * flag l.sigmix + 2 ^ 47 * flag l.sigmove
    + 2 ^ 48 * (l.ports.foldl (fun m p => m + 2 ^ p) 0)
  let w2 := (if l.status = stPhrBad then 0 else l.len) + 4096 * (l.rho % 128)
  le 8 w0 ++ le 8 w1 ++ le 4 w2 ++ sigOctets (quantise l.ports l.h)

/-- A lane delivers its report (R143, R155): its counters, flags and events. -/
def deliver (n status : Nat) (s : State) : State :=
  let l := { s.lane n with st := .report, status := status }
  let old := s.lane n
  let s := laneLeaves old (onlyIf (l.corrCount == 0) useFree (setLane n { l with report := s.reportOf n l } s))
  let s := onlyIf l.desense (count LNP_CNT_DESENSE 1) s
  match status with
  | 0 =>
    let f : RxFrame :=
      { lane := n, ch := l.ch, mode := l.mode, mpdu := l.fin.take (l.len - fcsLen l.mode), sfdts := l.sfdts,
        lock := l.lock, rssi := l.rssi, snr := l.snr, lqi := octAt (s.lane n).report 12, sig := quantise l.ports l.h,
        sigmix := l.sigmix, sigmove := l.sigmove, desense := l.desense, look := l.look, readPan := l.readPan, gens := l.gens,
        revised := l.revised, start := l.lastChip - frameCycles l.mode l.len, lastChip := l.lastChip, verdict := none }
    let s := onlyIf (s.mode == .standby) (fun s => { s with stl := { s.stl with okReports := s.stl.okReports ++ [s.ts] } }) s
    emit 0x300 0 (count LNP_CNT_OK 1 { s with inbox := s.inbox ++ [f] })
  | 1 => count LNP_CNT_FCS 1 s
  | 2 => count LNP_CNT_PHR 1 s
  | 3 => emit 0x305 0 (raise LNP_INT_STAT_TRUNC (count LNP_CNT_TRUNC 1 s))
  | _ => s

/-- Abort a lane (R143, R144): one that has found its SFD reports, one that has not is released. -/
def abortLane (n status : Nat) (counter : Fld) (s : State) : State :=
  let l := s.lane n
  let deliver (n status : Nat) (s : State) : State := deliver n status (unbind n s)
  match l.st with
  | .idle => s
  | .report => s
  | .lost => count counter 1 (deliver n status s)
  | .est => count counter 1 (freeLane n s)
  | .sfds => count counter 1 (if l.sfd then deliver n status s else freeLane n s)
  | .phr => count counter 1 (deliver n status s)
  | .psdu => count counter 1 (deliver n status s)
  | .final => count counter 1 (deliver n status s)

/-- Abort every lane the test admits. -/
def abortLanes (p : Lane → Bool) (status : Nat) (counter : Fld) (s : State) : State :=
  forEach ((s.lnp.lanes.filter (fun e => p e.2)).map (·.1)) (fun n t => abortLane n status counter t) s

/-- A port is blanked or stopped: lanes continue without it (R86, R146), the noise window is disturbed, and a
capture of the port marks its block (R98). -/
def dropPort (p : Nat) (s : State) : State :=
  let s := disturb channels s
  modLnp (fun q => { q with lanes := q.lanes.map (fun e =>
    let ports := e.2.ports.filter (· != p)
    (e.1, { e.2 with ports := ports, h := maskSig ports e.2.h, stored := e.2.stored.map (maskSig ports) })) })
    { s with rim := { s.rim with cap := { s.rim.cap with blanked := p :: s.rim.cap.blanked } } }

/-! ### The noise floor (R135, R136) -/

/-- The noise floor of a channel. -/
def State.floor (s : State) (ch : Nat) : NoiseFloor :=
  ((s.lnp.floors.find? (fun e => e.1 == ch)).map (·.2)).getD { count := 0, sum := 0, nf := 0 }

/-- Units of 2^−16 dBm rounded to whole dBm. -/
def toDbm (x : Int) : Int := roundDiv x 65536

/-- Show a noise floor in `LNP_NFn`. -/
def showFloor (ch : Nat) (s : State) : State :=
  let f := s.floor ch
  let n := ch - 11
  let s := s.set (LNP_NFn_QEST n) (min 64 f.count)
  let s := s.set (LNP_NFn_VALID n) (flag (decide (64 ≤ f.count)))
  s.set (LNP_NFn_NF n) (if f.count < 64 then s.get (LNP_NFn_CALNF n) else twos 8 (clamp (-128) 127 (toDbm f.nf)))

/-- Put a noise floor. -/
def setFloor (ch : Nat) (f : NoiseFloor) (s : State) : State :=
  showFloor ch (modLnp (fun p => { p with floors := Sparse.put (fun _ => { count := 0, sum := 0, nf := 0 }) p.floors ch f }) s)

/-- One quiet-channel estimate, in units of 2^−16 dBm (R135; assumption 31: the mean is taken of the values in dBm).
DEDUCED, unsafe: log 31. -/
def takeEstimate (ch : Nat) (e : Int) (s : State) : State :=
  let f := s.floor ch
  let sum := f.sum + e
  setFloor ch
    (if f.count < 63 then { count := f.count + 1, sum := sum, nf := f.nf }
     else if f.count = 63 then { count := 64, sum := sum, nf := sum / 64 }
     else { f with nf := f.nf + (e - f.nf) / 64 }) s

/-- Every enabled channel has VALID set. -/
def State.nfReady (s : State) : Bool :=
  channels.all (fun k => !bitAt (s.get LNP_CHEN_CHEN) (k - 11) || s.is (LNP_NFn_VALID (k - 11)))

/-- The channels that something disturbs now: one a lane holds, and all while a desense interval runs, which affects every
channel by some row of R88, or while a port is blanked. -/
def State.disturbedNow (s : State) : List Nat :=
  let all := (List.range s.portCount).any s.portBlanked || s.cod.placed.any (fun b => b.des)
  channels.filter (fun k => all || s.lnp.lanes.any (fun e => e.2.ch == k && e.2.st != .idle))

/-- NOISE_WINDOW_END (R135). `quiet` gives, for each channel whose detection metric stayed below the threshold, the mean
power per unblanked port in units of 2^−16 dBm. -/
def execNoiseWindowEnd (dt : Nat) (quiet : List (Nat × Int)) (s : State) : Host.Outcome State Fault Refusal :=
  command dt (fun s =>
    let w := s.ts / 5120
    if w = s.lnp.window then s
    else
      let before := s.nfReady
      let whole := w == s.lnp.window + 1 && !s.lnp.stepped && s.domainOn domLnpc
      let good := quiet.filter (fun e =>
        whole && channels.elem e.1 && !s.lnp.disturbed.elem e.1 && !s.disturbedNow.elem e.1)
      let s := forEach good (fun e t => takeEstimate e.1 e.2 t) s
      let s := modLnp (fun p => { p with window := w, stepped := false, disturbed := s.disturbedNow }) s
      if s.nfReady && !before then emit 0x307 0 (raise LNP_INT_STAT_NFREADY s) else s) s

/-- Restart every channel's noise floor at CALNF (R135, R136). -/
def reseedFloors (s : State) : State :=
  forEach channels (fun k t => setFloor k { count := 0, sum := 0, nf := 0 } t) s

/-- NF_RESEED (R136): a write of `LNP_NFCTL`, or the task. -/
def execNfReseed (dt : Nat) (src : WordTrigger) (s : State) : Host.Outcome State Fault Refusal :=
  command dt (fun s =>
    match src with
    | .write acc w =>
      writeRow acc 0x200C0028 w (fun t =>
        if wrote w LNP_NFCTL_RESEED then (reseedFloors t).set LNP_NFCTL_RESEED 0 else t) s
    | .task => if s.taskQueued 0x300 then endTask 0x300 (reseedFloors s) else s) s

/-! ### Detection and claims (R137 to R141) -/

/-- Detection may run on a channel (R137, R88, R97, R58). -/
def State.detects (s : State) (ch : Nat) : Bool :=
  let mode := match s.mode with
    | .solo => true
    | .primary => true
    | .standby => true
    | .takeover => true
    | .holdover => true
    | .maker => true
    | .reset => false
    | .load => false
    | .selftest => false
    | .lastgasp => false
    | .update => false
    | .safe => false
  mode && decide (11 ≤ ch ∧ ch ≤ 26) && bitAt (s.get LNP_CHEN_CHEN) (ch - 11)
    && decide (s.desenseOf ch < 2) && s.rim.loLost.isNone && s.rim.gaps.isEmpty && s.domainOn domLnpc
    && (match s.rim.gapEnd with
        | some t => s.passed t (s.get LNP_DET_DETSYM * symCycles)
        | none => true)

/-- The noise floor of a channel in hundredths of a dBm (R135): CALNF until 64 estimates exist. -/
def State.noiseLevel (s : State) (ch : Nat) : Int :=
  let f := s.floor ch
  if f.count < 64 then 100 * s.getInt (LNP_NFn_CALNF (ch - 11)) else f.nf * 100 / 65536

/-- The noise floor of a channel as a squared amplitude. -/
def State.noisePower (s : State) (ch : Nat) : Nat := ratioOf (s.noiseLevel ch + unitBels)

/-- The signatures projected out of a channel's detector (R140): those of its lanes that have left EST and are not LOST, at the
ports that contribute. -/
def State.projected (s : State) (ch : Nat) : List Sig :=
  spanning (((s.lanesOn ch).filter (fun e => e.2.st != .est)).map (fun e => maskSig s.contributing e.2.h))

/-- The metric M of one symbol period in 0.01 dB (R137, R140): the squared correlation magnitudes over the contributing ports,
after the projection, over the sum that noise at the channel's floor would give in the dimensions left.
DEDUCED, unsafe: log 166. -/
def State.metricOf (s : State) (ch : Nat) (c : Sig) : Int :=
  let basis := s.projected ch
  let left := s.contributing.length - basis.length
  if left = 0 then noPower
  else centiBels (orthogonal basis (maskSig s.contributing c) / left) - unitBels - s.noiseLevel ch

/-- Two symbol timings lie within one chip of each other, modulo 16 µs. -/
def timingNear (a b : Nat) : Bool :=
  let d := (a + symCycles - b % symCycles) % symCycles
  decide (d ≤ chipCycles ∨ symCycles - d ≤ chipCycles)

/-- The symbol timing of a detection: that of its last correlation peak. -/
def peakTiming (peaks : List (Nat × Sig)) : Nat := ((peaks.getLast?).map (·.1)).getD 0 % symCycles

/-- Step 3 of R137: the metric exceeds THR in DETSYM consecutive symbol periods at the same timing, within ±1 chip. -/
def State.metricHolds (s : State) (ch : Nat) (peaks : List (Nat × Sig)) : Bool :=
  let n := s.get LNP_DET_DETSYM
  peaks.length == n && n != 0 && peaks.all (fun e =>
    timingNear e.1 (peakTiming peaks) && decide (((s.get LNP_DET_THR * 25 : Nat) : Int) < s.metricOf ch e.2))

/-- One of the peaks lies within one chip of the symbol timing of a lane in EST or SFDS on the channel, modulo 16 µs, and is ignored
(R139). -/
def State.timingHidden (s : State) (ch : Nat) (peaks : List (Nat × Sig)) : Bool :=
  (s.lanesOn ch).any (fun e => e.2.unconfirmed && peaks.any (fun x => timingNear x.1 e.2.timing))

/-- The lane in EST or SFDS with the lowest metric; the higher number of two that tie. -/
def weakest (ls : List (Nat × Lane)) : Option Nat :=
  ((ls.filter (fun e => e.2.unconfirmed)).foldl (fun best e =>
    match best with
    | some (b : Nat × Lane) => if e.2.metric < b.2.metric ∨ (e.2.metric = b.2.metric ∧ b.1 < e.1) then some e else some b
    | none => some e) none).map (·.1)

/-- The lanes that the pool claims: in HOLDOVER lanes 0 to LANES − 1 alone (R531). -/
def State.laneLimit (s : State) : Nat :=
  match s.mode with
  | .holdover => min s.laneCount (s.get PWR_HU_PROF_LANES)
  | _ => s.laneCount

/-- Of some lanes, those that a detection may claim. -/
def State.claimable (s : State) (ls : List (Nat × Lane)) : List (Nat × Lane) := ls.filter (fun e => decide (e.1 < s.laneLimit))

/-- The free lane with the lowest number. -/
def State.freeLaneNumber (s : State) : Option Nat :=
  (List.range s.laneLimit).find? (fun n => (s.lane n).st == .idle)

/-- The lanes not in IDLE. -/
def State.busyLanes (s : State) : Nat := (s.lnp.lanes.filter (fun e => e.2.st != .idle)).length

/-- A detection takes a lane (R141, R143). -/
def claim (n ch : Nat) (metric : Int) (timing : Nat) (s : State) : State :=
  let s := setLane n { Lane.idle with
    st := .est, ch := ch, metric := metric, timing := timing % symCycles, detected := s.cycles,
    ports := s.contributing, desense := decide (0 < s.desenseOf ch) } s
  let s := count LNP_CNT_DET 1 (disturb [ch] s)
  raiseTo LNP_PEAK_PEAK s.busyLanes s

/-- A lane is pre-empted (R141): released without a report. -/
def preempt (n : Nat) (s : State) : State := raise LNP_INT_STAT_PREEMPT (count LNP_CNT_PREEMPT 1 (freeLane n s))

/-- The detection metric of a lane: that of the last symbol period. DESIGN CHOICE, unsafe: log 162. -/
def State.peakMetric (s : State) (ch : Nat) (peaks : List (Nat × Sig)) : Int :=
  ((peaks.getLast?).map (fun e => s.metricOf ch e.2)).getD 0

/-- DETECTION (R141). The correlation peaks of the last DETSYM symbol periods, latest last: `timings` are their symbol timings
modulo 16 µs in cycles, `peaks` their correlations with SF32 symbol 0 at every port (R137). DESIGN CHOICE, safe: log 29.
DESIGN CHOICE, unsafe: log 162. -/
def execDetection (dt ch : Nat) (timings : List Nat) (peaks : List Sig) (s : State) :
    Host.Outcome State Fault Refusal :=
  command dt (fun s =>
    let peaks := timings.zip peaks
    if !s.detects ch || !s.metricHolds ch peaks || s.timingHidden ch peaks then s
    else
      let m := s.peakMetric ch peaks
      let timing := peakTiming peaks
      let here := s.lanesOn ch
      if 4 ≤ here.length then
        match weakest (s.claimable here) with
        | some n => claim n ch m timing (preempt n s)
        | none => emit 0x302 0 (raise LNP_INT_STAT_CH_FULL (count LNP_CNT_CHFULL 1 s))
      else
        match s.freeLaneNumber with
        | some n => claim n ch m timing s
        | none =>
          match weakest (s.claimable s.lnp.lanes) with
          | some n => claim n ch m timing (preempt n s)
          | none => emit 0x301 0 (raise LNP_INT_STAT_LANE_FULL (count LNP_CNT_LANEFULL 1 s))) s

/-! ### Checkpoints (R150, R153) -/

/-- The outcome of a checkpoint. -/
inductive Checkpoint where
  | goes
  | captures (victims : List Nat)
  | released
  deriving DecidableEq, Repr

/-- The comparison of R150. -/
def State.checkpoint (s : State) (n : Nat) : Checkpoint :=
  let l := s.lane n
  let o := s.pastSfd n
  let absent := s.variant == .wv5264 || !s.is LNP_SEP_CORX
  let nonsep := o.filter (fun e => absent || rhoAbove l.h e.2.h (s.get LNP_SEP_SEPMAX))
  let margin : Int := (100 * s.get LNP_SEP_CAPM : Nat)
  if nonsep.isEmpty then .goes
  else if s.is LNP_SEP_CAPEN && nonsep.all (fun e => !e.2.passed && decide (e.2.power + margin ≤ l.power)) then
    .captures (nonsep.map (·.1))
  else .released

/-- Take a checkpoint (R150): RHO takes in every lane of O; the newcomer continues, captures or is released. A
captured lane that is delivering a report already has only that one (R143). -/
def takeCheckpoint (n : Nat) (s : State) : State :=
  let l := s.lane n
  let o := s.pastSfd n
  let top := o.foldl (fun m e => max m (rhoHundredths l.h e.2.h)) l.rho
  let verdict := s.checkpoint n
  let s := modLane n (fun l => { l with rho := top }) s
  match verdict with
  | .goes => if o.isEmpty then s else count LNP_CNT_CORX 1 s
  | .captures vs =>
    let s := forEach (vs.filter (fun v => (s.lane v).st != .report)) (fun v t => deliver v stCaptured t) s
    let s := modLane n (fun l => { l with captr := true }) s
    emit 0x304 0 (raise LNP_INT_STAT_CAPTURE (count LNP_CNT_CAPTURE 1 s))
  | .released =>
    emit 0x303 0 (raise LNP_INT_STAT_NOSEP (count LNP_CNT_NOSEP 1 (freeLane n s)))

/-- The power p of a frame in 0.01 dBm (R149): ‖h‖² / n over the n ports that contribute to the lane. -/
def framePower (ports : List Nat) (h : Sig) : Int := centiBels (sigNorm (maskSig ports h) / ports.length) - unitBels

/-- RSSI in dBm (R156): p with the channel's noise floor taken off, rounded to 1 dB. DEDUCED, unsafe: log 167. -/
def State.rssiOf (s : State) (ch : Nat) (ports : List Nat) (h : Sig) : Int :=
  let clean := sigNorm (maskSig ports h) / ports.length - s.noisePower ch
  clamp (-128) 127 (roundDiv (centiBels clean - unitBels) 100)

/-- EST_END (R146, R150): the signature exists, with its power, and the first checkpoint is taken. Two preamble symbols gave `h`,
the carrier offset in hundredths of a ppm, and the symbol timing modulo 16 µs in cycles. -/
def execEstEnd (dt lane : Nat) (h : Sig) (offset : Int) (timing : Nat) (s : State) : Host.Outcome State Fault Refusal :=
  command dt (fun s =>
    if (s.lane lane).st ≠ .est then s
    else
      let s := modLane lane (fun l => { l with
        h := maskSig l.ports h, power := framePower l.ports h, rssi := s.rssiOf l.ch l.ports h,
        offset := clamp (-4000) 4000 offset, timing := timing % symCycles }) s
      let s := takeCheckpoint lane s
      if (s.lane lane).st = .est then modLane lane (fun l => { l with st := .sfds }) s else s) s

/-- TS64 some cycles ago. -/
def State.tsBack (s : State) (back : Nat) : Nat :=
  let step := (((2 ^ 40 : Nat) : Int) + s.getInt TIM_RATE_RATE).toNat
  (s.tim.acc - back * step) / 2 ^ 40 % 2 ^ 64

/-- SFD_FOUND (R150): an SFD of 0xA7 or 0x5C whose last chip ended `back` cycles ago; SFDTS is taken and the second
checkpoint follows. `snr` (0.25 dB) is that of the SFD symbols. An SFD later than 10 symbols after the detection finds no lane
(R143). An extended frame counts as X1 until its PHR is accepted. DESIGN CHOICE, unsafe: log 205. -/
def execSfdFound (dt lane sfd back : Nat) (snr : Int) (s : State) : Host.Outcome State Fault Refusal :=
  command dt (fun s =>
    let l := s.lane lane
    if l.st ≠ .sfds ∨ l.sfd = true ∨ (sfd ≠ 0xA7 ∧ sfd ≠ 0x5C) ∨ l.detected + 10 * symCycles < s.cycles - back then s
    else
      let began := s.cycles - back - 10 * symCycles
      let hurt := (s.lnp.desEnd.find? (fun e => e.1 == l.ch)).any (fun e => decide (began ≤ e.2))
      let s := modLane lane (fun l => { l with
        sfd := true, sfdts := s.tsBack back, sfdAt := s.cycles - back, lock := s.lock, mode := if sfd = 0xA7 then 0 else 1,
        snr := clamp (-128) 127 snr, desense := l.desense || hurt }) s
      let s := takeCheckpoint lane s
      if (s.lane lane).st = .sfds then modLane lane (fun l => { l with st := .phr }) s else s) s

/-- SFD_TIMEOUT (R143): no SFD within 160 µs of the detection. -/
def execSfdTimeout (dt lane : Nat) (s : State) : Host.Outcome State Fault Refusal :=
  command dt (fun s =>
    let l := s.lane lane
    if l.unconfirmed && !l.sfd && s.passed l.detected (10 * symCycles) then
      count LNP_CNT_SFDTO 1 (freeLane lane s)
    else s) s

/-- The lanes whose signatures enter a lane's weights, with those signatures: those on its channel that have left EST and are
not LOST (R151). -/
def State.weightSet (s : State) (n : Nat) : List (Nat × Sig) :=
  ((s.lanesOn (s.lane n).ch).filter (fun e => e.1 != n && e.2.st != .est)).map (fun e => (e.1, e.2.h))

/-- The weights a lane combines its ports with (R146, R151): w = h where it is alone, else the MMSE weights of the set in
force; a port that does not contribute has weight 0. -/
def State.weights (s : State) (l : Lane) : Sig :=
  mmseWeights (s.noisePower l.ch) (l.others.map (fun e => maskSig l.ports e.2)) (maskSig l.ports l.h)

/-- The power after combining of a symbol's best correlation, above the noise floor referred through the weights, in 0.01 dB
(R145). -/
def State.symbolMargin (s : State) (l : Lane) (best : Sig) : Int :=
  let w := s.weights l
  let norm := sigNorm w
  if norm = 0 then noPower
  else centiBels (normSq (sigDot w (maskSig l.ports best)) / norm) - unitBels - s.noiseLevel l.ch

/-- MMSE_WEIGHT_CHANGE (R151): the lane's weights follow the set of lanes on its channel. -/
def execMmseWeightChange (dt lane : Nat) (s : State) : Host.Outcome State Fault Refusal :=
  command dt (fun s =>
    let l := s.lane lane
    if l.st = .idle ∨ l.st = .est ∨ l.st = .lost then s
    else modLane lane (fun l => { l with others := s.weightSet lane }) s) s

/-- The context store returns a valid stored signature for a lane (R147). -/
def storedSignature (n : Nat) (sig : Sig) (s : State) : State :=
  let l := s.lane n
  if s.is LNP_LANE_SIGUSE && l.sfd && l.stored.isNone then
    let st := maskSig l.ports sig
    let near := decide ((s.get LNP_LANE_SIGMIX) ^ 2 * sigNorm l.h * sigNorm st ≤ 10000 * normSq (sigDot l.h st))
    modLane n (fun l => { l with
      stored := some (if near then alignStored st l.h else st), blend := near, sigmix := near, sigmove := !near }) s
  else s

/-- PAYLOAD_SYMBOL (R145): the decided symbol, its soft bits in the extended modes (R165), the normalised correlation after
combining in 2^−16, the best correlation at every port, and the tracked estimate of the signature (R146). -/
def execPayloadSymbol (dt lane sym : Nat) (soft : List Int) (corr : Nat) (best h : Sig) (s : State) :
    Host.Outcome State Fault Refusal :=
  command dt (fun s =>
    let l := s.lane lane
    if l.st ≠ .psdu ∨ payloadSymbols l.mode l.len ≤ l.count then s
    else
      let low := if s.symbolMargin l best < 300 then l.low + 1 else 0
      if s.get LNP_LANE_LOSSSYM ≤ low then
        modLane lane (fun l => { l with
          st := .lost, low := low, syms := [], soft := [], prov := [], fin := [], octets := [], others := [] })
          (unbind lane s)
      else
        let tracked := maskSig l.ports h
        let tracked := match l.stored with
          | some st => if l.blend then blendSig tracked st else tracked
          | none => tracked
        modLane lane (fun l => { l with
          low := low, h := tracked, count := l.count + 1,
          corrSum := l.corrSum + min corr 65536, corrCount := l.corrCount + 1,
          syms := if l.mode = 0 then l.syms ++ [sym % 16] else [],
          soft := if l.mode = 0 then [] else l.soft ++ (soft ++ [0, 0, 0, 0]).take 4 }) s) s

/-- OCTET_RELEASE (R142): an octet of two symbols in the standard mode, low nibble first, or the next decoded octet, is
streamed to the link sequencer; a lane without a decoder, or whose buffer has overflowed, delivers none (R163, R164). -/
def execOctetRelease (dt lane : Nat) (s : State) : Host.Outcome State Fault Refusal :=
  command dt (fun s =>
    let l := s.lane lane
    if l.noDecoder = true ∨ (l.st ≠ .psdu ∧ l.st ≠ .final) then s
    else if l.mode = 0 then
      match l.syms with
      | a :: b :: t =>
        let o := octet (a + 16 * b)
        setLane lane { l with syms := t, octets := l.octets ++ [o], prov := l.prov ++ [o], fin := l.fin ++ [o] } s
      | _ => s
    else
      match l.fin[l.octets.length]? with
      | some o => setLane lane { l with octets := l.octets ++ [o] } s
      | none => s) s

/-- LAST_CHIP (R130): the last chip of the last payload symbol. -/
def execLastChip (dt lane : Nat) (s : State) : Host.Outcome State Fault Refusal :=
  command dt (fun s =>
    let l := s.lane lane
    if l.st = .psdu ∧ l.count = payloadSymbols l.mode l.len then
      setLane lane { l with st := .final, lastChip := s.cycles } s
    else s) s

/-- From the end of the SFD to the declared end of the frame plus 2 payload symbols (R145). -/
def Lane.lostSpan (l : Lane) : Nat :=
  frameCycles l.mode l.len - 10 * symCycles + 2 * payloadSymbolCycles l.mode

/-- LOST_END (R145): a LOST lane reports TRUNC. Its symbol periods are counted in timebase cycles, which no step of TS64 moves
(R61). -/
def execLostEnd (dt lane : Nat) (s : State) : Host.Outcome State Fault Refusal :=
  command dt (fun s =>
    let l := s.lane lane
    if l.st = .lost ∧ l.sfdAt + l.lostSpan ≤ s.cycles then deliver lane stTrunc s else s) s

/-- FINAL_COMPLETE (R143): the FCS decides the frame. A lane without a decoder context reports FCS_BAD (R163). -/
def execFinalComplete (dt lane : Nat) (s : State) : Host.Outcome State Fault Refusal :=
  command dt (fun s =>
    let l := s.lane lane
    if l.st ≠ .final then s
    else if l.noDecoder then deliver lane stFcsBad s
    else if l.fin.length < l.len then s
    else deliver lane (if fcsOk l.mode (l.fin.take l.len) then stOk else stFcsBad) s) s

/-- REPORT_ACCEPTED (R143): the link sequencer takes the report and the lane is free. -/
def execReportAccepted (dt lane : Nat) (s : State) : Host.Outcome State Fault Refusal :=
  command dt (fun s => if (s.lane lane).st = .report then freeLane lane s else s) s

end Sys2Proof.Machine
end

