-- ==== Sys2Proof/Machine/Coding.lean ====
section
/-!
DEFINITION. The trellis decoders (R161 to R172): binding, soft inputs, the Viterbi recursion bit by bit, and the provisional
and final octets.
-/

namespace Sys2Proof.Machine

/-! ### Decoder contexts (R161 to R163) -/

/-- The context a lane is bound to. -/
def State.ctxOf (s : State) (lane : Nat) : Option DecCtx := s.cod.ctxs.find? (fun c => c.lane == lane)

/-- Put a context back. -/
def setCtx (c : DecCtx) (s : State) : State :=
  { s with cod := { s.cod with ctxs := s.cod.ctxs.map (fun d => if d.lane = c.lane then c else d) } }

/-- The contexts bound on a decoder. -/
def State.boundOn (s : State) (d : Nat) : Nat := (s.cod.ctxs.filter (fun c => c.decoder == d)).length

/-- The in-service decoder with the fewest bound contexts and a free one, the lowest number of those that tie (R162). -/
def State.pickDecoder (s : State) : Option Nat :=
  let inService := (List.range 16).filter (fun d => bitAt (s.get COD_DEC_RUN_RUN) d && decide (s.boundOn d < 4))
  inService.foldl (fun best d =>
    match best with
    | some b => if s.boundOn d < s.boundOn b then some d else some b
    | none => some d) none

/-- The metric of a path that starts in another state than 0: below every path from state 0 (R124).
DEDUCED, unsafe: log 48. -/
def farMetric : Nat := 4096 - 1024

/-- Bind a lane with an accepted extended PHR (R162), or count that no context is free (R163). -/
def bindDecoder (lane : Nat) (s : State) : State :=
  match s.pickDecoder with
  | some d =>
    let c : DecCtx := { decoder := d, lane := lane, blocks := [], rest := [], metrics := 0 :: List.replicate 63 farMetric,
                        history := [], steps := 0, prov := [], fin := [] }
    count COD_CNT_BIND 1 { s with cod := { s.cod with ctxs := s.cod.ctxs ++ [c] } }
  | none =>
    let s := modLane lane (fun l => { l with noDecoder := true }) s
    emit 0x340 0 (raise COD_INT_STAT_NODEC (count COD_CNT_NODEC 1 s))

/-- PHR_END (R115): the PHR is accepted, or rejected with PHR_BAD. `snr` is in 0.25 dB, `corrs` the normalised correlations of
the PHR's symbols in 2^−16 (R156). DESIGN CHOICE, safe: log 47. -/
def execPhrEnd (dt lane phr : Nat) (snr : Int) (corrs : List Nat) (s : State) : Host.Outcome State Fault Refusal :=
  command dt (fun s =>
    let l := s.lane lane
    if l.st ≠ .phr then s
    else
      let std := l.mode == 0
      let l := { l with
        snr := clamp (-128) 127 snr, corrSum := l.corrSum + (corrs.map (fun c => min c 65536)).sum,
        corrCount := l.corrCount + corrs.length }
      if (if std then phrStdOk phr else phrExtOk phr) then
        let l := { l with
          st := .psdu, passed := true,
          mode := if std then 0 else phr % 4 + 1,
          len := if std then phr % 128 else phr / 4 % 2048 + 4 }
        let s := setLane lane l s
        if std then s else bindDecoder lane s
      else deliver lane stPhrBad (setLane lane l s)) s

/-! ### The Viterbi recursion (R165, R166) -/

/-- The branch metric: +v where the output is 1, −v where it is 0, for both outputs. -/
def branchMetric (va vb : Int) (u : Bool) (st : Nat) : Int :=
  (if convA u st then va else -va) + (if convB u st then vb else -vb)

/-- Whether path metric a is less than b, in 12-bit modulo arithmetic by signed difference. -/
def metricLess (a b : Nat) : Bool := decide (signed 12 (a + 4096 - b % 4096) < 0)

/-- Add to a path metric. -/
def addMetric (m : Nat) (b : Int) : Nat := twos 12 ((m : Int) + b)

/-- The survivor of a new state from its two predecessors, whose s[6] is 0 and 1: its metric and the s[6] it keeps; a tie
keeps the predecessor with s[6] 0. -/
def survivor (va vb : Int) (u : Bool) (p m0 m1 : Nat) : Nat × Nat :=
  let c0 := addMetric m0 (branchMetric va vb u p)
  let c1 := addMetric m1 (branchMetric va vb u (p + 32))
  if metricLess c0 c1 then (c1, 1) else (c0, 0)

/-- The survivors of all 64 states, in ascending order: states 2p and 2p + 1 follow from p and p + 32. -/
def survivors (va vb : Int) (metrics : List Nat) : List (Nat × Nat) :=
  (List.zip (List.range 32) (List.zip (metrics.take 32) (metrics.drop 32))).flatMap (fun e =>
    [survivor va vb false e.1 e.2.1 e.2.2, survivor va vb true e.1 e.2.1 e.2.2])

/-- The state with the highest path metric, the lowest number of those that tie. -/
def bestState (metrics : List Nat) : Nat :=
  let step (best : Option (Nat × Nat)) (e : Nat × Nat) : Option (Nat × Nat) :=
    match best with
    | some b => if metricLess b.2 e.2 then some e else some b
    | none => some e
  match (List.zip (List.range 64) metrics).foldl step none with
  | some e => e.1
  | none => 0

/-- The predecessor of a state by a step's decisions. -/
def predecessor (word st : Nat) : Nat := st / 2 + 32 * (word / 2 ^ st % 2)

/-- The state `d` steps back along the decisions, latest first. -/
def traceBack (st : Nat) : List Nat → Nat → Nat
  | [], _ => st
  | _, 0 => st
  | w :: ws, d + 1 => traceBack (predecessor w st) ws d

/-- All input bits along the trace from a state, latest first. -/
def traceBits (st : Nat) : List Nat → List Bool
  | [] => []
  | w :: ws => (st % 2 == 1) :: traceBits (predecessor w st) ws

/-- One trellis step (R166, R167): the metrics advance, and the bits at depths 16 and 48 come out. -/
def trellisStep (va vb : Int) (c : DecCtx) : DecCtx :=
  let sv := survivors va vb c.metrics
  let word := (List.zip (List.range 64) sv).foldl (fun (w : Nat) (e : Nat × Nat × Nat) => w + e.2.2 * 2 ^ e.1) 0
  let c := { c with metrics := sv.map (fun (e : Nat × Nat) => e.1), history := word :: c.history, steps := c.steps + 1 }
  let best := bestState c.metrics
  let bit (d : Nat) : Bool := traceBack best c.history d % 2 == 1
  { c with
    prov := if 16 < c.steps then bit 16 :: c.prov else c.prov,
    fin := if 48 < c.steps then bit 48 :: c.fin else c.fin }

/-- The trellis steps a frame has. -/
def trellisLength (p : Nat) : Nat := 8 * p + 6

/-- Take soft values step by step (R125): two to a step, in X4 one to every second step, whose b is an erasure. -/
def feed (mode p : Nat) (c : DecCtx) : List Int → DecCtx
  | [] => { c with rest := [] }
  | [v] =>
    if trellisLength p ≤ c.steps then { c with rest := [] }
    else if mode = 4 ∧ c.steps % 2 = 1 then { trellisStep v 0 c with rest := [] }
    else { c with rest := [v] }
  | v :: w :: t =>
    if trellisLength p ≤ c.steps then { c with rest := [] }
    else if mode = 4 ∧ c.steps % 2 = 1 then feed mode p (trellisStep v 0 c) (w :: t)
    else feed mode p (trellisStep v w c) t

/-- The first block waiting in a context is served. -/
def serveBlock (mode p : Nat) (c : DecCtx) : DecCtx :=
  match c.blocks with
  | [] => c
  | b :: bs => feed mode p { c with blocks := bs, rest := [] } (c.rest ++ b.2)

/-- Where a waiting block stands in its decoder's order of service (R172): the blocks of lanes in FINAL first, by last chip,
then the others by completion; then by lane. -/
def State.blockRank (s : State) (c : DecCtx) : Nat × Nat × Nat :=
  let l := s.lane c.lane
  if l.st = .final then (0, l.lastChip, c.lane) else (1, ((c.blocks.head?).map (·.1)).getD 0, c.lane)

/-- Lexicographic order. -/
def rankBefore (a b : Nat × Nat × Nat) : Bool :=
  decide (a.1 < b.1) || (a.1 == b.1 && (decide (a.2.1 < b.2.1) || (a.2.1 == b.2.1 && decide (a.2.2 < b.2.2))))

/-- The context whose first waiting block a decoder serves next (R172). -/
def State.nextServed (s : State) (d : Nat) : Option DecCtx :=
  (s.cod.ctxs.filter (fun c => c.decoder == d && !c.blocks.isEmpty)).foldl (fun best c =>
    match best with
    | some (b : DecCtx) => if rankBefore (s.blockRank c) (s.blockRank b) then some c else some b
    | none => some c) none

/-- A decoder serves its blocks in the order of R172 until a lane's context has none waiting, `n` blocks at most. A block of
another context that is overtaken keeps its place, and its context is unchanged. -/
def serveUntil (d lane : Nat) : Nat → State → State
  | 0, s => s
  | n + 1, s =>
    if (s.ctxOf lane).any (fun c => !c.blocks.isEmpty) then
      match s.nextServed d with
      | some c => serveUntil d lane n (setCtx (serveBlock (s.lane c.lane).mode (s.lane c.lane).len c) s)
      | none => s
    else s

/-- The blocks that one decoder can hold: four contexts of four blocks. -/
def decoderBlocks : Nat := 16

/-- Every block waiting for a lane is served. -/
def serveLane (lane : Nat) (s : State) : State :=
  match s.ctxOf lane with
  | some c => serveUntil c.decoder lane decoderBlocks s
  | none => s

/-- De-interleave a block of 32 soft values that came symbol by symbol (R127, R154). -/
def deinterleave (soft : List Int) : List Int :=
  (List.range 32).map (fun k => clamp (-7) 7 ((soft[4 * (k % 8) + k / 8]?).getD 0))

/-- Octet k of released bits, latest bit first in the list. -/
def bitOctet (bits : List Bool) (k : Nat) : Byte :=
  octet (bitsNat ((bits.reverse.drop (8 * k)).take 8))

/-- DECODER_BLOCK (R164): a block of 32 soft bits reaches the context's input buffer of 4 blocks, or overflows it. -/
def execDecoderBlock (dt lane : Nat) (s : State) : Host.Outcome State Fault Refusal :=
  command dt (fun s =>
    let l := s.lane lane
    if l.soft.length < 32 ∨ l.noDecoder = true then s
    else
      let s := setLane lane { l with soft := l.soft.drop 32 } s
      match s.ctxOf lane with
      | none => s
      | some c =>
        if 4 ≤ c.blocks.length then
          let s := modLane lane (fun l => { l with noDecoder := true }) s
          d1Miss (raise COD_INT_STAT_DECOVF (count COD_CNT_DECOVF 1 s))
        else setCtx { c with blocks := c.blocks ++ [(s.cycles, deinterleave (l.soft.take 32))] } s) s

/-- The context that may release octets of a lane, once its decoder has served every block waiting for it: none where the lane
has no decoder, or its buffer has overflowed and it delivers no octets (R163, R164). -/
def State.releasing (s : State) (lane : Nat) : Option DecCtx :=
  if (s.lane lane).noDecoder then none else s.ctxOf lane

/-- PROVISIONAL_OCTET (R167): the next provisional octet, once the step 16 after its last bit is served. -/
def execProvisionalOctet (dt lane : Nat) (s : State) : Host.Outcome State Fault Refusal :=
  command dt (fun s =>
    let s := serveLane lane s
    match s.releasing lane with
    | none => s
    | some c =>
      let l := s.lane lane
      let k := l.prov.length
      if 8 * k + 8 ≤ c.prov.length ∧ k < l.len then
        setLane lane { l with prov := l.prov ++ [bitOctet c.prov k] } s
      else s) s

/-- The final source address of a lane, in its PAN, is known and is not what started a lookup (R170); a frame that starts no lookup by
either reading is not revised. -/
def State.revises (s : State) (l : Lane) (key : Octets) : Bool :=
  let fin := s.sourceKey l.ch l.fin
  !key.isEmpty && (sourceEnd l.fin).isSome && fin != key && !(keyOfNoLookup fin && keyOfNoLookup key)

/-- Mark a frame revised where its final source address is not what started the lookup (R170). -/
def checkRevised (lane : Nat) (s : State) : State :=
  let l := s.lane lane
  if !l.revised && s.revises l l.lookKey then count COD_CNT_REVISE 1 (setLane lane { l with revised := true } s) else s

/-- FINAL_OCTET (R167): the next final octet, once the step 48 after its last bit is served. -/
def execFinalOctet (dt lane : Nat) (s : State) : Host.Outcome State Fault Refusal :=
  command dt (fun s =>
    let s := serveLane lane s
    match s.releasing lane with
    | none => s
    | some c =>
      let l := s.lane lane
      let k := l.fin.length
      if 8 * k + 8 ≤ c.fin.length ∧ k < l.len then
        checkRevised lane (setLane lane { l with fin := l.fin ++ [bitOctet c.fin k] } s)
      else s) s

/-- FINAL_TRACEBACK (R171): the final block is served; the bits that the traces at depth 48 have not covered are traced back from
state 0 (R129), and provisional octets that no trace at depth 16 has covered are released with the values of the final ones. -/
def execFinalTraceback (dt lane : Nat) (s : State) : Host.Outcome State Fault Refusal :=
  command dt (fun s =>
    let s := serveLane lane s
    match s.releasing lane with
    | none => s
    | some c =>
      let l := s.lane lane
      if l.st ≠ .final ∨ c.steps < trellisLength l.len then s
      else
        let bits := (traceBits 0 c.history).take (c.steps - c.fin.length) ++ c.fin
        let fin := l.fin ++ (List.range (l.len - l.fin.length)).map (fun i => bitOctet bits (l.fin.length + i))
        let traced := (List.range (min l.len (c.prov.length / 8) - l.prov.length)).map (fun i =>
          bitOctet c.prov (l.prov.length + i))
        let prov := l.prov ++ traced
        let prov := prov ++ fin.drop prov.length
        checkRevised lane (setLane lane { l with fin := fin, prov := prov } s)) s

end Sys2Proof.Machine
end

