-- ==== Sys2Proof/Machine/Transmit.lean ====
section
/-!
DEFINITION. The transmit path (R173 to R184): bookings, outcomes, the choice of chain and the limits on simultaneous
transmission.
-/

namespace Sys2Proof.Machine

/-- Put a chain. -/
def setChain (t : Nat) (c : Chain) (s : State) : State :=
  modCod (fun p => { p with chains := Sparse.put (fun _ => Chain.off) p.chains t c }) s

/-- Change a chain. -/
def modChain (t : Nat) (f : Chain → Chain) (s : State) : State := setChain t (f (s.chain t)) s

/-! ### The instants of R84 -/

/-- LEAD in cycles. -/
def State.lead (s : State) : Nat := 32 * s.get RIM_FEM_LEAD

/-- LAG in cycles. -/
def State.lag (s : State) : Nat := 32 * s.get RIM_FEM_LAG

/-- RAMP in cycles. -/
def State.ramp (s : State) : Nat := usCycles * s.get RIM_TXCFG_RAMP

/-- Step 1 of a transmission whose first chip is at an instant. -/
def State.step1 (s : State) (first : Nat) : Nat := first - (s.lead + s.ramp)

/-- Step 1 of a booking has not come: a cancel, a displacement and a move still reach it (R174, R179, R181). -/
def State.beforeStep1 (s : State) (b : Booking) : Bool := b.step == 0 && decide (s.cycles < s.step1 b.req.first)

/-- E of a booking as planned (R131). -/
def BookReq.pulseEnd (r : BookReq) : Nat := r.first + pulseEndCycles r.mode (r.mpdu.length + fcsLen r.mode)

/-- Step 5: the output is off. DEDUCED, unsafe: log 50. -/
def State.step5 (s : State) (e : Nat) : Nat := e + s.ramp

/-- Step 8: the port is unblanked. -/
def State.step8 (s : State) (e : Nat) : Nat := e + s.ramp + s.lag + 2 * usCycles

/-- The span of a booking from step 1 to step 8. -/
def State.span (s : State) (r : BookReq) (e : Nat) : Nat × Nat := (s.step1 r.first, s.step8 e)

/-- The span from step 2 to step 5 (R180). -/
def State.innerSpan (s : State) (r : BookReq) (e : Nat) : Nat × Nat := (r.first - s.ramp, s.step5 e)

/-- Two half-open spans overlap. -/
def spansMeet (a b : Nat × Nat) : Bool := decide (a.1 < b.2 ∧ b.1 < a.2)

/-! ### Outcomes (R174) -/

/-- An outcome goes to the link sequencer, with its counter, flag and event. -/
def giveOutcome (id : Nat) (o : TxOutcome) (s : State) : State :=
  let s := modCod (fun p => { p with outcomes := p.outcomes ++ [(id, o)] }) s
  match o with
  | .sent => count COD_CNT_SENT 1 s
  | .cancelled => count COD_CNT_CANCEL 1 s
  | .nochain => emit 0x341 0 (raise COD_INT_STAT_NOCHAIN (count COD_CNT_NOCHAIN 1 s))
  | .displaced => emit 0x342 0 (raise COD_INT_STAT_DISPLACED (count COD_CNT_DISPLACED 1 s))
  | .late => raise COD_INT_STAT_LATE (count COD_CNT_LATE 1 s)
  | .synth => raise COD_INT_STAT_SYNTH (count COD_CNT_SYNTH 1 s)
  | .underrun => s

/-- Take a booking off its chain. -/
def unplace (id : Nat) (s : State) : State :=
  modCod (fun p => { p with placed := p.placed.filter (fun b => b.req.id != id) }) s

/-- End a booking that has not radiated. -/
def endBooking (id : Nat) (o : TxOutcome) (s : State) : State := giveOutcome id o (unplace id s)

/-! ### Limits (R180) -/

/-- The effective limit on chains at once (R180). -/
def State.txLimit (s : State) : Nat :=
  let m := s.get COD_TXLIM_MAXCH
  match s.mode with
  | .solo => m
  | .primary => m
  | .takeover => m
  | .maker => m
  | .holdover => min m 1
  | .reset => 0
  | .load => 0
  | .selftest => 0
  | .standby => 0
  | .lastgasp => 0
  | .update => 0
  | .safe => 0

/-- The bookings placed, but for some. -/
def State.placedBut (s : State) (skip : List Nat) : List Booking :=
  s.cod.placed.filter (fun b => !skip.elem b.req.id)

/-- A booking keeps R180: alone on its channel, and never more chains at once than the limit. -/
def State.keepsLimits (s : State) (r : BookReq) (skip : List Nat) : Bool :=
  let placed := s.placedBut skip
  let mine := s.span r r.pulseEnd
  let alone := placed.all (fun b =>
    b.req.ch != r.ch || !spansMeet (s.innerSpan r r.pulseEnd) (s.innerSpan b.req b.e))
  let near := (placed.map (fun b => s.span b.req b.e)).filter (spansMeet mine)
  let starts := mine.1 :: (near.map (·.1)).filter (fun t => decide (mine.1 < t))
  alone && starts.all (fun t =>
    decide (1 + (near.filter (fun v => decide (v.1 ≤ t ∧ t < v.2))).length ≤ s.txLimit))

/-! ### Chains (R177, R178) -/

/-- A chain keeps the bookings it holds (R179): TXEN and TXRUN are 1 and its domain is not locked off. -/
def State.chainHolds (s : State) (t : Nat) : Bool :=
  bitAt (s.get RIM_PORT_EN_TXEN) t && bitAt (s.get RIM_PORT_RUN_TXRUN) t && !s.domainLocked (domTx0 + t)

/-- A chain may be offered to bookings (R177): it keeps its bookings and is not recalibrating. -/
def State.chainRuns (s : State) (t : Nat) : Bool := s.chainHolds t && (s.chain t).recal.isNone

/-- The lock time of a synthesiser locked on `from_` (0 for none) for a channel (R177). -/
def lockTime (from_ ch : Nat) : Nat :=
  if from_ = ch then 0 else if from_ = 0 then 60 * usCycles else 40 * usCycles

/-- The wake time of a chain's domain (R177). -/
def State.wakeTime (s : State) (t : Nat) : Nat :=
  let d := domTx0 + t
  if s.domainOn d then 0 else if s.get (PWR_DOMn_STATE d) = 1 then 2 * usCycles else 120 * usCycles

/-- A chain as it stands: its synthesiser holds no lock while its domain is not on (R178). -/
def State.chainNow (s : State) (t : Nat) : Chain :=
  let c := s.chain t
  if s.domainOn (domTx0 + t) then c else { c with locked := 0 }

/-- When a chain's synthesiser would be locked on a channel, started now (R177). -/
def State.readyNow (s : State) (t ch : Nat) : Nat :=
  let c := s.chainNow t
  match c.tuning with
  | some (x, at_) => if x = ch then max s.cycles at_ else s.cycles + s.wakeTime t + lockTime 0 ch
  | none => s.cycles + s.wakeTime t + lockTime c.locked ch

/-- A chain's bookings but for some. -/
def State.bookingsOf (s : State) (t : Nat) (skip : List Nat) : List Booking :=
  (s.placedBut skip).filter (fun b => b.chain == t)

/-- The booking with the latest first chip before an instant. -/
def lastBefore (first : Nat) (bs : List Booking) : Option Booking :=
  (bs.filter (fun b => decide (b.req.first < first))).foldl (fun best b =>
    match best with
    | some (x : Booking) => if x.req.first < b.req.first then some b else some x
    | none => some b) none

/-- The booking with the earliest first chip from an instant on. -/
def firstAfter (first : Nat) (bs : List Booking) : Option Booking :=
  (bs.filter (fun b => decide (first ≤ b.req.first))).foldl (fun best b =>
    match best with
    | some (x : Booking) => if b.req.first < x.req.first then some b else some x
    | none => some b) none

/-- A chain is eligible for a booking (R177). -/
def State.eligible (s : State) (r : BookReq) (skip : List Nat) (t : Nat) : Bool :=
  let bs := s.bookingsOf t skip
  let mine := s.span r r.pulseEnd
  let ready := match lastBefore r.first bs with
    | some b => s.step8 b.e + lockTime b.req.ch r.ch
    | none => s.readyNow t r.ch
  let later := match firstAfter r.first bs with
    | some b => decide (mine.2 + lockTime r.ch b.req.ch ≤ s.step1 b.req.first)
    | none => true
  bitAt r.mask t && s.chainRuns t && bs.all (fun b => !spansMeet mine (s.span b.req b.e))
    && decide (ready ≤ mine.1) && later

/-- The squared magnitude of a signature's component. -/
def sigPower (h : Sig) (p : Nat) : Nat := normSq ((h[p]?).getD (0, 0))

/-- Choose a chain (R178): the strongest in the signature, else one locked on the channel, else any; ties to the lowest
number. -/
def State.chooseChain (s : State) (r : BookReq) (skip : List Nat) : Option Nat :=
  let el := (List.range 8).filter (s.eligible r skip)
  if s.keepsLimits r skip = false then none
  else
    match r.sig with
    | some h =>
      if s.is COD_TXCFG_SIGSEL then
        el.foldl (fun best t =>
          match best with
          | some b => if sigPower h b < sigPower h t then some t else some b
          | none => some t) none
      else
        match el.find? (fun t => (s.chainNow t).locked == r.ch) with
        | some t => some t
        | none => el.head?
    | none =>
      match el.find? (fun t => (s.chainNow t).locked == r.ch) with
      | some t => some t
      | none => el.head?

/-- Retuning for a chain's next booking starts at once, where the chain is not on air and is not locked or locking there
already (R178); its domain wakes (R505). -/
def tuneNext (t : Nat) (s : State) : State :=
  let bs := s.bookingsOf t []
  if bs.any (fun b => decide (1 ≤ b.step)) then s
  else
    match firstAfter 0 bs with
    | some b =>
      let c := s.chainNow t
      let there := match c.tuning with
        | some (x, _) => x == b.req.ch
        | none => c.locked == b.req.ch
      let s := workFor (domTx0 + t) .booking s
      if there then s
      else count COD_CNT_RETUNE 1 (setChain t { c with locked := 0, tuning := some (b.req.ch, s.readyNow t b.req.ch) } s)
    | none => s

/-- Place a booking on a chain. -/
def place (r : BookReq) (t : Nat) (s : State) : State :=
  let b : Booking := { req := r, chain := t, step := 0, fem := false, des := false, e := r.pulseEnd, level := 0,
                       under := false, rampFrom := 0, heldAt := none }
  tuneNext t (modCod (fun p => { p with
    placed := p.placed ++ [b], onChain := (r.id, t, r.first) :: p.onChain.filter (fun e => e.1 != r.id) }) s)

/-- The rank of a class: BEACON before ACK before DATA (R181). -/
def TxClass.rank : TxClass → Nat
  | .beacon => 0
  | .ack => 1
  | .data => 2

/-- The bookings a class may displace, latest first chip first and then highest chain number (R181). -/
def State.candidates (s : State) (c : TxClass) : List Booking :=
  sortBy (fun a b => decide (b.req.first < a.req.first ∨ (b.req.first = a.req.first ∧ b.chain < a.chain)))
    (s.cod.placed.filter (fun b => s.beforeStep1 b && decide (c.rank < b.req.cls.rank)))

/-- The fewest candidates in order whose displacement lets a booking be placed (R181). DEDUCED, unsafe: log 52. -/
def State.displacement (s : State) (r : BookReq) : List Nat → List Nat → Option (List Nat × Nat)
  | _, [] => none
  | taken, id :: ids =>
    match s.chooseChain r (taken ++ [id]) with
    | some t => some (taken ++ [id], t)
    | none => s.displacement r (taken ++ [id]) ids

/-- A booking takes chain `t` by displacing others (R181); only then do the other chains turn to the next bookings they hold
(R178). -/
def placeOver (r : BookReq) (t : Nat) (ids : List Nat) (s : State) : State :=
  let freed := ((s.cod.placed.filter (fun b => ids.elem b.req.id && b.chain != t)).map (·.chain)).eraseDups
  forEach freed tuneNext (place r t (forEach ids (fun id u => endBooking id .displaced u) s))

/-- A chain without bookings is kept locked on a channel, without radiating (R376). -/
def holdChannel (ch : Nat) (s : State) : State :=
  let idle := (List.range 8).filter (fun t => s.chainRuns t && (s.bookingsOf t []).isEmpty)
  let there (t : Nat) : Bool := match (s.chainNow t).tuning with
    | some (x, _) => x == ch
    | none => (s.chainNow t).locked == ch
  if idle.any there then s
  else
    match idle.head? with
    | none => s
    | some t =>
      let ready := s.readyNow t ch
      let s := workFor (domTx0 + t) .booking s
      count COD_CNT_RETUNE 1 (modChain t (fun c => { c with locked := 0, tuning := some (ch, ready) }) s)

/-- Serve a booking (R173, R174, R180, R181): placed, placed by displacing, or refused with LATE or NOCHAIN. -/
def serveBooking (r : BookReq) (s : State) : State :=
  let s := count COD_CNT_TXREQ 1 s
  if s.step1 r.first ≤ s.cycles then giveOutcome r.id .late s
  else
    match s.chooseChain r [] with
    | some t => place r t s
    | none =>
      match s.displacement r [] ((s.candidates r.cls).map (fun b => b.req.id)) with
      | some (ids, t) => placeOver r t ids s
      | none => giveOutcome r.id .nochain s

/-- Whether a request is served before another: the earlier instant, then the class, then the earlier first chip (R181). -/
def BookReq.before (a b : BookReq) : Bool :=
  decide (a.asked < b.asked) || (a.asked == b.asked &&
    (decide (a.cls.rank < b.cls.rank) || (a.cls.rank == b.cls.rank && decide (a.first < b.first))))

/-- The request to serve next. -/
def State.nextRequest (s : State) : Option BookReq :=
  s.cod.asked.foldl (fun best r =>
    match best with
    | some b => if r.before b then some r else some b
    | none => some r) none

/-- Cancel a booking (R174): before the instant of its step 1 it ends CANCELLED, from then on a cancel has no effect. -/
def cancelBooking (id : Nat) (s : State) : State :=
  match s.cod.asked.find? (fun r => r.id == id) with
  | some r =>
    if s.step1 r.first ≤ s.cycles then s
    else
      giveOutcome id .cancelled (count COD_CNT_TXREQ 1
        (modCod (fun p => { p with asked := p.asked.filter (fun q => q.id != id) }) s))
  | none =>
    match s.cod.placed.find? (fun b => b.req.id == id) with
    | some b =>
      if s.beforeStep1 b then tuneNext b.chain (endBooking id .cancelled s) else s
    | none => s

/-- Serve every cancel the link sequencer has handed over. DEDUCED, unsafe: log 51. -/
def serveCancels (s : State) : State :=
  forEach s.cod.cancels cancelBooking (modCod (fun p => { p with cancels := [] }) s)

/-- BOOKING (R173): the transmit path takes the next booking, after the cancels handed over before it. -/
def execBooking (dt : Nat) (s : State) : Host.Outcome State Fault Refusal :=
  command dt (fun s =>
    let s := serveCancels s
    match s.nextRequest with
    | some r => serveBooking r (modCod (fun p => { p with asked := p.asked.filter (fun q => q.id != r.id) }) s)
    | none => s) s

/-- CANCEL (R174): the transmit path takes the next cancel of the link sequencer. -/
def execCancel (dt : Nat) (s : State) : Host.Outcome State Fault Refusal :=
  command dt (fun s =>
    match s.cod.cancels with
    | id :: ids => cancelBooking id (modCod (fun p => { p with cancels := ids }) s)
    | [] => s) s

/-- SYNTH_LOCK (R177): a chain's synthesiser has locked on the booked channel. -/
def execSynthLock (dt chain : Nat) (s : State) : Host.Outcome State Fault Refusal :=
  command dt (fun s =>
    match (s.chain chain).tuning with
    | some (ch, at_) =>
      if at_ ≤ s.cycles then modChain chain (fun c => { c with locked := ch, tuning := none }) s else s
    | none => s) s

/-- Move the bookings of chains that have become ineligible before their step 1 (R179): by a cleared TXRUN bit, R80, or a domain
locked off. -/
def chainsChanged (s : State) : State :=
  let lost := s.cod.placed.filter (fun b => s.beforeStep1 b && !s.chainHolds b.chain)
  forEach lost (fun b t =>
    let t := unplace b.req.id t
    match t.chooseChain b.req [] with
    | some c => place b.req c t
    | none => giveOutcome b.req.id .nochain t) s

/-- Clear a chain's bit in `RIM_PORT_RUN.TXRUN`; the bookings it holds move. -/
def removeChain (t : Nat) (s : State) : State :=
  let run := s.get RIM_PORT_RUN_TXRUN
  chainsChanged (if bitAt run t then s.set RIM_PORT_RUN_TXRUN (run - 2 ^ t) else s)

/-- TX_HALT (R184): the task writes 0 to `COD_TXLIM.MAXCH`. -/
def execTxHalt (dt : Nat) (s : State) : Host.Outcome State Fault Refusal :=
  command dt (fun s =>
    if s.taskQueued 0x340 then
      endTask 0x340 (changeMirrored 0x200D0014 (fun t => t.set COD_TXLIM_MAXCH 0) s)
    else s) s

/-- A booking a chain has on air. -/
def State.airOf (s : State) (t : Nat) : Option Booking :=
  s.cod.placed.find? (fun b => b.chain == t && decide (1 ≤ b.step))

/-- Change a booking. -/
def modBooking (id : Nat) (f : Booking → Booking) (s : State) : State :=
  modCod (fun p => { p with placed := p.placed.map (fun b => if b.req.id = id then f b else b) }) s

/-! ### Outcomes in order (R174) -/

/-- An outcome may reach the link sequencer: no booking with an earlier first chip on its chain still owes its own.
DEDUCED, unsafe: log 168. -/
def State.outcomeReady (s : State) (o : Nat × TxOutcome) : Bool :=
  match s.cod.onChain.find? (fun e => e.1 == o.1) with
  | some m => !s.cod.onChain.any (fun e => e.1 != m.1 && e.2.1 == m.2.1 && decide (e.2.2 < m.2.2))
  | none => true

/-- The next outcome that may reach the link sequencer. -/
def State.nextOutcome (s : State) : Option (Nat × TxOutcome) := s.cod.outcomes.find? s.outcomeReady

/-- An outcome is taken. -/
def takeOutcome (o : Nat × TxOutcome) (s : State) : State :=
  modCod (fun c => { c with outcomes := c.outcomes.erase o, onChain := c.onChain.filter (fun e => e.1 != o.1) }) s

/-! ### The samples a chain sends (R59, R78, R81, R82, R175) -/

/-- The chips of a booking's frame. -/
def Booking.chips (b : Booking) : List Bool := frameChips b.req.mode (psduOf b.req.mode b.req.mpdu)

/-- 25 ns, the sample time of the DAC, in timebase cycles. -/
def sampleCycles : Nat := 8

/-- The index of the sample a booking's frame is at. -/
def State.sampleIndex (s : State) (b : Booking) : Nat := (s.cycles - b.req.first) / sampleCycles

/-- The unmodulated carrier at the phase of the first chip (R82). DEDUCED, unsafe: log 169. -/
def firstPhase (chips : List Bool) : RailSample × RailSample := ({ sign := chipSign chips 0, n := 20 }, { sign := 0, n := 0 })

/-- The carrier at the phase of the last chip, which a ramp-down holds (R82). -/
def lastPhase (chips : List Bool) : RailSample × RailSample :=
  ({ sign := 0, n := 0 }, { sign := chipSign chips (chips.length - 1), n := 20 })

/-- What the modulator has for a chain's DAC now: the ramp code (R81) and the sample it scales. In the ramp-up the carrier at the
first chip's phase, then the chips, then in the ramp-down the phase held (R82), or the last sample delivered where the FIFO ran
empty (R59). A ramp-down that a reset does not stop goes on (R62). -/
def State.dacOutput (s : State) (t : Nat) : Option (Nat × RailSample × RailSample) :=
  match s.airOf t with
  | none =>
    (match s.rim.fading.find? (fun f => f.chain == t && !s.passed f.since (usCycles * f.ramp)) with
     | some f => some (min f.top (rampDownCode f.ramp ((s.cycles - f.since) / sampleCycles)),
         { sign := f.i.1, n := f.i.2 }, { sign := f.q.1, n := f.q.2 })
     | none => none)
  | some b =>
    let ramp := s.get RIM_TXCFG_RAMP
    if b.step = 2 then some (rampUpCode ramp ((s.cycles - b.rampFrom) / sampleCycles), firstPhase b.chips)
    else if b.step = 3 then some (255, oqpskSample b.chips (s.sampleIndex b))
    else if b.step = 4 then
      some (rampDownCode ramp ((s.cycles - b.e) / sampleCycles),
        match b.heldAt with
        | some k => oqpskSample b.chips k
        | none => lastPhase b.chips)
    else none

/-- The ramp-down that a chain begins, or goes on with, when PLL_FAULT stops it (R62, R81, R84 step 4): from the code and the sample
it has now. -/
def State.fadeOf (s : State) (t : Nat) : Option Fade :=
  match s.airOf t, s.dacOutput t with
  | some b, some (code, i, q) => some {
      chain := t, since := if b.step = 4 then b.e else s.cycles, ramp := s.get RIM_TXCFG_RAMP,
      top := if b.step = 2 then code else 255, i := (i.sign, i.n), q := (q.sign, q.n) }
  | _, _ => none

/-- The samples of a booking's frame, from its first chip to E. -/
def Booking.frameSamples (b : Booking) : Nat := (b.e - b.req.first) / sampleCycles

/-- Sample `k` of a booking's stream as the core gives it (R81, R82, R175): the ramp-up's `r` samples, the frame's `n`, the
ramp-down's `r`, each with the ramp code that scales it. -/
def Booking.streamSample (b : Booking) (ramp r n k : Nat) : Nat × RailSample × RailSample :=
  if k < r then (rampUpCode ramp k, firstPhase b.chips)
  else if k < r + n then (255, oqpskSample b.chips (k - r))
  else (rampDownCode ramp (k - r - n), lastPhase b.chips)

/-- The core-to-rim FIFO of a chain (R59, R175): the next samples of the stream at 40 MS/s with the ramp codes that scale them, 256 at
most. How far the core is ahead
is not held: a TX_UNDERRUN says that it ran empty. DESIGN CHOICE, safe: log 170. -/
def State.txFifo (s : State) (t : Nat) : List (Nat × RailSample × RailSample) :=
  match s.airOf t with
  | some b =>
    let ramp := s.get RIM_TXCFG_RAMP
    let n := b.frameSamples
    let r := ramp * usCycles / sampleCycles
    let gone := if b.step = 2 ∨ b.step = 3 ∨ b.step = 4 then (s.cycles - b.rampFrom) / sampleCycles else 2 * r + n
    (List.range (min 256 (2 * r + n - gone))).map (fun i => b.streamSample ramp r n (gone + i))
  | none => []

/-- The output level of a transmission at the ball, in 0.1 dBm (R78, R79). -/
def Booking.outputLevel (b : Booking) : Int := 100 - 5 * b.level

/-- Lock a domain off: REQ goes to off and LOCKOFF to 1; the domain enters off once it is idle (R503, R507). -/
def lockOff (d : Nat) (s : State) : State :=
  if domainAbsent s.variant d then s else raise (PWR_DOMn_LOCKOFF d) (s.set (PWR_DOMn_REQ d) 0)

/-- A decided frame waits for its mirror cut-off, or a chain is on the air. -/
def State.gaspBusy (s : State) : Bool := !s.lnk.decided.isEmpty || s.cod.placed.any (fun b => !s.beforeStep1 b)

/-- The first phase of LASTGASP ends (R534): every decided frame has passed its cut-off and every chain has ended, or 5 ms have passed;
the domains are locked off. DEDUCED, unsafe: log 127. -/
def gaspFollows (s : State) : State :=
  match s.mode with
  | .lastgasp =>
    if s.hold.gaspDrain = true ∧ (s.gaspBusy = false ∨ s.passed s.hold.gaspFrom (5 * msCycles) = true) then
      chainsChanged (forEach s.lastgaspOff lockOff (modHold (fun h => { h with gaspDrain := false }) s))
    else s
  | _ => s

end Sys2Proof.Machine
end

