-- ==== Sys2Proof/Machine/Rim.lean ====
section
/-!
DEFINITION. The radio rim (R57 to R59, R73 to R104): FIFOs, AGC, the steps of a transmission, front-end patterns,
calibration, the receive LO and the RF capture. TX_START stands with the link sequencer, and the requests for a reset with
the resets.
-/

namespace Sys2Proof.Machine

/-- Change the rim's own state. -/
def modRim (f : Rim → Rim) (s : State) : State := { s with rim := f s.rim }

/-! ### Start calibration item by item (R90) -/

/-- The bounds of the items of start calibration, in order, in ms (R90). -/
def calBounds : List Nat := [1, 10, 20, 40, 10, 80, 120]

/-- The item, counted from `n`, that a time lies in and how far into it, where each item takes its bound. -/
def calItemAt : List Nat → Nat → Nat → Option (Nat × Nat)
  | [], _, _ => none
  | b :: bs, n, t => if t < b * msCycles then some (n, t) else calItemAt bs (n + 1) (t - b * msCycles)

/-- The item of R90 that start calibration is at, and for how long. DESIGN CHOICE, unsafe: log 172. -/
def State.calItem (s : State) : Option (Nat × Nat) :=
  if s.rim.calibrating then calItemAt calBounds 1 (s.cycles - s.cfg.testFrom) else none

/-- A chain transmits for its calibration: in item 6 with the others, in item 7 in its turn of 15 ms, or in a recalibration
(R90, R93), where its TXEN and TXRUN bits are 1 (R95). -/
def State.calTransmits (s : State) (t : Nat) : Bool :=
  bitAt (s.get RIM_PORT_EN_TXEN) t && bitAt (s.get RIM_PORT_RUN_TXRUN) t && (
    (decide (t < 8) && (s.chain t).recal.isSome)
    || (match s.calItem with
        | some (6, _) => true
        | some (7, since) => since / (15 * msCycles) == t
        | _ => false))

/-- The unmodulated carrier of a chain in its calibration: the channel CALCH and LEVEL 60 (R90). -/
def State.calCarrier (s : State) (t : Nat) : Option (Nat × Nat) :=
  if s.calTransmits t then some (s.get RIM_TXCFG_CALCH, 60) else none

/-! ### Front-end outputs (R83) -/

/-- A port is off (R83), or the pad hold latch of its domain is closed, which keeps its outputs at PAT_OFF (R500, R510, R511). -/
def State.portOff (s : State) (p : Nat) : Bool :=
  !bitAt (s.get RIM_PORT_EN_RXEN) p || !s.domainOn (domRx0 + p / 4) || s.is (PWR_DOMn_HOLD (domRx0 + p / 4))
    || (match s.mode with
        | .reset => true
        | .load => true
        | .lastgasp => true
        | .update => true
        | .safe => true
        | .selftest => false
        | .solo => false
        | .primary => false
        | .standby => false
        | .takeover => false
        | .holdover => false
        | .maker => false)

/-- The 2-bit pattern on a port's outputs, FEMA in bit 0 and FEMB in bit 1: the first row of R83 that applies. -/
def State.femPattern (s : State) (p : Nat) : Nat :=
  if s.portOff p then s.get RIM_FEM_PAT_OFF
  else if p < 8 ∧ (s.calCarrier p).isSome = true then s.get RIM_FEM_PAT_CAL
  else if s.cod.placed.any (fun b => b.chain == p && b.fem) then s.get RIM_FEM_PAT_TX
  else s.get RIM_FEM_PAT_RX

/-! ### AGC (R76, R77) -/

/-- A port's gain is fixed (R76). -/
def State.gainFixed (s : State) (p : Nat) : Bool := bitAt (s.get RIM_AGC_FIX_FIX) p

/-- Every fixed port takes STEP (R76). -/
def applyFix (s : State) : State :=
  forEach ((List.range s.portCount).filter s.gainFixed) (fun p t => t.set (gainFld p) (t.get RIM_AGC_FIX_STEP)) s

/-- The limits within which a register's fields are stored, for software's writes and for what an image gives: the watchdog's and the
queues' least values, the slot selector, MAXCH, LEVEL (R78), the fixed gains (R76), WAIT and the DRAM window. -/
def fieldLimits (a : Nat) (s : State) : State :=
  if a = 0x20030020 then floorField LPW_WDT_CFG_TIMEOUT 10 s
  else if a = 0x2009002C then limitField SEC_SLOT_SEL_SLOT 575 s
  else if 0x200B0100 ≤ a ∧ a < 0x200B0180 then floorField (LNK_DQn_WEIGHT ((a - 0x200B0100) / 4)) 1 s
  else if a = 0x200D0014 then limitField COD_TXLIM_MAXCH 8 s
  else if a = 0x200E0014 then applyFix s
  else if 0x200E0020 ≤ a ∧ a < 0x200E0040 then limitField (RIM_TXLVLn_LEVEL ((a - 0x200E0020) / 4)) 60 s
  else if 0x200F0040 ≤ a ∧ a < 0x200F0080 then floorField (SHF_CLSn_WAIT ((a - 0x200F0040) / 4)) 1 s
  else if a = 0x20130004 then limitField APP_DRAMWIN_BASE 27 s
  else s

/-- The port runs and its domain is on. -/
def State.portLive (s : State) (p : Nat) : Bool := decide (p < s.portCount) && s.domainOn (domRx0 + p / 4)

/-- Show a port's input power over the last 10 µs, in signed dBm. -/
def showPower (p : Nat) (power : Int) (s : State) : State := s.set (pwrFld p) (twos 8 (clamp (-128) 127 power))

/-- The input power of a port at full scale, in dBm (R75). -/
def State.fullScale (s : State) (p : Nat) : Int := -45 + 4 * (15 - (s.get (gainFld p) : Int))

/-- The RMS of a port lies more than 8 dB below its target (R76). -/
def State.farBelow (s : State) (p : Nat) (power : Int) : Bool :=
  decide (power < s.fullScale p - s.get RIM_AGC_TARGET - 8)

/-- Since when a port's RMS has stayed far below its target. -/
def State.lowSince (s : State) (p : Nat) : Nat := ((s.rim.lowFrom.find? (fun e => e.1 == p)).map (·.2)).getD 0

/-- The time far below the target runs from now. -/
def restartLow (p : Nat) (s : State) : State :=
  modRim (fun r => { r with lowFrom := (p, s.cycles) :: r.lowFrom.filter (fun e => e.1 != p) }) s

/-- DECAY has passed with the RMS far below the target. -/
def State.decayed (s : State) (p : Nat) : Bool :=
  decide (s.lowSince p + s.get RIM_AGC_DECAY * 100 * usCycles ≤ s.cycles)

/-- Set a port's gain; the time far below the target runs anew. -/
def setGain (p g : Nat) (s : State) : State := restartLow p (s.set (gainFld p) g)

/-- AGC_STEP_DOWN (R76): the clipped samples of a 1 µs interval. One or more count the interval; ATTACK of them lower GAIN
by one step. -/
def execAgcStepDown (dt port clipped : Nat) (power : Int) (s : State) : Host.Outcome State Fault Refusal :=
  command dt (fun s =>
    if s.portLive port then
      let s := onlyIf (decide (0 < clipped)) (count (clipFld port) 1) (showPower port power s)
      let s := onlyIf (!s.farBelow port power) (restartLow port) s
      if s.get RIM_AGC_ATTACK ≤ clipped ∧ 0 < clipped ∧ s.gainFixed port = false then
        setGain port (s.get (gainFld port) - 1) s
      else s
    else s) s

/-- Raising is suspended while any chain transmits, for its calibration as well, and for 10 µs after every ramp-down ends (R76). -/
def State.raiseSuspended (s : State) : Bool :=
  (List.range 8).any s.calTransmits || s.cod.placed.any (fun b => decide (2 ≤ b.step ∧ b.step ≤ 4)) || decide (s.cycles < s.rim.rampEnd + 10 * usCycles)

/-- AGC_STEP_UP (R76): the RMS measured of a port. Where it has stayed more than 8 dB below the target for DECAY the gain rises by
one step. DESIGN CHOICE, unsafe: log 173. -/
def execAgcStepUp (dt port : Nat) (power : Int) (s : State) : Host.Outcome State Fault Refusal :=
  command dt (fun s =>
    if s.portLive port then
      let s := showPower port power s
      if s.farBelow port power then
        if s.raiseSuspended || s.gainFixed port || !s.decayed port then s
        else setGain port (min 15 (s.get (gainFld port) + 1)) s
      else restartLow port s
    else s) s

/-! ### Overflow and underrun (R57 to R59) -/

/-- Trigger a RING capture once (R101). -/
def captureTrigger (hop : Nat) (s : State) : State :=
  if s.is RIM_CAP_STAT_ACTIVE && s.is RIM_CAP_CTRL_MODE && !s.is RIM_CAP_STAT_TRIGGERED then
    let ports := (List.range 16).filter (fun p => bitAt (s.get RIM_CAP_CTRL_PORTS) p)
    let s := raise RIM_CAP_STAT_TRIGGERED s
    modRim (fun r => { r with cap := { r.cap with left := ports.map (fun p => (p, s.get RIM_CAP_POST_POST)), trigHop := hop } }) s
  else s

/-- The next captured block of a port carries GAP (R57, R98). -/
def pauseCapture (p : Nat) (s : State) : State :=
  modRim (fun r => { r with cap := { r.cap with gapPorts := p :: r.cap.gapPorts.filter (· != p) } }) s

/-- OVERFLOW (R57, R58): the port discards samples, every lane is aborted with OVF, and the flags and counts are set. -/
def execOverflow (dt port : Nat) (s : State) : Host.Outcome State Fault Refusal :=
  command dt (fun s =>
    if s.portRuns port && s.domainOn (domRx0 + port / 4) && !s.rim.gaps.elem port then
      let s := pauseCapture port (modRim (fun r => { r with gaps := port :: r.gaps }) s)
      let s := s.set RIM_FLAG_OVF (s.get RIM_FLAG_OVF ||| 2 ^ port)
      let s := raise RIM_INT_STAT_OVF (count (ovfFld port) 1 s)
      let s := emit 0x380 0 s
      let any := s.lnp.lanes.any (fun e => e.2.st != .idle && e.2.st != .report)
      let s := abortLanes (fun _ => true) stOvf LNP_CNT_OVF s
      let s := if any then emit 0x306 0 (raise LNP_INT_STAT_OVF s) else s
      let s := d1Miss (disturb channels s)
      if s.is RIM_CAP_CTRL_OVFTRIG && bitAt (s.get RIM_CAP_CTRL_PORTS) port then captureTrigger 0 s else s
    else s) s

/-- GAP_END (R57): the FIFO has drained to 256 samples and accepts samples again; detection starts afresh (R58). -/
def execGapEnd (dt port : Nat) (s : State) : Host.Outcome State Fault Refusal :=
  command dt (fun s => onlyIf (s.rim.gaps.elem port) (modRim (fun r => { r with
    gaps := r.gaps.filter (· != port), gapEnd := some s.cycles })) s) s

/-- TX_UNDERRUN (R59): the ramp-down starts at this instant, which takes the place of E. -/
def execTxUnderrun (dt chain : Nat) (s : State) : Host.Outcome State Fault Refusal :=
  command dt (fun s =>
    match s.airOf chain with
    | some b =>
      if b.step = 3 then
        let s := modBooking b.req.id (fun b => { b with step := 4, e := s.cycles, under := true, heldAt := some (s.sampleIndex b) }) s
        let s := s.set RIM_FLAG_UNDR (s.get RIM_FLAG_UNDR ||| 2 ^ chain)
        d1Miss (raise RIM_INT_STAT_UNDR s)
      else s
    | none => s) s

/-! ### The steps of a transmission (R84) -/

/-- The ports that a transmission of a chain blanks: its own, and those it is poorly isolated from (R84, R89). -/
def State.blankedBy (s : State) (t : Nat) : List Nat := (List.range s.portCount).filter (fun p => p == t || s.isoLow t p)

/-- Step 1 fails with SYNTH (R178); three in a row take the chain out. -/
def synthFail (t id : Nat) (s : State) : State :=
  let n := min 3 ((s.chain t).synfail + 1)
  let s := endBooking id .synth (modChain t (fun c => { c with synfail := n }) s)
  if n = 3 then emit 0x343 0 (raise COD_INT_STAT_CHOUT (removeChain t s)) else tuneNext t s

/-- TX_WINDOW_OPEN (R84 step 1): beyond the limit the booking ends NOCHAIN (R180), without its MPDU LATE (R173), without a
locked synthesiser SYNTH (R178); else the front end goes to transmit and the ports are blanked. -/
def execTxWindowOpen (dt chain : Nat) (loaded : Bool) (s : State) : Host.Outcome State Fault Refusal :=
  command dt (fun s =>
    match firstAfter 0 ((s.bookingsOf chain []).filter (fun b => b.step == 0)) with
    | none => s
    | some b =>
      let id := b.req.id
      if s.cycles < s.step1 b.req.first ∨ (s.airOf chain).isSome = true then s
      else if s.txLimit ≤ s.onAir.length then tuneNext chain (endBooking id .nochain s)
      else if loaded = false ∨ s.lnk.acks.any (fun a => a.booking == id && a.secure.isSome) = true then tuneNext chain (endBooking id .late s)
      else if (s.chain chain).locked ≠ b.req.ch ∨ s.domainOn (domTx0 + chain) = false then synthFail chain id s
      else
        let s := modBooking id (fun b => { b with step := 1, fem := true }) s
        forEach (s.blankedBy chain) dropPort s) s

/-- The lanes that a desense interval on a channel ends or marks (R88); every channel's noise window is disturbed. -/
def desenseLanes (c : Nat) (s : State) : State :=
  let s := disturb channels s
  let s := abortLanes (fun l => s.desenseRow c l.ch == 2) stTxBlank LNP_CNT_TXBLANK s
  modLnp (fun p => { p with lanes := p.lanes.map (fun e =>
    if s.desenseRow c e.2.ch = 1 then (e.1, { e.2 with desense := true }) else e) }) s

/-- RAMP_UP (R84 step 2): LEVEL is sampled (R79) and the desense interval starts. -/
def execRampUp (dt chain : Nat) (s : State) : Host.Outcome State Fault Refusal :=
  command dt (fun s =>
    match s.airOf chain with
    | some b =>
      if b.step = 1 ∧ b.req.first ≤ s.cycles + s.ramp then
        let level := s.get (RIM_TXLVLn_LEVEL chain)
        desenseLanes b.req.ch
          (modBooking b.req.id (fun b => { b with step := 2, des := true, level := level, rampFrom := s.cycles }) s)
      else s
    | none => s) s

/-- The detector's comparison at the end of a ramp-up (R80), `diff` in 0.01 dB: more than 3 dB is a fault, the third in a row
removes the chain. DESIGN CHOICE, unsafe: log 157. -/
def detectorCheck (t : Nat) (diff : Int) (s : State) : State :=
  if 300 < diff.natAbs then
    let s := s.set RIM_FLAG_TXPWR (s.get RIM_FLAG_TXPWR ||| 2 ^ t)
    let n := (s.chain t).faults + 1
    if 3 ≤ n then
      let s := modChain t (fun c => { c with faults := 0 }) s
      emit 0x383 0 (raise RIM_INT_STAT_TXPWR (removeChain t s))
    else modChain t (fun c => { c with faults := n }) s
  else modChain t (fun c => { c with faults := 0 }) s

/-- RAMP_DOWN (R84 step 4): E. -/
def execRampDown (dt chain : Nat) (s : State) : Host.Outcome State Fault Refusal :=
  command dt (fun s =>
    match s.airOf chain with
    | some b => if b.step = 3 ∧ b.e ≤ s.cycles then modBooking b.req.id (fun b => { b with step := 4 }) s else s
    | none => s) s

/-- TX_END (R84 step 5): the output is off; TX_END fires (R184). -/
def execTxEnd (dt chain : Nat) (s : State) : Host.Outcome State Fault Refusal :=
  command dt (fun s =>
    match s.airOf chain with
    | some b =>
      if b.step = 4 ∧ s.step5 b.e ≤ s.cycles then
        let s := modBooking b.req.id (fun b => { b with step := 5 }) s
        let s := modRim (fun r => { r with rampEnd := s.cycles }) s
        let s := modCod (fun c => { c with
          ownEnd := (b.req.ch, s.cycles) :: c.ownEnd.filter (fun e => e.1 != b.req.ch) }) s
        emit 0x345 0 s
      else s
    | none => s) s

/-- FEM_RECEIVE (R84 step 6): the outputs return to PAT_RX. -/
def execFemReceive (dt chain : Nat) (s : State) : Host.Outcome State Fault Refusal :=
  command dt (fun s =>
    match s.airOf chain with
    | some b =>
      if b.step = 5 ∧ s.step5 b.e + s.lag ≤ s.cycles then modBooking b.req.id (fun b => { b with fem := false }) s else s
    | none => s) s

/-- DESENSE_END (R84 step 7, R88): the desense interval ends. -/
def execDesenseEnd (dt chain : Nat) (s : State) : Host.Outcome State Fault Refusal :=
  command dt (fun s =>
    match s.airOf chain with
    | some b =>
      if b.step = 5 ∧ b.des = true ∧ s.step5 b.e + 2 * usCycles ≤ s.cycles then
        let s := modBooking b.req.id (fun b => { b with des := false }) s
        let near := channels.filter (fun k => s.desenseRow b.req.ch k == 1)
        let some := channels.filter (fun k => decide (0 < s.desenseRow b.req.ch k))
        modLnp (fun p => { p with
          desEnd := near.map (fun k => (k, s.cycles)) ++ p.desEnd.filter (fun e => !near.elem e.1),
          desAll := some.map (fun k => (k, s.cycles)) ++ p.desAll.filter (fun e => !some.elem e.1) }) s
      else s
    | none => s) s

/-- The outcome of a booking that has radiated (R59, R178): UNDERRUN, or SENT, which ends the chain's SYNTH outcomes in a row. -/
def airOutcome (t : Nat) (b : Booking) (s : State) : State :=
  if b.under then giveOutcome b.req.id .underrun s
  else giveOutcome b.req.id .sent (modChain t (fun c => { c with synfail := 0 }) s)

/-- PORT_UNBLANK (R84 step 8): the port is unblanked, the outcome is given (R179's example) and the chain is free for its next
booking. -/
def execPortUnblank (dt chain : Nat) (s : State) : Host.Outcome State Fault Refusal :=
  command dt (fun s =>
    match s.airOf chain with
    | some b =>
      if b.step = 5 ∧ b.fem = false ∧ b.des = false ∧ s.step8 b.e ≤ s.cycles then
        gaspFollows (tuneNext chain (useDomain (domTx0 + chain) (unplace b.req.id (airOutcome chain b s))))
      else s
    | none => s) s

/-! ### Calibration (R89 to R94) -/

/-- A calibration ends (R90, R93, R94): its flag and event. -/
def calibrationEnded (failed : Bool) (s : State) : State :=
  let s := raise RIM_CAL_STAT_DONE (raise RIM_INT_STAT_CALDONE s)
  emit 0x381 0 (onlyIf failed (raise RIM_INT_STAT_CALFAIL) s)

/-- Store measured isolations of a chain (R89): ISOLOW where a pair lies below 25 dB; a chain's own port reads 0xFF.
DESIGN CHOICE, unsafe: log 160. -/
def storeIso (t : Nat) (iso : List Nat) (s : State) : State :=
  let s := forEach (List.range s.portCount) (fun p u =>
    u.set (isoFld t p) (if p = t then 0xFF else min 0xFF ((iso[p]?).getD 0xFF))) s
  if (List.range s.portCount).any (fun p => s.isoLow t p) then emit 0x385 0 (raise RIM_INT_STAT_ISOLOW s) else s

/-- The failures of a calibration (R90): CAL_STAT bits set and run bits cleared. -/
def calibrationFails (rx tx : Nat) (s : State) : State :=
  let s := s.set RIM_CAL_STAT_RXFAIL (s.get RIM_CAL_STAT_RXFAIL ||| rx)
  let s := s.set RIM_CAL_STAT_TXFAIL (s.get RIM_CAL_STAT_TXFAIL ||| tx)
  let s := forEach ((List.range 16).filter (fun p => bitAt rx p)) dropPort s
  let s := s.set RIM_PORT_RUN_RXRUN (s.get RIM_PORT_RUN_RXRUN &&& (0xFFFF - rx % 2 ^ 16))
  chainsChanged (s.set RIM_PORT_RUN_TXRUN (s.get RIM_PORT_RUN_TXRUN &&& (0xFF - tx % 2 ^ 8)))

/-- New coefficients of ports and chains are in the store and in use (R91): `keys` names a port by its number, a chain by 16 plus
its own. -/
def storeCoeffs (keys : List Nat) (s : State) : State :=
  let fresh (l : List (Nat × Nat)) := keys.map (fun k => (k, s.cycles)) ++ l.filter (fun e => !keys.elem e.1)
  modRim (fun r => { r with coeffs := fresh r.coeffs, inUse := fresh r.inUse }) s

/-- CALIBRATION_END (R90): start calibration ends. `iso` holds 16 values for each chain, `calnf` the noise floor of each
channel in dBm (R135), `degrees` the temperature at each chain's nearest site. DEDUCED, unsafe: log 44. -/
def execCalibrationEnd (dt : Nat) (loFail : Bool) (rxFail txFail : Nat) (iso : List Nat) (calnf degrees : List Int)
    (s : State) : Host.Outcome State Fault Refusal :=
  command dt (fun s =>
    if s.rim.calibrating then
      let rx := if loFail then s.get RIM_PORT_EN_RXEN else rxFail &&& s.get RIM_PORT_EN_RXEN
      let tx := txFail &&& s.get RIM_PORT_EN_TXEN
      let s := modRim (fun r => { r with
        calibrating := false, calnf := calnf, rampEnd := s.cycles,
        loLost := if loFail then some s.cycles else none }) s
      let s := storeCoeffs ((List.range 16).filter (fun p => bitAt (s.get RIM_PORT_EN_RXEN) p && !bitAt rx p)
        ++ ((List.range 8).filter (fun t => bitAt (s.get RIM_PORT_EN_TXEN) t && !bitAt tx t)).map (16 + ·)) s
      let s := s.set RIM_STAT_LO_LOCK (flag (!loFail))
      let s := forEach ((List.range 8).filter (fun t => bitAt (s.get RIM_PORT_EN_TXEN) t)) (fun t u =>
        modChain t (fun c => { c with calTemp := (degrees[t]?).getD 0 }) (storeIso t (iso.drop (16 * t)) u)) s
      let s := forEach (List.range 16) (fun n u =>
        u.set (LNP_NFn_CALNF n) (twos 8 (clamp (-128) 127 ((calnf[n]?).getD 0)))) s
      let s := reseedFloors s
      calibrationEnded (rx != 0 || tx != 0) (calibrationFails rx tx s)
    else s) s

/-- Request the recalibration of a chain (R93); a request for one that recalibrates is merged. -/
def requestRecal (t : Nat) (s : State) : State :=
  s.set RIM_CAL_CMD_TXCHAIN (s.get RIM_CAL_CMD_TXCHAIN ||| 2 ^ t)

/-- Start the next RXPORT calibration, in ascending order, one at a time (R94). -/
def nextRxCal (s : State) : State :=
  if s.rim.rxCal.isSome then s
  else
    match (List.range s.portCount).find? (fun p => bitAt (s.get RIM_CAL_CMD_RXPORT) p) with
    | some p => dropPort p (modRim (fun r => { r with rxCal := some (p, s.cycles) }) s)
    | none => s

/-- TXCHAIN_RECAL_REQUEST (R93): a write of `RIM_CAL_CMD` (whose RXPORT bits act as in R94), a temperature change of
TEMPDELTA or more, or the re-enable of a chain. -/
def execTxchainRecalRequest (dt : Nat) (cause : RecalCause) (s : State) : Host.Outcome State Fault Refusal :=
  command dt (fun s =>
    match cause with
    | .write acc w => writeRow acc 0x200E0040 w nextRxCal s
    | .temperature t deg =>
      let delta := s.get RIM_TXCFG_TEMPDELTA
      if t < 8 ∧ delta ≠ 0 ∧ delta ≤ (deg - (s.chain t).calTemp).natAbs then requestRecal t s else s
    | .enabled t =>
      if t < 8 ∧ (s.chain t).owes = true then modChain t (fun c => { c with owes := false }) (requestRecal t s) else s) s

/-- 1.2 ms (R93). -/
def recalSpan : Nat := 1200 * usCycles

/-- RECAL_GRANT (R93): the chain has no transmission booked in the next 1.2 ms and no other chain recalibrates.
DESIGN CHOICE, unsafe: log 161. -/
def execRecalGrant (dt chain : Nat) (s : State) : Host.Outcome State Fault Refusal :=
  command dt (fun s =>
    let free := (s.bookingsOf chain []).all (fun b => b.step == 0 && decide (s.cycles + recalSpan ≤ s.step1 b.req.first))
    let alone := (List.range 8).all (fun t => (s.chain t).recal.isNone)
    if chain < 8 ∧ bitAt (s.get RIM_CAL_CMD_TXCHAIN) chain = true ∧ free = true ∧ alone = true then
      dropPort chain (modChain chain (fun c => { c with recal := some s.cycles, locked := 0, tuning := none }) s)
    else s) s

/-- RECAL_DONE (R93): the chain's part of items 6 and 7 ends; `iso` are the 16 isolations measured. -/
def execRecalDone (dt chain : Nat) (ok : Bool) (iso : List Nat) (degrees : Int) (s : State) :
    Host.Outcome State Fault Refusal :=
  command dt (fun s =>
    if chain < 8 ∧ (s.chain chain).recal.isSome = true then
      let s := modRim (fun r => { r with rampEnd := s.cycles }) s
      let s := modChain chain (fun c => { c with recal := none, calTemp := degrees }) s
      let s := onlyIf ok (storeCoeffs [16 + chain]) s
      let cmd := s.get RIM_CAL_CMD_TXCHAIN
      let s := s.set RIM_CAL_CMD_TXCHAIN (if bitAt cmd chain then cmd - 2 ^ chain else cmd)
      let s := if ok then storeIso chain iso s else calibrationFails 0 (2 ^ chain) s
      tuneNext chain (calibrationEnded (!ok) s)
    else s) s

/-- RXPORT_CAL_REQUEST (R94): a write of `RIM_CAL_CMD`. -/
def execRxportCalRequest (dt : Nat) (acc : Access) (w : Word) (s : State) : Host.Outcome State Fault Refusal :=
  command dt (writeRow acc 0x200E0040 w nextRxCal) s

/-- RXPORT_CAL_DONE (R94): the port's repeated calibration ends and its request bit clears. -/
def execRxportCalDone (dt : Nat) (ok : Bool) (s : State) : Host.Outcome State Fault Refusal :=
  command dt (fun s =>
    match s.rim.rxCal with
    | some (p, _) =>
      let s := modRim (fun r => { r with rxCal := none }) s
      let cmd := s.get RIM_CAL_CMD_RXPORT
      let s := s.set RIM_CAL_CMD_RXPORT (if bitAt cmd p then cmd - 2 ^ p else cmd)
      let s := if ok then storeCoeffs [p] s else calibrationFails (2 ^ p) 0 s
      nextRxCal (calibrationEnded (!ok) s)
    | none => s) s

/-- The DC offset, the I/Q imbalance and the alignment of a port as the rim tracks them (R92): those of now while PILOT is 1,
those of the instant it was written 0 while it is 0. The values are the part's. -/
def State.tracked (s : State) (p : Nat) : Nat :=
  Config.tracking p (if s.is RIM_CTRL_PILOT then s.cycles else s.rim.frozenAt)

/-- The effect of a write of `RIM_CTRL`: PILOT going to 0 freezes the tracked values (R92). -/
def pilotWrite (old : Word) (s : State) : State :=
  if bitAt old.toNat 0 && !s.is RIM_CTRL_PILOT then modRim (fun r => { r with frozenAt := s.cycles }) s else s

/-- PILOT (R92): a write of `RIM_CTRL`; the tracked values follow while PILOT is 1 and are frozen while it is 0. -/
def execPilot (dt : Nat) (acc : Access) (w : Word) (s : State) : Host.Outcome State Fault Refusal :=
  command dt (fun s => writeRow acc 0x200E0018 w (pilotWrite (s.word 0x200E0018)) s) s

/-! ### Run masks (R95, R96) -/

/-- The effect of a write of `RIM_PORT_RUN`: a 1 where EN is 0 is ignored, a stopped port is blanked, a stopped chain takes
no more bookings and those it holds move, and a chain enabled again is recalibrated, with its counts of detector faults and of
SYNTH outcomes in a row at 0 (R93, R80, R96, R178).
DESIGN CHOICE, unsafe: log 158. -/
def portRunWrite (old : Word) (s : State) : State :=
  let rxOld := extractBits old 0 16
  let txOld := extractBits old 16 8
  let rx := (s.get RIM_PORT_RUN_RXRUN &&& s.get RIM_PORT_EN_RXEN)
    ||| (rxOld &&& s.get RIM_PORT_RUN_RXRUN &&& (0xFFFF - s.get RIM_PORT_EN_RXEN))
  let tx := (s.get RIM_PORT_RUN_TXRUN &&& s.get RIM_PORT_EN_TXEN)
    ||| (txOld &&& s.get RIM_PORT_RUN_TXRUN &&& (0xFF - s.get RIM_PORT_EN_TXEN))
  let s := (s.set RIM_PORT_RUN_RXRUN rx).set RIM_PORT_RUN_TXRUN tx
  let s := forEach ((List.range 16).filter (fun p => bitAt rxOld p && !bitAt rx p)) dropPort s
  let s := forEach ((List.range 8).filter (fun t => !bitAt txOld t && bitAt tx t)) (fun t u =>
    modChain t (fun c => { c with owes := true, faults := 0, synfail := 0 }) u) s
  chainsChanged s

/-- PORT_RUN_WRITE (R96): a write of `RIM_PORT_RUN`. -/
def execPortRunWrite (dt : Nat) (acc : Access) (w : Word) (s : State) : Host.Outcome State Fault Refusal :=
  command dt (fun s => writeRow acc 0x200E0004 w (portRunWrite (s.word 0x200E0004)) s) s

/-! ### The receive LO (R97) -/

/-- LO_UNLOCK (R97): the LO has been unlocked for more than 1 µs. -/
def execLoUnlock (dt : Nat) (s : State) : Host.Outcome State Fault Refusal :=
  command dt (fun s =>
    if s.rim.loLost.isSome then s
    else
      let s := abortLanes (fun _ => true) stLoUnlock LNP_CNT_LOUNLK s
      let s := modRim (fun r => { r with loLost := some s.cycles }) (disturb channels s)
      emit 0x384 0 (raise RIM_INT_STAT_LOUNLOCK (s.set RIM_STAT_LO_LOCK 0))) s

/-- LO_RELOCK (R97): detection resumes. -/
def execLoRelock (dt : Nat) (s : State) : Host.Outcome State Fault Refusal :=
  command dt (fun s => (modRim (fun r => { r with loLost := none }) s).set RIM_STAT_LO_LOCK 1) s

/-! ### RF capture (R98 to R101) -/

/-- The captured ports, in ascending order. -/
def State.capPorts (s : State) : List Nat := (List.range 16).filter (fun p => bitAt (s.get RIM_CAP_CTRL_PORTS) p)

/-- The effect of START (R100, R101): refused with ERR for 0 or more than 4 ports or size 0, ignored while ACTIVE. -/
def captureStart (s : State) : State :=
  if s.is RIM_CAP_STAT_ACTIVE then s
  else
    let s := (s.setWord 0x200E00C4 0).set RIM_CAP_WRPTR_OFFSET 0
    let n := s.capPorts.length
    if n = 0 ∨ 4 < n ∨ s.get RIM_CAP_SIZE_SIZE = 0 then raise RIM_CAP_STAT_ERR s
    else
      let gains := s.capPorts.map (fun p => (p, s.get (gainFld p)))
      let cap0 : Capture := { counts := [], gapPorts := [], left := [], stopping := false, lastGain := gains, blanked := [], trigHop := 0 }
      let s := modRim (fun r => { r with cap := cap0 }) s
      raise RIM_CAP_STAT_ACTIVE s

/-- End a capture with DONE or STOPPED. CAP_DONE carries the hop count of the trigger, or of the stop, that brought the end about;
the run of CAP_STOP has then taken effect (R389, R390). -/
def captureEnd (done : Bool) (s : State) : State :=
  let hop := if done then s.rim.cap.trigHop else s.taskHop 0x381
  let s := s.set RIM_CAP_STAT_ACTIVE 0
  let s := modRim (fun r => { r with cap := { r.cap with stopping := false } }) s
  let s := raise (if done then RIM_CAP_STAT_DONE else RIM_CAP_STAT_STOPPED) s
  emit 0x382 hop (raise RIM_INT_STAT_CAPDONE (endTask 0x381 s))

/-- The effect of STOP: the capture ends at the next block boundary, and its task input is busy until then (R389). -/
def captureStop (s : State) : State :=
  if s.is RIM_CAP_STAT_ACTIVE then
    startTask 0x381 (modRim (fun r => { r with cap := { r.cap with stopping := true } }) s)
  else if (s.task 0x381).busy then endTask 0x381 s
  else s

/-- The effect of a write of `RIM_CAP_CTRL`: MODE, OVFTRIG and PORTS keep their values while ACTIVE, and START, STOP and TRIG
act and read 0. -/
def capCtrlWrite (old w : Word) (s : State) : State :=
  let active := s.is RIM_CAP_STAT_ACTIVE
  let s := if active then
      ((s.set RIM_CAP_CTRL_MODE (extractBits old 4 1)).set RIM_CAP_CTRL_OVFTRIG (extractBits old 5 1)).set
        RIM_CAP_CTRL_PORTS (extractBits old 16 16)
    else s
  let s := ((s.set RIM_CAP_CTRL_START 0).set RIM_CAP_CTRL_STOP 0).set RIM_CAP_CTRL_TRIG 0
  let s := onlyIf (wrote w RIM_CAP_CTRL_START) captureStart s
  let s := onlyIf (wrote w RIM_CAP_CTRL_TRIG) (captureTrigger 0) s
  onlyIf (wrote w RIM_CAP_CTRL_STOP) captureStop s

/-- The write of `RIM_CAP_CTRL`. -/
def capCtrlRow (acc : Access) (w : Word) (s : State) : State :=
  writeRow acc 0x200E00B0 w (capCtrlWrite (s.word 0x200E00B0) w) s

/-- CAP_START (R100). -/
def execCapStart (dt : Nat) (acc : Access) (w : Word) (s : State) : Host.Outcome State Fault Refusal :=
  command dt (capCtrlRow acc w) s

/-- CAP_STOP (R101): a write, or the task. -/
def execCapStop (dt : Nat) (src : WordTrigger) (s : State) : Host.Outcome State Fault Refusal :=
  command dt (fun s =>
    match src with
    | .write acc w => capCtrlRow acc w s
    | .task => if s.taskQueued 0x381 then captureStop (takeTask 0x381 s) else s) s

/-- CAP_TRIG (R101): a write, or the task. -/
def execCapTrig (dt : Nat) (src : WordTrigger) (s : State) : Host.Outcome State Fault Refusal :=
  command dt (fun s =>
    match src with
    | .write acc w => capCtrlRow acc w s
    | .task => if s.taskQueued 0x380 then endTask 0x380 (captureTrigger (s.taskHop 0x380) s) else s) s

/-- The shared exponent of a block (R99): the smallest e in 0 to 4 that holds every value. -/
def captureExp (vals : List Int) : Nat :=
  ((List.range 5).find? (fun e => vals.all (fun x =>
    decide (-(32 * 2 ^ e : Nat) ≤ x ∧ x ≤ ((32 * 2 ^ e : Nat) : Int) - 1)))).getD 4

/-- The mantissa of a value (R99): floor(x / 2^e), in 6 bits. -/
def captureMantissa (e : Nat) (x : Int) : Nat := twos 6 (x / ((2 ^ e : Nat) : Int))

/-- A capture block of 32 octets (R98). DEDUCED, unsafe: log 45. -/
def captureBlock (ts32 gain port seq : Nat) (lock gainChg blank gap : Bool) (samples : List (Int × Int)) : Octets :=
  let samples := (samples ++ List.replicate 16 (0, 0)).take 16
  let e := captureExp (samples.flatMap (fun z => [z.1, z.2]))
  let clip := samples.any (fun z => z.1 == -512 || z.1 == 511 || z.2 == -512 || z.2 == 511)
  let head := ts32 + 2 ^ 32 * e + 2 ^ 36 * gain + 2 ^ 40 * flag lock + 2 ^ 41 * flag gainChg + 2 ^ 42 * flag clip
    + 2 ^ 43 * flag blank + 2 ^ 44 * flag gap + 2 ^ 48 * port + 2 ^ 52 * (seq % 4096)
  let body := ((List.range 16).zip samples).foldl (fun n p =>
    n + 2 ^ (12 * p.1) * (captureMantissa e p.2.1 + 64 * captureMantissa e p.2.2)) 0
  le 8 head ++ le 24 body

/-- The buffer's address and size in octets. -/
def State.capBase (s : State) : Nat := s.get RIM_CAP_BASE_HI_ADDR * 2 ^ 32 + s.get RIM_CAP_BASE_LO_ADDR * 4096
def State.capSize (s : State) : Nat := s.get RIM_CAP_SIZE_SIZE * 4096

/-- The entry of a port in a list of pairs. -/
def portVal (l : List (Nat × Nat)) (p d : Nat) : Nat := ((l.find? (fun e => e.1 == p)).map (·.2)).getD d

/-- Replace the entry of a port. -/
def putPort (l : List (Nat × Nat)) (p v : Nat) : List (Nat × Nat) := (p, v) :: l.filter (fun e => e.1 != p)

/-- A sample within the range of the ADC (R74). -/
def adcSample (z : Int × Int) : Int × Int := (clamp (-512) 511 z.1, clamp (-512) 511 z.2)

/-- One captured block is written, or dropped and counted (R100). -/
def captureOne (p : Nat) (samples : List (Int × Int)) (dropped : Bool) (s : State) : State :=
  let cap := s.rim.cap
  let seq := portVal cap.counts p 0
  let done := s.is RIM_CAP_STAT_TRIGGERED && portVal cap.left p 0 == 0
  if done || !s.is RIM_CAP_STAT_ACTIVE then s
  else if dropped || s.dramDead then
    let s := modRim (fun r => { r with cap := { r.cap with counts := putPort cap.counts p (seq + 1) } }) (pauseCapture p s)
    count RIM_CAP_DROP_DROP 1 s
  else
    let before := portVal cap.lastGain p (s.get (gainFld p))
    let blank := cap.blanked.elem p || s.portBlanked p || !s.portRuns p
    let block := captureBlock ((s.ts + 2 ^ 64 - 32) % 2 ^ 32) before p seq s.lock (before != s.get (gainFld p)) blank
      (cap.gapPorts.elem p) (samples.map adcSample)
    let off := s.get RIM_CAP_WRPTR_OFFSET
    let s := enginePut 6 (s.capBase + off) block s
    let next := off + 32
    let ring := s.is RIM_CAP_CTRL_MODE
    let s := modRim (fun r => { r with cap := { r.cap with
      counts := putPort cap.counts p (seq + 1), gapPorts := cap.gapPorts.filter (· != p),
      left := if s.is RIM_CAP_STAT_TRIGGERED then putPort cap.left p (portVal cap.left p 0 - 1) else cap.left } }) s
    if s.capSize ≤ next then
      if ring then raise RIM_CAP_STAT_WRAPPED (s.set RIM_CAP_WRPTR_OFFSET 0)
      else captureEnd true (s.set RIM_CAP_WRPTR_OFFSET next)
    else s.set RIM_CAP_WRPTR_OFFSET next

/-- The next interval of a port begins with its gain of now and unblanked. -/
def captureNext (p : Nat) (s : State) : State :=
  modRim (fun r => { r with cap := { r.cap with
    lastGain := putPort r.cap.lastGain p (s.get (gainFld p)), blanked := r.cap.blanked.filter (· != p) } }) s

/-- One port of one interval: its block is written or dropped. A port that is off, that discards its samples (R57), or that has
no block pauses, and its next block carries GAP. DEDUCED, unsafe: log 175. -/
def capturePort (blocks : List (Nat × List (Int × Int) × Bool)) (p : Nat) (s : State) : State :=
  captureNext p (match blocks.find? (fun b => b.1 == p) with
    | some b => if s.portOff p || s.rim.gaps.elem p then pauseCapture p s else captureOne p b.2.1 b.2.2 s
    | none => pauseCapture p s)

/-- CAPTURE_BLOCK (R100): the blocks of one 100 ns interval, in ascending port order; for each port that produces one, its 16
samples, and whether DRAM refused the block. A selected port without a block has paused, and its next one carries GAP. -/
def execCaptureBlock (dt : Nat) (blocks : List (Nat × List (Int × Int) × Bool)) (s : State) :
    Host.Outcome State Fault Refusal :=
  command dt (fun s =>
    if s.is RIM_CAP_STAT_ACTIVE then
      let s := forEach s.capPorts (capturePort blocks) s
      if s.is RIM_CAP_STAT_ACTIVE then
        if s.is RIM_CAP_STAT_TRIGGERED && s.capPorts.all (fun p => portVal s.rim.cap.left p 0 == 0) then captureEnd true s
        else if s.rim.cap.stopping then captureEnd false s
        else s
      else s
    else s) s

end Sys2Proof.Machine
end

