-- ==== Sys2Proof/Machine/Mode.lean ====
section
/-!
DEFINITION. The mode controller (R32 to R36): a change of mode with what every entry does, and the device reset with what it
keeps (R361, R415, R430, R480, R481, R520).
-/

namespace Sys2Proof.Machine

/-! ### Settings records -/

/-- Change the loader's, the pacer's and the check-value units' state. -/
def modCfg (f : Cfg → Cfg) (s : State) : State := { s with cfg := f s.cfg }

/-- Change Lapwing's state. -/
def modLpw (f : Lpw → Lpw) (s : State) : State := { s with lpw := f s.lpw }

/-- The mode a code stands for (R32); values above 0xB are never held. -/
def modeOf (code : Nat) : Mode :=
  match code with
  | 1 => .load
  | 2 => .selftest
  | 3 => .solo
  | 4 => .primary
  | 5 => .standby
  | 6 => .takeover
  | 7 => .holdover
  | 8 => .lastgasp
  | 9 => .update
  | 10 => .safe
  | 11 => .maker
  | _ => .reset

/-- Modes in which Stile serves a partner's traffic (R365): SOLO, PRIMARY, TAKEOVER and HOLDOVER; and STANDBY. -/
def Mode.inPair (m : Mode) : Bool :=
  match m with
  | .standby => true
  | .reset => false
  | .load => false
  | .selftest => false
  | .solo => true
  | .primary => true
  | .takeover => true
  | .holdover => true
  | .lastgasp => false
  | .update => false
  | .safe => false
  | .maker => false

/-! ### Harts held and released (R465, R546) -/

/-- A hart goes into reset: its PMP entries are off and unlocked, its reservation is gone (R549, R547). -/
def Hart.toReset (h : Hart) (st : HartState) : Hart := { h with state := st, reservation := none, regs := pmpOff, entry := none }

/-- Both harts are held in reset. -/
def holdHarts (s : State) : State :=
  { s with app := { s.app with hart0 := s.app.hart0.toReset .reset, hart1 := s.app.hart1.toReset .reset } }

/-- Both harts leave reset where an APPFW section was loaded (R465). -/
def releaseHarts (s : State) : State := restartHart 1 (restartHart 0 s)

/-! ### The pair epoch (R365) and the pacer (R468) -/

/-- PEPOCH goes up by one and is journalled. -/
def nextEpoch (s : State) : State :=
  match s.variant with
  | .wv5248 => s
  | _ =>
    let e := (s.get STL_PEPOCH_PEPOCH + 1) % 2 ^ 32
    jnlOffer recPepoch e (s.set STL_PEPOCH_PEPOCH e)

/-- The address of `LNK_ADM`. -/
def admAddr : Nat := 0x200B000C

/-- The pacer starts (R468). -/
def pacerStart (s : State) : State :=
  if s.is CFG_PACE_EN && (s.is CFG_PACE_ALWAYS || !s.is CTX_STAT_WARM) then
    let s := changeMirrored admAddr (fun s =>
      ((s.set LNK_ADM_M (s.get CFG_PACE_M)).set LNK_ADM_INDEX 0).set LNK_ADM_ENFORCE 1) s
    modCfg (fun c => { c with pacerFrom := s.cycles }) (s.set CFG_PACECTL_ACTIVE 1)
  else s

/-- The pacer goes on after a takeover from the mirrored `LNK_ADM` (R468). -/
def pacerContinue (s : State) : State :=
  if s.is CFG_PACE_EN && decide (s.get LNK_ADM_M ≠ 0) && s.is LNK_ADM_ENFORCE then
    modCfg (fun c => { c with pacerFrom := s.cycles }) (s.set CFG_PACECTL_ACTIVE 1)
  else s

/-! ### Holdover and last gasp (R531, R534) -/

/-- On entry to HOLDOVER, REQ and LOCKOFF of every domain are saved before the mode requires any (R531). -/
def saveDomains (s : State) : State :=
  modPwr (fun p => { p with
    saved := (List.range domainCount).map (fun d => (d, s.get (PWR_DOMn_REQ d), s.get (PWR_DOMn_LOCKOFF d))) }) s

/-- The holdover profile (R531): the domains outside it are locked off. -/
def enterHoldover (s : State) : State :=
  let s := chainsChanged (forEach s.holdoverOff lockOff s)
  let s := modHold (fun h => { h with from_ := s.cycles }) s
  { s with app := { s.app with throttled := true } }.set PWR_HOLD_STAT_ELAPSED 0

/-- The saved REQ and LOCKOFF values are restored (R531). -/
def leaveHoldover (s : State) : State :=
  let s := forEach s.pwr.saved (fun (e : Nat × Nat × Nat) t =>
    (t.set (PWR_DOMn_REQ e.1) e.2.1).set (PWR_DOMn_LOCKOFF e.1) e.2.2) s
  { modPwr (fun p => { p with saved := [] }) s with app := { s.app with throttled := false } }

/-- Last gasp begins (R534): what is decided or on the air comes to its end before the domains are locked off. -/
def enterLastgasp (s : State) : State :=
  let s := modHold (fun h => { h with gaspFrom := s.cycles, gasps := 0, gaspDrain := true }) s
  gaspFollows { s with app := { s.app with throttled := false } }

/-! ### The safe profile (R466) -/

/-- The registers of a queue that Lapwing serves in SAFE: 16 descriptors, ring and slots in Lapwing SRAM. -/
def safeQueue (q : Nat) : List (Nat × Nat) :=
  let a := 0x20101000 + 0x20 * q
  let page (k : Nat) : Nat := 0x11000000 + 0x1000 * (Config.safePage q k).val
  [(a, 1 + 4 * 4), (a + 4, page 0), (a + 8, 0), (a + 12, page 1), (a + 16, 0)]

/-- What the upstream ports run with in SAFE: the safe profile of the one-time words 0x0C0 to 0x0C5, IPv4 only, and the reset value of
every other setting. -/
def State.safeProfile (s : State) : List (Nat × Nat) :=
  let w (k : Nat) : Nat := s.otpWord (0xC0 + k)
  let octet (k : Nat) : Nat := w (k / 4) / 256 ^ (k % 4) % 256
  let mode := w 5 / 256 % 4
  let address (a v : Nat) : List (Nat × Nat) := [(a, v), (a + 4, 0), (a + 8, 0), (a + 12, 0)]
  let reset (a : Nat) : Nat × Nat := (a, (resetWord a).toNat)
  let ports := [(0x20100004, 0x00400040 + mode * 5 + 32 * (w 5 / 2 ^ 22 % 2)), (0x20100008, w 5 / 2 ^ 10 % 4096),
    (0x2010000C, w 1 / 2 ^ 16 * 0x10001),
    (0x20100010, octet 2 * 2 ^ 24 + octet 3 * 2 ^ 16 + octet 4 * 2 ^ 8 + octet 5), (0x20100014, octet 0 * 2 ^ 8 + octet 1)]
  ports ++ address 0x20100018 (w 2) ++ address 0x20100028 0 ++ address 0x20100038 (w 3) ++ address 0x20100048 (w 4)
    ++ [(0x20100058, w 5 % 256)]
    ++ [0x2010005C, 0x20100060, 0x20100200, 0x20100204, 0x20100208, 0x20100224, 0x20100228, 0x2010022C].map reset
    ++ safeQueue 62 ++ safeQueue 63

/-- A port's link ends as the port changes its settings. -/
def dropLink (p : Nat) (s : State) : State :=
  if s.portUp p then emit 0x401 0 (cutShort p (raise UPL_INT_STAT_NOPORT (setLink p false s))) else s

/-- The ports take up the safe profile (R466): their links end, and come up again by it. DESIGN CHOICE, unsafe: log 210. -/
def takeSafeProfile (s : State) : State :=
  let s := dropLink 1 (dropLink 0 s)
  forEach s.safeProfile (fun e t => t.setWord e.1 (BitVec.ofNat 32 e.2)) s

/-! ### A change of mode (R33, R36, R480) -/

/-- What entering a mode starts. `old` is the mode left. -/
def modeEntry (old new : Mode) (s : State) : State :=
  let serve (s : State) : State := modStl (fun p => { p with serveFrom := s.cycles }) s
  match new with
  | .reset => s
  | .load => modCfg (fun c => { c with since := s.cycles }) s
  | .selftest =>
    let s := modRim (fun r => { r with calibrating := true }) s
    let s := modCfg (fun c => { c with testFrom := s.cycles, tested := none }) s
    releaseHarts (modStl (fun p => { p with electing := some s.cycles }) s)
  | .solo =>
    let s := serve (nextEpoch s)
    (match old with
     | .selftest => pacerStart s
     | .takeover => pacerContinue s
     | .holdover => leaveHoldover s
     | _ => s)
  | .primary =>
    let s := serve (nextEpoch s)
    (match old with
     | .selftest => pacerStart s
     | .takeover => pacerContinue s
     | _ => s)
  | .standby =>
    let s := modStl (fun p => { p with
      standbyTs := s.ts, missed := 0, okReports := [], beaconsHeard := [], judged := [], lastInstant := s.ts, decidesFrom := none }) s
    s.set CFG_PACECTL_ACTIVE 0
  | .takeover => serve (nextEpoch s)
  | .holdover => enterHoldover (serve s)
  | .lastgasp => enterLastgasp s
  | .update => s
  | .safe => takeSafeProfile (holdHarts s)
  | .maker =>
    -- The ports use the image settings where the image was applied, CFG_STAT.STATE being DONE (R496).
    let s := onlyIf (s.get CFG_STAT_STATE != 5) takeSafeProfile s
    releaseHarts (s.set LPW_RSTCAUSE_MAKERLATCH 0)

/-- Modes in which self-refresh is refused (R418). -/
def Mode.needsDram (m : Mode) : Bool :=
  match m with
  | .solo => true
  | .primary => true
  | .standby => true
  | .takeover => true
  | .holdover => true
  | .reset => false
  | .load => false
  | .selftest => false
  | .lastgasp => false
  | .update => false
  | .safe => false
  | .maker => false

/-- A self-refresh entry is refused (R418). -/
def refuseSelfRefresh (s : State) : State :=
  modDmc (fun d => { d with entering := false })
    (onlyIf (s.is DMC_CTRL_SR) (raise DMC_INT_STAT_SRREFUSED) (s.set DMC_CTRL_SR 0))

/-- A change into a mode that needs DRAM starts the exit from self-refresh and refuses an entry under way (R418). -/
def dramFollows (new : Mode) (s : State) : State :=
  if new.needsDram then exitSelfRefresh (if s.dmc.entering then refuseSelfRefresh s else s) else s

/-- The ROM kicks the device watchdog through RESET and LOAD (R483); its last kick is at the end of LOAD. -/
def romKick (old : Mode) (s : State) : State :=
  match old with
  | .load => modLpw (fun l => { l with wdtFrom := s.cycles, warned := false }) s
  | _ => s

/-- MODE_CHANGE (R36): by row `row` of the table of R33. The domains the new mode requires are on before the change
completes (R504); LASTGASP and HOLDOVER require only what their profiles leave. -/
def changeMode (row : Nat) (new : Mode) : State → State := watchPtp fun s =>
  let old := s.mode
  let s := match old, new with
    | .holdover, .solo => leaveHoldover s
    | _, .holdover => saveDomains s
    | _, _ => s
  let s := dramFollows new (requireDomains new s)
  let s := { s with mode := new }
  let s := logEntry 0x0300 (old.code + 16 * new.code + 256 * row) s
  let s := emit 0x0C0 0 (raise LPW_INT_STAT_MODECHG s)
  modeEntry old new (restartDwell (romKick old s))

/-! ### The device reset (R33, R361, R415, R430, R480) -/

/-- The reset causes (R480). -/
def causePor : Nat := 0
def causeResetn : Nat := 1
def causeWdog : Nat := 2
def causeCmd : Nat := 3
def causePll : Nat := 4
def causeRxlo : Nat := 5
def causePairlose : Nat := 6
def causeLctrans : Nat := 7
def causeUpdate : Nat := 8
def causeLastgasp : Nat := 9
def causeJoinlost : Nat := 10
def causeMismatch : Nat := 11

/-- A CMD frame (R356): its code, TS64 argument and MSEQ argument. -/
def stileCmd (code ts mseq : Nat) : Octets :=
  stileFrame tyCmd false 0 (le 1 code ++ zeros 3 ++ le 8 ts ++ le 4 mseq)

/-- CMD RESIGN on both lanes, within 1 µs of the request (R361). -/
def resign (s : State) : State :=
  match s.variant with
  | .wv5248 => s
  | _ =>
    let s := putFrame (some 1) none (stileCmd 4 0 0) (putFrame (some 0) none (stileCmd 4 0 0) s)
    drainLanes s.stl.waiting.length ((s.cycles + usCycles) * 125) s

/-- The registers a reset leaves alone: those of the backup domain that it keeps (R536, R538), and, except at power-on, the
CL fields of the mains and hold-up registers with the states of those circuits (R520), `LPW_LC_STAT.RCLEAN` (R492), and HOLD of
the domains, whose latches open at the end of RESET (R511).
DEDUCED, unsafe: log 124. -/
def keptRegister (por : Bool) (a : Nat) : Bool :=
  a == 0x20020004 || a == 0x20020014 || a == 0x20020018 || decide (0x20020040 ≤ a ∧ a < 0x20020080) || a == 0x20030084
    || decide (0x20010100 ≤ a ∧ a < 0x20010100 + 4 * domainCount)
    || (!por && (decide (0x20010800 ≤ a ∧ a ≤ 0x2001080C) || decide (0x20010820 ≤ a ∧ a ≤ 0x2001083C) || a == 0x20010844))

/-- What a kept register keeps: `LPW_LC_STAT` RCLEAN alone, `PWR_DOMn` HOLD alone. -/
def keptWord (a : Nat) (w : Word) : Word :=
  if a = 0x20030084 then w &&& 0x10
  else if 0x20010100 ≤ a ∧ a < 0x20010200 then (resetWord a &&& 0xFFFDFFFF) ||| (w &&& 0x20000)
  else w

/-- The challenge is renewed from the hardware random source (R494). -/
def renewChallenge (s : State) : State :=
  forEach (List.range 4) (fun k t => useFree (t.set (LPW_CHALn k) (Config.freeRandom t.free))) s

/-- The device reset with a cause; `maker` says that it carries a maker request (R496). Every block but the ones named here
goes to its reset state; mode RESET is entered, and its entry is logged at the end of RESET.
DEDUCED, unsafe: log 143. -/
def deviceReset (cause : Nat) (maker : Bool) (s : State) : State :=
  let por := cause == causePor
  let s := jnlReset (otpReset (flashReset (resign s)))
  let st := s.get DMC_STAT_STATE
  let kept := !por && (st == dmcReady || st == dmcSelfref)
  let r := State.reset
  let stays := s.mode == .reset
  let entered := if stays then s.lpw.entered else some (s.mode.code, cause)
  let t : State :=
    { r with
      variant := s.variant, cycles := s.cycles, pending := s.pending, resp := s.resp, free := s.free,
      regs := s.regs.filterMap (fun (e : Nat × Word) =>
        if keptRegister por e.1 && keptWord e.1 e.2 != resetWord e.1 then some (e.1, keptWord e.1 e.2) else none),
      tim := { r.tim with running := s.lpw.powerGood, pllLock := s.lpw.powerGood, tcxoOk := s.tim.tcxoOk },
      sram := if por then [] else s.sram,
      lpwSram := if por then [] else s.lpwSram,
      dram := if kept then s.dram else [],
      log := if por then [] else s.log,
      logCount := if por then 0 else s.logCount,
      fls := s.fls, otp := s.otp, jnl := s.jnl,
      stl := { r.stl with out := s.stl.out },
      mains := if por then r.mains else { s.mains with minSeen := false },
      hold := if por then r.hold else { s.hold with gaspReset := cause == causeLastgasp || (stays && s.hold.gaspReset) },
      bkp := s.bkp,
      dmc := { r.dmc with kept := kept, bad := s.dmc.bad },
      lpw := { r.lpw with powerGood := s.lpw.powerGood, resetLow := s.lpw.resetLow, wdtFrom := s.cycles, entered := entered },
      rim := { r.rim with fading := s.rim.fading },
      tap := s.tap }
  let t := t.set LPW_RSTCAUSE_CAUSE cause
  let t := t.set LPW_RSTCAUSE_PREVMODE s.mode.code
  renewChallenge (t.set LPW_RSTCAUSE_MAKERLATCH (flag maker))

/-- The last-gasp work is complete (R534): the STATN messages have left and queue 62 is empty. -/
def lastgaspEnds (s : State) : State :=
  match s.mode with
  | .lastgasp =>
    if s.get PWR_LG_CFG_STATN ≤ s.hold.gasps ∧ s.qEmpty 62 = true then deviceReset causeLastgasp false s else s
  | _ => s

end Sys2Proof.Machine
end

