-- ==== Sys2Proof/Machine/Context.lean ====
section
/-!
DEFINITION. The context store (R263 to R281, R284): lookups and fills, hot contexts and their victims, write-backs, the
address maps and the EUI index, quarantine, and the rebuild after a reset.
-/

namespace Sys2Proof.Machine

/-! ### Address maps (R265) and the EUI index (R266) -/

/-- A map entry. -/
def State.mapEntry (s : State) (pan a : Nat) : Nat := leNat (s.memOr0 (s.mapAddr pan a) 4)

/-- Write a map entry. -/
def setMapEntry (pan a v : Nat) (s : State) : State := enginePut 1 (s.mapAddr pan a) (le 4 v) s

/-- A map entry that binds a node. -/
def boundEntry (i : Nat) : Nat := i + 2 ^ 31

/-- An address in quarantine. -/
def quarEntry : Nat := 2 ^ 30

/-- The candidate buckets of an EUI-64 (R266). -/
def euiBuckets (eui : Nat) : Nat × Nat := (crc32c (le 8 eui) % 2 ^ 17, crc32 (le 8 eui) % 2 ^ 17)

/-- An entry of a bucket: EUI-64 and word. -/
def State.bucketEntry (s : State) (b k : Nat) : Nat × Nat :=
  let os := s.memOr0 (s.bucketAddr b + 12 * k) 12
  (leAt os 0 8, leAt os 8 4)

/-- The entries in use of a bucket, with their places. -/
def State.bucketUsed (s : State) (b : Nat) : List (Nat × Nat × Nat) :=
  (List.range 5).filterMap (fun k =>
    let e := s.bucketEntry b k
    if bitAt e.2 31 then some (k, e.1, e.2) else none)

/-- The entries of an EUI-64 in a bucket: place and word. -/
def State.bucketFind (s : State) (b eui : Nat) : List (Nat × Nat) :=
  (s.bucketUsed b).filterMap (fun (e : Nat × Nat × Nat) => if e.2.1 = eui then some (e.1, e.2.2) else none)

/-- Every index the EUI index names for an EUI-64, with whether the entry is RETIRED. -/
def State.euiEntries (s : State) (eui : Nat) : List (Nat × Bool) :=
  let b := euiBuckets eui
  let all := s.bucketFind b.1 eui ++ (if b.1 = b.2 then [] else s.bucketFind b.2 eui)
  all.map (fun (e : Nat × Nat) => (e.2 % 2 ^ 18, bitAt e.2 30))

/-- Write a bucket entry. -/
def setBucketEntry (b k eui w : Nat) (s : State) : State := enginePut 1 (s.bucketAddr b + 12 * k) (le 8 eui ++ le 4 w) s

/-- The bucket a new entry goes to: the candidate with fewer entries, b1 on a tie; none where both are full (R266). -/
def State.euiHome (s : State) (eui : Nat) : Option Nat :=
  let b := euiBuckets eui
  let n1 := (s.bucketUsed b.1).length
  let n2 := (s.bucketUsed b.2).length
  if n1 ≤ n2 then (if n1 < 5 then some b.1 else none) else (if n2 < 5 then some b.2 else none)

/-- Make an entry for a node. DEDUCED, unsafe: log 80. -/
def euiInsert (eui i : Nat) (s : State) : State :=
  match s.euiHome eui with
  | some b =>
    let used := (s.bucketUsed b).map (fun (e : Nat × Nat × Nat) => e.1)
    (match (List.range 5).find? (fun k => !used.elem k) with
     | some k => setBucketEntry b k eui (i + 2 ^ 31) s
     | none => s)
  | none => s

/-- Change the word of a node's entry, in whichever candidate bucket holds it. -/
def euiChange (eui i : Nat) (e' : Nat × Nat) (s : State) : State :=
  let b := euiBuckets eui
  let change (b : Nat) (s : State) : State :=
    forEach (s.bucketFind b eui) (fun (e : Nat × Nat) t =>
      if e.2 % 2 ^ 18 = i then setBucketEntry b e.1 e'.1 e'.2 t else t) s
  if b.1 = b.2 then change b.1 s else change b.2 (change b.1 s)

/-- Mark a node's entry RETIRED. -/
def euiRetire (eui i : Nat) (s : State) : State := euiChange eui i (eui, i + 2 ^ 30 + 2 ^ 31) s

/-- A retired node's entry is in use again. -/
def euiRevive (eui i : Nat) (s : State) : State := euiChange eui i (eui, i + 2 ^ 31) s

/-- Remove a node's entry. -/
def euiRemove (eui i : Nat) (s : State) : State := euiChange eui i (0, 0) s

/-! ### The records that commands act on (R282) -/

/-- The operations of R282. -/
def opRead : Nat := 0
def opCreate : Nat := 1
def opRestore : Nat := 2
def opUpdate : Nat := 3
def opRekey : Nat := 4
def opRetire : Nat := 5
def opPurge : Nat := 6
def opAlloc : Nat := 7
def opBind : Nat := 8
def opUnbind : Nat := 9

/-- The retired record of an EUI-64 in a PAN. -/
def State.retiredOf (s : State) (eui pan : Nat) : Option Nat :=
  ((s.euiEntries eui).find? (fun (e : Nat × Bool) => e.2 && nr (s.nodeRec e.1) nrPan == pan)).map (fun (e : Nat × Bool) => e.1)

/-- The index that a command acts on: CREATE revives a retired record of the same EUI-64 and PAN (R282). -/
def State.cmdIndex (s : State) (c : CtxCmd) : Nat × Bool :=
  if c.op = opCreate then
    match s.retiredOf (nr c.buf nrEui) (nr c.buf nrPan) with
    | some i => (i, true)
    | none => (c.node, false)
  else (c.node, false)

/-! ### Pins and victims (R273, R274) -/

/-- The number of hot contexts. -/
def hotCount : Nat := 512

/-- A lane's lookup pins its node: until its report is out, since an OK frame then carries the pin itself. -/
def Lane.pins (l : Lane) (i : Nat) : Bool := l.st != .idle && l.st != .report && l.look == .hit i

/-- A node's context is pinned by use (R273): a frame between its lookup and its mirror cut-off or, where that is later, the end
of its journal writes; a downstream frame in flight; a command. -/
def State.pinnedByUse (s : State) (i : Nat) : Bool :=
  s.lnp.lanes.any (fun (e : Nat × Lane) => e.2.pins i) || s.inbox.any (fun f => f.look == .hit i)
    || s.lnk.decided.any (fun d => d.node == some i || d.frame.look == .hit i) || s.lnk.down.any (fun d => d.node == some i && (!d.held || s.lnk.attempts.any (fun a => a.for_ == .down d.id)))
    || s.ctx.cmds.any (fun c => c.node == i || (s.cmdIndex c).1 == i)
    || s.ctx.awaiting.any (fun a => a.node == i && s.jnlPending a.ticket)

/-- A context is pinned. -/
def State.pinned (s : State) (i : Nat) : Bool := s.pinnedByUse i || s.ctx.swpins.elem i

/-- The least recently used of some contexts. -/
def leastUsed (l : List (Nat × Hot)) : Option (Nat × Hot) :=
  l.foldl (fun (best : Option (Nat × Hot)) (h : Nat × Hot) =>
    match best with
    | some b => if h.2.used < b.2.used then some h else some b
    | none => some h) none

/-- The contexts that hold a record or await one. -/
def State.hotTaken (s : State) : List Nat :=
  s.ctx.hot.map (fun (h : Nat × Hot) => h.1) ++ s.ctx.fills.map (fun f => f.slot)

/-- The records of the write-back buffer (R274). -/
def wbCount : Nat := 64

/-- The victim (R274): a context without a record, else the least recently used unpinned clean one, else, while the write-back
buffer has room, the least recently used unpinned dirty one. DESIGN CHOICE, unsafe: log 179. -/
def State.victim (s : State) : Option Nat :=
  let taken := s.hotTaken
  match (List.range hotCount).find? (fun n => !taken.elem n) with
  | some n => some n
  | none =>
    let free := s.ctx.hot.filter (fun (h : Nat × Hot) => !s.pinned h.2.node)
    match leastUsed (free.filter (fun h => h.2.dirty.isNone)) with
    | some h => some h.1
    | none => if s.ctx.wb.length < wbCount then (leastUsed free).map (fun h => h.1) else none

/-- A node's context is used (R274). -/
def useHot (n : Nat) (s : State) : State :=
  modHot n (fun h => { h with used := s.ctx.uses + 1 }) (modCtx (fun c => { c with uses := c.uses + 1 }) s)

/-- FLAGS.PINNED pins within the cap (R273). -/
def repin (i : Nat) (s : State) : State :=
  let want := nrFlag (s.nodeRec i) fPinned && (s.hotOf i).isSome
  let now := s.ctx.swpins.filter (· != i)
  if want && decide (now.length < s.get CTX_CFG_PINMAX) then modCtx (fun c => { c with swpins := now ++ [i] }) s
  else modCtx (fun c => { c with swpins := now }) s

/-- Evict a context (R274): a dirty record goes to the write-back buffer, or, where that is full, straight to DRAM;
the hot slot is erased. -/
def evict (n : Nat) (s : State) : State :=
  match s.ctx.hot.find? (fun (h : Nat × Hot) => h.1 == n) with
  | some (_, h) =>
    let s := count CTX_CNT_EVICT 1 s
    let room := decide (s.ctx.wb.length < wbCount) || (s.wbOf h.node).isSome
    let s := onlyIf (h.dirty.isSome && !room) (enginePut 1 (s.nodeAddr h.node) (withCheck h.os)) s
    let s := modCtx (fun c => { c with
      hot := c.hot.filter (fun (e : Nat × Hot) => e.1 != n),
      swpins := c.swpins.filter (· != h.node),
      wb := if h.dirty.isSome && room then
          c.wb.filter (fun (e : Nat × Octets × Bool × Nat) => e.1 != h.node) ++ [(h.node, withCheck h.os, true, s.cycles)]
        else c.wb }) s
    eraseSlot n s
  | none => s

/-- Install a record in a context, and prepare its key slot (R268, R243). -/
def install (n i : Nat) (os : Octets) (s : State) : State :=
  let s := modCtx (fun c => { c with
    uses := c.uses + 1,
    hot := c.hot ++ [(n, { node := i, os := os, dirty := none, used := c.uses + 1, writing := false })] }) s
  slotPrepare n os (repin i s)

/-! ### Lookups (R267 to R272) -/

/-- What is looked up: a key of `State.sourceKey` (address mode, PAN, address). -/
def keyMode (k : Octets) : Nat := octAt k 0
def keyPan (k : Octets) : Nat := octAt k 1
def keyAddr (k : Octets) : Nat := leNat (k.drop 2)

/-- A hot context answers a key (R268): by PAN and short address, or by EUI-64; a retired record answers nothing. -/
def Hot.answers (h : Hot) (k : Octets) : Bool :=
  nrUsed h.os &&
    (if keyMode k = 2 then nrFlag h.os fSaddrv && nr h.os nrPan == keyPan k && nr h.os nrSaddr == keyAddr k
     else keyMode k == 3 && nr h.os nrEui == keyAddr k)

/-- The hot context that answers a key. -/
def State.hotHit (s : State) (k : Octets) : Option (Nat × Hot) := s.ctx.hot.find? (fun (h : Nat × Hot) => h.2.answers k)

/-- What the map or the buckets say of a key: an error, or the index they name. `bad1` and `bad2` are uncorrectable errors in
the map entry or bucket b1, and in bucket b2, beside what already stands there (R271, R399, R405). -/
def State.resolveKey (s : State) (k : Octets) (bad1 bad2 : Bool) : Option (Option Nat) :=
  let dead (a n : Nat) : Bool := (s.memGet a n).isNone
  if keyMode k = 2 then
    if bad1 || dead (s.mapAddr (keyPan k) (keyAddr k)) 4 then none
    else
      let e := s.mapEntry (keyPan k) (keyAddr k)
      some (if bitAt e 31 then some (e % 2 ^ 18) else none)
  else
    let b := euiBuckets (keyAddr k)
    let bad1 := bad1 || dead (s.bucketAddr b.1) 64
    let bad2 := bad2 || dead (s.bucketAddr b.2) 64
    let live (b : Nat) : List (Nat × Nat) := (s.bucketFind b (keyAddr k)).filter (fun (e : Nat × Nat) => !bitAt e.2 30)
    let found := (if bad1 then [] else live b.1) ++ (if bad2 then [] else live b.2)
    match found.head? with
    | some e => some (some (e.2 % 2 ^ 18))
    | none => if bad1 || bad2 then none else some none

/-- A fill answers a key: its own, or one of the same node that shares it. -/
def Fill.serves (f : Fill) (k : Octets) : Bool := f.key == k || f.also.elem k

/-- Give every lane of a fill, or its frame where its report is out already, what the lookup found. -/
def settleLanes (f : Fill) (look : Look) (s : State) : State :=
  let gens := match look with
    | .hit i => s.keyGens i
    | _ => []
  let pan := match look with
    | .hit i => nr (s.nodeRec i) nrPan
    | _ => 0
  forEach f.lanes (fun n t =>
    let t := if (t.lane n).look = .filling ∧ f.serves (t.lane n).lookKey = true then
        let t := modLane n (fun l => { l with look := look, readPan := pan, gens := gens }) t
        (match look with
         | .hit i =>
           (match nrSignature (t.nodeRec i) with
            | some sig => storedSignature n sig t
            | none => t)
         | _ => t)
      else t
    { t with inbox := t.inbox.map (fun r => if r.lane = n ∧ r.look = .filling then { r with look := look, readPan := pan, gens := gens } else r) }) s

/-- A fill under way serves a key, or the node that the key names (R271). -/
def State.fillFor (s : State) (k : Octets) (f : Fill) : Bool :=
  f.serves k || (match s.resolveKey k false false, s.resolveKey f.key false false with
    | some (some i), some (some j) => i == j
    | _, _ => false)

/-- What a key's lookup reads first in DRAM (R269): the map entry, or both EUI buckets. -/
def State.keyReads (s : State) (k : Octets) : List (Nat × Nat) :=
  if keyMode k = 2 then [(s.mapAddr (keyPan k) (keyAddr k), 4)]
  else
    let b := euiBuckets (keyAddr k)
    if b.1 = b.2 then [(s.bucketAddr b.1, 64)] else [(s.bucketAddr b.1, 64), (s.bucketAddr b.2, 64)]

/-- The reads of the context store that wait at a rank number 8 (R413). -/
def State.port0Full (s : State) (o : Nat) : Bool :=
  decide (8 ≤ (s.dmc.queue.filter (fun r => r.port == 0 && s.rankOf r == (s.dramPlace o).rank)).length)

/-- Issue a fill's first reads on port 0, those within the bound of R413; one beyond it is made when the fill returns. -/
def issueReads (k : Octets) (s : State) : State :=
  forEach (s.keyReads k) (fun (e : Nat × Nat) t =>
    match t.locate e.1 e.2 with
    | some (.dram, o) =>
      if t.port0Full o then t
      else
        let r := t.engineReq 0 o e.2 none
        let t := modDmc (fun d => { d with queue := d.queue ++ [r], nextId := d.nextId + 1 }) (useDram t)
        modCtx (fun c => { c with fills := c.fills.map (fun f => if f.key = k then { f with reads := f.reads ++ [(r.id, e.1)] } else f) }) t
    | _ => t) s

/-- Start a fill, or share one under way for the same node (R271). A key names an address of a frame or a destination. Where no
context can be evicted the fill waits without one. -/
def startFill (k : Octets) (lanes queues : List Nat) (s : State) : State :=
  match s.ctx.fills.find? (s.fillFor k) with
  | some g =>
    modCtx (fun c => { c with fills := c.fills.map (fun f =>
      if f = g then
        { f with lanes := f.lanes ++ lanes.filter (fun n => !f.lanes.contains n),
                 queues := f.queues ++ queues.filter (fun q => !f.queues.contains q),
                 also := if f.serves k then f.also else f.also ++ [k] }
      else f) }) s
  | none =>
    let f (n : Nat) : Fill :=
      { lanes := lanes, queues := queues, pan := keyPan k, key := k, also := [], issued := s.cycles, node := none, slot := n }
    match s.victim with
    | some n => issueReads k (modCtx (fun c => { c with fills := c.fills ++ [f n] }) (evict n s))
    | none => issueReads k (modCtx (fun c => { c with fills := c.fills ++ [f hotCount] }) s)

/-- The octets that a lane's source address is parsed from (R169, R269): the provisional ones; the final ones where a provisional
header that reaches past the frame never gives an address. DESIGN CHOICE, unsafe: log 197. -/
def Lane.addressed (l : Lane) : Octets :=
  if (sourceEnd l.prov).isNone && decide (l.len ≤ l.prov.length) then l.fin else l.prov

/-- A lane's source address is parsed and its lookup has not been made (R269). -/
def State.lookupWaits (s : State) (lane : Nat) : Bool :=
  let l := s.lane lane
  (l.st == .psdu || l.st == .final || l.st == .report) && l.look == .none && (sourceEnd l.addressed).isSome

/-- A lane's lookup is issued: the lane, and its frame where the report is out already, waits for the answer; where the final octets
have shown another address already, the frame is revised (R170). -/
def lookupIssued (lane : Nat) (k : Octets) (s : State) : State :=
  let rev := s.revises (s.lane lane) k
  let s := onlyIf rev (count COD_CNT_REVISE 1) (modLane lane (fun l => { l with lookKey := k, look := .filling, revised := rev }) s)
  { s with inbox := s.inbox.map (fun r =>
      if r.lane = lane ∧ r.look = .none then { r with look := .filling, revised := rev } else r) }

/-- A lane's lookup that needs no fill. -/
def laneFill (lane : Nat) (k : Octets) : Fill :=
  { lanes := [lane], queues := [], pan := keyPan k, key := k, also := [], issued := 0, node := none, slot := 0 }

/-- What settles a lane's lookup of no address: a miss. -/
def lookupMisses (lane : Nat) (k : Octets) (s : State) : State :=
  settleLanes (laneFill lane k) .miss s

/-- What settles a lane's lookup that a hot context answers (R268). -/
def lookupHits (lane : Nat) (k : Octets) (n node : Nat) (s : State) : State :=
  useHot n (settleLanes (laneFill lane k) (.hit node)
    (count CTX_CNT_HIT 1 s))

/-- LOOKUP (R268, R269): a lane's source address is parsed, and its one lookup of the frame is made. -/
def execLookup (dt lane : Nat) (s : State) : Host.Outcome State Fault Refusal :=
  command dt (fun s =>
    if !s.lookupWaits lane then s
    else
      let k := s.sourceKey (s.lane lane).ch (s.lane lane).addressed
      let s := lookupIssued lane k s
      if keyOfNoLookup k then lookupMisses lane k s
      else
        match s.hotHit k with
        | some (n, h) => lookupHits lane k n h.node s
        | none => startFill k [lane] [] s) s

/-- A fill is served before another (R271): it was issued earlier, or at the same instant for a lower lane. -/
def Fill.before (f g : Fill) : Bool :=
  decide (f.issued < g.issued) || (f.issued == g.issued && decide (f.lanes.headD 0 < g.lanes.headD 0))

/-- Of some fills, the one served first. -/
def firstFill (fs : List Fill) : Option Fill :=
  fs.foldl (fun (best : Option Fill) f =>
    match best with
    | some g => if f.before g then some f else some g
    | none => some f) none

/-- A frame's lookup is pending. -/
def State.frameFills (s : State) : List Fill := s.ctx.fills.filter (fun f => !f.lanes.isEmpty)

/-- The fill served next: frame lookups in order of issue, then downstream ones (R271). -/
def State.nextFill (s : State) : Option Fill :=
  match firstFill s.frameFills with
  | some f => some f
  | none => s.ctx.fills.head?

/-- The fill of `f` meets an uncorrectable error (R271). -/
def State.fillFails (s : State) (f : Fill) (bad1 bad2 badRecord : Bool) : Bool :=
  match s.resolveKey f.key bad1 bad2 with
  | none => true
  | some none => false
  | some (some i) => (s.hotOf i).isNone && (s.wbOf i).isNone && (badRecord || (s.memGet (s.nodeAddr i) 256).isNone)

/-- A word of DRAM at an engine address turns out uncorrectable (R405). -/
def spoil (a : Nat) (s : State) : State :=
  match s.locate a 1 with
  | some (.dram, o) => modDmc (fun d => { d with bad := if d.bad.elem (wordOf o) then d.bad else wordOf o :: d.bad }) s
  | _ => s

/-- A first read of a fill ends: the request that waits at the controller is served, or the read is made now; one served
earlier only meets what is found bad since (R405, R413). -/
def readEnds (f : Fill) (e : Nat × Nat) (bad : Bool) (s : State) : State :=
  let s := onlyIf bad (spoil e.1) s
  match f.reads.find? (fun (x : Nat × Nat) => x.2 == e.1) with
  | none => engineReads 0 e.1 e.2 s
  | some x =>
    match s.dmc.queue.find? (fun r => r.id == x.1) with
    | some r => serveRequest [] r (serveEarlier r s)
    | none => onlyIf bad (engineReads 0 e.1 e.2) s

/-- The DRAM reads of a fill end (R269): the map entry or the buckets, and then the record where no context or buffer holds it.
An uncorrectable error that `bad1`, `bad2` or `badRecord` tells of stands in the first word read. DESIGN CHOICE, safe: log 195. -/
def fillReads (f : Fill) (bad1 bad2 badRecord : Bool) (s : State) : State :=
  let s := forEach ((s.keyReads f.key).zip [bad1, bad2]) (fun (e : (Nat × Nat) × Bool) => readEnds f e.1 e.2) s
  match s.resolveKey f.key bad1 bad2 with
  | some (some i) =>
    if (s.hotOf i).isSome || (s.wbOf i).isSome then s
    else engineReads 0 (s.nodeAddr i) 256 (onlyIf badRecord (spoil (s.nodeAddr i)) s)
  | _ => s

/-- A lookup that meets an error raises and counts it, each of those that share the fill (R271). -/
def lookupErrors (f : Fill) (s : State) : State :=
  forEach (f.lanes ++ f.queues) (fun _ t => contextError t) s

/-- A fill returns (R269, R271): its record is installed in the slot held for it, and every lane that shares the fill has its
answer. `bad1`, `bad2` and `badRecord` are the uncorrectable errors met. A fill that found no context to evict takes its victim
now, or waits on. DEDUCED, unsafe: log 81. -/
def fillReturns (f : Fill) (bad1 bad2 badRecord : Bool) (s : State) : State :=
  let slot := if f.slot < hotCount then some f.slot else s.victim
  match slot with
  | none => s
  | some slot =>
  let s := onlyIf (f.slot == hotCount) (evict slot) s
  let s := modCtx (fun c => { c with fills := c.fills.filter (fun g => g.key != f.key) }) (fillReads f bad1 bad2 badRecord s)
  if s.fillFails f bad1 bad2 badRecord then settleLanes f .err (lookupErrors f s)
  else
    match s.resolveKey f.key bad1 bad2 with
    | some (some i) =>
      (match s.hotOf i with
       | some (n, h) =>
         if nrUsed h.os then useHot n (settleLanes f (.hit i) (count CTX_CNT_HIT 1 s)) else settleLanes f .miss s
       | none =>
         let os := s.nodeRec i
         if nrUsed os then settleLanes f (.hit i) (count CTX_CNT_MISS 1 (install slot i os s)) else settleLanes f .miss s)
    | _ => settleLanes f .miss s

/-! ### Write-backs (R275) -/

/-- The counters a node shows in place of its record's, while the journal does not hold the record of the oldest change (R276):
NR.INCTR, NR.LASTSEQ and NOCTR. -/
def State.oldCounters (s : State) (i : Nat) : Option (Nat × Nat × Bool) :=
  match s.ctx.awaiting.find? (fun a => a.node == i && a.old.isSome && !s.jnlDurable a.ticket) with
  | some a => a.old
  | none => (s.lnk.decided.find? (fun d => d.node == some i && d.ticket.any (fun t => !s.jnlDurable t))).map
      (fun d => (d.oldCtr, d.oldSeq, d.oldNoCtr))

/-- A record of a node as a READ and a write-back show it (R276): counters that the journal does not hold do not show. -/
def State.shownOf (s : State) (i : Nat) (os : Octets) : Octets :=
  match s.oldCounters i with
  | some o => nrSetFlag fNoctr o.2.2 (nrSet nrLastseq o.2.1 (nrSet nrInctr o.1 os))
  | none => os

/-- A node's record as a READ shows it (R276). -/
def State.visibleRec (s : State) (i : Nat) : Octets := s.shownOf i (s.nodeRec i)

/-- A node's context waits for a journal record; waits that have ended go. -/
def awaitJournal (i ticket : Nat) (old : Option (Nat × Nat × Bool)) (s : State) : State :=
  let stays (a : Awaited) : Bool := s.jnlPending a.ticket || (a.node != i && a.old.isSome && s.jnlRefused a.ticket)
  onlyIf (s.jnlPending ticket) (modCtx (fun c => { c with
    awaiting := c.awaiting.filter stays ++ [{ node := i, ticket := ticket, old := old }] })) s

/-- A frame's counter goes into the record and to the journal; the record shows it once the journal holds it (R209, R276, R377). -/
def heardCounter (i ctr : Nat) (s : State) : State :=
  let os := s.nodeRec i
  let ticket := s.jnl.nextTicket
  let s := updateNode i (fun os => nrSetFlag fNoctr false (nrSet nrInctr ctr os)) s
  let s := jnlOffer recCounter (payCounter i ctr (nr os nrLastseq) true) s
  awaitJournal i ticket (some (nr os nrInctr, nr os nrLastseq, nrFlag os fNoctr)) s

/-- Start the write-back of a dirty record, in its context or in the buffer. -/
def startWriteBack (i : Nat) (s : State) : State :=
  let s := match s.hotOf i with
    | some (n, h) => if h.dirty.isSome then modHot n (fun h => { h with writing := true }) s else s
    | none => s
  modCtx (fun c => { c with wb := c.wb.map (fun (e : Nat × Octets × Bool × Nat) =>
    if e.1 = i then (e.1, e.2.1, true, e.2.2.2) else e) }) s

/-- The nodes whose records are dirty. -/
def State.dirtyNodes (s : State) : List Nat :=
  s.ctx.hot.filterMap (fun (h : Nat × Hot) => if h.2.dirty.isSome then some h.2.node else none)
    ++ s.ctx.wb.map (fun (e : Nat × Octets × Bool × Nat) => e.1)

/-- No write-back is under way. -/
def State.writesDone (s : State) : Bool :=
  s.ctx.hot.all (fun (h : Nat × Hot) => !h.2.writing) && s.ctx.wb.all (fun (e : Nat × Octets × Bool × Nat) => !e.2.2.1)

/-- A flush ends once nothing is being written back. -/
def flushEnds (s : State) : State :=
  if s.is CTX_CTRL_FLUSH && s.writesDone then endTask 0x280 (s.set CTX_CTRL_FLUSH 0) else s

/-- A flush: every dirty context is written back. -/
def contextFlush (s : State) : State :=
  let s := forEach s.dirtyNodes startWriteBack (s.set CTX_CTRL_FLUSH 1)
  flushEnds s

/-- The effect of a write of `CTX_CTRL`. -/
def ctxCtrlWrite (w : Word) (s : State) : State := if wrote w CTX_CTRL_FLUSH then contextFlush (startTask 0x280 s) else s

/-- A record's write-back interval has passed since it became dirty, or since its last write was refused. -/
def State.writeBackDue (s : State) (i : Nat) : Bool :=
  let span := s.get CTX_CFG_WBINT * 100 * msCycles
  (match s.hotOf i with
   | some (_, h) => (match h.dirty with
     | some t => s.passed t span
     | none => false)
   | none => false)
    || s.ctx.wb.any (fun (e : Nat × Octets × Bool × Nat) => e.1 == i && s.passed e.2.2.2 span)

/-- WRITE_BACK (R275). DEDUCED, unsafe: log 82. -/
def execWriteBack (dt : Nat) (cause : WriteBackCause) (s : State) : Host.Outcome State Fault Refusal :=
  command dt (fun s =>
    match cause with
    | .due i => onlyIf (s.writeBackDue i) (startWriteBack i) s
    | .write acc w => writeRow acc 0x200A0000 w (ctxCtrlWrite w) s
    | .task => if s.taskQueued 0x280 then contextFlush (takeTask 0x280 s) else s) s

/-- WRITE_BACK_DONE (R275): the write ends; `ok` is false where the DRAM controller refuses it. A refused record stays dirty
where it is held. -/
def execWriteBackDone (dt node : Nat) (ok : Bool) (s : State) : Host.Outcome State Fault Refusal :=
  command dt (fun s =>
    let ok := ok && (s.locate (s.nodeAddr node) 256).isSome
    let inBuffer := s.ctx.wb.find? (fun (e : Nat × Octets × Bool × Nat) => e.1 == node && e.2.2.1)
    match inBuffer with
    | some e =>
      if ok then
        let shown := s.shownOf node e.2.1
        let stays := shown != e.2.1
        let s := enginePut 1 (s.nodeAddr node) (withCheck shown) (count CTX_CNT_WBACK 1 s)
        flushEnds (modCtx (fun c => { c with wb := c.wb.filterMap (fun (x : Nat × Octets × Bool × Nat) =>
          if x.1 = node then (if stays then some (x.1, x.2.1, false, s.cycles) else none) else some x) }) s)
      else
        flushEnds (contextError (modCtx (fun c => { c with wb := c.wb.map (fun (x : Nat × Octets × Bool × Nat) =>
          if x.1 = node then (x.1, x.2.1, false, s.cycles) else x) }) s))
    | none =>
      match s.hotOf node with
      | some (n, h) =>
        if !h.writing then s
        else if ok then
          let shown := s.shownOf node h.os
          let s := enginePut 1 (s.nodeAddr node) (withCheck shown) (count CTX_CNT_WBACK 1 s)
          let after := if shown = h.os then none else some s.cycles
          flushEnds (modHot n (fun h => { h with os := withCheck h.os, dirty := after, writing := false }) s)
        else flushEnds (contextError (modHot n (fun h => { h with dirty := some s.cycles, writing := false }) s))
      | none => s) s

/-! ### Quarantine (R284) -/

/-- The number of entries of the quarantine ring. -/
def quarSize : Nat := 8192

/-- A quarantined address returns to free. -/
def quarFree (e : Nat × Nat × Nat) (s : State) : State := setMapEntry e.1 e.2.1 0 s

/-- An address leaves its binding into quarantine; a full ring returns its oldest early. -/
def quarantine (pan a : Nat) (s : State) : State :=
  let s := match s.ctx.quar with
    | oldest :: rest =>
      if quarSize ≤ s.ctx.quar.length then
        let s := quarFree oldest (modCtx (fun c => { c with quar := rest }) s)
        emit 0x283 0 (raise CTX_INT_STAT_QUARFULL (count CTX_CNT_QUAREARLY 1 s))
      else s
    | [] => s
  modCtx (fun c => { c with quar := c.quar ++ [(pan, a, s.cycles)] }) (setMapEntry pan a quarEntry s)

/-- QUARANTINE_EXPIRY (R284): the oldest address has been in quarantine for `CTX_QUAR` seconds. -/
def execQuarantineExpiry (dt : Nat) (s : State) : Host.Outcome State Fault Refusal :=
  command dt (fun s =>
    match s.ctx.quar with
    | e :: rest =>
      if s.passed e.2.2 (s.get CTX_QUAR_SEC * secCycles) then quarFree e (modCtx (fun c => { c with quar := rest }) s) else s
    | [] => s) s

/-- A node's short address is unbound into quarantine. -/
def unbindNode (i : Nat) (s : State) : State :=
  let os := s.nodeRec i
  if nrFlag os fSaddrv then
    updateNode i (nrSetFlag fSaddrv false) (quarantine (nr os nrPan) (nr os nrSaddr) s)
  else s

/-- Bind a short address to a node, after unbinding the one it holds. -/
def bindNode (i pan a : Nat) (s : State) : State :=
  let s := unbindNode i s
  updateNode i (fun os => nrSetFlag fSaddrv true (nrSet nrSaddr a os)) (setMapEntry pan a (boundEntry i) s)

/-! ### Record updates on the frame path (R276) -/

/-- The part of a released frame's update that a FRAME item tells (R276, R368): LASTHEARD and its lock flag, and LQI. -/
def heardUpdate (lock : Bool) (sfdts rssi lqi lqish : Nat) (os : Octets) : Octets :=
  let os := nrSetFlag fLhlock lock (nrSet nrLastheard sfdts os)
  let os := nrSet nrLqiRssi rssi (nrSet nrLqiLast lqi os)
  let avg := nr os nrLqiAvg
  if nrFlag os fLqiv then
    nrSet nrLqiAvg (((avg : Int) + ((lqi * 256 : Nat) - (avg : Int)).tdiv ((2 ^ lqish : Nat) : Int)).toNat) os
  else nrSetFlag fLqiv true (nrSet nrLqiAvg (lqi * 256) os)

/-- A released frame's signature takes the place of the stored one. -/
def RxFrame.keepsSig (f : RxFrame) (sigsnr : Nat) : Bool := decide ((sigsnr : Int) ≤ f.snr) && !f.desense

/-- The update of a released frame with code 0, 1, 3 or 5: code, whether secured, the frame, AVG's shift and SIGSNR. -/
def releaseUpdate (code : Nat) (secured : Bool) (f : RxFrame) (lqish sigsnr : Nat) (os : Octets) : Octets :=
  let os := heardUpdate f.lock f.sfdts (twos 8 f.rssi) f.lqi lqish os
  let os := if f.keepsSig sigsnr then nrSetFlag fSigvalid true (nrPut nrSig (sigOctets f.sig) os) else os
  let os := if code = 0 ∨ code = 1 then nrSetMode f.mode os else os
  if secured then nrSetFlag fNoctr false os else os

/-! ### The rebuild (R280, R589) -/

/-- The codes of `CTX_STAT.TABLE`. -/
def tableNone : Nat := 0
def tableRebuilding : Nat := 1
def tableReady : Nat := 2

/-- The engine address of the table header. -/
def State.headerAddr (s : State) : Nat := s.get CTX_HDR_ADDR * 2 ^ 12

/-- The first 28 octets of a table header that checks (R589). -/
def State.headerBody (s : State) : Octets :=
  octetsOf [0x57, 0x56, 0x4E, 0x54] ++ le 2 1 ++ zeros 2 ++ le 4 262144 ++ le 4 (s.word 0x200A000C).toNat
    ++ le 4 (s.word 0x200A0010).toNat ++ le 4 (s.word 0x200A0014).toNat ++ zeros 4

/-- The read of a kept table's header: whether it checks, and what the controller sees. `bad` says that the read meets an
uncorrectable error, which stands in its first word. -/
def readTableHeader (bad : Bool) (s : State) : Bool × State :=
  if s.is DMC_STAT_RETAINED then
    let r := engineGet 1 s.headerAddr 32 (onlyIf bad (spoil s.headerAddr) s)
    (r.1 == some (s.headerBody ++ le 4 (crc32c s.headerBody)), r.2)
  else (false, s)

/-- The indices whose record is not all zero in DRAM. -/
def State.listedNodes (s : State) : List Nat :=
  let o := s.nodeAddr 0 - dramBase
  ((s.dram.filter (fun (e : Host.Cell) => decide (o ≤ e.1 ∧ e.1 < o + 0x4000000))).map (fun (e : Host.Cell) => (e.1 - o) / 256)).eraseDups

/-- Zero a region of DRAM. DESIGN CHOICE, unsafe: log 83. -/
def zeroDram (a n : Nat) (s : State) : State :=
  let o := a - dramBase
  { s with
    dram := Sparse.erase s.dram (fun k => decide (o ≤ k ∧ k < o + n)),
    dmc := { s.dmc with bad := s.dmc.bad.filter (fun w => !wordWithin o n w) } }

/-- The overlay of a kept record from its entry in the recovery table (R280). -/
def overlay (entry : Nat) (os : Octets) : Octets :=
  let inctr := entry % 2 ^ 32
  let block := entry / 2 ^ 32 % 2 ^ 20
  let cv := bitAt entry 53
  let os := nrSet nrInctr (max (nr os nrInctr) inctr) os
  let os := if cv then nrSetFlag fNoctr false os else os
  let os := if bitAt entry 62 then nrSet nrLastseq (entry / 2 ^ 54 % 256) os else os
  let os := if bitAt entry 52 then nrSet nrNext ((block + 1) * 4096) os
    else
      (match nrReservedBlock os with
       | some b => nrSet nrNext ((b + 1) * 4096) os
       | none => os)
  let w := nr os nrReserved
  nrSet nrPend 0 (nrSet nrReserved (w - flag (bitAt w 20) * 2 ^ 20) os)

/-- The maps and the EUI index entries of a kept record. -/
def indexNode (i : Nat) (os : Octets) (s : State) : State :=
  let s := if nrFlag os fSaddrv && !nrFlag os fRetired then setMapEntry (nr os nrPan) (nr os nrSaddr) (boundEntry i) s else s
  let s := euiInsert (nr os nrEui) i s
  if nrFlag os fRetired then euiRetire (nr os nrEui) i s else s

/-- Rebuild one record (R280); a record that meets an uncorrectable error, one of `bad`, does not check. -/
def rebuildNode (bad : List Nat) (i : Nat) (s : State) : State :=
  let os := s.memOr0 (s.nodeAddr i) 256
  let r := engineGet 1 (s.nodeAddr i) 256 (onlyIf (bad.contains i) (spoil (s.nodeAddr i)) s)
  let kept := (nrFlag os fValid || nrFlag os fRetired) && nr os nrCheck == nrChecksum os && r.1.isSome
  let s := r.2
  if kept then
    let s := engineReads 1 (s.recoveryAddr i) 8 s
    let os := overlay (leNat (s.memOr0 (s.recoveryAddr i) 8)) os
    indexNode i os (enginePut 1 (s.nodeAddr i) (withCheck os) s)
  else raise CTX_INT_STAT_BADREC (count CTX_CNT_BADREC 1 (zeroDram (s.nodeAddr i) 256 s))

/-- Fill the contexts that FLAGS.PINNED asks for, up to PINMAX in ascending index order (R280). -/
def fillPinned (s : State) : State :=
  let want := (sortBy (fun a b => decide (a < b)) s.listedNodes).filter (fun i =>
    nrUsed (s.nodeRec i) && nrFlag (s.nodeRec i) fPinned && (s.hotOf i).isNone)
  forEach (want.take (s.get CTX_CFG_PINMAX)) (fun i t =>
    match t.victim with
    | some n => install n i (t.nodeRec i) (evict n t)
    | none => t) s

/-- The rebuild of the table; `warm` keeps the records that check, which those of `bad` do not. -/
def rebuildTable (warm : Bool) (bad : List Nat) (s : State) : State :=
  let s := zeroDram s.headerAddr 4 s
  let s := zeroDram (s.mapAddr 0 0) 0x400000 (zeroDram (s.bucketAddr 0) 0x800000 s)
  let unread := bad.filter (fun i => decide (i < 262144) && !s.listedNodes.contains i)
  if warm then forEach (sortBy (fun a b => decide (a < b)) (s.listedNodes ++ unread.eraseDups)) (rebuildNode bad) s
  else zeroDram (s.nodeAddr 0) 0x4000000 s

/-- A rebuild ends: the header is written and the table is READY. -/
def rebuildEnds (warm : Bool) (s : State) : State :=
  let s := fillPinned s
  let s := zeroDram s.headerAddr 4096 s
  let s := enginePut 1 s.headerAddr (s.headerBody ++ le 4 (crc32c s.headerBody)) s
  let s := (s.set CTX_STAT_TABLE tableReady).set CTX_STAT_WARM (flag warm)
  emit 0x282 0 (raise CTX_INT_STAT_REBUILT s)

end Sys2Proof.Machine
end

