-- ==== Sys2Proof/Machine/Link.lean ====
section
/-!
DEFINITION. What the link sequencer's commands share (R186 to R226): decision codes, who decides and who books, bookings and
their cancelling, MAC headers, and the downstream frames with their held lists, completions and aborts.
-/

namespace Sys2Proof.Machine

/-- The decision codes of R191. -/
def decAccept : Nat := 0
def decPoll : Nat := 1
def decForward : Nat := 2
def decNofunc : Nat := 3
def decBcnreq : Nat := 4
def decDup : Nat := 5
def decReplay : Nat := 6
def decCtrend : Nat := 7
def decMicfail : Nat := 8
def decSeclow : Nat := 9
def decKeyfail : Nat := 10
def decCtxerr : Nat := 11
def decNotme : Nat := 12
def decUnsupp : Nat := 13
def decLenbad : Nat := 14
def decRevised : Nat := 15
def decQfull : Nat := 16
def decAdmrej : Nat := 17

/-- A node index as records carry it: 0xFF_FFFF for none. -/
def indexOr (n : Option Nat) : Nat := n.getD 0xFFFFFF

/-- The device takes the authority over in a planned handover that has not ended (R375). -/
def State.takesOver (s : State) : Bool := s.stl.handover.any (fun h => !h.giving)

/-- Who decides a frame whose last chip was at a TS64 instant: this device with authority (some true), this device as a
standby (some false), or nobody (R205, R366, R370, R375). MAKER decides NOTME (R496). -/
def State.decidesAs (s : State) (last : Nat) : Option Bool :=
  match s.mode with
  | .standby => some false
  | .maker => some true
  | _ =>
    if s.serves then
      match s.stl.handover with
      | some h => some (if h.giving then decide (last < h.h) else decide (h.h ≤ last))
      | none => some (s.stl.decidesFrom.all (fun d => decide (d ≤ last)))
    else none

/-! ### Bookings (R173, R174) -/

/-- Hand a booking to the transmit path; its number is `cod.nextId` before. -/
def book (cls : TxClass) (ch mode first : Nat) (sig : Option Sig) (mpdu : Octets) (s : State) : State :=
  let r : BookReq :=
    { id := s.cod.nextId, cls := cls, ch := ch, mode := mode, first := first, mask := 0xFF, sig := sig, mpdu := mpdu,
      asked := s.cycles }
  modCod (fun c => { c with asked := c.asked ++ [r], nextId := c.nextId + 1 }) s

/-- A booking the transmit path still holds. -/
def State.bookingHolds (s : State) (id : Nat) : Bool :=
  (s.cod.asked.any (fun r => r.id == id) || s.cod.placed.any (fun b => b.req.id == id)) && !s.cod.cancels.elem id

/-- Chips in cycles of SIFS or LIFS after a frame (R208). -/
def ifsCycles (mpdu : Octets) : Nat := (if mpdu.length ≤ 18 then 12 else 40) * symCycles

/-- The cycles from the first chip to the last of a frame. -/
def airCycles (mode : Nat) (mpdu : Octets) : Nat := frameCycles mode (mpdu.length + fcsLen mode)

/-! ### MAC headers the device forms (R199, R200, R212, R334) -/

/-- An address as sent. -/
def addrOctets (a : Addr) : Octets :=
  match a with
  | .none => []
  | .short v => le 2 v
  | .ext v => le 8 v

/-- The mode code of an address. DEDUCED, unsafe: log 75. -/
def addrMode (a : Addr) : Nat :=
  match a with
  | .none => 0
  | .short _ => 2
  | .ext _ => 3

/-- The coordinator's source address (R212, R334): the short address, or the extended one where asked for or where the PAN has
no short address. DEDUCED, unsafe: log 68. -/
def State.coordAddr (s : State) (pan : Nat) (ext : Bool) : Addr :=
  let a := s.get (LNK_PANn_ID_SADDR pan)
  if ext || a == 0xFFFE || a == 0xFFFF then .ext (s.panEui pan) else .short a

/-- The auxiliary security header (R228, R229): level and key identifier mode, frame counter, key identifier. -/
def auxHeader (level kim counter : Nat) (keyId : Octets) : Octets := le 1 (level + 8 * kim) ++ le 4 counter ++ keyId

/-- The key identifier field that names a group slot (R229). -/
def State.slotKeyId (s : State) (kim g : Nat) : Octets :=
  let src := le 4 (s.get (SEC_GRPn_SRC_LO_SRC g)) ++ le 4 (s.get (SEC_GRPn_SRC_HI_SRC g))
  let n := if kim = 2 then 4 else if kim = 3 then 8 else 0
  if kim = 0 then [] else src.take n ++ le 1 (s.get (SEC_GRPn_CFG_KIDX g))

/-- A frame with its frame-control bits: type, secured, pending, AR, IE present, 2015 version, and the addresses of a data or
command frame to a node, whose PAN ID is compressed where the standard allows (assumption 32). -/
def dataHeader (type : Nat) (secured pending ar ie v2015 : Bool) (dsn panId : Nat) (dst src : Addr) (aux : Octets) :
    Octets :=
  let both := addrMode dst == 3 && addrMode src == 3
  let comp := !(v2015 && both)
  let fc := type + 8 * flag secured + 16 * flag pending + 32 * flag ar + 64 * flag comp + 512 * flag ie
    + 1024 * addrMode dst + 4096 * (if v2015 then 2 else 1) + 16384 * addrMode src
  le 2 fc ++ le 1 dsn ++ le 2 panId ++ addrOctets dst ++ addrOctets src ++ aux ++ (if ie then le 2 0x3F00 else [])

/-- The frame pending bit of a frame. -/
def setPendingBit (v : Bool) (os : Octets) : Octets :=
  let fc := leAt os 0 2
  patch os 0 (le 2 (fc - 16 * flag (bitAt fc 4) + 16 * flag v))

/-- An Imm-Ack (R199): frame control and DSN. -/
def immAck (pending : Bool) (dsn : Nat) : Octets := le 2 (2 + 16 * flag pending) ++ le 1 dsn

/-- An Enh-Ack without its MIC (R200): to the acknowledged frame's source, with the PAN ID of the logical PAN. -/
def enhAck (m : Mhr) (pending secured : Bool) (panId counter : Nat) : Octets :=
  let fc := 2 + 8 * flag secured + 16 * flag pending + 256 * flag m.dsnSup + 1024 * addrMode m.src + 8192
  le 2 fc ++ (if m.dsnSup then [] else le 1 m.dsn) ++ le 2 panId ++ addrOctets m.src ++
    (if secured then auxHeader m.level m.kim counter m.keyId else [])

/-! ### Gorse for the frames the device sends (R229 to R231, R246 to R250) -/

/-- The slot of an outgoing frame's key: key identifier mode 0 and LINK slots use the node's link key. -/
def State.outSlot (s : State) (kim g : Nat) (node : Option Nat) : Option Nat :=
  if kim = 0 ∨ s.is (SEC_GRPn_CFG_LINK g) = true then node.bind (fun i => (s.hotOf i).map (·.1)) else some (512 + g)

/-- A downstream frame's request captures its slot and generation (R235). -/
def captureSlot (d : Down) (s : State) : Down :=
  { d with slot := (s.outSlot (descKim d.desc) (descSlot d.desc) d.node).map (fun n => (n, (s.slot n).gen)) }

/-- The key, and the counter space, of an outgoing frame: key identifier mode 0 and LINK slots use the node's link key. -/
def State.outKey (s : State) (kim g : Nat) (node : Option Nat) : Option (Octets × Space) :=
  let link : Option (Octets × Space) :=
    match node with
    | some i =>
      (match s.hotOf i with
       | some (n, _) => if (s.slot n).valid then some ((s.slot n).key, { group := false, id := i }) else none
       | none => none)
    | none => none
  if kim = 0 ∨ s.is (SEC_GRPn_CFG_LINK g) = true then link
  else if (s.slot (512 + g)).valid then some ((s.slot (512 + g)).key, { group := true, id := g })
  else none

/-- A downstream frame's octets under a key (R231). -/
def State.sealWith (s : State) (key : Octets) (d : Down) : Octets :=
  let level := descLevel d.desc
  let start := d.hdrLen + flag (descCtl d.desc ctlCmd && !descCtl d.desc ctlIep)
  secureOctets key (ccmNonce (s.panEui d.pan) d.counter level) level (d.plain.take start) (d.plain.drop start)

/-- Secure a downstream frame's plain octets under its key and counter (R231): the key its counter was assigned under, which it
keeps through holding and retries (R247). -/
def State.seal (s : State) (d : Down) : Option Octets :=
  if descLevel d.desc = 0 then some d.plain
  else if !d.key.isEmpty then some (s.sealWith d.key d)
  else (s.outKey (descKim d.desc) (descSlot d.desc) d.node).map (fun k => s.sealWith k.1 d)

/-! ### Downstream frames and held lists (R217, R220, R221) -/

/-- Change a downstream frame. -/
def modDown (id : Nat) (f : Down → Down) (s : State) : State :=
  modLnk (fun l => { l with down := l.down.map (fun d => if d.id = id then f d else d) }) s

/-- The attempt of a downstream frame. -/
def State.attemptOf (s : State) (id : Nat) : Option Attempt := s.lnk.attempts.find? (fun a => a.for_ == .down id)

/-- A frame of a queue is in flight (R220): started and not held, or held with an attempt under way. -/
def State.inFlight (s : State) (q : Nat) : Option Down :=
  s.lnk.down.find? (fun d => d.queue == q && (!d.held || (s.attemptOf d.id).isSome))

/-- The frames held for a node, in the order held. -/
def State.heldFor (s : State) (i : Nat) : List Down := s.lnk.down.filter (fun d => d.held && d.node == some i)

/-- NR.PEND and the pending bit follow a node's held list (R217, R263): the count, and an address in DRAM the manual does not
give (assumption 13). DEDUCED, unsafe: log 67. -/
def followHeld (i : Nat) (s : State) : State :=
  let n := (s.heldFor i).length
  let v := if n = 0 then 0 else s.freeNow % 2 ^ 40 + n * 2 ^ 40
  let pan := nr (s.nodeRec i) nrPan
  let s := onlyIf (n != 0) useFree s
  let s := setPending i (n != 0) (updateNode i (nrSet nrPend v) s)
  modLnk (fun l => { l with
    ring := if n = 0 then l.ring.filter (fun e => e.2 != i)
      else if l.ring.any (fun e => e.2 == i) then l.ring else l.ring ++ [(pan, i)] }) s

/-- The phase of an attempt has not reached step 1. -/
def State.stoppable (s : State) (a : Attempt) : Bool :=
  match a.phase with
  | .backoff _ => true
  | .cca _ b _ => !s.pastStep1 b
  | .booked b _ => s.bookingHolds b && !s.pastStep1 b
  | .ackWait _ _ => false

/-- Drop an attempt; a booking of it that has not reached step 1 is cancelled. -/
def dropAttempt (a : Attempt) (s : State) : State :=
  let s := match a.phase with
    | .cca _ b _ => onlyIf (s.stoppable a) (cancel b) s
    | .booked b _ => onlyIf (s.stoppable a) (cancel b) s
    | _ => s
  modLnk (fun l => { l with attempts := l.attempts.filter (fun x => !(x.for_ == a.for_ && x.pan == a.pan)) }) s

/-- Change an attempt. -/
def modAttempt (a : Attempt) (f : Attempt → Attempt) (s : State) : State :=
  modLnk (fun l => { l with attempts := l.attempts.map (fun x => if x.for_ = a.for_ ∧ x.pan = a.pan then f x else x) }) s

/-! ### Completions (R222, R338) -/

/-- The statuses of R222. -/
def stSuccess : Nat := 0
def stNoAck : Nat := 1
def stCaf : Nat := 2
def stExpired : Nat := 3
def stHeldFull : Nat := 4
def stNoNode : Nat := 5
def stTooLong : Nat := 6
def stKeyExhausted : Nat := 7
def stAborted : Nat := 8

/-- What a status counts and raises. -/
def countStatus (st : Nat) (s : State) : State :=
  match st with
  | 0 => count LNK_CNT_DQ_SUCCESS 1 s
  | 1 => raise LNK_INT_STAT_NOACK (count LNK_CNT_DQ_NOACK 1 s)
  | 2 => raise LNK_INT_STAT_CAF (count LNK_CNT_DQ_CAF 1 s)
  | 3 => raise LNK_INT_STAT_EXPIRED (count LNK_CNT_DQ_EXPIRED 1 s)
  | 4 => raise LNK_INT_STAT_HELDFULL (count LNK_CNT_DQ_OTHER 1 s)
  | 8 => count LNK_CNT_DQ_ABORTED 1 s
  | _ => count LNK_CNT_DQ_OTHER 1 s

/-- REF of a completion (R338): the SEQ of the DOWN message, or the descriptor index where software produced it. -/
def State.refOf (s : State) (q i : Nat) : Nat :=
  if s.is (UPL_Qn_CFG_SRC q) then i
  else ((s.upl.refs.find? (fun r => r.1 == q && r.2.1 == i)).map (fun r => r.2.2)).getD 0

/-- A completion descriptor (R338). -/
def completionDesc (tag q st : Nat) (late : Bool) (dsn tries ctr index ts ref : Nat) : Octets :=
  le 4 tag ++ le 1 q ++ le 1 (st + 16 * flag late) ++ le 1 dsn ++ le 1 (min tries 255) ++ le 4 ctr ++ le 3 index ++ le 1 0
    ++ le 8 ts ++ le 4 ref ++ le 4 0

/-- The DDONE record (R367). -/
def ddoneRecord (q st : Nat) (late : Bool) (tries index ts : Nat) : Octets :=
  record 0x07 [(1, le 1 q), (2, le 1 (st + 16 * flag late)), (3, le 1 (min tries 255)), (12, le 4 index), (16, le 8 ts)]

/-- An abort of a queue covers a descriptor index (R223). -/
def State.abortCovers (s : State) (q i : Nat) : Bool :=
  s.lnk.aborting.any (fun e => e.1 == q && decide (diff32 i e.2 < 0))

/-- A downstream completion: counted, mirrored, and owed to its reader (R222). A frame that was never held advances CI, and so
does one that is held and whose hold has not been acknowledged yet: its descriptor is done with, once. -/
def complete (d : Down) (st : Nat) (s : State) : State :=
  let late := st == stSuccess && s.abortCovers d.queue d.index
  let s := countStatus st s
  let gate := s.gate
  let s := mirror (ddoneRecord d.queue st late d.tries d.index d.firstChip) s
  let octets := completionDesc (leAt d.desc 24 4) d.queue st late d.dsn d.tries
    (if descLevel d.desc = 0 then 0 else d.counter) (indexOr d.node) d.firstChip (s.refOf d.queue d.index)
  let s := modLnk (fun l => { l with
    down := l.down.filter (fun x => x.id != d.id),
    completions := l.completions ++ [{ queue := d.queue, octets := octets, gate := gate }] }) s
  let s := match s.attemptOf d.id with
    | some a => dropAttempt a s
    | none => s
  let s := { s with upl := { s.upl with refs := s.upl.refs.filter (fun r => !(r.1 == d.queue && r.2.1 == d.index)) } }
  if d.held then
    let s := if d.ciOwed.isSome then qAdvanceCi d.queue s else s
    match d.node with
    | some i => followHeld i s
    | none => s
  else qAdvanceCi d.queue s

/-- A frame that has not been started. -/
def Down.fresh (id q index : Nat) (desc : Octets) (pan : Nat) : Down :=
  { id := id, queue := q, index := index, desc := desc, pan := pan, node := none, mode := 0, plain := [], hdrLen := 0,
    mpdu := [], dsn := 0, counter := 0, held := false, heldFrom := 0, fails := 0, tries := 0, firstChip := 0,
    needsKey := false, gate := none, ciOwed := none, key := [], slot := none }

/-- Complete the head of a queue that never starts. -/
def completeHead (q st : Nat) (s : State) : State :=
  let i := s.qCi q
  complete (Down.fresh s.lnk.nextId q i (s.qDesc q i) (s.get (LNK_DQn_PAN q)))
    st (modLnk (fun l => { l with nextId := l.nextId + 1 }) s)

/-- A completion that may be written now (R26, R338): its DDONE is acknowledged, and queue 61 has room. -/
def State.completionReady (s : State) (c : Completion) : Bool :=
  s.ackedM c.gate && (!s.is (UPL_Qn_CFG_SRC c.queue) || !s.qFull 61)

/-- Write a completion: to queue 61, or as a COMPL message to send (R338, R344). DQ_DONE fires (R226). -/
def writeCompletion (c : Completion) (s : State) : State :=
  let s := if s.is (UPL_Qn_CFG_SRC c.queue) then qPush 61 kindCompletion 0 false c.octets s
    else { s with upl := { s.upl with compls := s.upl.compls ++ [{ ts := s.ts, lock := s.lock, data := c.octets }] } }
  emit 0x2C6 0 s

/-- Write the completions that are ready, oldest first; those of one queue keep their order. -/
def writeCompletions (s : State) : State :=
  let step (acc : State × List Nat) (c : Completion) : State × List Nat :=
    if acc.2.elem c.queue || !acc.1.completionReady c then (acc.1, c.queue :: acc.2)
    else
      let t := modLnk (fun l => { l with completions := l.completions.erase c }) acc.1
      (writeCompletion c t, acc.2)
  (s.lnk.completions.foldl step (s, [])).1

/-- A frame moved to a held list advances CI once its DHOLD is acknowledged (R338, R367). -/
def advanceHeld (s : State) : State :=
  forEach s.lnk.down (fun d t =>
    match d.ciOwed with
    | some g => if t.ackedM g then modDown d.id (fun x => { x with ciOwed := none }) (qAdvanceCi d.queue t) else t
    | none => t) s

/-- An abort goes on (R223): with no frame of the queue in flight, its frames not yet started complete ABORTED; when every
frame of the queue has completed the bit clears and ABORT_DONE is raised. -/
def sweepAborts (s : State) : State :=
  forEach s.lnk.aborting (fun (e : Nat × Nat) t =>
    if (t.inFlight e.1).isSome || t.lnk.down.any (fun d => d.queue == e.1 && d.ciOwed.isSome) then t
    else
      let left := (diff32 e.2 (t.qCi e.1)).toNat
      let t := forEach (List.range (min left (t.qUsed e.1))) (fun _ u => completeHead e.1 stAborted u) t
      if t.lnk.down.any (fun d => d.queue == e.1 && t.abortCovers e.1 d.index) then t
      else
        let t := modLnk (fun l => { l with aborting := l.aborting.filter (fun x => x.1 != e.1) }) t
        let bits := t.get LNK_DQ_ABORT_ABORT
        let t := t.set LNK_DQ_ABORT_ABORT (bits - flag (bitAt bits e.1) * 2 ^ e.1)
        emit 0x2C8 0 (raise LNK_INT_STAT_ABORTDONE t)) s

/-- What follows by itself once acknowledgements or room have come. -/
def linkSettle (s : State) : State := writeCompletions (sweepAborts (advanceHeld s))

/-- A node's held frames complete with a status, but one whose attempt has reached step 1 is left to decide (R219, R282). -/
def endHeld (d : Down) (st : Nat) (s : State) : State :=
  match s.attemptOf d.id with
  | some a => if s.stoppable a then complete d st s else s
  | none => complete d st s

/-! ### Channel access (R206 to R208) -/

/-- A unit back-off period: 20 symbols. -/
def backoffUnit : Nat := 20 * symCycles

/-- The CCA window: 8 symbols. -/
def ccaCycles : Nat := 8 * symCycles

/-- The turnaround: 12 symbols. -/
def turnaround : Nat := 12 * symCycles

/-- The active period of a PAN that runs: first chip and end of its beacon. -/
def State.activeBeacon (s : State) (pan : Nat) : Option (Nat × Nat) :=
  (s.lnk.beacons.find? (fun e => e.1 == pan)).map (·.2)

/-- The end of the active period after a beacon's first chip (R215). -/
def State.activeEnd (s : State) (pan first : Nat) : Nat := first + 960 * 2 ^ s.get (LNK_PANn_CFG_SO pan) * symCycles

/-- The CAP of a PAN is open, or the PAN is a non-beacon one (R215, R220). -/
def State.capOpen (s : State) (pan : Nat) : Bool :=
  !s.panBeacons pan ||
    match s.activeBeacon pan with
    | some (first, stop) => decide (stop ≤ s.cycles ∧ s.cycles < s.activeEnd pan first)
    | none => false

/-- The next back-off boundary of a PAN from an instant on: aligned to the beacon's first chip in a beacon-enabled PAN. -/
def State.boundary (s : State) (pan t : Nat) : Nat :=
  match s.activeBeacon pan with
  | some (first, _) =>
    if s.panBeacons pan then first + (t - first + backoffUnit - 1) / backoffUnit * backoffUnit else t
  | none => t

/-- A random back-off for an attempt (R206): an instant. -/
def State.backoffStop (s : State) (pan be : Nat) : Nat :=
  s.boundary pan s.cycles + Config.freeRandom s.free % 2 ^ be * backoffUnit

/-- Begin a channel access. -/
def startAttempt (f : AttemptFor) (pan mode : Nat) (mpdu : Octets) (dsn : Nat) (ar : Bool) (node : Option Nat)
    (deadline : Option Nat) (retries : Nat) (s : State) : State :=
  let be := s.get (LNK_PANn_CSMA_MINBE pan)
  let a : Attempt :=
    { for_ := f, pan := pan, mode := mode, mpdu := mpdu, dsn := dsn, nb := 0, be := be, cw := 2, retries := retries, ar := ar,
      node := node, deadline := deadline, phase := .backoff (s.backoffStop pan be) }
  useFree (modLnk (fun l => { l with attempts := l.attempts ++ [a] }) s)

/-- Start an attempt of a downstream frame. -/
def startDown (d : Down) (deadline : Option Nat) (retries : Nat) (s : State) : State :=
  startAttempt (.down d.id) d.pan d.mode d.mpdu d.dsn (descCtl d.desc ctlAr && !descCtl d.desc ctlBcast) d.node deadline
    retries s

/-- A channel access has failed (R206, R218, R222). -/
def accessFailed (a : Attempt) (s : State) : State :=
  let s := dropAttempt { a with phase := .backoff 0 } s
  match a.for_ with
  | .down id =>
    (match s.lnk.down.find? (fun d => d.id == id) with
     | some d => if d.held then s else complete d stCaf s
     | none => s)
  | .empty _ => s
  | .beacon => beaconMissed a.pan s

/-- The frame of an attempt whose queue an abort covers: its next failure ends it ABORTED, without a retry (R223). -/
def State.abortedFrame (s : State) (a : Attempt) : Option Down :=
  match a.for_ with
  | .down id => s.lnk.down.find? (fun d => d.id == id && s.abortCovers d.queue d.index)
  | _ => none

/-- A CCA was busy, or its booking did not hold (R206). -/
def channelBusy (a : Attempt) (s : State) : State :=
  let nb := a.nb + 1
  match s.abortedFrame a with
  | some d => complete d stAborted s
  | none =>
  if s.get (LNK_PANn_CSMA_MAXBO a.pan) < nb then accessFailed a s
  else
    let be := min (a.be + 1) (s.get (LNK_PANn_CSMA_MAXBE a.pan))
    useFree (modAttempt a (fun x => { x with nb := nb, be := be, cw := 2, phase := .backoff (s.backoffStop a.pan be) }) s)

/-- No DATA first chip may fall on a channel before an instant. DEDUCED, unsafe: log 61. -/
def keepGap (ch t : Nat) (s : State) : State :=
  modLnk (fun l => { l with gaps := (ch, t) :: l.gaps.filter (fun e => e.1 != ch) }) s

/-- The gap of a channel. -/
def State.gapOf (s : State) (ch : Nat) : Nat := ((s.lnk.gaps.find? (fun e => e.1 == ch)).map (·.2)).getD 0

/-- An attempt was acknowledged, or needed no acknowledgement (R209, R218). -/
def attemptSucceeded (a : Attempt) (s : State) : State :=
  match a.for_ with
  | .down id =>
    (match s.lnk.down.find? (fun d => d.id == id) with
     | some d => complete d stSuccess s
     | none => dropAttempt { a with phase := .backoff 0 } s)
  | _ => dropAttempt { a with phase := .backoff 0 } s

/-- The transmission of an attempt failed, by a wait that passed or by an underrun (R59, R209, R218). -/
def attemptUnacked (a : Attempt) (s : State) : State :=
  match s.abortedFrame a with
  | some d => complete d stAborted s
  | none =>
  match a.for_ with
  | .down id =>
    (match s.lnk.down.find? (fun d => d.id == id) with
     | some d =>
       let retries := s.get (LNK_PANn_CSMA_MAXRETRY a.pan)
       let s := dropAttempt { a with phase := .backoff 0 } s
       if d.held then
         let s := modDown id (fun x => { x with fails := x.fails + 1 }) s
         if retries < d.fails + 1 then complete { d with fails := d.fails + 1 } stNoAck s else s
       else if a.retries < retries then startDown d none (a.retries + 1) s
       else complete d stNoAck s
     | none => dropAttempt { a with phase := .backoff 0 } s)
  | _ => dropAttempt { a with phase := .backoff 0 } s

end Sys2Proof.Machine
end

