-- ==== Sys2Proof/Machine/Decide.lean ====
section
/-!
DEFINITION. Decisions and their release (R189 to R205, R224, R276): the table of R191, acknowledgements and their priority, and
the mirror cut-off.
-/

namespace Sys2Proof.Machine

/-! ### Parsing (R190) -/

/-- What Gorse made of a secured frame: a result, and the plain MPDU. -/
def RxFrame.result (f : RxFrame) : Nat := (f.verdict.map (·.1)).getD resNokey

/-- The MPDU whose payload is plain: Gorse's where it verified the frame, else as received. -/
def RxFrame.plain (f : RxFrame) : Octets :=
  match f.verdict with
  | some (0, os) => os
  | _ => f.mpdu

/-- Frame control says what R191 row 2 and R190 call unsupported. -/
def unsupportedControl (os : Octets) : Bool :=
  let fc := leAt os 0 2
  let version := fc / 4096 % 4
  decide (version = 3) || decide (4 ≤ fc % 8) || decide (fc / 1024 % 4 = 1) || decide (fc / 16384 % 4 = 1)

/-- The logical PAN a frame belongs to (R192, R267): by its PAN ID, or, where that is the broadcast one, that of the node
record of its source. -/
def State.framePan (s : State) (f : RxFrame) (m : Mhr) : Option Nat :=
  match f.look with
  | .hit _ =>
    if m.dstPan = some 0xFFFF then
      let p := f.readPan % 16
      if (s.pansOn f.ch).elem p then some p else none
    else s.lookupPan f.ch m
  | _ => s.lookupPan f.ch m

/-- A command identifier that can be read without Gorse: it is not encrypted (R231). -/
def Mhr.openCommand (m : Mhr) (os : Octets) : Option Nat :=
  if m.secured && encrypts m.level && m.payIes then none else m.command os

/-- Row 2 of R191, with version 0b00 by R190. -/
def State.unsupported (s : State) (m : Mhr) (pan : Option Nat) : Bool :=
  let old := m.version == 0 && !(match pan with
    | some p => s.is (LNK_PANn_CFG_ALLOW2003 p) && !m.secured
    | none => false)
  old || m.counterSup || m.counter5

/-- The address filter of R192, the PAN matched. -/
def State.filterPasses (s : State) (pan : Nat) (m : Mhr) : Bool :=
  m.type != tyBeacon && m.src != .none &&
    (if m.dst = .none then s.is (LNK_PANn_CFG_COORDDST pan) else s.ownAddress pan m.dst)

/-- The admission test of R214. -/
def State.admits (s : State) (eui : Nat) : Bool :=
  let m := 2 ^ s.get LNK_ADM_M
  crc32 (le 8 eui) % m == s.get LNK_ADM_INDEX % m

/-- Room for a forwarded frame, else QFULL (R28, R193): the frames decided for the queue and not yet written have their place
in it. DEDUCED, unsafe: log 55. -/
def State.forwardTo (s : State) (q : Nat) : Nat × Option Nat :=
  if s.qFree q ≤ (s.lnk.decided.filter (fun d => d.queue == some q)).length then (decQfull, none) else (decForward, some q)

/-- Row 6 (R193): the decision on a frame of an unknown source, and the queue. DEDUCED, unsafe: log 54. -/
def State.decideUnknown (s : State) (pan : Nat) (m : Mhr) (os : Octets) : Nat × Option Nat :=
  let cmd := m.openCommand os
  let hidden := m.type == tyCommand && m.secured && encrypts m.level && m.payIes
  let ext := addrMode m.src == 3
  let assoc := cmd == some 1 || cmd == some 3 || cmd == some 6
  let refused := match cmd, m.src with
    | some 1, .ext eui =>
      s.is LNK_ADM_ENFORCE && bitAt (s.get LNK_ADM_PAN_PANS) pan && !s.admits eui
    | _, _ => false
  if assoc then (if refused then (decAdmrej, none) else s.forwardTo 57)
  else if hidden then s.forwardTo (if ext then 56 else 58)
  else if m.type = tyData ∧ ext = true then s.forwardTo 56
  else if ext = false then s.forwardTo 58
  else (decNotme, none)

/-- Rows 13 to 16: the decision by what the frame asks for (R224). -/
def State.decideKind (s : State) (m : Mhr) (plain : Octets) : Nat × Option Nat :=
  if m.type ≠ tyCommand then (decAccept, none)
  else
    match m.command plain with
    | some 4 => (decPoll, none)
    | some 1 => s.forwardTo 57
    | some 3 => s.forwardTo 57
    | some 6 => s.forwardTo 57
    | some 5 => s.forwardTo 59
    | _ => (decNofunc, none)

/-- Rows 8 to 16: the decision on a frame of a known node with a record. -/
def State.decideKnown (s : State) (f : RxFrame) (pan : Nat) (m : Mhr) (os : Octets) : Nat × Option Nat :=
  let ctr := nr os nrInctr
  let fresh := nrFlag os fNoctr
  let since := (f.sfdts + 2 ^ 64 - nr os nrLastheard) % 2 ^ 64
  if m.level < s.get (LNK_PANn_CFG_MINSEC pan) then (decSeclow, none)
  else if m.secured = true ∧ (f.result = resNokey ∨ f.result = resKeyChanged) then (decKeyfail, none)
  else if m.secured = true ∧ fresh = false ∧ m.counter < ctr then (if ctr = 0xFFFFFFFF then decCtrend else decReplay, none)
  else if m.secured = true ∧ f.result = resMicfail then (decMicfail, none)
  else if m.secured = true ∧ fresh = false ∧ m.counter = ctr then (decDup, none)
  else if m.secured = false ∧ m.dsnSup = false ∧ m.dsn = nr os nrLastseq ∧ since ≤ s.get LNK_CFG_DUPWIN * msCycles then
    (decDup, none)
  else s.decideKind m f.plain

/-- The record of a node as a decision sees it: the counters that the earlier decisions left, a secured one awaiting its cut-off
counting as an accepted counter (R194), and the PAN that the frame's lookup read (R282). -/
def State.decisionRec (s : State) (f : RxFrame) (i : Nat) : Octets :=
  let os := nrSet nrPan f.readPan (s.nodeRec i)
  if s.lnk.decided.any (fun d => d.node == some i && d.advanced && d.secured) then nrSetFlag fNoctr false os else os

/-- What a frame waits for before it can be decided: its lookup, or Gorse. -/
inductive Ruling where
  | wait
  | drop
  | ack
  | decide (code : Nat) (queue : Option Nat) (pan : Option Nat) (node : Option Nat)
  deriving DecidableEq, Repr

/-- A frame with the broadcast PAN ID whose PAN is that of its source's record waits for its lookup (R192). -/
def RxFrame.panWaits (f : RxFrame) (m : Mhr) : Bool :=
  m.dstPan == some 0xFFFF && m.src != .none && (f.look == .none || f.look == .filling)

/-- The decision table of R191. An acknowledgement frame receives no decision, whatever its version (R190); a revised one is
discarded (R170). In MAKER every frame is NOTME (R496). A frame whose header does not parse matches no PAN (row 4). DEDUCED,
unsafe: log 53. DEDUCED, unsafe: log 53. -/
def State.decideFrame (s : State) (f : RxFrame) : Ruling :=
  if 2 ≤ f.mpdu.length ∧ octAt f.mpdu 0 % 8 = tyAck then (if f.revised then .drop else .ack)
  else if s.mode = .maker then .decide decNotme none none none
  else if f.revised then .decide decRevised none none none
  else if f.mpdu.length < 2 then .decide decNotme none none none
  else if unsupportedControl f.mpdu then .decide decUnsupp none none none
  else
    match parseMhr f.mpdu with
    | none => .decide decNotme none none none
    | some m =>
      if f.panWaits m then .wait
      else
      let pan := s.framePan f m
      if s.unsupported m pan then .decide decUnsupp none pan none
      else if m.openCommand f.mpdu = some 7 ∧ (s.pansOn f.ch).any (fun p => !s.panBeacons p) = true then
        .decide decBcnreq none pan none
      else
        match pan with
        | none => .decide decNotme none none none
        | some p =>
          if s.filterPasses p m = false then .decide decNotme none pan none
          else if bitAt (s.get (LNK_PANn_CFG_MODES p)) f.mode = false
              ∨ (f.mode ≠ 0 ∧ s.get (LNK_PANn_LEN_RXMAX p) < f.mpdu.length) then .decide decLenbad none pan none
          else
            match f.look with
            | .none => .wait
            | .filling => .wait
            | .miss => let r := s.decideUnknown p m f.mpdu; .decide r.1 r.2 pan none
            | .err => .decide decCtxerr none pan none
            | .hit i =>
              let os := s.decisionRec f i
              if nr os nrPan % 16 ≠ p then let r := s.decideUnknown p m f.mpdu; .decide r.1 r.2 pan none
              else if m.secured = true ∧ s.get (LNK_PANn_CFG_MINSEC p) ≤ m.level ∧ f.verdict.isNone = true then .wait
              else let r := s.decideKnown f p m os; .decide r.1 r.2 pan (some i)

/-! ### Acknowledgements (R199 to R204) -/

/-- Whether acknowledgement `a` has priority over `b` (R203). -/
def AckBooking.over (a b : AckBooking) : Bool :=
  if a.pri ≠ b.pri then decide (b.pri < a.pri)
  else if a.command ≠ b.command then a.command
  else if a.lastChip ≠ b.lastChip then decide (a.lastChip < b.lastChip)
  else decide (a.lane < b.lane)

/-- The ACK bookings that have not ended. -/
def State.liveAcks (s : State) : List AckBooking := s.lnk.acks.filter (fun a => !a.failed)

/-- The state once the transmit path has taken every booking handed to it (R181). -/
def State.afterAsked (s : State) : State :=
  (s.cod.asked.foldl (fun acc (_ : BookReq) =>
    match acc.nextRequest with
    | some r => serveBooking r (modCod (fun p => { p with asked := p.asked.filter (fun q => q.id != r.id) }) acc)
    | none => acc) s)

/-- The ACK bookings a new one conflicts with (R204), once `gone` are cancelled. -/
def State.conflicts (s : State) (r : BookReq) (gone : List Nat) : List AckBooking :=
  let acks := s.liveAcks.filter (fun a => !gone.elem a.booking)
  let mine := s.innerSpan r r.pulseEnd
  let same := acks.filter (fun a => a.ch == r.ch && spansMeet mine (a.start, a.stop))
  if !same.isEmpty then same
  else
    let t := s.afterAsked
    let free := (t.chooseChain r gone).isSome
      || (t.displacement r gone ((t.candidates r.cls).map (fun b => b.req.id))).isSome
    if free then []
    else acks.filter (fun a => spansMeet (s.span r r.pulseEnd) (a.start, a.stop))

/-- The acknowledgement of lowest priority. -/
def lowestAck (l : List AckBooking) : Option AckBooking :=
  l.foldl (fun best a =>
    match best with
    | some b => if (b : AckBooking).over a then some a else some b
    | none => some a) none

/-- Settle the conflicts of a new acknowledgement: the bookings to cancel, or none where it is withheld (R204). -/
def State.ackRoom (s : State) (r : BookReq) (new : AckBooking) : Nat → List Nat → Option (List Nat)
  | 0, _ => none
  | n + 1, gone =>
    let cs := s.conflicts r gone
    match lowestAck cs with
    | none => some gone
    | some low =>
      if s.pastStep1 low.booking = false ∧ low.foreign = false ∧ new.over low = true then s.ackRoom r new n (gone ++ [low.booking]) else none

/-- An acknowledgement withheld or cancelled by R204. -/
def ackWithheld (s : State) : State := emit 0x2C2 0 (count LNK_CNT_ACKW_PRIO 1 s)

/-- The acknowledgements that stay once some are cancelled by R204: a released one stays until its outcome, which is one after
release (R202), but stands in no other's way. -/
def dropAcks (gone : List Nat) (l : List AckBooking) : List AckBooking :=
  (l.filter (fun x => !gone.elem x.booking || x.released)).map (fun x =>
    if gone.elem x.booking then { x with failed := true } else x)

/-- The slot of a node's key and its generation now. -/
def State.capturedSlot (s : State) (pan kim : Nat) (keyId : Octets) (i : Nat) : Option (Nat × Nat) :=
  (s.resolveSlot pan kim keyId ((s.hotOf i).map (·.1))).map (fun n => (n, (s.slot n).gen))

/-- Book an acknowledgement (R199 to R204); it answers with the booking, or none where it was withheld or not formed.
DEDUCED, unsafe: log 58. -/
def bookAck (f : RxFrame) (m : Mhr) (pan : Nat) (node : Option Nat) (code : Nat) (pending : Bool) (s : State) :
    Option Nat × State :=
  let panId := s.get (LNK_PANn_ID_PANID pan)
  let want := m.version == 2 && m.secured && s.is (LNK_PANn_CFG_EACKSEC pan)
  let secure : Option Nat := if want then node else none
  let space : Space := { group := false, id := secure.getD 0 }
  let first := f.lastChip + turnaround
  let id := s.cod.nextId
  let sig := match node with
    | some i => nrSignature (s.nodeRec i)
    | none => none
  let form (ctr : Nat) : Octets :=
    if m.version = 2 then
      enhAck m pending secure.isSome panId ctr ++ (if secure.isSome then zeros (micLen m.level) else [])
    else immAck pending m.dsn
  let go (ctr : Nat) (s : State) : Option Nat × State :=
    let mpdu := form ctr
    let r : BookReq :=
      { id := id, cls := .ack, ch := f.ch, mode := f.mode, first := first, mask := 0xFF, sig := sig, mpdu := mpdu,
        asked := s.cycles }
    let span := s.innerSpan r r.pulseEnd
    let a : AckBooking :=
      { booking := id, ch := f.ch, pan := pan, start := span.1, stop := span.2, ackEnd := first + airCycles f.mode mpdu,
        pri := s.get (LNK_PANn_CFG_ACKPRI pan), command := m.type == tyCommand, lastChip := f.lastChip, lane := f.lane,
        released := false, failed := false, secure := secure.map (fun i => (i, ctr)),
        slot := secure.bind (fun i => s.capturedSlot pan m.kim m.keyId i),
        poll := if code = decPoll ∧ pending = true then node else none }
    match s.ackRoom r a (s.liveAcks.length + 1) [] with
    | none => (none, ackWithheld s)
    | some gone =>
      let s := forEach gone (fun b t => ackWithheld (cancel b t)) s
      let s := modLnk (fun l => { l with acks := dropAcks gone l.acks ++ [a] }) s
      (some id, book .ack f.ch f.mode first sig mpdu (onlyIf secure.isSome (askShared (.eack id)) s))
  match secure with
  | none => go 0 s
  | some _ =>
    let s := count SEC_CNT_TX 1 s
    if s.spaceExhausted space then (none, exhausted space s)
    else if s.spaceReady space = false then (none, reserve space (count SEC_CNT_NORESV 1 s))
    else
      let c := takeCounter space s
      go c.1 c.2

/-! ### The decision (R191, R194 to R196) -/

/-- The flag and event of a decision (R225, R226). -/
def decisionFlag (code : Nat) (s : State) : State :=
  if code = decQfull then emit 0x2C3 0 (raise LNK_INT_STAT_QFULL s)
  else if code = decReplay then emit 0x2C4 0 (raise LNK_INT_STAT_REPLAY s)
  else if code = decMicfail then emit 0x2C5 0 (raise LNK_INT_STAT_MICFAIL s)
  else if code = decCtrend then emit 0x2C7 0 (raise LNK_INT_STAT_CTREND s)
  else if code = decAdmrej then raise LNK_INT_STAT_ADMREJ s
  else if code = decUnsupp then raise LNK_INT_STAT_UNSUPP s
  else if code = decKeyfail then raise LNK_INT_STAT_KEYFAIL s
  else s

/-- The codes that advance the counter of a known node (R191, R196). -/
def codeAdvances (code : Nat) : Bool := decide (code ≤ decNofunc)

/-- The codes that acknowledge. -/
def codeAcknowledges (code : Nat) : Bool := decide (code ≤ decNofunc) || code == decDup

/-- The provisional advance of a record (R194, R276); NOCTR stays as it is until the frame is released.
DEDUCED, unsafe: log 180. -/
def advanceRecord (m : Mhr) (os : Octets) : Octets :=
  let os := if m.dsnSup then os else nrSet nrLastseq m.dsn os
  if m.secured then nrSet nrInctr m.counter os else os

/-- A frame record of R336 for a frame: its prefix and MPDU. -/
def frameRecordOf (f : RxFrame) (pan : Nat) (node : Option Nat) (dec : Nat) (secured : Bool) (mpdu : Octets) : Octets :=
  frameRecord f.sfdts f.lock f.mode pan f.ch (twos 8 f.rssi) f.lqi (indexOr node) dec secured mpdu

/-- Write a frame record to a queue of software, which has room. -/
def pushFrame (q : Nat) (rec_ : Octets) (s : State) : State :=
  if q = 59 ∧ s.qFull q = true then dropRecord s else qPush q kindFrame 0 false (rec_.take 2048) s

/-- The first CTREND of a node goes to queue 59 (R191, R28, R336). DEDUCED, unsafe: log 56. -/
def forwardCtrend (f : RxFrame) (pan i : Nat) (s : State) : State :=
  if nrFlag (s.nodeRec i) fCtrendsent then s
  else
    let ok := f.result == resPass
    let s := pushFrame 59 (frameRecordOf f pan (some i) decCtrend ok f.plain) s
    updateNode i (nrSetFlag fCtrendsent true) s

/-- The header of an MPDU whose MIC is removed. DEDUCED, unsafe: log 49. -/
def parsePlain (mpdu : Octets) : Option Mhr :=
  (parseMhr (mpdu ++ zeros 16)).bind (fun m => parseMhr (mpdu ++ zeros (if m.secured then micLen m.level else 0)))

/-- The octets of the MAC header of an MPDU whose MIC is removed. -/
def headerLength (mpdu : Octets) : Nat := ((parsePlain mpdu).map (fun m => m.hdrEnd)).getD 0

/-- The FRAME item of an accepted frame (R368): the prefix of R336, then the payload of R289. MLEN counts the MPDU of the frame
record. DEDUCED, unsafe: log 84. -/
def sheafItem (f : RxFrame) (pan i : Nat) (secured : Bool) (plain : Octets) : Octets :=
  (frameRecordOf f pan (some i) decAccept secured plain).take 24 ++ plain.drop (headerLength plain)

/-- The DECIDE record (R367). For a frame without a DSN it carries NR.LASTSEQ (assumption 40).
DEDUCED, unsafe: log 40. -/
def decideRecord (f : RxFrame) (code : Nat) (node : Option Nat) (dsn : Nat) (ack pending : Bool) (inctr ts xseq pan : Nat) :
    Octets :=
  record 0x01 [(1, le 1 code), (2, le 3 (indexOr node)), (5, le 1 dsn), (6, le 1 (flag ack + 2 * flag pending)),
    (7, le 1 f.ch), (8, le 4 inctr), (12, le 8 ts), (20, le 4 xseq), (24, le 1 f.lane), (25, le 1 pan)]

/-- Take a frame out of the inbox. -/
def dropInbox (f : RxFrame) (s : State) : State := { s with inbox := s.inbox.erase f }

/-- The decision of the device with authority. DESIGN CHOICE, unsafe: log 151. -/
def decideNow (f : RxFrame) (code : Nat) (queue pan node : Option Nat) (s : State) : State :=
  let late := decide (usCycles < s.cycles - f.lastChip)
  let s := if late then d2Late (raise LNK_INT_STAT_D2LATE (count LNK_CNT_D2LATE 1 s)) else s
  let s := decisionFlag code (count (LNK_CNT_DECISIONn code) 1 (dropInbox f s))
  let p := pan.getD 0
  let asked := (s.pansOn f.ch).filter (fun n => !s.panBeacons n && !s.lnk.bcnreqs.elem n
    && !s.lnk.attempts.any (fun a => a.pan == n && a.for_ == .beacon))
  let s := onlyIf (code == decBcnreq) (modLnk (fun l => { l with bcnreqs := l.bcnreqs ++ asked })) s
  let s := match node with
    | some i => if code = decCtrend then forwardCtrend f p i s else s
    | none => s
  let rec0 := match node with
    | some i => s.nodeRec i
    | none => zeros 256
  let adv := codeAdvances code && node.isSome
  let mhr := parseMhr f.mpdu
  let secured := (mhr.map (fun m => m.secured)).getD false
  let ticket := if adv then some s.jnl.nextTicket else none
  let s := match node, mhr with
    | some i, some m =>
      if adv then
        let s := updateNode i (advanceRecord m) s
        let os := s.nodeRec i
        jnlOffer recCounter (payCounter i (nr os nrInctr) (nr os nrLastseq) m.secured) s
      else s
    | _, _ => s
  let pending := match node with
    | some i => s.pendingRead i && (code == decPoll || s.is (LNK_PANn_CFG_FPALL p))
    | none => false
  let b := match mhr with
    | some m =>
      if codeAcknowledges code && m.ar && m.dst != Addr.short 0xFFFF && pan.isSome then bookAck f m p node code pending s
      else (none, s)
    | none => (none, s)
  let s := b.2
  let inctr := match node with
    | some i => nr (s.nodeRec i) nrInctr
    | none => 0
  let sent := if s.mirrors then some s.stl.mseq else none
  let ts := s.tsBack (s.cycles - f.lastChip)
  let accepted := code == decAccept
  let lastSeq := match node with
    | some i => nr (s.nodeRec i) nrLastseq
    | none => 0
  let dsn := (mhr.map (fun m => if m.dsnSup then lastSeq else m.dsn)).getD 0
  let s := mirror (decideRecord f code node dsn b.1.isSome (pending && b.1.isSome) inctr ts
    (if accepted then s.stl.xseq % 2 ^ 32 else 0) p) s
  let s := match node, mhr with
    | some i, some m => if accepted then mirrorBulk 1 (sheafItem f p i m.secured f.plain) s else s
    | _, _ => s
  let d : Decided :=
    { id := s.lnk.nextId, frame := f, code := code, node := node, pan := pan, ticket := ticket, mseq := sent,
      xseq := if accepted then s.stl.xseq else 0, oldCtr := nr rec0 nrInctr, oldNoCtr := nrFlag rec0 fNoctr,
      oldSeq := nr rec0 nrLastseq, oldSeqValid := nrFlag rec0 fValid, advanced := adv, ack := b.1, queue := queue, lastTs := ts,
      plain := f.plain, secured := secured }
  modLnk (fun l => { l with decided := l.decided ++ [d], nextId := l.nextId + 1 }) s

/-- A DETACHED standby raises the counter of every frame that verifies with a higher one, and journals it (R377). -/
def detachedHears (f : RxFrame) (s : State) : State :=
  match f.look, parseMhr f.mpdu with
  | .hit i, some m =>
    let os := s.nodeRec i
    if s.stl.sync = syncDetached ∧ m.secured = true ∧ f.result = resPass ∧ f.verdict.isSome = true
        ∧ (nrFlag os fNoctr = true ∨ nr os nrInctr < m.counter) then
      heardCounter i m.counter s
    else s
  | _, _ => s

/-- The PAN whose coordinator sent a beacon, its BSN and SFDTS (R373). -/
def State.beaconOf (s : State) (f : RxFrame) : Option (Nat × Nat × Nat) :=
  match parseMhr f.mpdu with
  | some m =>
    if m.type = tyBeacon then
      match m.srcPan with
      | some id =>
        (match (List.range 16).find? (fun n => s.panConfigured n && s.get (LNK_PANn_CFG_CH n) == f.ch
            && s.get (LNK_PANn_ID_PANID n) == id && m.src == s.coordAddr n (addrMode m.src == 3)) with
         | some n => some (n, m.dsn, f.sfdts)
         | none => none)
      | none => none
    else none
  | none => none

/-- A DECIDE record is of a frame this device decided otherwise (R370): channel, node index and last chip within 1 µs agree,
and the codes differ. -/
def diverges (rec_ : Octets) (ch node ts code : Nat) : Bool :=
  octAt rec_ 7 == ch && leAt rec_ 2 3 == node && decide (leAt rec_ 12 8 ≤ ts + 320 ∧ ts ≤ leAt rec_ 12 8 + 320)
    && octAt rec_ 1 != code

/-- A divergence is counted. -/
def diverged (s : State) : State := raise STL_INT_STAT_DIVERGE (count STL_CNT_DIVERGE 1 s)

/-- A standby learns a node's signature from its own reception (R276, R370). DEDUCED, unsafe: log 186. -/
def learnSig (f : RxFrame) (code : Nat) (node : Option Nat) (s : State) : State :=
  match node with
  | some i =>
    if (code = decAccept ∨ code = decPoll ∨ code = decNofunc ∨ code = decDup) ∧ f.keepsSig (s.get CTX_CFG_SIGSNR) = true then
      count CTX_CNT_SIGUPD 1 (updateNode i (fun os => nrSetFlag fSigvalid true (nrPut nrSig (sigOctets f.sig) os)) s)
    else s
  | none => s

/-- The decision of a standby (R370, R373): it books, releases and writes nothing; it keeps the code, for comparison with the
records, and the beacons of its partner. -/
def standbyHears (f : RxFrame) (code : Nat) (node : Option Nat) (s : State) : State :=
  let ts := s.tsBack (s.cycles - f.lastChip)
  let s := count (LNK_CNT_DECISIONn code) 1 (detachedHears f (dropInbox f s))
  match s.beaconOf f with
  | some b => modStl (fun p => { p with beaconsHeard := p.beaconsHeard ++ [b] }) s
  | none =>
    let s := learnSig f code node s
    let s := onlyIf (s.stl.decides.any (fun d => diverges d.record f.ch (indexOr node) ts code)) diverged s
    modLnk (fun l => { l with heard := (l.heard ++ [(f.ch, indexOr node, ts, code)]).drop (l.heard.length + 1 - 1024) }) s

/-- An earlier frame of the same source waits for its decision (R194): frames are taken by last chip, then lane. -/
def State.earlierWaits (s : State) (f : RxFrame) : Bool :=
  match f.look with
  | .hit i => s.inbox.any (fun g => g.look == .hit i && (decide (g.lastChip < f.lastChip)
      || (g.lastChip == f.lastChip && decide (g.lane < f.lane))))
  | _ => false

/-- DECISION (R189 to R196): the frame a lane has delivered is decided, once its lookup and Gorse have answered. -/
def execDecision (dt lane : Nat) (s : State) : Host.Outcome State Fault Refusal :=
  command dt (fun s =>
    match s.inbox.find? (fun f => f.lane == lane) with
    | none => s
    | some f =>
      if s.earlierWaits f then s
      else
        match s.decideFrame f with
        | .wait => s
        | .drop => dropInbox f s
        | .ack => s
        | .decide code queue pan node =>
          match s.decidesAs (s.tsBack (s.cycles - f.lastChip)) with
          | some true => decideNow f code queue pan node s
          | some false => standbyHears f code node s
          | none => dropInbox f s) s

/-! ### The mirror cut-off (R24, R197, R276) -/

/-- 180 µs. -/
def cutOff : Nat := 180 * usCycles

/-- The acknowledgement of a released frame is kept; one that has already failed is counted (R202). -/
def releaseAck (b : Nat) (s : State) : State :=
  if s.lnk.acks.any (fun a => a.booking == b && a.failed) then
    modLnk (fun l => { l with acks := l.acks.filter (fun a => a.booking != b) }) (count LNK_CNT_ACKW_TXFAIL 1 s)
  else modLnk (fun l => { l with acks := l.acks.map (fun a => if a.booking = b then { a with released := true } else a) }) s

/-- The acknowledgement of a withheld frame is cancelled (R202). -/
def withholdAck (b : Nat) (s : State) : State :=
  match s.lnk.acks.find? (fun a => a.booking == b) with
  | some a =>
    let s := onlyIf (!a.failed) (cancel b) s
    modLnk (fun l => { l with acks := l.acks.filter (fun x => x.booking != b) }) s
  | none => s

/-- What Sheaf's input buffer takes (R289, R290): a frame that finds its 8,192 slots occupied is lost. -/
def sheafTakes (f : ShfFrame) (s : State) : State :=
  if 8192 ≤ s.shf.input.length then emit 0x3C2 0 (raise SHF_INT_STAT_LOST (count SHF_CNT_LOST 1 s))
  else { s with shf := { s.shf with input := s.shf.input ++ [f] } }

/-- The Sheaf input of a prefix, a MAC header and a payload. -/
def shfFrameFrom (item header payload : Octets) (isData : Bool) (mseq due : Nat) : ShfFrame :=
  let info := octAt item 8
  { sfdts := leAt item 0 8, lock := bitAt info 0, mode := info / 2 % 8, pan := info / 16, ch := octAt item 9,
    rssi := octAt item 10, lqi := octAt item 11, node := leAt item 12 3, dec := octAt item 15,
    secured := bitAt (octAt item 18) 0, isData := isData, header := header, payload := payload, mseq := mseq, due := due }

/-- The Sheaf input that a FRAME item describes: the item does not carry the MAC header, whose octets and frame type are open.
DEDUCED, unsafe: log 84. -/
def shfFrameOf (item : Octets) (mseq due : Nat) : ShfFrame :=
  let payload := item.drop 24
  let header := (List.range (leAt item 16 2 - payload.length)).map (Config.frameHeader item)
  shfFrameFrom item header payload (Config.frameIsData item) mseq due

/-- The Sheaf input of a frame that this device releases (R289). -/
def sheafInput (f : RxFrame) (pan i : Nat) (secured : Bool) (plain : Octets) (mseq due : Nat) : ShfFrame :=
  let n := headerLength plain
  let isData := ((parsePlain plain).map (fun m => m.type)).getD tyData == tyData
  shfFrameFrom (sheafItem f pan i secured plain) (plain.take n) (plain.drop n) isData mseq due

/-- TS64 of the mirror cut-off of a frame whose last chip came at a TS64 (R24). -/
def cutOffTs (lastChip : Nat) : Nat := lastChip + 57600

/-- RELEASE (R367). -/
def releaseRecord (mseq : Option Nat) : Octets := record 0x03 [(16, le 4 (mseq.getD 0))]

/-- WITHHOLD (R367). -/
def withholdRecord (d : Decided) (ctr seq : Nat) : Octets :=
  record 0x02 [(2, le 3 (indexOr d.node)), (8, le 4 ctr), (12, le 1 seq), (16, le 4 (d.mseq.getD 0))]

/-- Release a decided frame as a whole (R197, R276). Until a planned handover ends, the frames of the new primary stand apart
from those that the old one's records name (R375). -/
def releaseFrame (d : Decided) (s : State) : State :=
  let f := d.frame
  let pan := d.pan.getD 0
  let m := s.stl.mseq % 2 ^ 32 + (if s.takesOver then 2 ^ 32 else 0)
  let s := onlyIf d.mseq.isSome (mirror (releaseRecord d.mseq)) s
  let s := match d.ack with
    | some b => releaseAck b s
    | none => s
  let s := match d.node with
    | some i =>
      if d.code = decAccept ∨ d.code = decPoll ∨ d.code = decNofunc ∨ d.code = decDup then
        let s := onlyIf (f.keepsSig (s.get CTX_CFG_SIGSNR)) (count CTX_CNT_SIGUPD 1) s
        updateNode i (releaseUpdate d.code d.secured f (s.get CTX_CFG_LQISH) (s.get CTX_CFG_SIGSNR)) s
      else s
    | none => s
  let s := match d.queue with
    | some q => pushFrame q (frameRecordOf f pan d.node d.code false f.mpdu) s
    | none => s
  match d.node with
  | some i =>
    if d.code = decAccept then sheafTakes (sheafInput f pan i d.secured d.plain m (cutOffTs d.lastTs)) s else s
  | none => s

/-- Withhold one decided frame with the values its node's record goes back to (R197): the journal gets a void record unless it
refused the counter. DEDUCED, unsafe: log 57. -/
def withholdFrame (byJournal : Bool) (ctr seq : Nat) (noCtr : Bool) (d : Decided) (s : State) : State :=
  let s := if byJournal then raise LNK_INT_STAT_REL_JRNL (count LNK_CNT_REL_JRNL 1 s)
    else raise LNK_INT_STAT_REL_MIRROR (count LNK_CNT_REL_MIRROR 1 s)
  let s := emit 0x2C2 0 s
  let s := match d.ack with
    | some b => withholdAck b s
    | none => s
  let s := match d.node, d.ticket with
    | some i, some t =>
      if s.jnlRefused t then s
      else
        let voided := match parseMhr d.frame.mpdu with
          | some m => if m.secured then m.counter else d.oldCtr
          | none => d.oldCtr
        jnlOffer recVoid (payVoid i voided ctr seq (!noCtr)) s
    | _, _ => s
  onlyIf d.mseq.isSome (mirror (withholdRecord d ctr seq)) s

/-- Withhold a frame and every later decision of its node that has not reached its cut-off (R197). -/
def withholdAll (byJournal : Bool) (d : Decided) (s : State) : State :=
  let later := s.lnk.decided.filter (fun e => d.node.isSome && e.node == d.node && decide (d.id < e.id))
  let s := withholdFrame byJournal d.oldCtr d.oldSeq d.oldNoCtr d s
  let s := forEach later (withholdFrame byJournal d.oldCtr d.oldSeq d.oldNoCtr) s
  let s := modLnk (fun l => { l with decided := l.decided.filter (fun e => !(later.any (fun x => x.id == e.id))) }) s
  match d.node with
  | some i =>
    if d.advanced || later.any (fun e => e.advanced) then
      updateNode i (fun os => nrSetFlag fNoctr d.oldNoCtr (nrSet nrLastseq d.oldSeq (nrSet nrInctr d.oldCtr os))) s
    else s
  | none => s

/-- The decided frame whose cut-off comes first: by last chip, then lane. -/
def State.nextCutOff (s : State) : Option Decided :=
  s.lnk.decided.foldl (fun best d =>
    match best with
    | some b => if (d : Decided).frame.lastChip < b.frame.lastChip
        ∨ (d.frame.lastChip = b.frame.lastChip ∧ d.frame.lane < b.frame.lane) then some d else some b
    | none => some d) none

/-- The journal condition of R24 (R196). -/
def State.journalHolds (s : State) (d : Decided) : Bool :=
  match d.ticket with
  | some t => s.jnlDurable t
  | none => true

/-- The mirror condition of R24 (R369). -/
def State.mirrorHolds (s : State) (d : Decided) : Bool :=
  !s.gated || (s.ackedM d.mseq && (d.mseq.isNone || s.ackedX d.xseq))

/-- The conditions of R24 apply (R196): the decision releases an acknowledgement or a delivery, or has journalled a counter. -/
def Decided.gated (d : Decided) : Bool := d.ack.isSome || d.queue.isSome || d.code == decAccept || d.ticket.isSome

/-- The mirror condition has failed (R197): after a durable counter record the node's later frames go too; a decision that wrote
none is withheld alone. -/
def withholdMirror (d : Decided) (s : State) : State :=
  if d.ticket.isSome then withholdAll false d s else withholdFrame false d.oldCtr d.oldSeq d.oldNoCtr d s

/-- A node's context stays pinned beyond the cut-off of `d` until the journal writes of its decisions, and those that the cut-off
put to the journal, have ended (R273): `s` is the state before the cut-off. -/
def keepPinned (d : Decided) (s t : State) : State :=
  match d.node with
  | none => t
  | some i =>
    let own := d.ticket.toList ++ (s.lnk.decided.filter (fun e => e.node == some i)).filterMap (fun e => e.ticket)
    let written := (List.range (t.jnl.nextTicket - s.jnl.nextTicket)).map (fun k => s.jnl.nextTicket + k)
    forEach (own ++ written) (fun k u => awaitJournal i k none u) t

/-- MIRROR_CUT_OFF (R197): the next decided frame, 180 µs after its last chip, is released or withheld as a whole. -/
def execMirrorCutOff (dt : Nat) (s : State) : Host.Outcome State Fault Refusal :=
  command dt (fun s =>
    match s.nextCutOff with
    | none => s
    | some d =>
      if s.cycles < d.frame.lastChip + cutOff then s
      else
        let s := modLnk (fun l => { l with decided := l.decided.filter (fun e => e.id != d.id) }) s
        let t :=
          if s.journalHolds d = false then withholdAll true d s
          else if d.gated = true ∧ s.mirrorHolds d = false then withholdMirror d s
          else releaseFrame d s
        gaspFollows (keepPinned d s t)) s

/-! ### Gorse requests of the link sequencer (R235 to R238) -/

/-- RX: the frame of a lane, with the node its source resolved to, or, for an acknowledgement, the node of the attempt that
waits for it. -/
def secRx (lane : Nat) (s : State) : State :=
  match s.inbox.find? (fun f => f.lane == lane) with
  | none => s
  | some f =>
    match parseMhr f.mpdu with
    | none => s
    | some m =>
      let waiting := s.lnk.attempts.find? (fun a => match a.phase with
        | .ackWait _ _ => s.get (LNK_PANn_CFG_CH a.pan) == f.ch && a.dsn == m.dsn
        | _ => false)
      let who : Option (Nat × Nat) :=
        if m.type = tyAck then
          match waiting with
          | some a => a.node.map (fun i => (i, a.pan))
          | none => none
        else
          match f.look with
          | .hit i => some (i, f.readPan % 16)
          | _ => none
      match who with
      | some (i, pan) =>
        if m.secured = true ∧ f.verdict = none then
          let r := rxRequest i (if m.type = tyAck then s.keyGens i else f.gens) pan m f.mpdu s
          { r.2 with inbox := r.2.inbox.map (fun g => if g = f then { g with verdict := some r.1 } else g) }
        else s
      | none => s

/-- EACK: the Enh-Ack of a booking is secured with its counter, once it holds a context; without a valid key, or where its slot has
changed, it is not sent (R235 to R238). -/
def secEack (b : Nat) (s : State) : State :=
  match s.lnk.acks.find? (fun a => a.booking == b) with
  | none => s
  | some a =>
    match a.secure with
    | none => s
    | some _ =>
      let held := s.cod.asked.find? (fun r => r.id == b)
      let placed := (s.cod.placed.find? (fun x => x.req.id == b)).map (fun x => x.req)
      let req := match held with
        | some r => some r
        | none => placed
      match req with
      | none => s
      | some r =>
        match parseMhr r.mpdu with
        | none => s
        | some m =>
          let body := r.mpdu.take (r.mpdu.length - micLen m.level)
          match a.slot with
          | none => withholdAck b (nokey s)
          | some (n, gen) =>
            if s.hasContext (.eack b) = false then s
            else if s.genMoved [(n, gen)] n = true then withholdAck b (keyChanged s)
            else if s.keyUsable n = false then withholdAck b (nokey s)
            else
              let os := secureOctets (s.slot n).key (ccmNonce (s.panEui a.pan) m.counter m.level) m.level body []
              let put (x : BookReq) : BookReq := if x.id = b then { x with mpdu := os } else x
              let s := modCod (fun c => { c with
                asked := c.asked.map put,
                placed := c.placed.map (fun x => { x with req := put x.req }) }) s
              modLnk (fun l => { l with acks := l.acks.map (fun x => if x.booking = b then { x with secure := none } else x) }) s

end Sys2Proof.Machine
end

