-- ==== Sys2Proof/Machine/Sheaf.lean ====
section
/-!
DEFINITION. Sheaf (R289 to R315): rules, flows, the coding of fields, records, batches and their closure, and summary
windows.
-/

namespace Sys2Proof.Machine

/-- Change Sheaf's state. -/
def modShf (f : Shf → Shf) (s : State) : State := { s with shf := f s.shf }

/-! ### Rules (R292 to R295) -/

/-- A rule entry of 64 octets. -/
def State.rule (s : State) (n : Nat) : Octets := ((s.shf.rules.find? (fun (e : Nat × Octets) => e.1 == n)).map (fun e => e.2)).getD (zeros 64)

/-- The CTL word. -/
def ruleCtl (r : Octets) : Nat := leAt r 0 4
def ruleValid (r : Octets) : Bool := bitAt (ruleCtl r) 0
def ruleAction (r : Octets) : Nat := ruleCtl r / 2 % 4
def ruleMode (r : Octets) : Nat := ruleCtl r / 8 % 4
def ruleMeta (r : Octets) : Bool := bitAt (ruleCtl r) 5
def ruleClass (r : Octets) : Nat := ruleCtl r / 256 % 16
def ruleRawq (r : Octets) : Nat := ruleCtl r / 4096 % 8
def ruleTlen (r : Octets) : Nat := octAt r 0x18
def ruleFields (r : Octets) : Nat := octAt r 0x19
def ruleAnchor (r : Octets) : Nat := octAt r 0x1A
def ruleGaps (r : Octets) : Nat := octAt r 0x1B
def ruleSumwin (r : Octets) : Nat := leAt r 0x1C 2

/-- A field descriptor, and its parts. -/
def ruleField (r : Octets) (j : Nat) : Nat := leAt r (0x20 + 2 * j) 2
def fieldOff (f : Nat) : Nat := f % 64
def fieldBytes (f : Nat) : Nat := 2 ^ (f / 64 % 4)
def fieldSigned (f : Nat) : Bool := bitAt f 8
def fieldBe (f : Nat) : Bool := bitAt f 9

/-- The error bound ε of a field. -/
def ruleEps (r : Octets) (j : Nat) : Nat := leAt r (0x30 + 2 * j) 2

/-- The modes of a FLOW rule. -/
def modePass : Nat := 0
def modeExact : Nat := 1
def modeBounded : Nat := 2
def modeSummary : Nat := 3

/-- A frame matches a rule (R293). -/
def ruleMatches (r : Octets) (f : ShfFrame) (swflags : Nat) : Bool :=
  let plen := f.payload.length
  ruleValid r && bitAt (leAt r 4 2) f.pan && (if f.isData then bitAt (ruleCtl r) 16 else bitAt (ruleCtl r) 17)
    && decide (leAt r 8 2 % 2 ^ 11 ≤ plen) && decide (plen ≤ leAt r 10 2 % 2 ^ 11)
    && swflags &&& octAt r 0x0D == octAt r 0x0C
    && leAt f.payload (octAt r 0x0E) 4 &&& leAt r 0x14 4 == leAt r 0x10 4

/-- The lowest-numbered rule a frame matches. -/
def State.matchRule (s : State) (f : ShfFrame) (swflags : Nat) : Option Nat :=
  s.shf.rules.foldl (fun (best : Option Nat) (e : Nat × Octets) =>
    if ruleMatches e.2 f swflags then
      match best with
      | some b => some (min b e.1)
      | none => some e.1
    else best) none

/-! ### Field coding (R300 to R304) -/

/-- The value of field j in a payload. -/
def fieldValue (r : Octets) (j : Nat) (payload : Octets) : Int :=
  let f := ruleField r j
  let w := fieldBytes f
  let n := if fieldBe f then beAt payload (fieldOff f) w else leAt payload (fieldOff f) w
  if fieldSigned f then signed (8 * w) n else (n : Int)

/-- The octets no field covers. -/
def restOf (r payload : Octets) : Octets :=
  let covered (i : Nat) : Bool := (List.range (ruleFields r)).any (fun j =>
    let f := ruleField r j
    decide (fieldOff f ≤ i ∧ i < fieldOff f + fieldBytes f))
  ((List.range payload.length).filter (fun i => !covered i)).map (fun i => octet (octAt payload i))

/-- zz of R301. -/
def zigzag (v : Int) : Nat := if 0 ≤ v then 2 * v.toNat else 2 * (-v).toNat - 1

/-- The number of bits of a number. -/
def bitLength (n : Nat) : Nat := if n = 0 then 0 else Nat.log2 n + 1

/-- A number as `n` bits, most significant first. -/
def msbBits (n v : Nat) : List Bool := (natBits n v).reverse

/-- The Rice code of z (R301) for a field of `w` octets with state `st` and value `x`: bits, the new state, and whether it
escaped. -/
def riceCode (w st z : Nat) (x : Int) : List Bool × Nat × Bool :=
  let k := min (bitLength (st / 32)) (8 * w - 1)
  let u := z / 2 ^ k
  let st' := st - st / 16 + min z 0xFFFF
  if 16 ≤ u then (List.replicate 16 true ++ msbBits (8 * w) (twos (8 * w) x), st', true)
  else (List.replicate u true ++ [false] ++ msbBits k z, st', false)

/-- One field's code in EXACT or BOUNDED mode (R302, R303): bits, the new xr and Rice state, and whether it escaped. -/
def codeField (r : Octets) (j : Nat) (x xr : Int) (st : Nat) : List Bool × Int × Nat × Bool :=
  let w := fieldBytes (ruleField r j)
  if ruleMode r = modeExact then
    let d := signed (8 * w) (twos (8 * w) (x - xr))
    let c := riceCode w st (zigzag d) x
    (c.1, x, c.2.1, c.2.2)
  else
    let eps : Int := (ruleEps r j : Nat)
    let q := 2 * eps + 1
    let i := (x - xr + eps).fdiv q
    let c := riceCode w st (zigzag i) x
    (c.1, if c.2.2 then x else xr + i * q, c.2.1, c.2.2)

/-- Bits to octets, most significant bit first, filled up with zeros. -/
def packBits : Nat → List Bool → Octets
  | 0, _ => []
  | n + 1, bits => octet (bitsNat ((bits.take 8 ++ List.replicate (8 - bits.length) false).reverse)) :: packBits n (bits.drop 8)

/-- A varint (R310). -/
def varintGo : Nat → Nat → Octets
  | 0, _ => []
  | n + 1, v => if v < 128 then [octet v] else octet (v % 128 + 128) :: varintGo n (v / 128)

/-- Unsigned LEB128. -/
def varint (v : Nat) : Octets := varintGo 20 v

/-! ### Flows and classes -/

/-- The flow in a slot. -/
def State.flow (s : State) (n : Nat) : Option Flow :=
  (s.shf.flows.find? (fun (e : Nat × Flow) => e.1 == n)).map (fun e => e.2)

/-- Put a flow in a slot. -/
def setFlow (n : Nat) (f : Flow) (s : State) : State :=
  modShf (fun h => { h with flows := (n, f) :: h.flows.filter (fun (e : Nat × Flow) => e.1 != n) }) s

/-- Change the flow in a slot. -/
def modFlow (n : Nat) (f : Flow → Flow) (s : State) : State :=
  match s.flow n with
  | some w => setFlow n (f w) s
  | none => s

/-- A batch class. -/
def State.batchClass (s : State) (c : Nat) : BatchClass :=
  ((s.shf.classes.find? (fun (e : Nat × BatchClass) => e.1 == c)).map (fun e => e.2)).getD BatchClass.fresh

/-- Put a batch class back. -/
def setClass (c : Nat) (b : BatchClass) (s : State) : State :=
  modShf (fun h => { h with classes := (c, b) :: h.classes.filter (fun (e : Nat × BatchClass) => e.1 != c) }) s

/-! ### Batches (R308, R312 to R314) -/

/-- The causes of a closure (R367). -/
def closeSize : Nat := 0
def closeWait : Nat := 1
def closeFlush : Nat := 2
def closeTakeover : Nat := 3

/-- A closed batch: its header and records (R308). -/
def State.closedBatch (s : State) (c : Nat) (b : BatchClass) (flush : Bool) : Octets :=
  let flags := c + 16 * flag flush + 32 * flag b.cur.unlocked + 64 * flag b.resumed
  octet 1 :: (le 1 flags ++ le 1 (s.get SHF_CFG_TSHIFT) ++ zeros 1 ++ le 2 b.cur.nrec ++ le 2 (24 + b.cur.octets.length)
    ++ le 4 b.bseq ++ le 2 (s.get SHF_RTAG_RTAG) ++ zeros 2 ++ le 8 (b.cur.t0.getD 0) ++ b.cur.octets)

/-- Sheaf follows the records of another device: in STANDBY, and until a planned handover ends (R315, R375).
DEDUCED, unsafe: log 89. -/
def State.shadowSheaf (s : State) : Bool := s.mode == .standby || s.takesOver

/-- Write a closed batch to its queue (R335, R343). A standby only moves its shadow ring (R315, R370). -/
def writeBatch (c bseq : Nat) (os : Octets) (s : State) : State :=
  let s := qPush (32 + c) kindBatch bseq (bitAt (octAt os 1) 6) os s
  if s.shadowSheaf then s else emit 0x3C0 0 (count SHF_CNT_BATCH 1 s)

/-- A batch is dropped: every EXACT or BOUNDED flow with a record in it owes an anchor with GAP (R313). -/
def dropBatch (flows : List Nat) (s : State) : State :=
  let s := emit 0x3C1 0 (raise SHF_INT_STAT_BDROP (count SHF_CNT_BDROP 1 s))
  forEach flows (fun n t => modFlow n (fun f =>
    let m := ruleMode (t.rule f.rule)
    if m = modeExact ∨ m = modeBounded then { f with gapOwed := true } else f) t) s

/-- Close a class's open batch (R312): it is mirrored, then written, kept waiting or dropped.
DEDUCED, unsafe: log 85. -/
def closeBatch (c cause : Nat) (s : State) : State :=
  let b := s.batchClass c
  if b.cur.nrec = 0 then s
  else
    let flush := cause == closeFlush
    let os := s.closedBatch c b flush
    let s := mirror (record 0x0A [(1, le 1 c), (2, le 1 cause), (8, le 4 b.bseq), (16, le 4 s.shf.lastRelease)]) s
    let next := (b.bseq + 1) % 2 ^ 32
    let b' : BatchClass := { b with cur := Batch.empty, bseq := next, resumed := false }
    if b.waiting.isSome then dropBatch b.cur.flows (setClass c b' s)
    else if s.qFull (32 + c) then setClass c { b' with waiting := some (os, b.bseq, flush) } s
    else writeBatch c b.bseq os (setClass c b' s)

/-- Write a class's waiting batch where its queue has room (R313). -/
def writeWaiting (c : Nat) (s : State) : State :=
  let b := s.batchClass c
  match b.waiting with
  | some w => if s.qFull (32 + c) then s else writeBatch c w.2.1 w.1 (setClass c { b with waiting := none } s)
  | none => s

/-! ### Records (R309 to R311) -/

def recPass : Nat := 0
def recAnchor : Nat := 1
def recDelta : Nat := 2
def recSummary : Nat := 3
def recBind : Nat := 4

/-- A record to be appended: type, LOCK, GAP, META's octets, T' and body. -/
structure ShfRec where
  type : Nat
  lock : Bool
  gap : Bool
  meta_ : Option (Nat × Nat)
  t : Nat
  body : Octets
  deriving DecidableEq, Repr

/-- The octets of a record of a flow, with TD against the previous T'. -/
def recordOctets (slot seq : Nat) (r : ShfRec) (tprev : Nat) : Octets :=
  let meta_ := match r.meta_ with
    | some m => le 1 m.1 ++ le 1 m.2
    | none => []
  le 2 slot ++ le 1 (r.type + 8 * flag r.lock + 16 * flag r.gap + 32 * flag r.meta_.isSome + 64 * seq)
    ++ varint (zigzag ((r.t : Int) - (tprev : Int))) ++ meta_ ++ r.body

/-- The BIND record of a flow. -/
def State.bindOctets (s : State) (slot : Nat) (f : Flow) : Octets :=
  let os := s.nodeRec f.node
  le 2 slot ++ le 1 recBind ++ le 8 (nr os nrEui) ++ le 3 f.node ++ le 1 (nr os nrPan) ++ le 2 f.rule

/-- A BIND goes before a record (R311). -/
def State.bindsBefore (s : State) (f : Flow) (type : Nat) : Bool :=
  let r := s.rule f.rule
  let n := ruleAnchor r
  type == recAnchor
    || (match f.sinceBind with
        | none => true
        | some k => (ruleMode r == modePass || ruleMode r == modeSummary) && n != 0 && decide (n ≤ k))

/-- The octets a record would add to an empty batch. -/
def State.recordSize (s : State) (slot : Nat) (f : Flow) (r : ShfRec) : Nat :=
  (if s.bindsBefore f r.type then (s.bindOctets slot f).length else 0) + (recordOctets slot f.seq r r.t).length

/-- Append a record to the open batch of its flow's class, with its BIND, closing the batch first where it would pass MAXLEN
(R312). -/
def appendRecord (slot : Nat) (r : ShfRec) (s : State) : State :=
  match s.flow slot with
  | none => s
  | some f =>
    let c := ruleClass (s.rule f.rule)
    let binds := s.bindsBefore f r.type
    let bind := if binds then s.bindOctets slot f else []
    let octets (b : Batch) : Octets := bind ++ recordOctets slot f.seq r (if b.t0.isSome then b.tprev else r.t)
    let cur := (s.batchClass c).cur
    let s := if s.get SHF_CFG_MAXLEN < 24 + cur.octets.length + (octets cur).length then closeBatch c closeSize s else s
    let b := s.batchClass c
    let cur := b.cur
    let empty := cur.nrec == 0
    let os := cur.octets ++ octets cur
    let cur' : Batch :=
      { octets := os, nrec := cur.nrec + 1 + flag binds,
        firstAt := if empty then s.ts else cur.firstAt, wait := if empty then s.get (SHF_CLSn_WAIT c) else cur.wait,
        t0 := some (cur.t0.getD r.t), tprev := r.t, unlocked := cur.unlocked || !r.lock,
        flows := if cur.flows.elem slot then cur.flows else cur.flows ++ [slot] }
    let s := setClass c { b with cur := cur' } s
    let since := if binds then 1 else f.sinceBind.getD 0 + 1
    modFlow slot (fun f => { f with seq := (f.seq + 1) % 4, sinceBind := some since }) s

/-- T' of a time (R310). -/
def State.tShift (s : State) (t : Nat) : Nat := t / 2 ^ s.get SHF_CFG_TSHIFT

/-! ### Summary windows (R305) -/

/-- Ticks in a second. -/
def ticksPerSecond : Nat := 320000000

/-- The end of a window in TS64. -/
def winEnd (r : Octets) (j : Nat) : Nat := (j + 1) * (ruleSumwin r * ticksPerSecond)

/-- The summary record of a window. -/
def State.summaryRecord (s : State) (r : Octets) (w : ShfWin) : ShfRec :=
  let t1 := s.tShift w.first
  let fields := (List.range (ruleFields r)).flatMap (fun j =>
    let n := fieldBytes (ruleField r j)
    le n (twos (8 * n) ((w.mins[j]?).getD 0)) ++ le n (twos (8 * n) ((w.maxs[j]?).getD 0)) ++ le 8 (twos 64 ((w.sums[j]?).getD 0)))
  { type := recSummary, lock := w.lock, gap := false, meta_ := none, t := t1,
    body := le 2 w.count ++ varint (s.tShift w.last - t1) ++ fields }

/-- Append the record of a window of a flow, and forget the window. -/
def appendWindow (slot j : Nat) (s : State) : State :=
  match s.flow slot with
  | none => s
  | some f =>
    match f.wins.find? (fun w => w.j == j) with
    | some w =>
      let s := modFlow slot (fun f => { f with wins := f.wins.filter (fun x => x.j != j) }) s
      appendRecord slot (s.summaryRecord (s.rule f.rule) w) (count SHF_CNT_SUMMARY 1 s)
    | none => s

/-- The pending windows of a flow, earliest first. -/
def Flow.pending (f : Flow) : List Nat := sortBy (fun a b => decide (a < b)) (f.wins.map (fun w => w.j))

/-- Closing a flow appends its pending summary records (R297). -/
def closeFlow (slot : Nat) (s : State) : State :=
  match s.flow slot with
  | some f => forEach f.pending (appendWindow slot) s
  | none => s

/-- The window a sample counts in: its own while that is open, else the earliest not yet appended, else the window of now. Now is
TS64; a standby, which does not know when its primary took the frame, takes the frame's mirror cut-off and the windows
emitted last (R315). DEDUCED, unsafe: log 181. -/
def State.windowOf (s : State) (r : Octets) (f : Flow) (sfdts due : Nat) : Nat :=
  let w := ruleSumwin r * ticksPerSecond
  let j := sfdts / w
  let ends := winEnd r j
  let now := if s.shadowSheaf then max due (s.shf.lastWindow + ticksPerSecond / 5) else s.ts
  if f.wins.any (fun x => x.j == j) || decide (now < ends + ticksPerSecond / 5 ∧ s.shf.lastWindow < ends) then j
  else (f.pending.head?).getD (now / w)

/-- A sample joins a window. DEDUCED, unsafe: log 88. -/
def joinWindow (w : Option ShfWin) (j sfdts : Nat) (lock : Bool) (xs : List Int) : ShfWin :=
  match w with
  | some w =>
    { j := j, count := w.count + 1, first := min w.first sfdts, last := max w.last sfdts, lock := w.lock && lock,
      mins := List.zipWith min w.mins xs, maxs := List.zipWith max w.maxs xs, sums := List.zipWith (· + ·) w.sums xs }
  | none => { j := j, count := 1, first := sfdts, last := sfdts, lock := lock, mins := xs, maxs := xs, sums := xs }

/-- A SUMMARY sample; 65,535 samples append the record at once. -/
def summarySample (slot : Nat) (f : ShfFrame) (s : State) : State :=
  match s.flow slot with
  | none => s
  | some w =>
    let r := s.rule w.rule
    let xs := (List.range (ruleFields r)).map (fun j => fieldValue r j f.payload)
    let j := s.windowOf r w f.sfdts f.due
    let x := joinWindow (w.wins.find? (fun x => x.j == j)) j f.sfdts f.lock xs
    let s := setFlow slot { w with wins := x :: w.wins.filter (fun y => y.j != j), lastTs := f.sfdts } s
    if 65535 ≤ x.count then appendWindow slot j s else s

/-! ### Frames (R297 to R306) -/

/-- A flow newly bound to a node and rule. -/
def Flow.bound (node rule fields sfdts used : Nat) : Flow :=
  { node := node, rule := rule, seq := 0, xr := List.replicate fields 0, rice := List.replicate fields 0, rest := [],
    deltas := none, lastTs := sfdts, gapOwed := false, sinceBind := none, wins := [], used := used }

/-- A flow is used. -/
def useFlow (slot : Nat) (s : State) : State :=
  let s := modShf (fun h => { h with uses := h.uses + 1 }) s
  modFlow slot (fun f => { f with used := s.shf.uses }) s

/-- The flow to evict (R298): the least recently used whose last sample is older than MINIDLE.
DEDUCED, unsafe: log 86. -/
def State.flowVictim (s : State) (sfdts : Nat) : Option (Nat × Flow) :=
  let old := s.shf.flows.filter (fun (e : Nat × Flow) =>
    decide (e.2.lastTs + s.get SHF_FLOWCFG_MINIDLE * ticksPerSecond < sfdts))
  old.foldl (fun (best : Option (Nat × Flow)) (e : Nat × Flow) =>
    match best with
    | some b => if e.2.used < b.2.used then some e else some b
    | none => some e) none

/-- Set or clear NR.FLOW; `lost` says that the read of the record in DRAM meets an uncorrectable error (R277, R297). -/
def writeFlow (node : Nat) (v : Nat) (lost : Bool) (s : State) : State := updateNodeIf lost node (nrSet nrFlow v) s

/-- A slot for a new flow (R298): the lowest free one, or one that an eviction frees. -/
def allocFlow (sfdts : Nat) (lost : Bool) (s : State) : Option Nat × State :=
  let taken := s.shf.flows.map (fun (e : Nat × Flow) => e.1)
  match (List.range (s.get SHF_FLOWCFG_FLOWS)).find? (fun n => !taken.elem n) with
  | some n => (some n, s)
  | none =>
    match s.flowVictim sfdts with
    | some (n, f) =>
      let s := closeFlow n s
      let s := modShf (fun h => { h with flows := h.flows.filter (fun (e : Nat × Flow) => e.1 != n) }) s
      let s := updateNodeIf lost f.node (fun os => nrSet nrFlow (nr os nrFlow % 2 ^ 31) os) s
      (some n, raise SHF_INT_STAT_EVICT (count SHF_CNT_EVICT 1 s))
    | none => (none, s)

/-- A slot is bound anew: the records that its earlier flow has in the open batches are no longer of the slot's flow (R297, R299). -/
def forgetRecords (n : Nat) (s : State) : State :=
  modShf (fun h => { h with classes := h.classes.map (fun (e : Nat × BatchClass) =>
    (e.1, { e.2 with cur := { e.2.cur with flows := e.2.cur.flows.filter (· != n) } })) }) s

/-- The flow slot a frame of a FLOW rule uses (R297); none where there is none to be had. `lost` tells of an uncorrectable error
in the record of the frame's node, and in that of a node whose flow is evicted (R277). -/
def findFlow (f : ShfFrame) (rule : Nat) (lost : Bool × Bool) (s : State) : Option Nat × State :=
  let w := nr (s.nodeRec f.node) nrFlow
  let fields := ruleFields (s.rule rule)
  let bind (n : Nat) (t : State) : State :=
    setFlow n (Flow.bound f.node rule fields f.sfdts t.shf.uses) (forgetRecords n t)
  let slot := w % 65536
  let named := if bitAt w 31 then (s.flow slot).filter (fun (x : Flow) => x.node == f.node) else none
  match named with
  | some x => if x.rule = rule then (some slot, s) else (some slot, bind slot (closeFlow slot s))
  | none =>
    match allocFlow f.sfdts lost.2 s with
    | (some n, s) => (some n, writeFlow f.node (n + 2 ^ 31) lost.1 (bind n s))
    | (none, s) => (none, s)

/-- RSSI and LQI where the rule asks for META. -/
def metaOf (r : Octets) (f : ShfFrame) : Option (Nat × Nat) := if ruleMeta r then some (f.rssi, f.lqi) else none

/-- Append a PASS record, or send the frame raw where it cannot fit an empty batch (R306). -/
def passRecord (slot : Nat) (shape : Bool) (f : ShfFrame) (s : State) : Option Nat × State :=
  match s.flow slot with
  | none => (none, s)
  | some w =>
    let r := s.rule w.rule
    let rec_ : ShfRec := { type := recPass, lock := f.lock, gap := false, meta_ := metaOf r f, t := s.tShift f.sfdts,
                           body := varint f.payload.length ++ f.payload }
    if s.get SHF_CFG_MAXLEN < 24 + s.recordSize slot w rec_ then
      (some (ruleRawq r), raise SHF_INT_STAT_BIG (count SHF_CNT_BIG 1 s))
    else
      let s := onlyIf shape (fun s => raise SHF_INT_STAT_SHAPE (count SHF_CNT_SHAPE 1 s)) s
      (none, appendRecord slot rec_ s)

/-- A sample must be an anchor (R299): whether, and whether with GAP. -/
def Flow.anchors (w : Flow) (r : Octets) (sfdts : Nat) : Bool × Bool :=
  match w.deltas with
  | none => (true, w.gapOwed)
  | some d =>
    let gap := w.gapOwed || (ruleGaps r != 0 && decide (w.lastTs + ruleGaps r * ticksPerSecond ≤ sfdts))
    (gap || decide (ruleAnchor r ≤ d + 1), gap)

/-- A sample of an EXACT or BOUNDED flow (R299 to R304). DEDUCED, unsafe: log 87. -/
def codedSample (slot : Nat) (f : ShfFrame) (s : State) : State :=
  match s.flow slot with
  | none => s
  | some w =>
    let r := s.rule w.rule
    let n := ruleFields r
    let xs := (List.range n).map (fun j => fieldValue r j f.payload)
    let rest := restOf r f.payload
    let a := w.anchors r f.sfdts
    let rec_ (type : Nat) (gap : Bool) (body : Octets) : ShfRec :=
      { type := type, lock := f.lock, gap := gap, meta_ := metaOf r f, t := s.tShift f.sfdts, body := body }
    if a.1 then
      let s := setFlow slot { w with xr := xs, rice := List.replicate n 0, rest := rest, deltas := some 0, lastTs := f.sfdts,
                                     gapOwed := false } s
      appendRecord slot (rec_ recAnchor a.2 f.payload) (count SHF_CNT_ANCHOR 1 s)
    else
      let codes := (List.range n).map (fun j =>
        codeField r j ((xs[j]?).getD 0) ((w.xr[j]?).getD 0) ((w.rice[j]?).getD 0))
      let same := rest == w.rest
      let bits := [same] ++ codes.flatMap (fun (c : List Bool × Int × Nat × Bool) => c.1)
      let body := packBits ((bits.length + 7) / 8) bits ++ (if same then [] else rest)
      let escapes := (codes.filter (fun (c : List Bool × Int × Nat × Bool) => c.2.2.2)).length
      let s := setFlow slot { w with
        xr := codes.map (fun (c : List Bool × Int × Nat × Bool) => c.2.1),
        rice := codes.map (fun (c : List Bool × Int × Nat × Bool) => c.2.2.1),
        rest := rest, deltas := w.deltas.map (· + 1), lastTs := f.sfdts } s
      appendRecord slot (rec_ recDelta false body) (count SHF_CNT_DELTA 1 (count SHF_CNT_ESCAPE escapes s))

/-- A frame of a FLOW rule: the raw queue it goes to, or none where its flow took it. -/
def flowFrame (f : ShfFrame) (rule : Nat) (lost : Bool × Bool) (s : State) : Option Nat × State :=
  let r := s.rule rule
  match findFlow f rule lost s with
  | (none, s) => (some (ruleRawq r), emit 0x3C3 0 (raise SHF_INT_STAT_NOFLOW (count SHF_CNT_NOFLOW 1 s)))
  | (some slot, s) =>
    let s := useFlow slot s
    if ruleMode r = modePass then
      passRecord slot false f (modFlow slot (fun w => { w with lastTs := f.sfdts }) s)
    else if f.payload.length ≠ ruleTlen r then passRecord slot true f s
    else if ruleMode r = modeSummary then (none, summarySample slot f s)
    else (none, codedSample slot f s)

/-- What becomes of a frame (R293, R294, R297): the raw queue it goes to, if any. `err` is an uncorrectable error in the read
of its node record. -/
def routeFrame (f : ShfFrame) (err : Bool) (lost : Bool × Bool) (s : State) : Option Nat × State :=
  let default := s.get SHF_CFG_DEFRAWQ
  if err then
    (some default, contextError (emit 0x3C3 0 (raise SHF_INT_STAT_NOFLOW (count SHF_CNT_NOFLOW 1 s))))
  else
    match s.matchRule f (nr (s.nodeRec f.node) nrFlags / 2 ^ 24) with
    | none => (some default, raise SHF_INT_STAT_NOMATCH (count SHF_CNT_NOMATCH 1 s))
    | some n =>
      let r := s.rule n
      match ruleAction r with
      | 0 => (some (ruleRawq r), s)
      | 1 => flowFrame f n lost s
      | _ => (none, count SHF_CNT_DISCARD 1 s)

/-- Write a frame record to a raw queue, which has room (R336, R343). DEDUCED, unsafe: log 90. -/
def writeRaw (f : ShfFrame) (q : Nat) (s : State) : State :=
  let seq := s.get (UPL_Qn_SEQ_SEQ q)
  let rec_ := frameRecord f.sfdts f.lock f.mode f.pan f.ch f.rssi f.lqi f.node f.dec f.secured (f.header ++ f.payload)
  let s := qPush q kindFrame seq (!s.upl.resumed.elem q) (rec_.take 2048) s
  let s := { s with upl := { s.upl with resumed := if s.upl.resumed.elem q then s.upl.resumed else q :: s.upl.resumed } }
  let s := s.set (UPL_Qn_SEQ_SEQ q) (seq + 1)
  if s.shadowSheaf then s else count SHF_CNT_RAW 1 s

/-- The head of the input buffer is done with. -/
def frameDone (f : ShfFrame) (s : State) : State :=
  modShf (fun h => { h with input := h.input.drop 1, lastRelease := f.mseq, rawWait := none }) s

/-- Take the head of the input buffer, unless it already waits for room. -/
def processFrame (err : Bool) (lost : Bool × Bool) (s : State) : State :=
  match s.shf.input.head?, s.shf.rawWait with
  | some f, none =>
    let (raw, s) := routeFrame f err lost (count SHF_CNT_IN 1 s)
    match raw with
    | none => frameDone f s
    | some q =>
      if s.qFull (48 + q) then modShf (fun h => { h with rawWait := some (48 + q) }) s
      else frameDone f (writeRaw f (48 + q) s)
  | _, _ => s

/-- The waiting head goes to its queue where that has room (R290). -/
def writeWaitingRaw (s : State) : State :=
  match s.shf.rawWait, s.shf.input.head? with
  | some q, some f => if s.qFull q then s else frameDone f (writeRaw f q s)
  | _, _ => s

/-- LOAD zeroes the flow table (R297). -/
def zeroFlows (s : State) : State :=
  zeroDram (s.get SHF_FLOWBASE_ADDR * 2 ^ 24) 0x1000000 (modShf (fun h => { h with flows := [] }) s)

/-! ### The commands -/

/-- SHEAF_PROCESS (R290, R297): the next released frame. `err` is an uncorrectable error in the read of NR.FLOW and SWFLAGS,
`lost` one in the record of the node whose NR.FLOW is written, and of the node whose flow is evicted (R277). In STANDBY the frames
are taken where the mirrored records place them (R315). -/
def execSheafProcess (dt : Nat) (err : Bool) (lost : Bool × Bool) (s : State) : Host.Outcome State Fault Refusal :=
  command dt (fun s => if s.shadowSheaf then s else processFrame err lost s) s

/-- RAW_QUEUE_ROOM (R290). -/
def execRawQueueRoom (dt : Nat) (s : State) : Host.Outcome State Fault Refusal := command dt writeWaitingRaw s

/-- BATCH_AGE_CLOSE (R312): TS64 reaches the first append plus WAIT. -/
def execBatchAgeClose (dt cls : Nat) (s : State) : Host.Outcome State Fault Refusal :=
  command dt (fun s =>
    let b := (s.batchClass cls).cur
    let due := decide (b.firstAt + b.wait * 320000 ≤ s.ts)
    if s.shadowSheaf = true ∨ 16 ≤ cls ∨ due = false then s else closeBatch cls closeWait s) s

/-- The record of a node cannot be read: it is held in no hot context, and DRAM does not answer (R277). -/
def State.recordDead (s : State) (i : Nat) : Bool :=
  (s.hotOf i).isNone && (s.wbOf i).isNone && (s.memGet (s.nodeAddr i) 256).isNone

/-- The head of the input buffer goes where it goes, with the errors that its node's record meets. -/
def takeHead (s : State) : State :=
  let dead := match s.shf.input.head? with
    | some f => s.recordDead f.node
    | none => false
  writeWaitingRaw (processFrame dead (dead, false) s)

/-- Every frame in the input buffer is taken. -/
def drainAll : Nat → State → State
  | 0, s => s
  | n + 1, s => if s.shf.input.isEmpty || s.shf.rawWait.isSome then s else drainAll n (takeHead s)

/-- The windows that end at an instant: flow slot and number, in ascending order of slot. -/
def State.windowsAt (s : State) (t : Nat) : List (Nat × Nat) :=
  let all := s.shf.flows.flatMap (fun (e : Nat × Flow) =>
    (e.2.wins.filter (fun w => winEnd (s.rule e.2.rule) w.j == t)).map (fun w => (e.1, w.j)))
  sortBy (fun (a b : Nat × Nat) => decide (a.1 < b.1)) all

/-- The earliest end of a window that holds samples. -/
def State.nextWindow (s : State) : Option Nat :=
  (s.shf.flows.flatMap (fun (e : Nat × Flow) => e.2.wins.map (fun w => winEnd (s.rule e.2.rule) w.j))).min?

/-- The emission of the windows that end at an instant (R305). -/
def emitWindows (t : Nat) (s : State) : State :=
  let s := mirror (record 0x0B [(8, le 8 t), (16, le 4 s.shf.lastRelease)]) (modShf (fun h => { h with lastWindow := t }) s)
  emit 0x3C4 0 (forEach (s.windowsAt t) (fun (e : Nat × Nat) u => appendWindow e.1 e.2 u) s)

/-- The next emission is due: TS64 has passed the end of its windows plus 0.2 s (R305). -/
def State.windowDue (s : State) : Option Nat :=
  s.nextWindow.filter (fun t => !s.shadowSheaf && decide (t + ticksPerSecond / 5 ≤ s.ts))

/-- Every emission that is due takes place, earliest first. -/
def emitDue : Nat → State → State
  | 0, s => s
  | n + 1, s =>
    match s.windowDue with
    | some t => emitDue n (emitWindows t s)
    | none => s

/-- The windows that hold samples. -/
def State.windowCount (s : State) : Nat := (s.shf.flows.map (fun (e : Nat × Flow) => e.2.wins.length)).sum

/-- A flush (R312): every open batch that is not empty is closed with FLUSH set. The frames already in the input buffer, and then the
windows whose emission is due, are appended first. DESIGN CHOICE, unsafe: log 182. -/
def sheafFlush (s : State) : State :=
  let s := s.set SHF_CTRL_FLUSH 1
  if s.shadowSheaf then s
  else
    let s := drainAll s.shf.input.length s
    forEach (List.range 16) (fun c t => closeBatch c closeFlush t) (emitDue s.windowCount s)

/-- The effect of a write of `SHF_CTRL`. -/
def shfCtrlWrite (w : Word) (s : State) : State := if wrote w SHF_CTRL_FLUSH then sheafFlush (startTask 0x3C0 s) else s

/-- FLUSH (R312): a write of `SHF_CTRL`, or the task. -/
def execFlush (dt : Nat) (trigger : WordTrigger) (s : State) : Host.Outcome State Fault Refusal :=
  command dt (fun s =>
    match trigger with
    | .write acc w => writeRow acc 0x200F0000 w (shfCtrlWrite w) s
    | .task => if s.taskQueued 0x3C0 then sheafFlush (takeTask 0x3C0 s) else s) s

/-- A batch that the flush closed still waits for its queue. -/
def State.flushWaits (s : State) : Bool :=
  s.shf.classes.any (fun (e : Nat × BatchClass) =>
    match e.2.waiting with
    | some w => w.2.2
    | none => false)

/-- FLUSH_DONE (R312): every batch the flush closed has been written or dropped. -/
def execFlushDone (dt : Nat) (s : State) : Host.Outcome State Fault Refusal :=
  command dt (fun s =>
    if s.is SHF_CTRL_FLUSH && !s.flushWaits then
      let h := s.taskHop 0x3C0
      emit 0x3C5 h (raise SHF_INT_STAT_FLUSHDONE (endTask 0x3C0 (s.set SHF_CTRL_FLUSH 0)))
    else s) s

/-- WINDOW (R305): TS64 passes a window's end plus 0.2 s. -/
def execWindow (dt : Nat) (s : State) : Host.Outcome State Fault Refusal :=
  command dt (fun s =>
    match s.windowDue with
    | some t => emitWindows t s
    | none => s) s

/-- WAITING_BATCH_WRITE (R313). -/
def execWaitingBatchWrite (dt cls : Nat) (s : State) : Host.Outcome State Fault Refusal :=
  command dt (fun s => if cls < 16 then writeWaiting cls s else s) s

/-! ### The standby's Sheaf (R315, R370) -/

/-- Take the frames whose RELEASE is at or before a MSEQ. -/
def drainSheaf : Nat → Nat → State → State
  | 0, _, s => s
  | n + 1, m, s =>
    match s.shf.input.head? with
    | some f =>
      if f.mseq < 2 ^ 32 ∧ 0 ≤ diff32 m f.mseq then
        let s := takeHead s
        if s.shf.rawWait.isSome then s else drainSheaf n m s
      else s
    | none => s

/-- A SHFCLOSE record: the frames before it, then the closure of the batch with its BSEQ. A batch that the records of a window
emission have already closed for its size, as they did in the primary, is not closed again. -/
def shadowClose (c cause bseq m : Nat) (s : State) : State :=
  let s := drainSheaf s.shf.input.length m s
  if 0 < diff32 (s.batchClass c).bseq bseq then s
  else closeBatch c cause (writeWaiting c (setClass c { s.batchClass c with bseq := bseq } s))

/-- A SHFWIN record. -/
def shadowWindows (t m : Nat) (s : State) : State := emitWindows t (drainSheaf s.shf.input.length m s)

/-- Close every open batch for a takeover or handover, in ascending class order (R375, R376). -/
def closeForTakeover (s : State) : State :=
  forEach (List.range 16) (fun c t => closeBatch c closeTakeover t) (drainAll s.shf.input.length s)

end Sys2Proof.Machine
end

