-- ==== Sys2Proof/Machine/Backup.lean ====
section
/-!
DEFINITION. The backup domain (R537 to R544): its supply switch and power-on reset, the calendar, and the sets of it.
-/

namespace Sys2Proof.Machine

/-- Change the backup domain. -/
def modBkp (f : Bkp → Bkp) (s : State) : State := { s with bkp := f s.bkp }

/-! ### Flags (R537, R543) -/

/-- The bits of `BKP_INT_STAT`. -/
def bkpSecond : Nat := 0
def bkpVbatOn : Nat := 1
def bkpVbatOff : Nat := 2
def bkpOsf : Nat := 3
def bkpCleared : Nat := 4
def bkpInvalid : Nat := 5
def bkpWrapped : Nat := 6

/-- Raise a flag while AON is on, with its event: RTC_SECOND, VBAT_ON, VBAT_OFF and OSF have one. -/
def bkpRaise (k : Nat) (s : State) : State :=
  onlyIf (decide (k < 4)) (emit (0x080 + k) 0) (raise ⟨0x2002001C, k, 1⟩ s)

/-- A flag is set: raised at once, or owed until AON returns. -/
def bkpFlag (k : Nat) (s : State) : State :=
  if s.lpw.powerGood then bkpRaise k s
  else if bitAt s.bkp.owed k then s else modBkp (fun b => { b with owed := b.owed + 2 ^ k }) s

/-- AON has returned: what was owed is raised, lowest flag first. -/
def bkpReturn (s : State) : State :=
  let owed := s.bkp.owed
  modBkp (fun b => { b with owed := 0 }) (forEach ((List.range 7).filter (bitAt owed)) bkpRaise s)

/-! ### The calendar (R539) -/

/-- A leap year of the Gregorian calendar, by YEAR = year − 2000. -/
def leapYear (y : Nat) : Bool := y % 4 == 0 && y != 100 && y != 200 && y != 300

/-- The days of a month. -/
def monthDays (y m : Nat) : Nat :=
  if m = 2 then (if leapYear y then 29 else 28)
  else if m = 4 ∨ m = 6 ∨ m = 9 ∨ m = 11 then 30 else 31

/-- The days from 2000-01-01 to the start of a year. -/
def yearStart (y : Nat) : Nat := ((List.range y).map (fun k => if leapYear k then 366 else 365)).sum

/-- The days from 2000-01-01 to a date. -/
def dayNumber (y m d : Nat) : Nat := yearStart y + ((List.range (m - 1)).map (fun k => monthDays y (k + 1))).sum + (d - 1)

/-- The weekday, 0 for Sunday: 2000-01-01 was a Saturday. -/
def weekday (y m d : Nat) : Nat := (dayNumber y m d + 6) % 7

/-- `BKP_TIME` of the calendar. -/
def Bkp.timeWord (b : Bkp) : Nat := b.sec + b.min * 2 ^ 8 + b.hour * 2 ^ 16

/-- `BKP_DATE` of the calendar. -/
def Bkp.dateWord (b : Bkp) : Nat := b.day + b.month * 2 ^ 8 + b.year * 2 ^ 16 + weekday b.year b.month b.day * 2 ^ 28

/-- The next day; the flag says that 2399-12-31 has passed. -/
def Bkp.nextDay (b : Bkp) : Bkp × Bool :=
  if b.day < monthDays b.year b.month then ({ b with day := b.day + 1 }, false)
  else if b.month < 12 then ({ b with day := 1, month := b.month + 1 }, false)
  else if b.year < 399 then ({ b with day := 1, month := 1, year := b.year + 1 }, false)
  else ({ b with day := 1, month := 1, year := 0 }, true)

/-- The next second. -/
def Bkp.tick (b : Bkp) : Bkp × Bool :=
  if b.sec < 59 then ({ b with sec := b.sec + 1 }, false)
  else if b.min < 59 then ({ b with sec := 0, min := b.min + 1 }, false)
  else if b.hour < 23 then ({ b with sec := 0, min := 0, hour := b.hour + 1 }, false)
  else { b with sec := 0, min := 0, hour := 0 }.nextDay

/-- RTC_SECOND (R539, R540): the prescaler ticks. A tick at the instant of a set of TIME is not applied (R541).
DEDUCED, unsafe: log 128. -/
def execRtcSecond (dt : Nat) (s : State) : Host.Outcome State Fault Refusal :=
  command dt (fun s =>
    if s.bkp.tickFrom = s.cycles ∧ s.cycles ≠ 0 then s
    else
      let t := s.bkp.tick
      let last := some (s.cycles, s.bkp.timeWord, s.bkp.dateWord)
      let s := raise BKP_STAT_OSCRUN { s with bkp := { t.1 with ticked := last } }
      let s := bkpFlag bkpSecond s
      onlyIf t.2 (fun s => bkpFlag bkpWrapped (raise BKP_STAT_WRAPPED s)) s) s

/-- OSF (R540): the oscillator has shown no edge for 1 ms. -/
def execOsf (dt : Nat) (s : State) : Host.Outcome State Fault Refusal :=
  command dt (fun s => bkpFlag bkpOsf (raise BKP_STAT_OSF (s.set BKP_STAT_OSCRUN 0))) s

/-! ### Supply (R537, R538) -/

/-- SUPPLY_SWITCH (R537), by VDD_AON and VBAT after its limiter, in millivolts. -/
def execSupplySwitch (dt : Nat) (aon vbat : Nat) (s : State) : Host.Outcome State Fault Refusal :=
  command dt (fun s =>
    if s.is BKP_STAT_ONVBAT then
      (if 1700 < aon ∧ vbat + 50 < aon then bkpFlag bkpVbatOff (s.set BKP_STAT_ONVBAT 0) else s)
    else if aon + 50 < vbat ∨ aon < 1600 then bkpFlag bkpVbatOn (raise BKP_STAT_ONVBAT s)
    else s) s

/-- What a backup power-on reset leaves: the backup bytes, CAL and the other bits of `BKP_STAT` at 0, OSF and CLEARED at 1,
the calendar at 2000-01-01 00:00:00. -/
def backupPor (s : State) : State :=
  let s := forEach (List.range 16) (fun n t => t.set (BKP_DATAn_DATA n) 0) s
  let s := (s.set BKP_CAL_CAL 0).setWord 0x20020018 0x6
  let owed := s.bkp.owed
  let s := modBkp (fun _ => { Bkp.por with owed := owed }) s
  let s := (s.setWord 0x20020004 (BitVec.ofNat 32 Bkp.por.dateWord)).set BKP_SET_CMD_BUSY 0
  bkpFlag bkpCleared (bkpFlag bkpOsf (s.set BKP_SET_CMD_GO 0))

/-- BACKUP_POR (R537): the backup node is at a number of millivolts. -/
def execBackupPor (dt : Nat) (mv : Nat) (s : State) : Host.Outcome State Fault Refusal :=
  command dt (fun s => onlyIf (decide (mv < 1350)) backupPor s) s

/-- BACKUP_CHECK (R538): a failed check sets CHKFAIL and acts as a backup power-on reset. -/
def backupCheck (bad : Bool) (s : State) : State := onlyIf bad (fun s => raise BKP_STAT_CHKFAIL (backupPor s)) s

/-! ### Sets of the calendar (R541) -/

/-- A time to set is in range. -/
def timeLegal (w : Nat) : Bool := decide (w % 2 ^ 6 < 60 ∧ w / 2 ^ 8 % 2 ^ 6 < 60 ∧ w / 2 ^ 16 % 2 ^ 5 < 24)

/-- A date to set is in range. -/
def dateLegal (w : Nat) : Bool :=
  let d := w % 2 ^ 5
  let m := w / 2 ^ 8 % 2 ^ 4
  let y := w / 2 ^ 16 % 2 ^ 9
  decide (1 ≤ m ∧ m ≤ 12 ∧ y < 400 ∧ 1 ≤ d ∧ d ≤ monthDays y m)

/-- The effect of a write of `BKP_SET_CMD`: a GO while BUSY is ignored; a GO without TIME and DATE sets nothing. -/
def setCmdWrite (w : Word) (s : State) : State :=
  if !wrote w BKP_SET_CMD_GO || s.is BKP_SET_CMD_BUSY then s
  else
    let time := if wrote w BKP_SET_CMD_TIME then some (s.word 0x20020008).toNat else none
    let date := if wrote w BKP_SET_CMD_DATE then some (s.word 0x2002000C).toNat else none
    if time = none ∧ date = none then s.set BKP_SET_CMD_GO 0
    else if time.all timeLegal && date.all dateLegal then
      raise BKP_SET_CMD_BUSY (modBkp (fun b => { b with setFrom := some s.cycles, setTime := time, setDate := date }) s)
    else bkpFlag bkpInvalid (raise BKP_STAT_DATE_INVALID (s.set BKP_SET_CMD_GO 0))

/-- The address of `BKP_SET_CMD`. -/
def setCmdAddr : Nat := 0x20020010

/-- CALENDAR_SET (R541): a write of `BKP_SET_CMD`. -/
def execCalendarSet (dt : Nat) (acc : Access) (w : Word) (s : State) : Host.Outcome State Fault Refusal :=
  command dt (writeRow acc setCmdAddr w (setCmdWrite w)) s

/-- The calendar with the time of a word. -/
def Bkp.withTime (w : Nat) (b : Bkp) : Bkp := { b with sec := w % 2 ^ 6, min := w / 2 ^ 8 % 2 ^ 6, hour := w / 2 ^ 16 % 2 ^ 5 }

/-- The calendar with the date of a word. -/
def Bkp.withDate (w : Nat) (b : Bkp) : Bkp := { b with day := w % 2 ^ 5, month := w / 2 ^ 8 % 2 ^ 4, year := w / 2 ^ 16 % 2 ^ 9 }

/-- The calendar with the parts of a set applied. A tick of the same instant that came before it is not applied beside a set of
TIME, and is applied after a set of DATE alone. -/
def Bkp.applySet (now : Nat) (b : Bkp) : Bkp :=
  let late := b.ticked.filter (fun e => e.1 == now)
  let b := match late with
    | some (_, t, d) => (b.withTime t).withDate d
    | none => b
  let b := match b.setTime with
    | some w => { b.withTime w with tickFrom := now }
    | none => b
  let b := match b.setDate with
    | some w => b.withDate w
    | none => b
  let b := if late.isSome && b.setTime.isNone then b.tick.1 else b
  { b with setFrom := none, setTime := none, setDate := none, ticked := none }

/-- CALENDAR_SET_APPLIED (R541): the set is applied as one. -/
def execCalendarSetApplied (dt : Nat) (s : State) : Host.Outcome State Fault Refusal :=
  command dt (fun s =>
    match s.bkp.setFrom with
    | some _ => ((modBkp (Bkp.applySet s.cycles) s).set BKP_SET_CMD_BUSY 0).set BKP_SET_CMD_GO 0
    | none => s) s

end Sys2Proof.Machine
end

