-- ==== Sys2Proof/Machine/Hedgerow.lean ====
section
/-!
DEFINITION. Hedgerow (R381 to R396): identifiers, arrival, delivery and the task inputs, loops, fires, and the rules on the
writes of its registers.
-/

namespace Sys2Proof.Machine

/-- Change Hedgerow's own state. -/
def modHdg (f : Hdg → Hdg) (s : State) : State := { s with hdg := f s.hdg }

/-! ### Identifiers (R381) -/

/-- The number of events of a block. -/
def eventsOf (block : Nat) : Nat :=
  match block with
  | 0x01 => 8
  | 0x02 => 4
  | 0x03 => 4
  | 0x04 => 5
  | 0x05 => 3
  | 0x06 => 2
  | 0x07 => 2
  | 0x08 => 3
  | 0x09 => 5
  | 0x0A => 4
  | 0x0B => 9
  | 0x0C => 8
  | 0x0D => 6
  | 0x0E => 6
  | 0x0F => 6
  | 0x10 => 7
  | 0x11 => 7
  | 0x12 => 6
  | _ => 0

/-- The number of tasks of a block. -/
def tasksOf (block : Nat) : Nat :=
  match block with
  | 0x03 => 1
  | 0x04 => 4
  | 0x09 => 1
  | 0x0A => 1
  | 0x0B => 2
  | 0x0C => 1
  | 0x0D => 1
  | 0x0E => 2
  | 0x0F => 1
  | 0x10 => 1
  | 0x11 => 1
  | 0x12 => 1
  | 0x13 => 8
  | _ => 0

/-- A block has identifiers on a variant. -/
def blockNamed (v : Variant) (block : Nat) : Bool := !(v == .wv5248 && block == 0x11)

/-- An event exists. -/
def eventExists (v : Variant) (id : Nat) : Bool := blockNamed v (id / 64) && decide (id % 64 < eventsOf (id / 64))

/-- A task exists. -/
def taskExists (v : Variant) (id : Nat) : Bool := blockNamed v (id / 64) && decide (id % 64 < tasksOf (id / 64))

/-! ### Channels (R382 to R385) -/

/-- The valid destinations of a channel. -/
def State.destsOf (s : State) (n : Nat) : List Nat :=
  (if s.is (HDG_CHn_DST01_V0 n) then [s.get (HDG_CHn_DST01_TASK0 n)] else []) ++
  (if s.is (HDG_CHn_DST01_V1 n) then [s.get (HDG_CHn_DST01_TASK1 n)] else []) ++
  (if s.is (HDG_CHn_DST23_V2 n) then [s.get (HDG_CHn_DST23_TASK2 n)] else []) ++
  (if s.is (HDG_CHn_DST23_V3 n) then [s.get (HDG_CHn_DST23_TASK3 n)] else [])

/-- Blocks that only SECURE channels may name. -/
def guardedId (id : Nat) : Bool := id / 64 == 0x03 || id / 64 == 0x09

/-- A channel's configuration keeps the rules of R383. SRC 0 of a channel that is not enabled names nothing.
DEDUCED, unsafe: log 112. -/
def State.channelLegal (s : State) (n : Nat) : Bool :=
  let src := s.get (HDG_CHn_CFG_SRC n)
  let ds := s.destsOf n
  let unused := src == 0 && !s.is (HDG_CHn_CFG_EN n)
  (unused || eventExists s.variant src) && ds.all (taskExists s.variant) && ds.eraseDups == ds
    && (s.is (HDG_CHn_CFG_SECURE n) || (!guardedId src && ds.all (fun d => !guardedId d)))

/-- A write of a channel's configuration that would break R383 has no effect and an error response. -/
def channelWrite (n : Nat) (before s : State) : State := if s.channelLegal n then s else errorResponse before

/-- Channels listen (R382): not from RESET until LOAD ends. -/
def State.channelsOn (s : State) : Bool := s.mode != .reset && s.mode != .load

/-- A channel listens. -/
def State.channelOn (s : State) (n : Nat) : Bool := s.channelsOn && s.is (HDG_CHn_CFG_EN n)

/-! ### Drops and flags (R386, R391, R393, R396) -/

/-- `HDG_INT_STAT.DROP` is set; the DROP event fires when it goes from 0 to 1. -/
def dropFlag (s : State) : State :=
  if s.is HDG_INT_STAT_DROP then s else emit 0x1C1 0 (raise HDG_INT_STAT_DROP s)

/-- A drop on a channel is counted. -/
def countDrop (n : Nat) (s : State) : State := count (HDG_CHn_CNT_DROPS n) 1 s

/-- The bit of a channel in a word of a bank of eight. -/
def chanBit (bank : Nat → Fld) (n : Nat) : Fld := ⟨(bank (n / 32)).addr, n % 32, 1⟩

/-- PEND of a channel follows what it holds. -/
def followPend (n : Nat) (s : State) : State :=
  s.set (HDG_CHn_STAT_PEND n) (s.hdg.held.filter (fun h => h.ch == n)).length

/-- An event arrives at a channel (R386, R393): stamped and held, or dropped where 8 are pending. -/
def arrive (e : HdgEvent) (sw : Bool) (n : Nat) (s : State) : State :=
  if 8 ≤ (s.hdg.held.filter (fun h => h.ch == n)).length then dropFlag (countDrop n s)
  else
    let h : HdgHeld :=
      { ch := n, producer := e.producer, seq := e.seq, hop := e.hop, ts := s.ts, lock := s.lock, sw := sw, dests := s.destsOf n }
    let s := modHdg (fun x => { x with
      held := x.held ++ [h], stamps := (n, s.ts) :: x.stamps.filter (fun t => t.1 != n) }) s
    let s := ((s.set (HDG_CHn_STAT_LOCK n) (flag s.lock)).set (HDG_CHn_STAT_SW n) (flag sw)).set (HDG_CHn_TS_LO_TS n) s.ts
    let s := raise (chanBit HDG_FLAGn n) (count (HDG_CHn_CNT_ARRIVALS n) 1 (followPend n s))
    if s.is (chanBit HDG_WATCHn n) then
      (if n < 128 then raise HDG_INT_STAT_WATCH0 s else raise HDG_INT_STAT_WATCH1 s)
    else s

/-- EVENT_ARRIVAL (R384, R386): the oldest event not yet arrived reaches every enabled channel whose SRC names it. Between
events of different producers, which R20 leaves unordered, the one emitted first comes first. DESIGN CHOICE, unsafe: log 204. -/
def execEventArrival (dt : Nat) (s : State) : Host.Outcome State Fault Refusal :=
  command dt (fun s =>
    match s.hdg.emitted with
    | [] => s
    | e :: rest =>
      let s := modHdg (fun x => { x with emitted := rest }) s
      forEach ((List.range 256).filter (fun n => s.channelOn n && s.get (HDG_CHn_CFG_SRC n) == e.id)) (arrive e false) s) s

/-! ### Task inputs (R387 to R389) -/

/-- One arbitration interval of 10 ns, in whole cycles. DEDUCED, unsafe: log 27. -/
def arbCycles : Nat := 3

/-- A trigger reaches a task input (R389): it coalesces with one that arrived at once, runs, or is dropped. -/
def trigger (task hop : Nat) (s : State) : State :=
  let t := s.task task
  if t.start.any (fun c => decide (s.cycles ≤ c + arbCycles)) then
    setTask { t with coalesce := true, ccount := min (t.ccount + 1) 255, hop := if t.busy then max t.hop hop else t.hop } s
  else if !t.busy then setTask { t with busy := true, queued := true, hop := hop, start := some s.cycles } s
  else raise HDG_INT_STAT_OVERRUN (setTask { t with overrun := true, ocount := min (t.ocount + 1) 255 } s)

/-- A leg reaches its task input (R388): a domain locked off drops it, one that sleeps is woken. -/
def deliverLeg (l : HdgLeg) (s : State) : State :=
  let d := domainOfBlock (l.task / 64)
  if s.domainLocked d then dropFlag (countDrop l.ch s)
  else trigger l.task l.hop (workFor d .hedgerow s)

/-- An earlier event of the same producer is still bound for the same input (R387). -/
def State.legWaits (s : State) (l : HdgLeg) : Bool :=
  s.hdg.held.any (fun h => h.producer == l.producer && decide (h.seq < l.seq) && h.dests.elem l.task)
    || s.hdg.legs.any (fun k => k.producer == l.producer && decide (k.seq < l.seq) && k.task == l.task)

/-- Deliver the waiting legs that no longer wait. -/
def deliverLegs : Nat → State → State
  | 0, s => s
  | n + 1, s =>
    match s.hdg.legs.find? (fun l => !s.legWaits l) with
    | some l => deliverLegs n (deliverLeg l (modHdg (fun x => { x with legs := x.legs.erase l }) s))
    | none => s

/-- The LOOP bit of the owner of a channel. -/
def State.loopFlag (s : State) (n : Nat) : Option Fld :=
  match s.get (HDG_CHn_CFG_OWNER n) with
  | 1 => some HDG_INT_STAT_LOOP_C0
  | 2 => some HDG_INT_STAT_LOOP_C1
  | 4 => none
  | _ => some HDG_INT_STAT_LOOP_SH

/-- The signal of a LOOP bit of a channel of Lapwing's to Lapwing (R391): held while such a bit is set. The manual gives the input no
register. DESIGN CHOICE, unsafe: log 200. -/
def State.lapwingLoop (s : State) : Bool :=
  (List.range 256).any (fun n => s.get (HDG_CHn_CFG_OWNER n) == 4 && s.is (chanBit HDG_LOOPn n))

/-- An event has reached h = 8 on a channel (R391). -/
def loopDrop (n : Nat) (s : State) : State :=
  let s := countDrop n s
  if s.is (chanBit HDG_LOOPn n) then s
  else
    let s := raise (chanBit HDG_LOOPn n) s
    let s := match s.loopFlag n with
      | some f => raise f s
      | none => s
    emit 0x1C0 0 s

/-- A channel passes on its oldest pending event (R386, R390, R391). -/
def passEvent (h : HdgHeld) (s : State) : State :=
  let hop := h.hop + 1
  let s := followPend h.ch (modHdg (fun x => { x with held := x.held.erase h }) s)
  let s := raiseTo (HDG_CHn_STAT_HOPMAX h.ch) hop s
  if 8 ≤ hop then loopDrop h.ch s
  else modHdg (fun x => { x with
    legs := x.legs ++ h.dests.map (fun t => { task := t, ch := h.ch, producer := h.producer, seq := h.seq, hop := hop }) }) s

/-- EVENT_DELIVERY (R386 to R391): a channel delivers its pending event to its destinations. -/
def execEventDelivery (dt ch : Nat) (s : State) : Host.Outcome State Fault Refusal :=
  command dt (fun s =>
    match s.hdg.held.find? (fun h => h.ch == ch) with
    | none => s
    | some h =>
      let s := passEvent h s
      deliverLegs s.hdg.legs.length s) s

/-! ### Fires (R392) -/

/-- The addresses of the fire registers. -/
def fireAddr (hi : Bool) : Nat := if hi then 0x20070004 else 0x20070000

/-- The writer may fire a channel: it owns it, and accesses a SECURE one securely. -/
def State.mayFire (s : State) (acc : Access) (n : Nat) : Bool :=
  ownerAdmits (s.get (HDG_CHn_CFG_OWNER n)) acc.init && (!s.is (HDG_CHn_CFG_SECURE n) || acc.secure)

/-- The effect of a write of `HDG_FIRE_LO` or `_HI`: one event into each channel named, or a denial of the whole write. -/
def fireWrite (acc : Access) (hi : Bool) (w : Word) (s : State) : State :=
  let chans := (List.range 32).filterMap (fun b => if bitAt w.toNat b then some (b + if hi then 32 else 0) else none)
  if chans.all (s.mayFire acc) then
    forEach (chans.filter s.channelOn) (fun n t =>
      let e : HdgEvent := { id := 0, hop := 0, producer := 256 + acc.init, seq := t.hdg.seq }
      arrive e true n (modHdg (fun x => { x with seq := x.seq + 1 }) t)) s
  else errorResponse (raise HDG_INT_STAT_DENIED s)

/-- FIRE (R392): a write of `HDG_FIRE_LO`, or of `HDG_FIRE_HI`. -/
def execFire (dt : Nat) (acc : Access) (hi : Bool) (w : Word) (s : State) : Host.Outcome State Fault Refusal :=
  command dt (access acc (fireAddr hi) (some w) (fireWrite acc hi w)) s

/-! ### Registers with rules of their own (R389, R394) -/

/-- The bits of word k of a bank whose channels a writer owns. -/
def State.ownedBits (s : State) (acc : Access) (k : Nat) : Nat :=
  (List.range 32).foldl (fun v b => v + flag (s.mayFire acc (32 * k + b)) * 2 ^ b) 0

/-- The bits of word k of a bank that an access may read: those of SECURE channels read 0 to accesses that are not secure. -/
def State.visibleBits (s : State) (acc : Access) (k : Nat) : Nat :=
  (List.range 32).foldl (fun v b => v + flag (acc.secure || !s.is (HDG_CHn_CFG_SECURE (32 * k + b))) * 2 ^ b) 0

/-- `HDG_TASK_STAT` of the selected task input. -/
def State.taskStat (s : State) : Nat :=
  let id := s.get HDG_TASK_SEL_TASK
  let t := s.task id
  flag (taskExists s.variant id) + 2 * flag t.busy + 4 * flag t.coalesce + 8 * flag t.overrun + 256 * t.ccount + 65536 * t.ocount

/-- A read of `HDG_TASK_STAT` clears its counts. -/
def taskStatRead (s : State) : State :=
  let id := s.get HDG_TASK_SEL_TASK
  if taskExists s.variant id then setTask { s.task id with ccount := 0, ocount := 0 } s else s

/-- A write of `HDG_TASK_STAT` clears the flags written 1. -/
def taskStatWrite (w : Word) (s : State) : State :=
  let id := s.get HDG_TASK_SEL_TASK
  let t := s.task id
  if taskExists s.variant id then
    setTask { t with coalesce := t.coalesce && !wrote w HDG_TASK_STAT_COALESCE,
                     overrun := t.overrun && !wrote w HDG_TASK_STAT_OVERRUN } s
  else s

/-- `HDG_STAT`. -/
def State.hdgStat (s : State) : Nat :=
  ((List.range 256).filter (fun n => s.is (HDG_CHn_CFG_EN n))).length + 65536 * s.hdg.held.length

end Sys2Proof.Machine
end

