-- ==== Sys2Proof/Machine/Checks.lean ====
section
/-!
DEFINITION. The rejection rules of every chapter, which the loader applies to the loaded state after the last section (R461),
and what an image may not enable on a variant that lacks it (R4). Each list names the conditions under which an image is
rejected.
-/

namespace Sys2Proof.Machine

/-! ### Places in DRAM (R264, R333, R399) -/

/-- A region, ring, data area or buffer as (address, size). -/
abbrev Area := Nat × Nat

/-- An area lies wholly within visible DRAM, by its engine address (R399). -/
def State.areaInDram (s : State) (a : Area) : Bool := decide (dramBase ≤ a.1) && s.namesDram a.1 a.2

/-- An area that the image places outside the on-chip memories lies wholly within visible DRAM (R399). -/
def State.areaFits (s : State) (a : Area) : Bool :=
  s.areaInDram a || (decide (a.1 + a.2 ≤ 2 ^ 32) && (decide (a.1 + a.2 ≤ 0x80000000) || s.namesDram a.1 a.2))

/-- Two areas of a list overlap. -/
def anyOverlap : List Area → Bool
  | [] => false
  | a :: t => t.any (fun b => runsMeet a.1 a.2 b.1 b.2) || anyOverlap t

/-- The regions of the context store (R264). -/
def State.ctxRegions (s : State) : List Area :=
  [(s.get CTX_TBL_ADDR * 2 ^ 26, 0x4000000), (s.get CTX_MAP_ADDR * 2 ^ 22, 0x400000),
    (s.get CTX_EUIX_ADDR * 2 ^ 23, 0x800000), (s.get CTX_HDR_ADDR * 2 ^ 12, 0x1000)]

/-- The queues that are enabled. -/
def State.queuesOn (s : State) : List Nat := (List.range 64).filter (fun q => s.is (UPL_Qn_CFG_EN q))

/-- The rings and data areas of the enabled queues (R332). -/
def State.queueAreas (s : State) : List Area :=
  s.queuesOn.flatMap (fun q => [(s.qBase q, 32 * s.qSize q), (s.qDataBase q, 2048 * s.qSize q)])

/-- R264, R399: regions outside visible DRAM or overlapping. DEDUCED, unsafe: log 120. -/
def State.areasRejected (s : State) : List Bool :=
  [s.ctxRegions.any (fun a => !s.areaInDram a), anyOverlap s.ctxRegions,
    [(s.get SHF_FLOWBASE_ADDR * 2 ^ 24, 0x1000000), (s.get SHF_INBASE_ADDR * 2 ^ 24, 0x1000000),
      (s.get JNL_CFG_RECBASE * 2 ^ 12, 0x200000)].any (fun a => !s.areaFits a),
    s.queueAreas.any (fun a => !s.areaFits a), anyOverlap s.queueAreas]

/-! ### Chapters 02 to 08 -/

/-- Chapters 02 and 03: VMIN, the canary thresholds (R53), the dwell, the lock thresholds, the ramp and the lead (R85), and
TXEN without RXEN (R95). -/
def State.rimRejected (s : State) : List Bool :=
  [decide (70 < s.get PWR_VL_CFG_VMIN), decide (s.get PWR_VL_THRESH_DOWN < s.get PWR_VL_THRESH_UP + 6),
    decide (s.get PWR_VL_THRESH_UP ≤ s.get PWR_VL_THRESH_EMERG), decide (s.get PWR_VL_TIME_DWELL < 1000),
    decide (s.get TIM_LOCKCFG_UNLOCK_THR ≤ s.get TIM_LOCKCFG_LOCK_THR),
    s.get RIM_TXCFG_RAMP == 0, decide (8 < s.get RIM_TXCFG_RAMP),
    decide (110 < s.get RIM_FEM_LEAD + 10 * s.get RIM_TXCFG_RAMP),
    (List.range 8).any (fun k => bitAt (s.get RIM_PORT_EN_TXEN) k && !bitAt (s.get RIM_PORT_EN_RXEN) k)]

/-- Chapter 05: the detection threshold and periods, the separability limit, the loss test. -/
def State.lanesRejected (s : State) : List Bool :=
  [decide (s.get LNP_DET_THR < 0x10), s.get LNP_DET_DETSYM == 0, decide (4 < s.get LNP_DET_DETSYM),
    decide (s.get LNP_SEP_SEPMAX < 10), decide (95 < s.get LNP_SEP_SEPMAX), decide (s.get LNP_LANE_LOSSSYM < 4)]

/-- The channel of a PAN; 0 where it is not configured. -/
def State.panCh (s : State) (p : Nat) : Nat := s.get (LNK_PANn_CFG_CH p)

/-- The configured PANs. -/
def State.pansConfigured (s : State) : List Nat := (List.range 16).filter (fun p => s.panCh p != 0)

/-- The mask of supported extended modes (R132). -/
def modeMask : Nat := 0x0F

/-- Beacon instants of two PANs can come within 500 symbols (R187). -/
def State.beaconsMeet (s : State) (p q : Nat) : Bool :=
  let m := 960 * 2 ^ min (s.get (LNK_PANn_CFG_BO p)) (s.get (LNK_PANn_CFG_BO q))
  let d := (s.get (LNK_PANn_BCN_OFF p) + m - s.get (LNK_PANn_BCN_OFF q) % m) % m
  decide (min d (m - d) < 500)

/-- R187. -/
def State.pansRejected (s : State) : List Bool :=
  let ps := s.pansConfigured
  let pairs := ps.flatMap (fun p => (ps.filter (fun q => decide (p < q))).map (fun q => (p, q)))
  let beacon (p : Nat) : Bool := decide (s.get (LNK_PANn_CFG_BO p) < 15)
  [pairs.any (fun (x : Nat × Nat) =>
      s.panCh x.1 == s.panCh x.2 && s.get (LNK_PANn_ID_PANID x.1) == s.get (LNK_PANn_ID_PANID x.2)),
    ps.any (fun p => decide (s.panCh p < 11 ∨ 26 < s.panCh p)),
    ps.any (fun p => !bitAt (s.get LNP_CHEN_CHEN) (s.panCh p - 11)),
    ps.any (fun p => beacon p && decide (s.get (LNK_PANn_CFG_BO p) < s.get (LNK_PANn_CFG_SO p))),
    ps.any (fun p => (List.range 4).any (fun k => bitAt (s.get (LNK_PANn_CFG_MODES p)) (k + 1) && !bitAt modeMask k)),
    pairs.any (fun (x : Nat × Nat) => beacon x.1 && beacon x.2 && s.beaconsMeet x.1 x.2)]

/-- Chapter 08: the counter limit and the group slots in use. -/
def State.keysRejected (s : State) : List Bool :=
  let l := s.get SEC_LIMIT_LIMIT
  [l % 0x1000 != 0, decide (0xFFFFF000 < l), decide (l < 0x00100000),
    (List.range 64).any (fun g =>
      s.is (SEC_GRPn_CFG_VALID g) && (s.get (SEC_GRPn_CFG_KIM g) == 0 || s.get (SEC_GRPn_CFG_KIDX g) == 0))]

/-! ### Chapters 09 to 13 -/

/-- Chapter 09. -/
def State.contextRejected (s : State) : List Bool :=
  [s.get CTX_CFG_WBINT == 0, decide (256 < s.get CTX_CFG_PINMAX), s.get CTX_CFG_LQISH == 0,
    (List.range 16).any (fun n =>
      decide (s.get (CTX_SARn_MAX n) < s.get (CTX_SARn_MIN n) ∨ 0xFFFD < s.get (CTX_SARn_MAX n)))]

/-- The octets a field of a rule covers. -/
def fieldOctets (r : Octets) (j : Nat) : List Nat :=
  (List.range (fieldBytes (ruleField r j))).map (fun k => fieldOff (ruleField r j) + k)

/-- What a FLOW rule with MODE 1, 2 or 3 may not break (R295). -/
def fieldsRejected (r : Octets) : Bool :=
  let n := ruleFields r
  let all := (List.range n).flatMap (fieldOctets r)
  n == 0 || decide (8 < n) || ruleTlen r == 0 || decide (64 < ruleTlen r) || all.any (fun o => decide (ruleTlen r ≤ o))
    || all.eraseDups != all || (List.range n).any (fun j => ruleField r j / 64 % 4 == 3) || ruleAnchor r == 0
    || (List.range 8).any (fun j => decide (32767 < ruleEps r j))
    || (List.range n).any (fun j => decide (2 ^ (8 * fieldBytes (ruleField r j) - 1) ≤ ruleEps r j))

/-- A rule breaks R295. -/
def ruleRejected (r : Octets) : Bool :=
  let flow := ruleAction r == 1
  ruleValid r &&
    (ruleAction r == 3 || decide (leAt r 10 2 % 2 ^ 11 < leAt r 8 2 % 2 ^ 11) || decide (60 < octAt r 0x0E)
      || (flow && ruleMode r != modePass && fieldsRejected r) || (flow && ruleMode r == modeSummary && ruleSumwin r == 0))

/-- The queues a VALID rule names (R333): RAW its raw queue, FLOW its batch queue and its raw queue. -/
def ruleQueues (r : Octets) : List Nat :=
  if ruleValid r then
    match ruleAction r with
    | 0 => [48 + ruleRawq r]
    | 1 => [32 + ruleClass r, 48 + ruleRawq r]
    | _ => []
  else []

/-- Chapter 10 (R295). -/
def State.sheafRejected (s : State) : List Bool :=
  [s.shf.rules.any (fun (e : Nat × Octets) => ruleRejected e.2),
    decide (s.get SHF_CFG_MAXLEN < 256 ∨ 1400 < s.get SHF_CFG_MAXLEN), decide (32 < s.get SHF_CFG_TSHIFT),
    s.get SHF_FLOWCFG_FLOWS == 0, decide (65536 < s.get SHF_FLOWCFG_FLOWS)]

/-- Chapter 11 (R333). -/
def State.upstreamRejected (s : State) : List Bool :=
  let off (q : Nat) : Bool := !s.is (UPL_Qn_CFG_EN q)
  [[56, 57, 58, 59, 60, 61].any off, s.shf.rules.any (fun (e : Nat × Octets) => (ruleQueues e.2).any off),
    off (48 + s.get SHF_CFG_DEFRAWQ),
    (List.range 32).any (fun q =>
      let p := s.get (LNK_DQn_PAN q)
      s.panCh p != 0 && bitAt (s.get LNK_CTRL_PANRUN) p && off q),
    s.queuesOn.any (fun q => decide (s.get (UPL_Qn_CFG_LOG2 q) < 4 ∨ 16 < s.get (UPL_Qn_CFG_LOG2 q))),
    s.get UPL_TIME_SEGTO == 0, s.get UPL_TIME_ARPREF == 0, s.get UPL_PTP_CFG_TRANSPORT == 3]

/-- Chapter 12: the missed instants and reports, the supervision interval, and SUPPAN (R373). -/
def State.pairRejected (s : State) : List Bool :=
  let sup := s.get STL_SUP_SUPPAN
  [s.get STL_CFG_MISSN == 0, s.get STL_CFG_LOSTN == 0, decide (s.get STL_SUP_SUPINT < 2),
    s.is STL_SUP_SUPEN && (s.panCh sup == 0 || s.get (LNK_PANn_CFG_BO sup) != 15)]

/-- Chapter 13 (R383), and the owner codes. -/
def State.hedgeRejected (s : State) : List Bool :=
  [(List.range 256).any (fun n => !s.channelLegal n), (List.range 256).any (fun n => decide (4 < s.get (HDG_CHn_CFG_OWNER n)))]

/-! ### Chapters 14 to 20 -/

/-- The receive ports of a variant (R1). -/
def Variant.ports : Variant → Nat
  | .wv5280 => 16
  | .wv5264 => 16
  | .wv5248 => 8

/-- Chapters 14 (R398), 16, 19 (R530) and 20 (R555). -/
def State.deviceRejected (s : State) : List Bool :=
  [s.get DMC_CFG_RATE == 3, s.get DMC_CFG_ORDER == 3, s.get DMC_CFG_IDLESR == 0,
    decide (s.variant.ports < s.get CFG_STMIN_MINRX), s.is CFG_PACE_EN && s.get CFG_PACE_M == 0, s.get CFG_PACE_STEP == 0,
    s.get PWR_MS_THR_INTN == 0, s.get PWR_HU_CHG_RSHUNT == 0,
    s.get PWR_HU_CFG_ECAP == 0, decide (100 < s.get PWR_HU_CFG_ECAP), decide (s.get PWR_HU_CFG_VMAX ≤ s.get PWR_HU_CFG_VMIN),
    decide (s.get PWR_HU_CFG_EFF < 50 ∨ 100 < s.get PWR_HU_CFG_EFF), s.is PWR_HU_CFG_EN && s.get PWR_HU_STORE_CAP == 0,
    decide (s.get PWR_HU_PROF_LGRES * s.get PWR_HU_CFG_EFF < 9 * s.get PWR_LG_CFG_LGTIME),
    (List.range 8).any (fun w => s.is (APP_FWn_ATTR_VALID w) && s.get (APP_FWn_SIZE_SIZE w) == 0)]

/-- Whether the loaded state is rejected by a rule of some chapter (R461). -/
def State.imageRejected (s : State) : Bool :=
  [s.rimRejected, s.lanesRejected, s.pansRejected, s.keysRejected, s.areasRejected, s.contextRejected, s.sheafRejected,
    s.upstreamRejected, s.pairRejected, s.hedgeRejected, s.deviceRejected].any (fun l => l.any id)

/-! ### What a variant lacks (R1, R4) -/

/-- A pair of a REGS section enables an instance or function the variant lacks: ports 8 to 15, Stile, supervision and the
receive domains RX2 and RX3 on the WV-5248, co-reception on the WV-5264. DEDUCED, unsafe: log 121. -/
def enablesLacking (v : Variant) (a : Nat) (w : Word) : Bool :=
  match v with
  | .wv5280 => false
  | .wv5264 => a == 0x200C0008 && bitAt w.toNat 16
  | .wv5248 => (a == 0x200E0000 && extractBits w 8 8 != 0) || (a == 0x20110004 && bitAt w.toNat 0)
    || (a == 0x20110008 && bitAt w.toNat 4) || (a == 0x2001082C && decide (2 ≤ extractBits w 0 2))

/-- The image as it stands once every pair is taken enables what the variant lacks: of several pairs for one register the last
one counts (R4, R460, R461). -/
def State.wantsLacking (s : State) : Bool :=
  s.cfg.wanted.any (fun p => enablesLacking s.variant p.1 p.2 && (s.cfg.wanted.lookup p.1 == some p.2))

end Sys2Proof.Machine
end

