-- ==== Sys2Proof/Machine/Dram.lean ====
section
/-!
DEFINITION. The DRAM controller (R398 to R422): where an offset lies, requests and their precedence, error correction,
refresh and maintenance, training, the zero-fill and self-refresh.
-/

namespace Sys2Proof.Machine

/-- The request hits an open row. -/
def State.hitsRow (s : State) (r : DmcReq) : Bool :=
  let p := s.dramPlace r.offset
  s.dmc.rows.elem (p.key, p.row)

/-! ### Precedence (R402, R409, R411) -/

/-- The order of ports in the round robin, from the one after the port served last. -/
def State.portOrder (s : State) : List Nat := (List.range 7).map (fun k => (s.dmc.lastPort + k) % 7 + 1)

/-- The request of a port that goes first: one that hits an open row before one that does not (R409). -/
def State.headOfPort (s : State) (p : Nat) : Option DmcReq :=
  let mine := s.dmc.queue.filter (fun r => r.port == p)
  match mine.find? s.hitsRow with
  | some r => some r
  | none => mine.head?

/-- What a free channel issues next. -/
inductive DramChoice where
  | serve (r : DmcReq)
  | refresh (rank : Nat)
  | idle
  deriving DecidableEq, Repr

/-- A forced refresh whose earlier port 0 reads have been served (R411); after self-refresh, none before the first MR4 read (R419). -/
def State.forcedReady (s : State) : Option Nat :=
  if s.dmc.mr4Due then none
  else (s.dmc.forced.find? (fun (f : Nat × Nat) =>
    !s.dmc.queue.any (fun r => r.port == 0 && s.rankOf r == f.1 && decide (r.id < f.2)))).map (·.1)

/-- A request of ports 1–7 is urgent: it has waited TARGET / 2, said by REQUEST_URGENT or not (R408). -/
def State.isUrgent (s : State) (r : DmcReq) : Bool :=
  r.urgent || (r.port != 0 && s.passed r.since (r.target * tenthCycles / 2))

/-- The precedence of R409. A port 0 read that arrived after a forced refresh of its rank waits for it (R411). -/
def State.dramChoice (s : State) : DramChoice :=
  let held (r : DmcReq) : Bool :=
    s.dmc.forced.any (fun (f : Nat × Nat) => f.1 == s.rankOf r && decide (f.2 ≤ r.id))
  match s.dmc.queue.find? (fun r => r.port == 0 && !held r) with
  | some r => .serve (s.firstFor r)
  | none =>
    match s.forcedReady with
    | some k => .refresh k
    | none =>
      match s.dmc.queue.find? s.isUrgent with
      | some r => .serve (s.firstFor r)
      | none =>
        match s.portOrder.findSome? s.headOfPort with
        | some r => .serve (s.firstFor r)
        | none => .idle

/-! ### A request arrives (R399, R407, R553, R554) -/

/-- A request waits on its port. An access to a memory in self-refresh starts the exit (R419). -/
def queueRequest (port o len : Nat) (data : Option Octets) (acc : Option Access) (s : State) : State :=
  let n := match data with
    | some os => os.length
    | none => len
  let target := s.get (DMC_PORTn_TARGET port)
  let r : DmcReq :=
    { id := s.dmc.nextId, port := port, offset := o, len := n, data := data, since := s.cycles, target := target,
      urgent := false, late := false, acc := acc }
  let s := modDmc (fun d => { d with queue := d.queue ++ [r], nextId := d.nextId + 1, idleFrom := s.cycles }) s
  let s := onlyIf acc.isSome (fun t => { t with resp := .stalled }) s
  let init := match acc with
    | some a => a.init
    | none => initNone
  exitSelfRefresh (useDomain domDmc (workFor domDmc (.access init) s))

/-- An error outcome without a request: to the bus, or to the engine on a port (R399, R405). -/
def refuseRequest (bus : Bool) (s : State) : State :=
  let s := modDmc (fun d => { d with served := some (d.nextId, none), nextId := d.nextId + 1 }) s
  if bus then errorResponse s else s

/-- A request at a DRAM offset: an offset beyond visible DRAM sets ADDRERR, a failed or locked-off memory gives the error
outcome, anything else waits. The context store keeps at most 8 port 0 reads at a rank (R413). -/
def arriveRequest (port o len : Nat) (data : Option Octets) (acc : Option Access) (s : State) : State :=
  let full := port == 0 &&
    decide (8 ≤ (s.dmc.queue.filter (fun r => r.port == 0 && s.rankOf r == (s.dramPlace o).rank)).length)
  if s.dramDead then refuseRequest acc.isSome s
  else if full then s
  else queueRequest port o len data acc s

/-- The number of octets a request moves. -/
def requestLength (len : Nat) (data : Option Octets) : Nat :=
  match data with
  | some os => os.length
  | none => len

/-- DRAM_REQUEST (R407). A bus access passes the address map, the domain lock and the firewall first (R507, R552 to R554). -/
def dramRequest (source : DramSource) (len : Nat) (data : Option Octets) (s : State) : State :=
  let n := requestLength len data
  match source with
  | .engine port a =>
    if 7 < port ∨ n = 0 ∨ (port = 0 ∧ data.isSome) then s
    else
      match s.dramOffset a with
      | some o =>
        if o + n ≤ s.visible then arriveRequest port o len data none s
        else refuseRequest false (raise DMC_INT_STAT_ADDRERR s)
      | none => if a < 2 ^ 32 then s else refuseRequest false (raise DMC_INT_STAT_ADDRERR s)
  | .bus acc a =>
    match s.route a n with
    | .dram o =>
      if n = 0 then s
      else if s.visible < o + n then refuseRequest true (raise DMC_INT_STAT_ADDRERR s)
      else
        match s.firewall acc data.isSome (dramBase + o) n with
        | some w => errorResponse (firewallRefusal acc data.isSome (dramBase + o) w s)
        | none =>
          if s.domainLocked domDmc then errorResponse (domainError 0 domDmc acc.init s)
          else arriveRequest 7 o len data (some acc) s
    | _ => s

/-- DRAM_REQUEST (R407): a request reaches the controller on a port. -/
def execDramRequest (dt : Nat) (source : DramSource) (len : Nat) (data : Option Octets) (s : State) :
    Host.Outcome State Fault Refusal :=
  command dt (fun s => dramRequest source len data s) s

/-- The controller works: STATE is READY and its domain is on. -/
def State.dramWorks (s : State) : Bool := s.get DMC_STAT_STATE == dmcReady && s.domainOn domDmc

/-! ### Refresh (R410, R411) -/

/-- The count of postponed refreshes of a rank. -/
def postField (rank : Nat) : Fld := if rank = 0 then DMC_STAT_POST0 else DMC_STAT_POST1

/-- The refreshes a rank is ahead of schedule. -/
def State.earlyOf (s : State) (rank : Nat) : Nat := ((s.dmc.early.find? (fun e => e.1 == rank)).map (·.2)).getD 0

/-- Place the number of refreshes a rank is ahead. -/
def setEarly (rank n : Nat) (s : State) : State :=
  modDmc (fun d => { d with early := (rank, n) :: d.early.filter (fun (e : Nat × Nat) => e.1 != rank) }) s

/-- A refresh closes every row of its rank. -/
def closeRows (rank : Nat) (s : State) : State :=
  modDmc (fun d => { d with rows := d.rows.filter (fun (x : Nat × Nat) => x.1 / 16 != rank) }) s

/-- A forced refresh is issued: it makes up for one postponed (R411). -/
def forcedRefresh (rank : Nat) (s : State) : State :=
  let s := s.set (postField rank) (s.get (postField rank) - 1)
  let s := modDmc (fun d => { d with forced := d.forced.filter (fun (f : Nat × Nat) => f.1 != rank) }) s
  closeRows rank (count DMC_CNT_REFFORCED 1 s)

/-- An idle channel makes up for a postponed refresh, or issues one early, up to 8 ahead (R411): the first rank that can.
DEDUCED, unsafe: log 114. -/
def idleRefresh (s : State) : State :=
  let ranks := List.range s.dramRanks
  match ranks.find? (fun k => s.get (postField k) != 0) with
  | some k => closeRows k (s.set (postField k) (s.get (postField k) - 1))
  | none =>
    match ranks.find? (fun k => decide (s.earlyOf k < 8)) with
    | some k => closeRows k (setEarly k (s.earlyOf k + 1) s)
    | none => s

/-- DRAM_COMMAND_ISSUE (R409): the next command by precedence. -/
def dramIssue (errors : List EccError) (s : State) : State :=
  if s.dramWorks then
    match s.dramChoice with
    | .serve r => serveRequest errors r s
    | .refresh k => forcedRefresh k s
    | .idle => if s.dmc.mr4Due then s else idleRefresh s
  else s

/-- DRAM_COMMAND_ISSUE (R409): a free channel issues its next command, with check, correction and write-back. -/
def execDramCommandIssue (dt : Nat) (errors : List EccError) (s : State) : Host.Outcome State Fault Refusal :=
  command dt (fun s => dramIssue errors s) s

/-- REQUEST_URGENT (R408): a request has waited TARGET / 2. -/
def execRequestUrgent (dt : Nat) (id : Nat) (s : State) : Host.Outcome State Fault Refusal :=
  command dt (fun s =>
    match s.dmc.queue.find? (fun r => r.id == id) with
    | some r =>
      if r.port ≠ 0 ∧ s.passed r.since (r.target * tenthCycles / 2) then modReq id (fun q => { q with urgent := true }) s
      else s
    | none => s) s

/-- REQUEST_LATE (R408): a request has waited TARGET. -/
def execRequestLate (dt : Nat) (id : Nat) (s : State) : Host.Outcome State Fault Refusal :=
  command dt (fun s =>
    match s.dmc.queue.find? (fun r => r.id == id) with
    | some r => becomeLate r s
    | none => s) s

/-- The array is refreshed by the controller: READY, or under the zero-fill. -/
def State.refreshes (s : State) : Bool :=
  (s.get DMC_STAT_STATE == dmcReady || s.get DMC_STAT_STATE == dmcZerofill) && !s.dmc.mr4Due

/-- A refresh of a rank falls due (R411): one issued early counts for it; with a port 0 read on the rank it is postponed, and
the eighth postponed one forces a refresh; else it is issued. -/
def refreshDue (rank : Nat) (s : State) : State :=
  if s.refreshes && decide (rank < s.dramRanks) then
    if s.earlyOf rank ≠ 0 then setEarly rank (s.earlyOf rank - 1) s
    else if s.dmc.queue.any (fun r => r.port == 0 && s.rankOf r == rank) then
      let n := min 8 (s.get (postField rank) + 1)
      let s := s.set (postField rank) n
      if n = 8 ∧ s.dmc.forced.all (fun (f : Nat × Nat) => f.1 != rank) then
        modDmc (fun d => { d with forced := d.forced ++ [(rank, d.nextId)] }) s
      else s
    else closeRows rank s
  else s

/-- REFRESH_DUE (R411): a refresh falls due and is issued, postponed or forced. -/
def execRefreshDue (dt : Nat) (rank : Nat) (s : State) : Host.Outcome State Fault Refusal :=
  command dt (fun s => refreshDue rank s) s

/-! ### MR4 and maintenance (R410, R412) -/

/-- The code of REFRATE for one device's refresh rate OP[2:0] (R410). For 0b000 the manual names no interval but forbids a
longer one than 3.904 µs: a free value among the three. -/
def rateFor (s : State) (op : Nat) : Nat :=
  match op with
  | 0 => s.freeNow % 3
  | 1 => 0
  | 2 => 0
  | 3 => 0
  | 4 => 1
  | _ => 2

/-- The devices' OP[2:0] in a word of MR4 values: both channels of every rank. -/
def State.mr4Codes (s : State) (w : Word) : List Nat :=
  (List.range (2 * s.dramRanks)).map (fun k => extractBits w (8 * k) 3)

/-- MR4 of every device is read, and the shortest interval any of them asks for is used. -/
def readMr4 (w : Word) (s : State) : State :=
  let codes := s.mr4Codes w
  let rate := (codes.map (rateFor s)).foldl max 0
  let hot := codes.any (fun c => c == 7)
  let s := onlyIf (codes.any (fun c => c == 0)) useFree s
  let s := s.set DMC_MR4_MR4 (extractBits w 0 (16 * s.dramRanks))
  let s := (s.set DMC_STAT_REFRATE rate).set DMC_STAT_THERM (flag hot)
  let s := onlyIf hot (raise DMC_INT_STAT_THERM) s
  modDmc (fun d => { d with mr4Due := false }) s

/-- MR4_POLL (R410): MR4 is read and the refresh interval chosen; suspended during self-refresh (R419). -/
def execMr4Poll (dt : Nat) (w : Word) (s : State) : Host.Outcome State Fault Refusal :=
  command dt (fun s =>
    onlyIf (s.get DMC_STAT_STATE == dmcReady || s.get DMC_STAT_STATE == dmcZerofill) (readMr4 w) s) s

/-- Maintenance commands come last in the precedence: while no request and no forced refresh waits, and not in self-refresh (R409,
R412, R419). -/
def State.mayMaintain (s : State) : Bool := s.dramWorks && s.dmc.queue.isEmpty && s.dmc.forced.isEmpty

/-- ZQ_CALIBRATION (R412): the channel is held for at most 60 ns; nothing that software sees changes. -/
def execZqCalibration (dt : Nat) (s : State) : Host.Outcome State Fault Refusal :=
  command dt (fun s => onlyIf s.mayMaintain (useDomain domDmc) s) s

/-- DQS_OSCILLATOR_READ (R412): a drift of more than 3 ps since the last training retrains the write DQ delay. -/
def execDqsOscillatorRead (dt : Nat) (reading : Int) (s : State) : Host.Outcome State Fault Refusal :=
  command dt (fun s =>
    onlyIf (s.mayMaintain && decide (3 < (reading - s.dmc.oscAt).natAbs)) (modDmc (fun d => { d with oscAt := reading })) s) s

/-- SCRUB (R406): the patrol scrubber reads the next word, where no request waits. -/
def execScrub (dt : Nat) (bit : Option (Option Nat)) (s : State) : Host.Outcome State Fault Refusal :=
  command dt (fun s =>
    if s.dramWorks && s.get DMC_SCRUB_HOURS != 0 && s.dmc.queue.isEmpty && s.dmc.forced.isEmpty then
      let o := s.dmc.scrub
      let s := modDmc (fun d => { d with scrub := if o + 8 < s.visible then o + 8 else 0 }) s
      match bit with
      | some b => eccError scrubPort { word := o, bit := b } s
      | none => s
    else s) s

/-! ### Training and the zero-fill (R414 to R416) -/

/-- The loader has written `DMC_CFG`: training begins, and RETAINED says whether the array still holds what it held before the
reset. `vdd` says that the entry completed and VDD2 stayed up (R415). DEDUCED, unsafe: log 113. -/
def beginTraining (vdd : Bool) (s : State) : State :=
  let kept := s.dmc.kept && vdd
  let s := (s.set DMC_STAT_STATE dmcTrain).set DMC_STAT_RETAINED (flag kept)
  let s := if kept then s else { s with dram := [] }
  modDmc (fun d => { d with kept := kept, since := s.cycles, bad := if kept then d.bad else [] }) s

/-- Every request that waits gets the outcome of an uncorrectable error (R414). -/
def refuseAll (s : State) : State :=
  forEach s.dmc.queue (fun r t => answerRequest r none (leaveQueue r t)) s

/-- Training has ended: in a step that failed, on a channel, or with all seven passed (R414). -/
def training (failed : Option (Nat × Bool)) (mr4 : Word) (s : State) : State :=
  if s.get DMC_STAT_STATE = dmcTrain then
    match failed with
    | some (k, ch) =>
      let step := (k - 1) % 7 + 1
      let s := ((s.set DMC_TRAIN_PASS (2 ^ (step - 1) - 1)).set DMC_TRAIN_FAILSTEP step).set DMC_TRAIN_FAILCH (flag ch)
      refuseAll (raise DMC_INT_STAT_TRAINFAIL (s.set DMC_STAT_STATE dmcFailed))
    | none =>
      let s := readMr4 mr4 (s.set DMC_TRAIN_PASS 0x7F)
      let s := s.set DMC_STAT_STATE (if s.is DMC_STAT_RETAINED then dmcReady else dmcZerofill)
      modDmc (fun d => { d with idleFrom := s.cycles, since := s.cycles }) s
  else s

/-- ZEROFILL_DONE (R416): all of the array reads zero, and STATE becomes READY. -/
def zerofillDone (s : State) : State :=
  if s.get DMC_STAT_STATE = dmcZerofill then
    modDmc (fun d => { d with idleFrom := s.cycles, bad := [] }) ({ s with dram := [] }.set DMC_STAT_STATE dmcReady)
  else s

/-- ZEROFILL_DONE (R416). -/
def execZerofillDone (dt : Nat) (s : State) : Host.Outcome State Fault Refusal := command dt zerofillDone s

/-! ### Self-refresh (R417 to R419) -/

/-- A write of `DMC_CTRL`: SR requests entry, refused in the modes that need DRAM; SRX requests exit. SR reads 1 until entry
completes or is refused, SRX until exit completes. -/
def dmcCtrlWrite (w : Word) (s : State) : State :=
  let s := if wrote w DMC_CTRL_SR then
      (if s.mode.needsDram then refuseSelfRefresh s
       else if s.get DMC_STAT_STATE = dmcSelfref then s.set DMC_CTRL_SR 0
       else modDmc (fun d => { d with entering := true }) s)
    else s
  if wrote w DMC_CTRL_SRX then
    (if s.get DMC_STAT_STATE = dmcSelfref then exitSelfRefresh s else s.set DMC_CTRL_SRX 0)
  else s

/-- The address of `DMC_CTRL`. -/
def dmcCtrlAddr : Nat := 0x20080000

/-- SR (R417): a write of `DMC_CTRL` with SR. DEDUCED, unsafe: log 116. -/
def execSelfRefresh (dt : Nat) (acc : Access) (w : Word) (s : State) : Host.Outcome State Fault Refusal :=
  command dt (writeRow acc dmcCtrlAddr w (dmcCtrlWrite w)) s

/-- SRX (R419): a write of `DMC_CTRL` with SRX. -/
def execSelfRefreshExit (dt : Nat) (acc : Access) (w : Word) (s : State) : Host.Outcome State Fault Refusal :=
  command dt (writeRow acc dmcCtrlAddr w (dmcCtrlWrite w)) s

/-- AUTO_SELF_REFRESH (R417): every port has been idle for IDLESR × 10 µs; not in the modes of R418. -/
def execAutoSelfRefresh (dt : Nat) (s : State) : Host.Outcome State Fault Refusal :=
  command dt (fun s =>
    onlyIf (s.is DMC_CFG_AUTOSR && s.get DMC_STAT_STATE == dmcReady && !s.mode.needsDram && s.dmc.queue.isEmpty
        && s.passed s.dmc.idleFrom (s.get DMC_CFG_IDLESR * 10 * usCycles))
      (modDmc (fun d => { d with entering := true })) s) s

/-- SELF_REFRESH_ENTRY_DONE (R417): the queue is empty, the banks are precharged, CK and the PLL stop. -/
def execSelfRefreshEntryDone (dt : Nat) (s : State) : Host.Outcome State Fault Refusal :=
  command dt (fun s =>
    if s.dmc.entering && s.get DMC_STAT_STATE == dmcReady && s.dmc.queue.isEmpty then
      let s := (s.set DMC_STAT_STATE dmcSelfref).set DMC_CTRL_SR 0
      modDmc (fun d => { d with entering := false, rows := [] }) (count DMC_CNT_SRENTRY 1 s)
    else s) s

/-- SELF_REFRESH_EXIT_DONE (R419): the accesses that waited proceed; an MR4 read comes before the next refresh. -/
def execSelfRefreshExitDone (dt : Nat) (s : State) : Host.Outcome State Fault Refusal :=
  command dt (fun s =>
    if s.dmc.exiting && s.get DMC_STAT_STATE == dmcSelfref then
      let s := (s.set DMC_STAT_STATE dmcReady).set DMC_CTRL_SRX 0
      modDmc (fun d => { d with exiting := false, mr4Due := true, idleFrom := s.cycles }) s
    else s) s

end Sys2Proof.Machine
end

