-- ==== Sys2Proof/Machine/Downlink.lean ====
section
/-!
DEFINITION. What the link sequencer sends (R206 to R223): downstream frames, indirect transmission, channel access,
retransmission, beacons, and the commands of its registers.
-/

namespace Sys2Proof.Machine

/-! ### Requests to Gorse for a downstream frame (R221, R235, R249) -/

/-- DSTART (R367). -/
def dstartRecord (d : Down) : Octets :=
  record 0x05 [(1, le 1 d.queue), (2, le 3 (indexOr d.node)), (5, le 1 d.dsn), (6, le 1 d.mode), (8, le 4 d.counter),
    (12, le 4 d.index)]

/-- DHOLD (R367). -/
def dholdRecord (d : Down) : Octets := record 0x06 [(1, le 1 d.queue), (2, le 3 (indexOr d.node)), (12, le 4 d.index)]

/-- Change a downstream frame and put it last: held frames stand in the order held (R217). -/
def moveDown (id : Nat) (f : Down → Down) (s : State) : State :=
  modLnk (fun l => { l with
    down := l.down.filter (fun d => d.id != id) ++ (l.down.filter (fun d => d.id == id)).map f }) s

/-- Move a frame to its node's held list, or complete it HELD_FULL (R217). -/
def holdFrame (d : Down) (i : Nat) (s : State) : State :=
  let total := (s.lnk.down.filter (fun x => x.held)).length
  if 4 ≤ (s.heldFor i).length ∨ s.get LNK_CFG_HELDMAX * 1024 ≤ total then complete d stHeldFull s
  else
    let gate := s.gate
    let s := mirror (dholdRecord d) s
    let s := moveDown d.id (fun x => { x with held := true, heldFrom := s.cycles, ciOwed := some gate }) s
    linkSettle (followHeld i s)

/-- A frame has all it needs for its first attempt: its DSTART is mirrored, and it is held or sent (R26, R217). A direct frame
is sent also while an earlier frame of the same node and queue is still held: the order of R29 is that in which frames leave their
queue. DESIGN CHOICE, unsafe: log 203. -/
def frameReady (id : Nat) (s : State) : State :=
  match s.lnk.down.find? (fun d => d.id == id) with
  | none => s
  | some d =>
    let gate := s.gate
    let s := mirror (dstartRecord d) s
    let s := modDown id (fun x => { x with gate := gate, needsKey := false }) s
    match d.node with
    | some i => if descCtl d.desc ctlIndirect then holdFrame d i s else startDown { d with gate := gate } none 0 s
    | none => startDown { d with gate := gate } none 0 s

/-- A slot of a captured pair has changed, or is another now (R238). -/
def State.slotMoved (s : State) (d : Down) : Bool :=
  match d.slot with
  | some (n, gen) => s.outSlot (descKim d.desc) (descSlot d.desc) d.node != some n || s.genMoved [(n, gen)] n
  | none => false

/-- TX: the frame in flight of a queue is given its counter and secured, once it holds a context (R235). While RUN is 0, or no value is
reserved, it waits. A request that ends KEY_CHANGED is asked again. DESIGN CHOICE, unsafe: log 177. -/
def secTx (q : Nat) (s : State) : State :=
  match s.lnk.down.find? (fun d => d.queue == q && d.needsKey) with
  | none => s
  | some d =>
    if s.is SEC_CTRL_RUN = false ∨ s.hasContext (.tx q) = false then s
    else if s.slotMoved d = true then askShared (.tx q) (modDown d.id (fun x => captureSlot x s) (keyChanged s))
    else
      match s.outKey (descKim d.desc) (descSlot d.desc) d.node with
      | none => linkSettle (complete d stAborted (nokey s))
      | some (key, space) =>
        if s.sec.kwk.isNone then linkSettle (complete d stAborted (nokey s))
        else if s.spaceExhausted space then linkSettle (complete d stKeyExhausted (exhausted space s))
        else if s.spaceReady space = false then reserve space s
        else
          let c := takeCounter space (count SEC_CNT_TX 1 s)
          let s := c.2
          let plain := patch d.plain (d.hdrLen - (if descCtl d.desc ctlIep then 2 else 0)
            - (5 + keyIdLen (descKim d.desc)) + 1) (le 4 c.1)
          let d := { d with counter := c.1, plain := plain, key := key }
          match s.seal d with
          | some os =>
            frameReady d.id (modDown d.id (fun x => { x with counter := c.1, plain := plain, key := key, mpdu := os }) s)
          | none => linkSettle (complete d stAborted s)

/-- SEC_REQUEST (R235, R236). -/
def execSecRequest (dt : Nat) (who : SecWho) (s : State) : Host.Outcome State Fault Refusal :=
  command dt (fun s =>
    match who with
    | .rx lane => secRx lane s
    | .tx q => secTx q s
    | .eack b => secEack b s) s

/-! ### Queue service (R220, R221, R334) -/

/-- A queue's head needs no lookup now, or no frame's lookup is pending before it (R271). -/
def State.lookupFree (s : State) (q : Nat) : Bool := s.frameFills.isEmpty || descCtl (s.qDesc q (s.qCi q)) ctlBcast

/-- A queue is eligible (R220). The head of a queue whose lookup is waiting for its fill has started, and is in flight. -/
def State.dqEligible (s : State) (q : Nat) : Bool :=
  let pan := s.get (LNK_DQn_PAN q)
  bitAt (s.get LNK_DQ_RUN_RUN) q && s.is (UPL_Qn_CFG_EN q) && !s.qEmpty q && (s.inFlight q).isNone && s.panRuns pan
    && s.capOpen pan && !s.lnk.completions.any (fun c => c.queue == q)
    && !s.lnk.down.any (fun d => d.queue == q && d.ciOwed.isSome) && !s.ctx.fills.any (fun f => f.queues.contains q)
    && s.lookupFree q

/-- The deficit of a queue. -/
def State.deficit (s : State) (q : Nat) : Nat := ((s.lnk.deficits.find? (fun e => e.1 == q)).map (·.2)).getD 0

/-- Set a deficit. -/
def setDeficit (q v : Nat) (s : State) : State :=
  modLnk (fun l => { l with deficits := (q, v) :: l.deficits.filter (fun e => e.1 != q) }) s

/-- The size a frame has for the round robin: its MAC payload octets. -/
def State.headSize (s : State) (q : Nat) : Nat := leAt (s.qDesc q (s.qCi q)) 0 2 % 2048

/-- Deficit round robin among queues of one priority (R220). The list gives the visits in order: a queue, and whether its turn
begins there, which adds its quantum; a queue whose turn goes on is served again while its deficit covers its head frame.
DEDUCED, unsafe: log 65. -/
def drr (quantum : Nat → Nat) (size : Nat → Nat) : List (Nat × Bool) → (Nat → Nat) → Option (Nat × (Nat → Nat))
  | [], _ => none
  | (q, fresh) :: rest, d =>
    let have_ := if fresh then d q + quantum q else d q
    if size q ≤ have_ then some (q, fun x => if x = q then have_ - size q else d x)
    else drr quantum size rest (fun x => if x = q then have_ else d x)

/-- The visits of the round robin: the turn of the queue served last goes on, then every queue in ascending order after it, in
rounds enough for the largest frame. -/
def drrVisits (last : Nat) (qs : List Nat) : List (Nat × Bool) :=
  let turn := qs.filter (fun q => decide (last < q)) ++ qs.filter (fun q => decide (q ≤ last))
  (qs.filter (· == last)).map (fun q => (q, false)) ++ (List.range 34).flatMap (fun _ => turn.map (fun q => (q, true)))

/-- The queue served next, with the deficits after it. -/
def State.nextQueue (s : State) : Option (Nat × List (Nat × Nat)) :=
  let el := (List.range 32).filter s.dqEligible
  let top := el.foldl (fun m q => max m (s.get (LNK_DQn_PRIO q))) 0
  let qs := el.filter (fun q => s.get (LNK_DQn_PRIO q) == top)
  match drr (fun q => 64 * s.get (LNK_DQn_WEIGHT q)) s.headSize (drrVisits s.lnk.lastServed qs) s.deficit with
  | some (q, d) => some (q, qs.map (fun x => (x, d x)))
  | none => none

/-- A descriptor that R334 calls invalid: a reserved field is not 0, a value is out of range, the group slot does not match, or
a secured broadcast names no key. -/
def State.descInvalid (s : State) (pan : Nat) (d : Octets) : Bool :=
  let kim := descKim d
  let g := descSlot d
  let mode := descMode d
  let bcast := descCtl d ctlBcast
  decide (2048 ≤ leAt d 0 2) || descCtl d 7 || mode == 5 || mode == 6 || decide (64 ≤ octAt d 4) || decide (2 ≤ octAt d 5)
    || leAt d 6 2 != 0 || leAt d 21 3 != 0 || leAt d 28 4 != 0
    || (!descCtl d ctlDstExt && leAt d 10 6 != 0) || (descCtl d ctlDstExt && bcast)
    || (descCtl d ctlIep && octAt d 5 == 0)
    || (bcast && descLevel d != 0 && kim == 0)
    || (kim != 0 && !(s.is (SEC_GRPn_CFG_VALID g) && s.get (SEC_GRPn_CFG_KIM g) == kim && s.get (SEC_GRPn_CFG_PAN g) == pan))

/-- The key the context store looks a destination up by. -/
def destKey (pan : Nat) (d : Octets) : Octets :=
  if descCtl d ctlDstExt then [3, octet pan] ++ slice d 8 8 else [2, octet pan] ++ slice d 8 2

/-- The MAC header of a downstream frame (R221, R334). -/
def State.downHeader (s : State) (pan : Nat) (desc : Octets) (dsn counter : Nat) : Octets :=
  let level := descLevel desc
  let kim := descKim desc
  let bcast := descCtl desc ctlBcast
  let dst : Addr := if bcast then .short 0xFFFF
    else if descCtl desc ctlDstExt then .ext (leAt desc 8 8) else .short (leAt desc 8 2)
  let aux := if level = 0 then [] else auxHeader level kim counter (s.slotKeyId kim (descSlot desc))
  dataHeader (if descCtl desc ctlCmd then tyCommand else tyData) (level != 0) false (descCtl desc ctlAr && !bcast)
    (descCtl desc ctlIep) (octAt desc 5 == 1) dsn (s.get (LNK_PANn_ID_PANID pan)) dst
    (s.coordAddr pan (descCtl desc ctlSrcExt)) aux

/-- Start the head of a queue whose destination is known: DSN, mode and header (R221); TOOLONG, or on to Gorse or the air. -/
def startFrame (q : Nat) (desc payload : Octets) (node : Option Nat) (s : State) : State :=
  let pan := s.get (LNK_DQn_PAN q)
  let i := s.qCi q
  let mode := if descMode desc = 7 then (match node with
      | some n => nrMode (s.nodeRec n)
      | none => 0) else descMode desc
  let id := s.lnk.nextId
  let s := modLnk (fun l => { l with nextId := l.nextId + 1 }) s
  let d0 := { Down.fresh id q i desc pan with node := node, mode := mode }
  if bitAt (s.get (LNK_PANn_CFG_MODES pan)) mode = false then
    complete d0 stAborted (raise UPL_INT_STAT_RINGERR s)
  else
    let dsn := (s.get (LNK_PANn_STAT_DSN pan) + 1) % 256
    let s := s.set (LNK_PANn_STAT_DSN pan) dsn
    let level := descLevel desc
    let hdr := s.downHeader pan desc dsn 0
    let plain := hdr ++ payload
    let d := { d0 with dsn := dsn, plain := plain, hdrLen := hdr.length, mpdu := plain, needsKey := level != 0 }
    let len := plain.length + micLen level
    if (mode = 0 ∧ 127 < len + 2) ∨ (mode ≠ 0 ∧ s.get (LNK_PANn_LEN_TXMAX pan) < len) then complete d stTooLong s
    else
      let s := modLnk (fun l => { l with down := l.down ++ [d] }) s
      let s := match node with
        | some n =>
          (match s.hotOf n with
           | some (k, _) => useHot k s
           | none => s)
        | none => s
      if level = 0 then frameReady id s else askShared (.tx q) (modDown id (fun x => captureSlot x s) s)

/-- Start the head frame of a queue (R221): its destination is looked up, and a lookup that needs a fill ends the step there. -/
def startHead (q : Nat) (s : State) : State :=
  let i := s.qCi q
  let desc := s.qDesc q i
  let pan := s.get (LNK_DQn_PAN q)
  if s.descInvalid pan desc then completeHead q stAborted (raise UPL_INT_STAT_RINGERR s)
  else
    match engineGet 2 (leAt desc 16 5) (leAt desc 0 2) (engineReads 2 (s.qDescAddr q i) 32 s) with
    | (none, s) => completeHead q stAborted s
    | (some payload, s) =>
      if descCtl desc ctlBcast then startFrame q desc payload none s
      else
        let k := destKey pan desc
        match s.hotHit k with
        | some (_, h) =>
          if nr h.os nrPan % 16 = pan then startFrame q desc payload (some h.node) s else completeHead q stNoNode s
        | none =>
          match s.resolveKey k false false with
          | some (some n) =>
            if nrUsed (s.nodeRec n) || (s.memGet (s.nodeAddr n) 256).isNone then startFill k [] [q] s else completeHead q stNoNode s
          | some none => completeHead q stNoNode s
          | none => completeHead q stNoNode (contextError s)

/-- DOWNSTREAM_START (R220, R221): the scheduler serves the next eligible queue. DEDUCED, unsafe: log 66. -/
def execDownstreamStart (dt : Nat) (s : State) : Host.Outcome State Fault Refusal :=
  command dt (fun s =>
    let s := linkSettle s
    if s.mayBook = false then s
    else
      match s.nextQueue with
      | none => s
      | some (q, ds) =>
        let before := s.lnk.nextId
        let t := startHead q s
        if t.lnk.nextId = before then t
        else
          let t := forEach ds (fun (e : Nat × Nat) u => setDeficit e.1 e.2 u) t
          linkSettle (modLnk (fun l => { l with
            lastServed := q,
            deficits := l.deficits.filter (fun e => !t.qEmpty e.1) }) t)) s

/-- LOOKUP_FILL (R269, R271): the map entry or the buckets and the record of the next fill return. `bad1`, `bad2` and
`badRecord` are the uncorrectable errors met. A downstream frame whose lookup met one has no record and completes NO_NODE
(R221). -/
def execLookupFill (dt : Nat) (bad1 bad2 badRecord : Bool) (s : State) : Host.Outcome State Fault Refusal :=
  command dt (fun s =>
    match s.nextFill with
    | none => s
    | some f =>
      let t := fillReturns f bad1 bad2 badRecord s
      let waiting := f.queues.filter (fun q => !t.qEmpty q && f.serves (destKey (t.get (LNK_DQn_PAN q)) (t.qDesc q (t.qCi q))))
      if t.ctx.fills.elem f then t
      else if (fillReads f bad1 bad2 badRecord s).fillFails f bad1 bad2 badRecord then forEach waiting (fun q t => completeHead q stNoNode t) t else t) s

/-- DQ_ABORT (R223): every frame of a queue whose bit is written 1, up to its PI, is aborted. -/
def dqAbort (w : Word) (s : State) : State :=
  let start (q : Nat) (s : State) : State :=
    let s := modLnk (fun l => { l with aborting := (q, s.qPi q) :: l.aborting.filter (fun e => e.1 != q) }) s
    let mine := s.lnk.down.filter (fun d => d.queue == q)
    forEach mine (fun d t => endHeld d stAborted t) s
  linkSettle (forEach ((List.range 32).filter (fun q => bitAt w.toNat q)) start s)

def execDqAbort (dt : Nat) (acc : Access) (w : Word) (s : State) : Host.Outcome State Fault Refusal :=
  command dt (writeRow acc 0x200B0018 w (dqAbort w)) s

/-- DQ_HALT (R226): the task writes 0 to `LNK_DQ_RUN`. -/
def execDqHalt (dt : Nat) (s : State) : Host.Outcome State Fault Refusal :=
  command dt (fun s =>
    if s.taskQueued 0x2C0 then endTask 0x2C0 (changeMirrored 0x200B0014 (fun t => t.set LNK_DQ_RUN_RUN 0) s) else s) s

/-! ### Channel access (R206, R207) -/

/-- A named attempt. -/
def State.attempt (s : State) (pan : Nat) (who : AttemptFor) : Option Attempt :=
  s.lnk.attempts.find? (fun a => a.pan == pan && a.for_ == who)

/-- The DSTART of an attempt's frame is acknowledged (R367). -/
def State.startAcked (s : State) (a : Attempt) : Bool :=
  match a.for_ with
  | .down id =>
    (match s.lnk.down.find? (fun d => d.id == id) with
     | some d => s.ackedM d.gate
     | none => false)
  | _ => true

/-- Another DATA transmission of the device on a channel is on its way or waits for its acknowledgement (R208). -/
def State.channelTaken (s : State) (ch : Nat) (me : Attempt) : Bool :=
  me.for_ != .beacon && s.lnk.attempts.any (fun a => !(a.for_ == me.for_ && a.pan == me.pan) && a.for_ != .beacon &&
    s.get (LNK_PANn_CFG_CH a.pan) == ch &&
    match a.phase with
    | .backoff _ => false
    | _ => true)

/-- The signature a booking to a node uses. -/
def State.sigFor (s : State) (node : Option Nat) : Option Sig :=
  match node with
  | some i => nrSignature (s.nodeRec i)
  | none => none

/-- BACKOFF_END (R206, R208): the chain is booked and the CCA starts, aligned to a back-off boundary in a beacon-enabled PAN,
where the frame, its acknowledgement wait and IFS must fit in the CAP. A DATA booking that would come too soon after the last
DATA frame of its channel puts it off; one past INDWAIT ends the attempt (R218). A beacon that answers a request is a booking
of class BEACON. DESIGN CHOICE, safe: log 63. -/
def execBackoffEnd (dt pan : Nat) (who : AttemptFor) (s : State) : Host.Outcome State Fault Refusal :=
  command dt (fun s =>
    match s.attempt pan who with
    | none => s
    | some a =>
      match a.phase with
      | .backoff stop =>
        let ch := s.get (LNK_PANn_CFG_CH pan)
        let slotted := s.panBeacons pan
        let t0 := s.boundary pan s.cycles
        let first := if slotted then t0 + 2 * backoffUnit else t0 + ccaCycles + turnaround
        let wait := if a.ar then s.get (LNK_PANn_TIME_ACKWAIT pan) * symCycles else 0
        let fits := match s.activeBeacon pan with
          | some (b, _) => decide (first + airCycles a.mode a.mpdu + wait + ifsCycles a.mpdu ≤ s.activeEnd pan b)
          | none => false
        let missed := match a.deadline with
          | some d => decide (d < first)
          | none => false
        if s.cycles < stop ∨ s.panRuns pan = false ∨ s.mayBook = false ∨ s.startAcked a = false then s
        else if missed then linkSettle (dropAttempt a s)
        else if slotted = true ∧ (s.capOpen pan = false ∨ fits = false) then s
        else if s.channelTaken ch a = true ∨ (a.for_ ≠ .beacon ∧ first < s.gapOf ch) then s
        else
          let id := s.cod.nextId
          let s := book (if a.for_ = .beacon then .beacon else .data) ch a.mode first (s.sigFor a.node) a.mpdu s
          modAttempt a (fun x => { x with phase := .cca (t0 + ccaCycles) id first }) s
      | _ => s) s

/-- Something that has ended on a channel, by the list of its last ends, ended no earlier than an instant. -/
def endedSince (ends : List (Nat × Nat)) (ch start : Nat) : Bool := ends.any (fun e => e.1 == ch && decide (start ≤ e.2))

/-- CS (R207): a lane on the channel is, or was since the start of the window, in a state from EST to FINAL. -/
def State.carrierIn (s : State) (ch start : Nat) : Bool :=
  s.lnp.lanes.any (fun (e : Nat × Lane) => e.2.ch == ch && e.2.busy) || endedSince s.lnp.csEnd ch start

/-- One of the device's own chains is, or was since the start of the window, in steps 2 to 5 of R84 on the channel (R207). -/
def State.ownIn (s : State) (ch start : Nat) : Bool :=
  s.cod.placed.any (fun b => b.req.ch == ch && decide (2 ≤ b.step ∧ b.step < 5)) || endedSince s.cod.ownEnd ch start

/-- A desense interval overlaps the window on the channel (R207). -/
def State.desenseIn (s : State) (ch start : Nat) : Bool := decide (0 < s.desenseOf ch) || endedSince s.lnp.desAll ch start

/-- The channel is busy in the CCA window that ends now (R207). `energy` is the sum of the powers per contributing port in the four
quarters of the window, in units of −180 dBm: ED compares their mean. -/
def State.ccaBusy (s : State) (pan energy : Nat) : Bool :=
  let ch := s.get (LNK_PANn_CFG_CH pan)
  let start := s.cycles - ccaCycles
  let lanes := s.carrierIn ch start
  let chains := s.ownIn ch start
  let desense := s.desenseIn ch start
  let power := decide (4 * ratioOf (100 * s.getInt (LNK_PANn_CSMA_CCATHR pan) + unitBels) < energy)
  let judged := if desense then lanes
    else match s.get (LNK_PANn_CSMA_CCAMODE pan) with
      | 0 => power && lanes
      | 1 => power
      | 2 => lanes
      | _ => power || lanes
  chains || judged

/-- CCA_END (R206, R207): the frame is sent, another CCA follows in a slotted PAN, or the channel is busy. `p0` to `p3` are the mean
powers per contributing port, referred to the ball, in the four quarters of the window. -/
def execCcaEnd (dt pan : Nat) (who : AttemptFor) (p0 p1 p2 p3 : Nat) (s : State) :
    Host.Outcome State Fault Refusal :=
  command dt (fun s =>
    match s.attempt pan who with
    | none => s
    | some a =>
      match a.phase with
      | .cca stop b first =>
        if s.cycles < stop then s
        else if s.ccaBusy pan (p0 + p1 + p2 + p3) = true ∨ s.bookingHolds b = false then
          let s := onlyIf (s.bookingHolds b) (cancel b) s
          linkSettle (channelBusy a s)
        else if s.panBeacons pan = true ∧ 1 < a.cw then
          modAttempt a (fun x => { x with cw := a.cw - 1, phase := .cca (stop + backoffUnit) b first }) s
        else modAttempt a (fun x => { x with phase := .booked b first }) s
      | _ => s) s

/-! ### Outcomes (R174, R202, R206, R209, R211) -/

/-- The outcome of an acknowledgement's booking (R202); an acknowledged POLL with its pending bit set is remembered (R218). -/
def ackOutcome (a : AckBooking) (o : TxOutcome) (s : State) : State :=
  let gone (s : State) : State := modLnk (fun l => { l with acks := l.acks.filter (fun x => x.booking != a.booking) }) s
  match o with
  | .sent =>
    let s := count LNK_CNT_ACKSENT 1 (gone s)
    (match a.poll with
     | some i => modLnk (fun l => { l with polls := l.polls ++ [(i, a.ackEnd, a.pan)] }) s
     | none => s)
  | _ =>
    if a.released then count LNK_CNT_ACKW_TXFAIL 1 (gone s)
    else modLnk (fun l => { l with acks := l.acks.map (fun x =>
      if x.booking = a.booking then { x with failed := true } else x) }) s

/-- The outcome of a beacon's booking (R211). -/
def beaconOutcome (b : BeaconBooking) (o : TxOutcome) (s : State) : State :=
  let s := modLnk (fun l => { l with bookings := l.bookings.filter (fun x => x.booking != b.booking) }) s
  match o with
  | .sent => count LNK_CNT_BCNSENT 1 s
  | _ => beaconMissed b.pan s

/-- An attempt reached step 1 (R338). -/
def countTry (a : Attempt) (s : State) : State :=
  match a.for_ with
  | .down id => modDown id (fun d => { d with tries := d.tries + 1 }) s
  | _ => s

/-- An attempt whose transmission ran dry is a failed transmission under the retransmission rules (R59); the beacon of a
non-beacon PAN has none, and is missed. -/
def attemptUnderran (a : Attempt) (s : State) : State :=
  match a.for_ with
  | .beacon => accessFailed a s
  | _ => attemptUnacked a s

/-- The outcome of an attempt's booking (R59, R206, R209): SENT waits for the acknowledgement asked for, or succeeds; UNDERRUN is a
failed transmission; any other outcome counts as a busy CCA. -/
def attemptOutcome (a : Attempt) (first : Nat) (o : TxOutcome) (s : State) : State :=
  let ch := s.get (LNK_PANn_CFG_CH a.pan)
  let last := first + airCycles a.mode a.mpdu
  match o with
  | .sent =>
    let s := countTry a s
    if a.ar then
      modAttempt a (fun x => { x with
        phase := .ackWait last (last + s.get (LNK_PANn_TIME_ACKWAIT a.pan) * symCycles) }) s
    else
      let s := onlyIf (a.for_ == .beacon) (count LNK_CNT_BCNSENT 1) s
      let s := if a.for_ = .beacon then s else keepGap ch (last + ifsCycles a.mpdu) s
      attemptSucceeded a s
  | .underrun => attemptUnderran a (countTry a s)
  | _ => channelBusy a s

/-- An attempt waits for the outcome of a booking. -/
def Attempt.bookedAs (id : Nat) (a : Attempt) : Bool :=
  match a.phase with
  | .booked b _ => b == id
  | _ => false

/-- TX_OUTCOME (R174): the next outcome reaches the link sequencer. -/
def execTxOutcome (dt : Nat) (s : State) : Host.Outcome State Fault Refusal :=
  command dt (fun s =>
    match s.nextOutcome with
    | none => s
    | some (id, o) =>
      let s := takeOutcome (id, o) s
      match s.lnk.acks.find? (fun a => a.booking == id), s.lnk.bookings.find? (fun b => b.booking == id) with
      | some a, _ => ackOutcome a o s
      | none, some b => beaconOutcome b o s
      | none, none =>
        match s.lnk.attempts.find? (Attempt.bookedAs id) with
        | some a =>
          (match a.phase with
           | .booked _ first => linkSettle (attemptOutcome a first o s)
           | _ => s)
        | none => s) s

/-- The instant a frame's SFD ended, in cycles: after ten symbols. -/
def RxFrame.sfdEnd (f : RxFrame) : Nat := f.start + 10 * symCycles

/-- A source address is the one an attempt sent to, or another address of that node (R209). -/
def State.fromPeer (s : State) (a : Attempt) (src : Addr) : Bool :=
  (parseMhr a.mpdu).any (fun m => m.dst == src)
    || (match a.node with
        | some i =>
          let os := s.nodeRec i
          (match src with
           | .none => false
           | .short v => v == nr os nrSaddr
           | .ext v => v == nr os nrEui)
        | none => false)

/-- The addressing of an Enh-Ack matches an attempt (R209): each field it carries is that of the PAN, or of the node sent to; one it
does not carry says nothing else. DESIGN CHOICE, unsafe: log 198. -/
def State.ackAddressed (s : State) (m : Mhr) (a : Attempt) : Bool :=
  let pan := some (s.get (LNK_PANn_ID_PANID a.pan))
  (m.dst == .none || (s.ownAddress a.pan m.dst && m.dst != Addr.short 0xFFFF)) && (m.dstPan == none || m.dstPan == pan)
    && (m.src == .none || s.fromPeer a m.src) && (m.srcPan == none || m.srcPan == pan)

/-- An acknowledgement answers an attempt (R209): channel, wait, DSN, addressing, no option R191 calls unsupported, and, where
it is secured, Gorse and the counter. -/
def State.ackAnswers (s : State) (f : RxFrame) (m : Mhr) (a : Attempt) : Bool :=
  match a.phase with
  | .ackWait start stop =>
    s.get (LNK_PANn_CFG_CH a.pan) == f.ch && decide (start ≤ f.sfdEnd ∧ f.sfdEnd ≤ stop) && !m.dsnSup && m.dsn == a.dsn
      && !unsupportedControl f.mpdu && !m.counterSup && !m.counter5
      && (m.version != 2 || s.ackAddressed m a)
      && (!m.secured ||
        match a.node with
        | some i =>
          let os := s.nodeRec i
          f.verdict.isSome && f.result == resPass && (nrFlag os fNoctr || decide (nr os nrInctr < m.counter))
        | none => false)
  | _ => false

/-- ACK_MATCH (R209): an acknowledgement frame ends the wait it answers; one that answers none is dropped (R190). -/
def execAckMatch (dt lane : Nat) (s : State) : Host.Outcome State Fault Refusal :=
  command dt (fun s =>
    match s.inbox.find? (fun f => f.lane == lane) with
    | none => s
    | some f =>
      match s.decideFrame f, parseMhr f.mpdu with
      | .ack, none => dropInbox f s
      | .ack, some m =>
        let s := dropInbox f s
        (match s.lnk.attempts.find? (s.ackAnswers f m) with
         | none => s
         | some a =>
           let s := match a.node with
             | some i =>
               if m.secured then heardCounter i m.counter s else s
             | none => s
           let s := keepGap f.ch (f.lastChip + ifsCycles a.mpdu) s
           linkSettle (attemptSucceeded a s))
      | _, _ => s) s

/-- A frame on a channel whose SFD ended by an instant is still being received or read. -/
def State.ackUndecided (s : State) (ch stop : Nat) : Bool :=
  s.inbox.any (fun f => f.ch == ch && decide (f.sfdEnd ≤ stop)) ||
    (s.lanesOn ch).any (fun (e : Nat × Lane) => e.2.sfd && e.2.st != .report &&
      decide ((s.cycles - stop : Int) ≤ ((s.ts : Int) - (e.2.sfdts : Int))))

/-- An attempt's wait for its acknowledgement has passed, and no frame that began within it is undecided.
DESIGN CHOICE, safe: log 62. -/
def State.ackWaitOver (s : State) (a : Attempt) : Bool :=
  match a.phase with
  | .ackWait _ stop => decide (stop ≤ s.cycles) && !s.ackUndecided (s.get (LNK_PANn_CFG_CH a.pan)) stop
  | _ => false

/-- ACK_WAIT_END (R209): the first wait that has passed without a match, once no frame that began within it is undecided. -/
def execAckWaitEnd (dt : Nat) (s : State) : Host.Outcome State Fault Refusal :=
  command dt (fun s =>
    match s.lnk.attempts.find? s.ackWaitOver with
    | none => s
    | some a =>
      let s := match a.phase with
        | .ackWait _ stop => keepGap (s.get (LNK_PANn_CFG_CH a.pan)) (stop + ifsCycles a.mpdu) s
        | _ => s
      linkSettle (attemptUnacked a s)) s

/-! ### Indirect transmission (R217 to R219) -/

/-- The empty answer to a POLL (R218): a data frame with no payload and frame pending 0. -/
def sendEmpty (i pan deadline : Nat) (s : State) : State :=
  let os := s.nodeRec i
  let dst : Addr := if nrFlag os fSaddrv then .short (nr os nrSaddr) else .ext (nr os nrEui)
  let dsn := (s.get (LNK_PANn_STAT_DSN pan) + 1) % 256
  let mpdu := dataHeader tyData false false false false false dsn (s.get (LNK_PANn_ID_PANID pan)) dst (s.coordAddr pan false) []
  startAttempt (.empty i) pan (nrMode os) mpdu dsn false (some i) (some deadline) 0 (s.set (LNK_PANn_STAT_DSN pan) dsn)

/-- A held frame as it is sent (R218, R247): at its first send its frame pending bit is 1 where further frames remain held; a
resend is octet for octet the same frame. -/
def State.heldSend (s : State) (d : Down) (more : Bool) : Down :=
  if 0 < d.tries then d
  else
    let d' := { d with plain := setPendingBit more d.plain }
    match s.seal d' with
    | some os => { d' with mpdu := os }
    | none => d

/-- INDIRECT_SEND (R218): after the acknowledgement of a node's POLL, its first held frame is booked with CSMA-CA. While another
frame of its queue is in flight, or its hold is not acknowledged yet, the POLL stands, until INDWAIT has passed.
DEDUCED, unsafe: log 59. -/
def execIndirectSend (dt node : Nat) (s : State) : Host.Outcome State Fault Refusal :=
  command dt (fun s =>
    match s.lnk.polls.find? (fun e => e.1 == node) with
    | none => s
    | some e =>
      let stop := e.2.1
      let pan := e.2.2
      if s.cycles < stop then s
      else
        let deadline := stop + s.get (LNK_PANn_TIME_INDWAIT pan) * 16 * symCycles
        let s := modLnk (fun l => { l with polls := l.polls.erase e }) s
        match s.heldFor node with
        | [] => if nrUsed (s.nodeRec node) then sendEmpty node pan deadline s else s
        | d :: more =>
          if (s.attemptOf d.id).isSome ∨ (s.inFlight d.queue).isSome ∨ d.ciOwed.isSome = true then
            onlyIf (decide (s.cycles < deadline)) (modLnk (fun l => { l with polls := e :: l.polls })) s
          else
            let d' := s.heldSend d (!more.isEmpty)
            startDown d' (some deadline) 0 (modDown d.id (fun _ => d') s)) s

/-- HELD_EXPIRY (R219): every held frame past PERSIST completes EXPIRED, but one whose attempt has reached step 1. -/
def execHeldExpiry (dt : Nat) (s : State) : Host.Outcome State Fault Refusal :=
  command dt (fun s =>
    let old := s.lnk.down.filter (fun d =>
      d.held && s.passed d.heldFrom (s.get (LNK_PANn_TIME_PERSIST d.pan) * 960 * symCycles))
    linkSettle (forEach old (fun d t => endHeld d stExpired t) s)) s

/-- The held frames of a node whose record is retired complete NO_NODE (R282). -/
def dropHeld (i : Nat) (s : State) : State := linkSettle (forEach (s.heldFor i) (fun d t => endHeld d stNoNode t) s)

/-! ### Beacons (R210 to R216) -/

/-- The Weavan beacon payload (R213). -/
def State.beaconPayload (s : State) (pan : Nat) : Octets :=
  let on := bitAt (s.get LNK_ADM_PAN_PANS) pan
  let m := if on then s.get LNK_ADM_M else 0
  let index := if on then s.get LNK_ADM_INDEX else 0
  let mode := s.mode
  le 1 0x57 ++ le 1 (1 + 16 * flag (mode == .primary) + 32 * flag (mode == .holdover) + 64 * flag (decide (0 < m)))
    ++ le 4 (m + 32 * index)

/-- The nodes a beacon lists: up to seven of the PAN's pending ring. -/
def State.listed (s : State) (pan : Nat) : List Nat :=
  if s.panBeacons pan then ((s.lnk.ring.filter (fun e => e.1 == pan)).map (·.2)).take 7 else []

/-- A beacon (R212, R216). DEDUCED, unsafe: log 64. -/
def State.beaconMpdu (s : State) (pan : Nat) : Octets :=
  let src := s.coordAddr pan false
  let fc := 16384 * addrMode src
  let bo := s.get (LNK_PANn_CFG_BO pan)
  let so := if s.panBeacons pan then s.get (LNK_PANn_CFG_SO pan) else 15
  let spec := bo + 16 * so + 256 * 15 + 2 ^ 14 + 2 ^ 15 * flag (bitAt (s.get LNK_CTRL_ASSOC) pan)
  let nodes := s.listed pan
  let short := nodes.filter (fun i => nrFlag (s.nodeRec i) fSaddrv)
  let ext := nodes.filter (fun i => !nrFlag (s.nodeRec i) fSaddrv)
  le 2 fc ++ le 1 (s.get (LNK_PANn_STAT_BSN pan) + 1) ++ le 2 (s.get (LNK_PANn_ID_PANID pan)) ++ addrOctets src ++ le 2 spec
    ++ le 1 0 ++ le 1 (short.length + 16 * ext.length) ++ short.flatMap (fun i => le 2 (nr (s.nodeRec i) nrSaddr))
    ++ ext.flatMap (fun i => le 8 (nr (s.nodeRec i) nrEui)) ++ s.beaconPayload pan

/-- The nodes listed move to the end of the ring (R212). -/
def rotateRing (nodes : List Nat) (s : State) : State :=
  modLnk (fun l => { l with
    ring := l.ring.filter (fun e => !nodes.elem e.2) ++ l.ring.filter (fun e => nodes.elem e.2) }) s

/-- The first chips of a PAN's last beacon and of those booked and not sent yet (R211). -/
def State.beaconTimes (s : State) (pan : Nat) : List Nat :=
  ((s.lnk.lastBeacon.filter (fun e => e.1 == pan)).map (·.2)) ++ ((s.lnk.bookings.filter (fun b => b.pan == pan)).map (·.first))

/-- BEACON_BOOKING (R210, R211): 2 ms before its next instant a PAN's beacon is booked; a beacon less than an interval minus 1 ms
after the last, sent or booked, is not sent. In STANDBY a chain is tuned to the beacon's channel instead (R376). -/
def execBeaconBooking (dt pan : Nat) (s : State) : Host.Outcome State Fault Refusal :=
  command dt (fun s =>
    let t := s.nextInstant pan
    if s.panRuns pan = false ∨ s.panBeacons pan = false ∨ s.ts + bookAhead < t ∨ 16 ≤ pan then s
    else if s.mode = .standby then holdChannel (s.get (LNK_PANn_CFG_CH pan)) s
    else if s.mayBook = false then s
    else
      let s := modLnk (fun l => { l with handled := (pan, t) :: l.handled.filter (fun e => e.1 != pan) }) s
      let first := s.cycles + (t - s.ts)
      if (s.beaconTimes pan).any (fun c => decide (first < c + s.beaconInterval pan - msCycles)) then s
      else
        let id := s.cod.nextId
        let nodes := s.listed pan
        let s := book .beacon (s.get (LNK_PANn_CFG_CH pan)) 0 first none (s.beaconMpdu pan) s
        rotateRing nodes (modLnk (fun l => { l with
          bookings := l.bookings ++ [{ pan := pan, booking := id, instant := t, first := first }] }) s)) s

/-- Start the channel access of a non-beacon PAN's beacon (R216); an answer still pending is not begun again. -/
def answerBeacon (pan : Nat) (s : State) : State :=
  if (s.attempt pan .beacon).isSome then s
  else startAttempt .beacon pan 0 (s.beaconMpdu pan) ((s.get (LNK_PANn_STAT_BSN pan) + 1) % 256) false none none 0 s

/-- BCNREQ_BEACON (R216): a non-beacon PAN that was asked for a beacon starts its channel access. -/
def execBcnreqBeacon (dt pan : Nat) (s : State) : Host.Outcome State Fault Refusal :=
  command dt (fun s =>
    if s.lnk.bcnreqs.elem pan ∧ s.mayBook = true then
      let s := modLnk (fun l => { l with bcnreqs := l.bcnreqs.filter (· != pan) }) s
      if s.panRuns pan = true ∧ s.panBeacons pan = false then answerBeacon pan s else s
    else s) s

/-- ACTIVE_PERIOD_END (R215). -/
def execActivePeriodEnd (dt pan : Nat) (s : State) : Host.Outcome State Fault Refusal :=
  command dt (fun s =>
    match s.activeBeacon pan with
    | some (first, _) =>
      if s.activeEnd pan first ≤ s.cycles then
        modLnk (fun l => { l with beacons := l.beacons.filter (fun e => e.1 != pan) }) s
      else s
    | none => s) s

/-- The PAN whose beacon a booking is. -/
def State.beaconPan (s : State) (id : Nat) : Option Nat :=
  match s.lnk.bookings.find? (fun b => b.booking == id) with
  | some b => some b.pan
  | none =>
    (s.lnk.attempts.find? (fun a => a.for_ == .beacon && a.bookedAs id)).map (fun a => a.pan)

/-- The BEACON record (R367). -/
def beaconRecord (pan bsn ts : Nat) : Octets := record 0x0D [(1, le 1 pan), (5, le 1 bsn), (12, le 8 ts)]

/-- The first chip of a beacon (R212, R215, R226, R367). -/
def beaconStarts (b : Booking) (pan : Nat) (s : State) : State :=
  let bsn := (s.get (LNK_PANn_STAT_BSN pan) + 1) % 256
  let s := (s.set (LNK_PANn_STAT_BSN pan) bsn).set (LNK_PANn_BCNTS_TS32 pan) s.ts32
  let s := modLnk (fun l => { l with
    beacons := if s.panBeacons pan then (pan, s.cycles, b.e) :: l.beacons.filter (fun e => e.1 != pan) else l.beacons,
    lastBeacon := (pan, s.cycles) :: l.lastBeacon.filter (fun e => e.1 != pan) }) s
  emit 0x2C0 0 (mirror (beaconRecord pan bsn s.ts) s)

/-- TX_START (R84 step 3, R176): the first chip is sent and the detector compares the level (R80), `diff` in 0.01 dB. -/
def execTxStart (dt chain : Nat) (diff : Int) (s : State) : Host.Outcome State Fault Refusal :=
  command dt (fun s =>
    match s.airOf chain with
    | none => s
    | some b =>
      if b.step = 2 ∧ b.req.first ≤ s.cycles then
        let id := b.req.id
        let s := modBooking id (fun x => { x with step := 3 }) s
        let s := emit 0x344 0 s
        let s := match s.beaconPan id with
          | some pan => beaconStarts b pan s
          | none => s
        let s := modLnk (fun l => { l with down := l.down.map (fun d =>
          if l.attempts.any (fun a => a.for_ == .down d.id && a.bookedAs id) then { d with firstChip := s.ts } else d) }) s
        detectorCheck chain diff s
      else s) s

/-! ### Registers of the link sequencer (R188, R214, R469) -/

/-- A PANRUN bit cleared (R188): the PAN's bookings that have not reached step 1 are cancelled; its attempts go back to their
back-off and wait. DEDUCED, unsafe: log 60. -/
def panStops (pan : Nat) (s : State) : State :=
  let s := forEach (s.lnk.acks.filter (fun a => a.pan == pan && !a.failed && !s.pastStep1 a.booking))
    (fun a t => cancel a.booking t) s
  let s := forEach (s.lnk.bookings.filter (fun b => b.pan == pan && !s.pastStep1 b.booking)) (fun b t => cancel b.booking t) s
  let s := modLnk (fun l => { l with handled := l.handled.filter (fun e => e.1 != pan) }) s
  forEach (s.lnk.attempts.filter (fun a => a.pan == pan)) (fun a t =>
    match a.phase with
    | .cca _ b _ => modAttempt a (fun x => { x with phase := .backoff t.cycles, cw := 2 }) (cancel b t)
    | .booked b _ =>
      if t.stoppable a then modAttempt a (fun x => { x with phase := .backoff t.cycles, cw := 2 }) (cancel b t) else t
    | _ => t) s

/-- The effect of a write of `LNK_CTRL`. -/
def panrunWrite (old : Word) (s : State) : State :=
  let was := old.toNat % 2 ^ 16
  let stopped := (List.range 16).filter (fun n => bitAt was n && !bitAt (s.get LNK_CTRL_PANRUN) n)
  let s := forEach stopped panStops s
  onlyIf (s.word 0x200B0000 != old) (mirrorReg 0x200B0000) s

/-- A software write to a register that REG mirrors is ignored in STANDBY (R370). -/
def writeMirrored (acc : Access) (a : Nat) (w : Word) (action : Word → State → State) (s : State) : State :=
  access acc a (some w) (fun t =>
    if t.mode = .standby then t else action (t.word a) (plainWrite a w t)) s

/-- PANRUN_WRITE (R188). -/
def execPanrunWrite (dt : Nat) (acc : Access) (w : Word) (s : State) : Host.Outcome State Fault Refusal :=
  command dt (writeMirrored acc 0x200B0000 w panrunWrite) s

/-- The instant's own step of the pacer has no effect beside a write at the same instant (R469), but for what it wrote to `LNK_ADM`. -/
def stepUndone (s : State) : State :=
  match s.cfg.paced with
  | some (c, _, done) =>
    if c = s.cycles then
      (modCfg (fun x => { x with paced := none }) s).set CFG_PACECTL_ACTIVE 1 |>.set CFG_INT_STAT_PACEDONE (flag done)
    else s
  | none => s

/-- `LNK_ADM` keeps the value it had before a step of the pacer at this instant (R469). -/
def keepAdm (s : State) : State :=
  match s.cfg.paced with
  | some (c, w, _) => if c = s.cycles then changeMirrored admAddr (State.setWord admAddr w) s else s
  | none => s

/-- The pacer stops (R469). -/
def pacerStop (s : State) : State :=
  let s := stepUndone s
  if s.is CFG_PACECTL_ACTIVE then raise CFG_INT_STAT_PACESTOP (s.set CFG_PACECTL_ACTIVE 0) else s

/-- The effect of a write of `LNK_ADM` (R214, R469). -/
def admWrite (old : Word) (s : State) : State :=
  let s := onlyIf (decide (18 < s.get LNK_ADM_M)) (fun t => t.set LNK_ADM_M 18) s
  let s := pacerStop s
  onlyIf (s.word admAddr != old) (mirrorReg admAddr) s

/-- ADM_WRITE (R214, R469). -/
def execAdmWrite (dt : Nat) (acc : Access) (w : Word) (s : State) : Host.Outcome State Fault Refusal :=
  command dt (writeMirrored acc admAddr w admWrite) s

/-- INDEX goes up by one modulo 2^M (R214). DEDUCED, unsafe: log 69. -/
def admAdvance (s : State) : State :=
  changeMirrored admAddr (fun t => t.set LNK_ADM_INDEX ((t.get LNK_ADM_INDEX + 1) % 2 ^ t.get LNK_ADM_M)) s

/-- ADM_NEXT (R214). -/
def execAdmNext (dt : Nat) (s : State) : Host.Outcome State Fault Refusal :=
  command dt (fun s => if s.taskQueued 0x2C1 then endTask 0x2C1 (admAdvance s) else s) s

end Sys2Proof.Machine
end

