-- ==== Sys2Proof/Machine/Commands.lean ====
section
/-!
DEFINITION. The commands of the context store (R282 to R285): what ends each one, what each does to the record, the index
reset record it may wait for, and its report.
-/

namespace Sys2Proof.Machine

/-- The result codes of R285. -/
def ctxOk : Nat := 0
def ctxBadarg : Nat := 1
def ctxInuse : Nat := 2
def ctxDupeui : Nat := 3
def ctxEuifull : Nat := 4
def ctxNoaddr : Nat := 5
def ctxNotfound : Nat := 6
def ctxDenied : Nat := 7
def ctxEcc : Nat := 8

/-- An operation that reads the staging buffer. -/
def opTakesBuffer (op : Nat) : Bool := op == opCreate || op == opRestore || op == opUpdate || op == opRekey

/-- A register of channel A, or the one of channel B at the same place. -/
def chanFld (ch : Nat) (f : Fld) : Fld := { f with addr := f.addr + 0x20 * ch }

/-! ### What a command would end with -/

/-- The addresses that are never bound (R265). -/
def State.unbindable (s : State) (pan a : Nat) : Bool := a == 0xFFFE || a == 0xFFFF || a == s.get (LNK_PANn_ID_SADDR pan)

/-- A short address is free (R284). DEDUCED, unsafe: log 78. -/
def State.addrFree (s : State) (pan a : Nat) : Bool :=
  let e := s.mapEntry pan a
  !bitAt e 31 && !bitAt e 30

/-- The lowest free short address of a PAN's range (R284). -/
def State.allocAddr (s : State) (pan : Nat) : Option Nat :=
  let lo := s.get (CTX_SARn_MIN pan)
  ((List.range (s.get (CTX_SARn_MAX pan) + 1 - lo)).map (· + lo)).find? (fun a => !s.unbindable pan a && s.addrFree pan a)

/-- The result of CREATE or RESTORE. -/
def State.createVerdict (s : State) (c : CtxCmd) : Nat :=
  let pan := nr c.buf nrPan
  let a := nr c.buf nrSaddr
  let bind := nrFlag c.buf fSaddrv
  let entries := s.euiEntries (nr c.buf nrEui)
  let revived := (s.cmdIndex c).2
  let own := s.nodeRec c.node
  if 16 ≤ pan then ctxBadarg
  else if bind && s.unbindable pan a then ctxBadarg
  else if entries.any (fun (e : Nat × Bool) => !e.2) then ctxDupeui
  else if c.op = opRestore ∧ (s.retiredOf (nr c.buf nrEui) pan).isSome then ctxDupeui
  else if !revived && (nrFlag own fValid || nrFlag own fRetired) then ctxInuse
  else if bind && !s.addrFree pan a then ctxInuse
  else if !revived && (s.euiHome (nr c.buf nrEui)).isNone then ctxEuifull
  else ctxOk

/-- A record that neither a context nor the write-back buffer holds cannot be read (R399, R405). -/
def State.recUnread (s : State) (i : Nat) : Bool :=
  (s.hotOf i).isNone && (s.wbOf i).isNone && (s.memGet (s.nodeAddr i) 256).isNone

/-- The map entry of an address cannot be read. -/
def State.mapUnread (s : State) (pan a : Nat) : Bool := (s.memGet (s.mapAddr pan a) 4).isNone

/-- What a command reads beside its staging buffer meets an uncorrectable error, or READ's buffer takes no write (R285, R399). -/
def State.cmdUnread (s : State) (c : CtxCmd) : Bool :=
  let make := c.op == opCreate || c.op == opRestore
  let b := euiBuckets (nr c.buf nrEui)
  let range := (List.range (s.get (CTX_SARn_MAX c.pan) + 1 - s.get (CTX_SARn_MIN c.pan))).map (· + s.get (CTX_SARn_MIN c.pan))
  s.recUnread c.node
    || (c.op == opRead && !s.engineMayPut 1 c.staging blankRecord)
    || (make && (s.memGet (s.bucketAddr b.1) 64).isNone) || (make && (s.memGet (s.bucketAddr b.2) 64).isNone)
    || (make && nrFlag c.buf fSaddrv && decide (nr c.buf nrPan < 16) && s.mapUnread (nr c.buf nrPan) (nr c.buf nrSaddr))
    || (c.op == opBind && s.mapUnread c.pan c.saddr)
    || (c.op == opAlloc && ((range.find? (fun a => s.mapUnread c.pan a || s.addrFree c.pan a)).any (s.mapUnread c.pan)))

/-- The result a command ends with, before its index reset record (R285). DEDUCED, unsafe: log 76. -/
def State.cmdVerdict (s : State) (c : CtxCmd) : Nat :=
  let os := s.nodeRec c.node
  let used := nrFlag os fValid
  if c.ecc || s.cmdUnread c then ctxEcc
  else if c.op = opRead then ctxOk
  else if c.op = opCreate ∨ c.op = opRestore then s.createVerdict c
  else if c.op = opPurge then (if nrFlag os fRetired then ctxOk else ctxNotfound)
  else if !used then ctxNotfound
  else if c.op = opUpdate then
    if bitAt c.mask 4 && (decide (16 ≤ nr c.buf nrPan) || !s.panConfigured (nr c.buf nrPan)) then ctxBadarg else ctxOk
  else if c.op = opRekey ∨ c.op = opRetire then ctxOk
  else if c.pan ≠ nr os nrPan then ctxBadarg
  else if c.op = opAlloc then (if (s.allocAddr c.pan).isSome then ctxOk else ctxNoaddr)
  else if c.op = opBind then
    if s.unbindable c.pan c.saddr then ctxBadarg else if s.addrFree c.pan c.saddr then ctxOk else ctxInuse
  else ctxOk

/-- A command writes an index reset record (R279). -/
def State.cmdResets (s : State) (c : CtxCmd) : Bool :=
  (c.op == opCreate && !(s.cmdIndex c).2) || c.op == opRekey || c.op == opPurge

/-! ### The effects (R282) -/

/-- The S fields of a record come from another (R263). -/
def takeSoftware (buf os : Octets) : Octets :=
  let flags := nr os nrFlags
  let theirs := nr buf nrFlags
  let keep := flags % 2 ^ 24 - flag (bitAt flags fPinned) * 2 ^ fPinned
  let os := nrSet nrFlags (keep + flag (bitAt theirs fPinned) * 2 ^ fPinned + theirs / 2 ^ 24 * 2 ^ 24) os
  let os := nrSet nrSaddr (nr buf nrSaddr) (nrSet nrEui (nr buf nrEui) os)
  let os := nrSet nrPan (nr buf nrPan) (nrPut nrWrap (nrOctets buf nrWrap) os)
  let os := nrSet nrKidx (nr buf nrKidx) (nrSet nrKind (nr buf nrKind) os)
  nrPut nrSw (nrOctets buf nrSw) (nrPut nrNexthop (nrOctets buf nrNexthop) os)

/-- A record is in use, and its short address bound where the buffer says so. -/
def validate (bound : Bool) (os : Octets) : Octets :=
  nrSetFlag fSaddrv bound (nrSetFlag fRetired false (nrSetFlag fValid true os))

/-- The key slot of a hot record is written again. -/
def rekeySlot (i : Nat) (s : State) : State :=
  match s.hotOf i with
  | some (n, h) => slotPrepare n h.os s
  | none => s

/-- The map entry of a record made or revived. -/
def bindBuffer (i : Nat) (buf : Octets) (s : State) : State :=
  if nrFlag buf fSaddrv then setMapEntry (nr buf nrPan) (nr buf nrSaddr) (boundEntry i) s else s

/-- CREATE: a new record, or a retired one revived. -/
def applyCreate (c : CtxCmd) (s : State) : State :=
  let bound := nrFlag c.buf fSaddrv
  let (i, revived) := s.cmdIndex c
  let eui := nr c.buf nrEui
  if revived then
    let s := updateNode i (fun os => validate bound (takeSoftware c.buf os)) s
    rekeySlot i (repin i (euiRevive eui i (bindBuffer i c.buf s)))
  else
    let s := updateNode i (fun _ => validate bound (nrSetFlag fNoctr true (takeSoftware c.buf blankRecord))) s
    euiInsert eui i (bindBuffer i c.buf s)

/-- The bits of NR.FLAGS that hardware owns (R263). -/
def hardFlags : Nat := 0x37FF

/-- The record of RESTORE: the buffer's S and H fields; NR.PEND, NR.FLOW and what R263 fixes at 0 are 0. -/
def restored (buf : Octets) : Octets :=
  let os := takeSoftware buf blankRecord
  let os := nrSet nrFlags ((nr os nrFlags ||| (nr buf nrFlags &&& hardFlags))) os
  let os := nrSet nrReserved (nr buf nrReserved % 2 ^ 21) os
  let os := [nrInctr, nrNext, nrLastseq, nrLqiLast, nrLqiRssi, nrLqiAvg, nrLastheard].foldl (fun o f => nrSet f (nr buf f) o) os
  nrPut nrSig (nrOctets buf nrSig) os

/-- RESTORE: the buffer's record, overlaid from the journal (R280). -/
def applyRestore (c : CtxCmd) (s : State) : State :=
  let bound := nrFlag c.buf fSaddrv
  let entry := leNat (s.memOr0 (s.recoveryAddr c.node) 8)
  let s := updateNode c.node (fun _ => validate bound (overlay entry (restored (padTo 256 (c.buf.take 256))))) s
  euiInsert (nr c.buf nrEui) c.node (bindBuffer c.node c.buf s)

/-- The fields that UPDATE's mask selects. -/
def updateFields (mask : Nat) (buf os : Octets) : Octets :=
  let os := if bitAt mask 0 then nrPut nrNexthop (nrOctets buf nrNexthop) os else os
  let os := if bitAt mask 1 then nrPut nrSw (nrOctets buf nrSw) os else os
  let os := if bitAt mask 2 then nrSet nrFlags (nr os nrFlags % 2 ^ 24 + nr buf nrFlags / 2 ^ 24 * 2 ^ 24) os else os
  if bitAt mask 3 then nrSetFlag fPinned (nrFlag buf fPinned) os else os

/-- UPDATE; a move to another PAN unbinds the address and evicts the context (R284). -/
def applyUpdate (c : CtxCmd) (s : State) : State :=
  let s := repin c.node (updateNode c.node (updateFields c.mask c.buf) s)
  let pan := nr c.buf nrPan
  if bitAt c.mask 4 && pan != nr (s.nodeRec c.node) nrPan then
    let s := updateNode c.node (nrSet nrPan pan) (unbindNode c.node s)
    (match s.hotOf c.node with
     | some (n, _) => evict n s
     | none => s)
  else s

/-- REKEY: a new key reference; both counters start again. DEDUCED, unsafe: log 79. -/
def applyRekey (c : CtxCmd) (s : State) : State :=
  let s := updateNode c.node (fun os =>
    let os := nrSet nrKidx (nr c.buf nrKidx) (nrSet nrKind (nr c.buf nrKind) (nrPut nrWrap (nrOctets c.buf nrWrap) os))
    restartSpace (nrSetFlag fCtrendsent false (nrSetFlag fNoctr true (nrSet nrInctr 0 os)))) s
  let s := modSec (fun g => { g with resvs := g.resvs.filter (fun r => r.group || r.id != c.node) }) s
  rekeySlot c.node s

/-- RETIRE. -/
def applyRetire (c : CtxCmd) (s : State) : State :=
  let s := unbindNode c.node s
  let s := updateNode c.node (fun os => nrSetFlag fValid false (nrSetFlag fRetired true os)) s
  let s := euiRetire (nr (s.nodeRec c.node) nrEui) c.node s
  let s := match s.hotOf c.node with
    | some (n, _) => eraseSlot n s
    | none => s
  dropHeld c.node s

/-- PURGE. -/
def applyPurge (c : CtxCmd) (s : State) : State :=
  let s := euiRemove (nr (s.nodeRec c.node) nrEui) c.node s
  let s := match s.hotOf c.node with
    | some (n, _) => eraseSlot n s
    | none => s
  let s := modCtx (fun x => { x with
    hot := x.hot.filter (fun (h : Nat × Hot) => h.2.node != c.node),
    wb := x.wb.filter (fun (e : Nat × Octets × Bool × Nat) => e.1 != c.node),
    swpins := x.swpins.filter (· != c.node) }) s
  enginePut 1 (s.nodeAddr c.node) blankRecord s

/-- The effect of a command that ends OK. -/
def applyCommand (c : CtxCmd) (s : State) : State :=
  match c.op with
  | 0 => enginePut 1 c.staging (s.visibleRec c.node) s
  | 1 => applyCreate c s
  | 2 => applyRestore c s
  | 3 => applyUpdate c s
  | 4 => applyRekey c s
  | 5 => applyRetire c s
  | 6 => applyPurge c s
  | 7 => bindNode c.node c.pan ((s.allocAddr c.pan).getD 0) s
  | 8 => bindNode c.node c.pan c.saddr s
  | 9 => unbindNode c.node s
  | _ => s

/-! ### The course of a command -/

/-- Change a channel's command. -/
def modCmd (ch : Nat) (f : CtxCmd → CtxCmd) (s : State) : State :=
  modCtx (fun x => { x with cmds := x.cmds.map (fun c => if c.chan = ch then f c else c) }) s

/-- A command has its result. -/
def cmdResult (c : CtxCmd) (r : Nat) (s : State) : State :=
  let s := onlyIf (r == ctxEuifull) (raise CTX_INT_STAT_EUIFULL) s
  modCmd c.chan (fun c => { c with result := some r }) s

/-- A command is applied and ends OK. -/
def cmdApply (c : CtxCmd) (s : State) : State :=
  let (i, revived) := s.cmdIndex c
  let a := if c.op = opAlloc then (s.allocAddr c.pan).getD 0 else c.outAddr
  let s := applyCommand c s
  modCmd c.chan (fun c => { c with result := some ctxOk, revived := revived, outNode := i, outAddr := a }) s

/-- The first command in the order of GO that has no result goes on as far as it can: it waits for the acknowledgement of
its CTXCMD record (R367), then for its index reset record (R282). -/
def cmdStep (s : State) : State :=
  match s.ctx.cmds.find? (fun c => c.result.isNone) with
  | none => s
  | some c =>
    if !s.ackedM c.gate then s
    else
      match c.ticket with
      | some t => if s.jnlRefused t then cmdResult c ctxDenied s else if s.jnlDurable t then cmdApply c s else s
      | none =>
        let r := s.cmdVerdict c
        if r ≠ ctxOk then cmdResult c r s
        else if s.cmdResets c then
          let t := s.jnl.nextTicket
          jnlOffer recIreset c.node (modCmd c.chan (fun c => { c with ticket := some t }) s)
        else cmdApply c s

/-- Commands go on, at most one on each channel. -/
def cmdAdvance (s : State) : State := cmdStep (cmdStep s)

/-- What the memories see of a command's reads (R285, R399, R405): the staging buffer, or the record where it stands in DRAM alone. An
error that `ecc` tells of stands in the first word read. DESIGN CHOICE, safe: log 195. -/
def cmdReads (op node staging : Nat) (ecc : Bool) (s : State) : State :=
  if opTakesBuffer op then engineReads 1 staging 256 (onlyIf ecc (spoil staging) s)
  else
    let s := onlyIf (op == opRead && (s.locate staging 256).isNone) (refuseEngine staging 256) s
    let s := onlyIf ecc (spoil (s.nodeAddr node)) s
    if (s.hotOf node).isSome || (s.wbOf node).isSome then s else engineReads 1 (s.nodeAddr node) 256 s

/-- GO captures the command, in the order of GO, A before B on a tie; it takes effect from then on (CMD_DONE). OP above 9 ends
BADARG, a table that is not READY or mode STANDBY ends it DENIED (R285). DEDUCED, unsafe: log 77. -/
def cmdStart (ch : Nat) (ecc : Bool) (s : State) : State :=
  let op := s.get (chanFld ch CTX_CMDA_OP)
  let node := s.get (chanFld ch CTX_CMDA_INDEX)
  let staging := s.get (chanFld ch CTX_STGA_HI_ADDR) * 2 ^ 32 + s.get (chanFld ch CTX_STGA_LO_ADDR) * 2 ^ 8
  let buf := s.memGet staging 256
  let early :=
    if 9 < op then some ctxBadarg
    else if s.get CTX_STAT_TABLE ≠ tableReady ∨ (s.mode = .standby ∧ op ≠ opRead) then some ctxDenied
    else none
  let s := onlyIf early.isNone (cmdReads op node staging ecc) s
  let ecc := ecc || (opTakesBuffer op && buf.isNone)
  let goes := early.isNone && !ecc && s.mirrors
  let gate := if goes then s.gate else none
  let arg := (s.word (chanFld ch CTX_ARGA_SADDR).addr).toNat
  let x := s.stl.xseq
  let s := onlyIf (goes && opTakesBuffer op) (mirrorBulk 3 (buf.getD [])) s
  let s := onlyIf goes
    (mirror (record 0x09 [(1, le 1 op), (2, le 3 node), (8, le 4 arg), (20, le 4 (if opTakesBuffer op then x else 0))])) s
  let c : CtxCmd :=
    { chan := ch, op := op, node := node, saddr := arg % 2 ^ 16, pan := arg / 2 ^ 16 % 16, mask := arg / 2 ^ 20 % 32,
      staging := staging, buf := buf.getD [], ecc := ecc, gate := gate, ticket := none, result := early, revived := false,
      outNode := node, outAddr := 0, since := s.cycles }
  let s := s.set (chanFld ch CTX_RESA_BUSY) 1
  let after (d : CtxCmd) : Bool := ch == 0 && d.since == s.cycles && d.result.isNone && d.ticket.isNone
  modCtx (fun t => { t with cmds := t.cmds.filter (fun d => !after d) ++ [c] ++ t.cmds.filter after }) s

/-- The address of a channel's `CTX_CMDx`. -/
def cmdAddr (ch : Nat) : Nat := 0x200A0100 + 0x20 * ch

/-- A write of `CTX_CMDx`: ignored and counted while BUSY is 1 (R285); GO starts the command. -/
def cmdWrite (acc : Access) (ch : Nat) (w : Word) (ecc : Bool) (s : State) : State :=
  access acc (cmdAddr ch) (some w) (fun t =>
    if t.is (chanFld ch CTX_RESA_BUSY) then count CTX_CNT_CMDREJ 1 t
    else
      let t := plainWrite (cmdAddr ch) w t
      if wrote w CTX_CMDA_GO then cmdStart ch ecc t else t) s

/-- The report of a command (R285). -/
def cmdReport (c : CtxCmd) (r : Nat) (s : State) : State :=
  let ch := c.chan
  let s := modCtx (fun x => { x with cmds := x.cmds.filter (fun d => d.chan != ch) }) s
  let s := (s.set (chanFld ch CTX_RESA_RESULT) r).set (chanFld ch CTX_RESA_REVIVED) (flag c.revived)
  let s := (s.set (chanFld ch CTX_RESA_INDEX) c.outNode).set (chanFld ch CTX_RESA_BUSY) 0
  let s := s.set (chanFld ch CTX_CMDA_GO) 0
  let s := onlyIf (c.op == opAlloc && r == ctxOk) (State.set (chanFld ch CTX_RESVALA_SADDR) c.outAddr) s
  let s := if ch = 0 then raise CTX_INT_STAT_CMDA s else raise CTX_INT_STAT_CMDB s
  emit 0x280 0 (count CTX_CNT_CMD 1 s)

/-- CMD_DONE (R285): the first command in the order of GO that has its result ends. -/
def execCmdDone (dt : Nat) (s : State) : Host.Outcome State Fault Refusal :=
  command dt (fun s =>
    let s := cmdAdvance s
    match s.ctx.cmds.find? (fun c => c.result.isSome) with
    | some c => cmdReport c (c.result.getD 0) s
    | none => s) s

/-- CTX_READ (R282): a write of `CTX_CMDx` with OP 0; `ch` is 0 for A and 1 for B, `ecc` says that an uncorrectable error is
met. -/
def execCtxRead (dt : Nat) (acc : Access) (ch : Nat) (w : Word) (ecc : Bool) (s : State) : Host.Outcome State Fault Refusal :=
  command dt (cmdWrite acc (ch % 2) w ecc) s

/-- CTX_CREATE (R282): OP 1. -/
def execCtxCreate (dt : Nat) (acc : Access) (ch : Nat) (w : Word) (ecc : Bool) (s : State) : Host.Outcome State Fault Refusal :=
  command dt (cmdWrite acc (ch % 2) w ecc) s

/-- CTX_RESTORE (R282): OP 2. -/
def execCtxRestore (dt : Nat) (acc : Access) (ch : Nat) (w : Word) (ecc : Bool) (s : State) : Host.Outcome State Fault Refusal :=
  command dt (cmdWrite acc (ch % 2) w ecc) s

/-- CTX_UPDATE (R282): OP 3. -/
def execCtxUpdate (dt : Nat) (acc : Access) (ch : Nat) (w : Word) (ecc : Bool) (s : State) : Host.Outcome State Fault Refusal :=
  command dt (cmdWrite acc (ch % 2) w ecc) s

/-- CTX_REKEY (R245, R282): OP 4. -/
def execCtxRekey (dt : Nat) (acc : Access) (ch : Nat) (w : Word) (ecc : Bool) (s : State) : Host.Outcome State Fault Refusal :=
  command dt (cmdWrite acc (ch % 2) w ecc) s

/-- CTX_RETIRE (R282): OP 5. -/
def execCtxRetire (dt : Nat) (acc : Access) (ch : Nat) (w : Word) (ecc : Bool) (s : State) : Host.Outcome State Fault Refusal :=
  command dt (cmdWrite acc (ch % 2) w ecc) s

/-- CTX_PURGE (R283): OP 6. -/
def execCtxPurge (dt : Nat) (acc : Access) (ch : Nat) (w : Word) (ecc : Bool) (s : State) : Host.Outcome State Fault Refusal :=
  command dt (cmdWrite acc (ch % 2) w ecc) s

/-- CTX_ALLOC (R284): OP 7. -/
def execCtxAlloc (dt : Nat) (acc : Access) (ch : Nat) (w : Word) (ecc : Bool) (s : State) : Host.Outcome State Fault Refusal :=
  command dt (cmdWrite acc (ch % 2) w ecc) s

/-- CTX_BIND (R284): OP 8. -/
def execCtxBind (dt : Nat) (acc : Access) (ch : Nat) (w : Word) (ecc : Bool) (s : State) : Host.Outcome State Fault Refusal :=
  command dt (cmdWrite acc (ch % 2) w ecc) s

/-- CTX_UNBIND (R284): OP 9. -/
def execCtxUnbind (dt : Nat) (acc : Access) (ch : Nat) (w : Word) (ecc : Bool) (s : State) : Host.Outcome State Fault Refusal :=
  command dt (cmdWrite acc (ch % 2) w ecc) s

/-- CTX_BADOP (R285): OP 10 to 15. -/
def execCtxBadop (dt : Nat) (acc : Access) (ch : Nat) (w : Word) (ecc : Bool) (s : State) : Host.Outcome State Fault Refusal :=
  command dt (cmdWrite acc (ch % 2) w ecc) s

/-- A CTXCMD record on a standby (R370): the command takes effect as it did on the authority. -/
def shadowCommand (op node arg : Nat) (buf : Octets) (s : State) : State :=
  let c : CtxCmd :=
    { chan := 2, op := op, node := node, saddr := arg % 2 ^ 16, pan := arg / 2 ^ 16 % 16, mask := arg / 2 ^ 20 % 32,
      staging := 0, buf := buf, ecc := false, gate := none, ticket := none, result := none, revived := false, outNode := node,
      outAddr := 0, since := s.cycles }
  if op = opRead ∨ s.cmdVerdict c ≠ ctxOk then s
  else applyCommand c (onlyIf (s.cmdResets c) (jnlOffer recIreset node) s)

end Sys2Proof.Machine
end

