-- ==== Sys2Proof/Machine/Ptp.lean ====
section
/-!
DEFINITION. The IEEE 1588 clock (R347 to R351): message fields, the choice of the master, and the measurements. Times are in
units of 2^−16 ns, the unit of the correction field.
-/

namespace Sys2Proof.Machine

/-! ### Messages -/

def ptpSync : Nat := 0
def ptpDelayReq : Nat := 1
def ptpFollowUp : Nat := 8
def ptpDelayResp : Nat := 9
def ptpAnnounce : Nat := 11

/-- Fields of the common header. -/
def ptpType (m : Octets) : Nat := octAt m 0 % 16
def ptpDomain (m : Octets) : Nat := octAt m 4
def ptpTwoStep (m : Octets) : Bool := bitAt (octAt m 6) 1
def ptpCorrection (m : Octets) : Int := signed 64 (beAt m 8 8)
def ptpSource (m : Octets) : Octets := slice m 20 10
def ptpSeq (m : Octets) : Nat := beAt m 30 2
def ptpInterval (m : Octets) : Int := signed 8 (octAt m 33)

/-- Ticks as a time: one tick is 3.125 ns. -/
def tickTime (t : Int) : Int := t * 204800

/-- A PTP time of seconds and nanoseconds in ticks (R348). -/
def ptpTicks (sec ns : Nat) : Nat := sec * 320000000 + ns * 8 / 25

/-- The nanoseconds of a number of ticks below a second: the least that `ptpTicks` takes back to it (R348).
DEDUCED, unsafe: log 184. -/
def ticksNs (ticks : Nat) : Nat := (ticks * 25 + 7) / 8

/-- The timestamp after the header: 48-bit seconds and 32-bit nanoseconds. -/
def ptpStamp (m : Octets) : Int := tickTime (ptpTicks (beAt m 34 6) (beAt m 40 4) : Nat)

/-- A duration of 2^i seconds in cycles. -/
def pow2Seconds (i : Int) : Nat := if 0 ≤ i then secCycles * 2 ^ i.toNat else secCycles / 2 ^ (-i).toNat

/-- The device's own port identity: its EUI-64 and port 1. -/
def State.portIdentity (s : State) : Octets :=
  be 4 (s.get CAP_EUI_HI_EUI) ++ be 4 (s.get CAP_EUI_LO_EUI) ++ be 2 1

/-- A message of the domain that PTP may take. -/
def State.ptpTakes (s : State) (m : Octets) (type len : Nat) : Bool :=
  s.ptpRuns && ptpType m == type && decide (len ≤ m.length) && octAt m 1 % 16 == 2 && ptpDomain m == s.get UPL_PTP_CFG_DOMAIN

/-! ### The master (R349) -/

/-- A foreign master is qualified: two Announce messages, the last within four of its intervals. -/
def Foreign.qualified (f : Foreign) (now : Nat) : Bool := decide (2 ≤ f.count ∧ now ≤ f.last + 4 * pow2Seconds f.interval)

/-- The order of the data set comparison (clause 9.3): the better one first. -/
def Foreign.better (a b : Foreign) : Bool :=
  let key (f : Foreign) : List Nat := [f.prio1, f.quality, f.prio2, f.gm]
  if a.gm = b.gm then decide (a.steps < b.steps) || (a.steps == b.steps && decide (beNat a.port < beNat b.port))
  else decide (key a < key b)

/-- The best qualified foreign master. -/
def State.bestMaster (s : State) : Option Foreign :=
  (s.upl.ptp.foreign.filter (fun f => f.qualified s.cycles)).foldl (fun (best : Option Foreign) f =>
    match best with
    | some b => if f.better b then some f else some b
    | none => some f) none

/-- Select the master: a new one leaves the port UNCALIBRATED, or SLAVE where the time rim is LOCKED. -/
def selectMaster (s : State) : State :=
  match s.bestMaster with
  | none => s
  | some f =>
    let gm := s.get UPL_PTP_GM_HI * 2 ^ 32 + s.get UPL_PTP_GM_LO
    let s := (s.set UPL_PTP_GM_HI (f.gm / 2 ^ 32)).set UPL_PTP_GM_LO f.gm
    let s := onlyIf (gm != f.gm) (fun s => emit 0x406 0 (raise UPL_INT_STAT_GMCHANGE s)) s
    let par := beNat (f.port.take 8)
    let s := (s.set UPL_PTP_PAR_HI (par / 2 ^ 32)).set UPL_PTP_PAR_LO par
    let s := s.set UPL_PTP_STAT_UTCOFF f.utc
    if s.upl.ptp.master = some f.port then s
    else
      let s := modPtp (fun p => { p with master := some f.port, sync := none, meas := none, req := none, dm := none }) s
      enterPtp (if s.tim.st = .locked then ptpSlave else ptpUncalibrated) s

/-- The count of qualified foreign masters. -/
def State.qualifiedCount (s : State) : Nat := min 4 (s.upl.ptp.foreign.filter (fun f => f.qualified s.cycles)).length

/-- An Announce that is not taken: its stepsRemoved is 255 or more, or the filter wants another clock (R349). -/
def State.announceRefused (s : State) (m : Octets) : Bool :=
  decide (255 ≤ beAt m 61 2) ||
    (s.is UPL_PTP_FILT_EN_FILTEN
      && beNat ((ptpSource m).take 8) != s.get UPL_PTP_FILT_HI * 2 ^ 32 + s.get UPL_PTP_FILT_LO)

/-- The foreign master an Announce comes from, if it is known. -/
def State.foreignOf (s : State) (m : Octets) : Option Foreign := s.upl.ptp.foreign.find? (fun f => f.port == ptpSource m)

/-- The Announce messages of a foreign master that count, with this one. -/
def State.announceCount (s : State) (m : Octets) : Nat :=
  match s.foreignOf m with
  | some f => if s.cycles ≤ f.last + 4 * pow2Seconds f.interval then f.count + 1 else 1
  | none => 1

/-- The foreign master as an Announce describes it. -/
def State.foreignFrom (s : State) (m : Octets) : Foreign :=
  { port := ptpSource m, count := s.announceCount m, prio1 := octAt m 47, quality := beAt m 48 4, prio2 := octAt m 52,
    gm := beAt m 53 8, steps := beAt m 61 2, utc := beAt m 44 2, interval := ptpInterval m, last := s.cycles }

/-- The other foreign masters that are still held: the master, and those heard within four of their intervals. -/
def State.foreignRest (s : State) (m : Octets) : List Foreign :=
  s.upl.ptp.foreign.filter (fun g => g.port != ptpSource m &&
    (s.upl.ptp.master == some g.port || decide (s.cycles ≤ g.last + 4 * pow2Seconds g.interval)))

/-- An Announce (R349). -/
def ptpOnAnnounce (m : Octets) (s : State) : State :=
  if !s.ptpTakes m ptpAnnounce 64 || s.announceRefused m then s
  else if (s.foreignOf m).isNone && decide (4 ≤ (s.foreignRest m).length) then s
  else selectMaster (modPtp (fun p => { p with foreign := s.foreignRest m ++ [s.foreignFrom m] }) s)

/-- ANNOUNCE (R349): `m` is the PTP message. -/
def execAnnounce (dt : Nat) (m : Octets) (s : State) : Host.Outcome State Fault Refusal := command dt (ptpOnAnnounce m) s

/-- ANNOUNCE_TIMEOUT (R349): three announce intervals without an Announce from the master. -/
def execAnnounceTimeout (dt : Nat) (s : State) : Host.Outcome State Fault Refusal :=
  command dt (fun s =>
    match s.upl.ptp.master with
    | none => s
    | some port =>
      match s.upl.ptp.foreign.find? (fun f => f.port == port) with
      | some f =>
        if s.passed f.last (3 * pow2Seconds f.interval) then
          let s := modPtp (fun p => { p with
            foreign := p.foreign.filter (fun g => g.port != port), master := none, sync := none, meas := none, req := none,
            dm := none }) s
          enterPtp ptpListening (raise UPL_INT_STAT_PTPTO s)
        else s
      | none => s) s

/-! ### Measurements (R350, R351) -/

/-- The port synchronises: UNCALIBRATED or SLAVE. -/
def State.ptpSynchronises (s : State) : Bool := s.ptpState == ptpUncalibrated || s.ptpState == ptpSlave

/-- A message of the master. -/
def State.fromMaster (s : State) (m : Octets) : Bool := s.upl.ptp.master == some (ptpSource m)

/-- An offset goes to the time rim as a discipline measurement (R67, R350). -/
def deliverOffset (theta : Int) (s : State) : State :=
  let delta := s.cycles - s.tim.lastMeas
  emit 0x405 0 (measurement .ptp theta (s.get UPL_PTP_SERVO_KP) (s.get UPL_PTP_SERVO_KI) delta s)

/-- Form the offset of the last Sync once a mean path delay exists; each Sync gives one. -/
def formOffset (s : State) : State :=
  match s.upl.ptp.meas, s.upl.ptp.dm with
  | some (t1, t2, cs), some dm => deliverOffset (t2 - t1 - cs - dm) s
  | _, _ => s

/-- A Sync measurement t1, t2 and cs. -/
def syncMeasured (t1 t2 cs : Int) (s : State) : State :=
  formOffset (modPtp (fun p => { p with meas := some (t1, t2, cs) }) s)

/-- A Sync (R348, R350): its receive timestamp is the instant of the command, less INGRESS. -/
def ptpOnSync (m : Octets) (s : State) : State :=
  if !s.ptpTakes m ptpSync 44 || !s.fromMaster m || !s.ptpSynchronises then s
  else
    let t2 := tickTime ((s.ts : Int) - s.getInt UPL_PTP_ASYM_INGRESS)
    let s := s.set UPL_PTP_STAT_TWOSTEP (flag (ptpTwoStep m))
    if ptpTwoStep m then modPtp (fun p => { p with sync := some (ptpSeq m, t2, ptpCorrection m, s.cycles) }) s
    else syncMeasured (ptpStamp m) t2 (ptpCorrection m) s

/-- SYNC (R350). -/
def execSync (dt : Nat) (m : Octets) (s : State) : Host.Outcome State Fault Refusal := command dt (ptpOnSync m) s

/-- A Follow_Up (R350): t1 of the Sync with its sequenceId, within 1 s. -/
def ptpOnFollowUp (m : Octets) (s : State) : State :=
  if !s.ptpTakes m ptpFollowUp 44 || !s.fromMaster m || !s.ptpSynchronises then s
  else
    match s.upl.ptp.sync with
    | some (seq, t2, cs, when_) =>
      if seq = ptpSeq m ∧ s.cycles ≤ when_ + secCycles then
        syncMeasured (ptpStamp m) t2 (cs + ptpCorrection m) (modPtp (fun p => { p with sync := none }) s)
      else s
    | none => s

/-- FOLLOW_UP (R350). -/
def execFollowUp (dt : Nat) (m : Octets) (s : State) : Host.Outcome State Fault Refusal := command dt (ptpOnFollowUp m) s

/-- The mean path delay after one more delay (R350), or none where it is discarded. -/
def meanDelay (dm : Option Int) (d : Int) (dlyout shift : Nat) : Option Int :=
  match dm with
  | none => some d
  | some m => if ((d - m).natAbs : Int) ≤ ((dlyout * offsetUnit : Nat) : Int) then some (m + (d - m) / ((2 ^ shift : Nat) : Int)) else none

/-- A Delay_Resp (R350): t3, t4 and cd give the mean path delay. The first one gives the offset of the last Sync too. -/
def ptpOnDelayResp (m : Octets) (s : State) : State :=
  if !s.ptpTakes m ptpDelayResp 54 || !s.fromMaster m || !s.ptpSynchronises then s
  else
    match s.upl.ptp.req, s.upl.ptp.meas with
    | some (seq, t3), some (t1, t2, cs) =>
      if seq = ptpSeq m ∧ slice m 44 10 = s.portIdentity then
        let t4 := ptpStamp m
        let cd := ptpCorrection m
        let d := ((t2 - t1 - cs) + (t4 - t3 - cd)) / 2
        let first := s.upl.ptp.dm.isNone
        let s := modPtp (fun p => { p with req := none, logReq := ptpInterval m }) s
        match meanDelay s.upl.ptp.dm d (s.get UPL_PTP_SERVO_DLYOUT) (s.get UPL_PTP_CFG_DLYSHIFT) with
        | none => count UPL_CNT_DLYOUT 1 s
        | some dm =>
          let s := modPtp (fun p => { p with dm := some dm }) s
          let s := s.set UPL_PTP_MPD_DM (offsetNs dm)
          if first then formOffset s else s
      else s
    | _, _ => s

/-- DELAY_RESP (R350, R351). -/
def execDelayResp (dt : Nat) (m : Octets) (s : State) : Host.Outcome State Fault Refusal := command dt (ptpOnDelayResp m) s

/-- A Delay_Req message with its egress time (R348). -/
def State.delayReq (s : State) (seq ticks : Nat) : Octets :=
  let ns := ticksNs (ticks % 320000000)
  [0x01, 0x12] ++ be 2 44 ++ le 1 (s.get UPL_PTP_CFG_DOMAIN) ++ zeros 1 ++ be 2 0 ++ zeros 8 ++ zeros 4 ++ s.portIdentity
    ++ be 2 seq ++ [0x01, 0x7F] ++ be 6 (ticks / 320000000) ++ be 4 ns

/-- A PTP message as a frame of the chosen transport (R347). -/
def State.ptpFrame (s : State) (m : Octets) : Octets :=
  let pcp := s.get UPL_VLAN_PCPT
  let src := s.ipOf UPL_DEVIPn
  match s.get UPL_PTP_CFG_TRANSPORT with
  | 0 => s.ethernet [0x01, 0x1B, 0x19, 0, 0, 0] pcp 0x88F7 m
  | 1 =>
    let dst : Octets := [224, 0, 1, 129]
    s.ethernet [0x01, 0, 0x5E, 0, 1, 0x81] pcp s.ipType (s.ipPacket 17 (s.get UPL_CFG_TTL) src dst (s.udp 319 319 src dst m))
  | _ =>
    let dst : Octets := [0xFF, 0x0E] ++ zeros 12 ++ [1, 0x81]
    s.ethernet [0x33, 0x33, 0, 0, 1, 0x81] pcp s.ipType (s.ipPacket 17 (s.get UPL_CFG_TTL) src dst (s.udp 319 319 src dst m))

/-- A port's frame goes on the wire. -/
def putWire (p : Nat) (frames : List Octets) (s : State) : State :=
  let s := modUpl (fun u => { u with wire := frames.map (fun f => (p, f)) }) s
  if p = 0 then count UPL_CNT_TX0 frames.length s else count UPL_CNT_TX1 frames.length s

/-- DELAY_REQ (R350): at a random instant a Delay_Req is sent, unless the port is paused (R321); t3 is the instant of the command
plus EGRESS. -/
def execDelayReq (dt : Nat) (s : State) : Host.Outcome State Fault Refusal :=
  command dt (fun s =>
    if !s.ptpSynchronises || !s.portFree (s.get UPL_STAT_ACTIVE) then s
    else
      let ticks := ((s.ts : Int) + s.getInt UPL_PTP_ASYM_EGRESS).toNat
      let seq := s.upl.ptp.seqId
      let s := modPtp (fun p => { p with req := some (seq, tickTime ticks), seqId := (seq + 1) % 65536 }) s
      putWire (s.get UPL_STAT_ACTIVE) [s.ptpFrame (s.delayReq seq ticks)] s) s

end Sys2Proof.Machine
end

