-- ==== Sys2Proof/Machine/Upstream.lean ====
section
/-!
DEFINITION. The upstream ports (R319 to R346): links and failover, neighbours, MDIO, the rings, the reception of DOWN messages
and the transmission of upstream messages.
-/

namespace Sys2Proof.Machine

/-- LINK_UP (R319, R320): a port's link comes up; `signalled` is the speed an SGMII PHY signals and `full` whether the partner
runs full duplex. -/
def execLinkUp (dt port signalled : Nat) (full : Bool) (s : State) : Host.Outcome State Fault Refusal :=
  command dt (fun s =>
    let p := port % 2
    if !s.ethRuns p || s.portUp p || !full then s
    else
      let s := emit 0x400 0 (setLink p true s)
      let v := s.linkSpeed p signalled
      let s := watchPtp (fun s => if p = 0 then s.set UPL_STAT_SPEED0 v else s.set UPL_STAT_SPEED1 v) s
      if s.portUp (1 - p) then s else becomeActive p s) s

/-- LINK_DOWN (R320). -/
def execLinkDown (dt port : Nat) (s : State) : Host.Outcome State Fault Refusal :=
  command dt (fun s => if s.portUp (port % 2) then linkDown (port % 2) s else s) s

/-- REVERT (R320): 1 s after the link of the port named by PREF came back up. -/
def execRevert (dt : Nat) (s : State) : Host.Outcome State Fault Refusal :=
  command dt (fun s =>
    let p := s.get UPL_CFG_PREF
    let since := if p = 0 then s.upl.upFrom0 else s.upl.upFrom1
    if s.is UPL_CFG_REVERT && s.portUp p && s.get UPL_STAT_ACTIVE != p && s.passed since secCycles then becomeActive p s
    else s) s

/-- NEXT_HOP_RESOLVE (R324): every ARPREF seconds. -/
def execNextHopResolve (dt : Nat) (s : State) : Host.Outcome State Fault Refusal :=
  command dt (fun s =>
    if s.portUp (s.get UPL_STAT_ACTIVE) && s.passed s.upl.resolvedAt (s.get UPL_TIME_ARPREF * secCycles) then startResolve s
    else s) s

/-- RESOLVE_TRY_TIMEOUT (R324): a try goes 1 s unanswered. -/
def execResolveTryTimeout (dt : Nat) (s : State) : Host.Outcome State Fault Refusal :=
  command dt (fun s =>
    if s.upl.tries = 0 ∨ s.passed s.upl.triedAt secCycles = false then s
    else if s.upl.tries < 3 then resolveTry s
    else raise UPL_INT_STAT_NHFAIL (modUpl (fun u => { u with tries := 0 }) s)) s

/-- The next hop answers. -/
def resolved (mac : Octets) (s : State) : State :=
  let s := modUpl (fun u => { u with tries := 0 }) s
  ((s.set UPL_NH_HI_MAC (beAt mac 0 2)).set UPL_NH_LO_MAC (beAt mac 2 4)).set UPL_STAT_NHVALID 1

/-! ### MDIO (R322) -/

/-- The address of `UPL_MDIOp_CMD`. -/
def mdioAddr (p : Nat) : Nat := 0x20100080 + 0x10 * p

/-- The effect of a write of `UPL_MDIOp_CMD`: GO starts a transaction unless one runs. -/
def mdioStart (p : Nat) (busy : Bool) (w : Word) (s : State) : State :=
  if wrote w (UPL_MDIOp_CMD_GO 0) && !busy then
    modUpl (fun u => { u with mdio := u.mdio ++ [(p, (s.word (mdioAddr p)).toNat, s.get (UPL_MDIOp_DATA_DATA p))] }) s
  else s

/-- A write of `UPL_MDIOp_CMD`. -/
def mdioWrite (acc : Access) (p : Nat) (w : Word) (s : State) : State :=
  let busy := s.is (UPL_MDIOp_CMD_GO p)
  writeRow acc (mdioAddr p) w (mdioStart p busy w) s

/-- MDIO_ADDRESS (R322): clause 45, OP 0. -/
def execMdioAddress (dt : Nat) (acc : Access) (port : Nat) (w : Word) (s : State) : Host.Outcome State Fault Refusal :=
  command dt (mdioWrite acc (port % 2) w) s

/-- MDIO_WRITE (R322): OP 1. -/
def execMdioWrite (dt : Nat) (acc : Access) (port : Nat) (w : Word) (s : State) : Host.Outcome State Fault Refusal :=
  command dt (mdioWrite acc (port % 2) w) s

/-- MDIO_READ (R322): clause 22 OP 2, clause 45 OP 3. -/
def execMdioRead (dt : Nat) (acc : Access) (port : Nat) (w : Word) (s : State) : Host.Outcome State Fault Refusal :=
  command dt (mdioWrite acc (port % 2) w) s

/-- MDIO_READ_INCREMENT (R322): clause 45 OP 2. -/
def execMdioReadIncrement (dt : Nat) (acc : Access) (port : Nat) (w : Word) (s : State) : Host.Outcome State Fault Refusal :=
  command dt (mdioWrite acc (port % 2) w) s

/-- A transaction's command word reads: OP 2 of clause 22, OP 2 or 3 of clause 45. -/
def mdioReads (cmd : Nat) : Bool :=
  let op := cmd / 1024 % 4
  if bitAt cmd 12 then op == 2 || op == 3 else op == 2

/-- MDIO_DONE (R322): the transaction ends; `value` is what the PHY drives, or none where it drives nothing. -/
def execMdioDone (dt port : Nat) (value : Option Nat) (s : State) : Host.Outcome State Fault Refusal :=
  command dt (fun s =>
    let p := port % 2
    match s.upl.mdio.find? (fun (m : Nat × Nat × Nat) => m.1 == p) with
    | none => s
    | some m =>
      let s := modUpl (fun u => { u with mdio := u.mdio.filter (fun (x : Nat × Nat × Nat) => x.1 != p) }) s
      let s := onlyIf (mdioReads m.2.1) (State.set (UPL_MDIOp_DATA_DATA p) (value.getD 0xFFFF)) s
      let s := s.set (UPL_MDIOp_CMD_GO p) 0
      if p = 0 then raise UPL_INT_STAT_MDIO0DONE s else raise UPL_INT_STAT_MDIO1DONE s) s

/-! ### Rings (R332) -/

/-- The entries of a queue that wait to advance PI. -/
def State.enteringOf (s : State) (q : Nat) : List Entering := s.upl.entering.filter (fun e => e.queue == q)

/-- PI once every entry under way has entered. -/
def State.nextPi (s : State) (q : Nat) : Nat :=
  match (s.enteringOf q).getLast? with
  | some e => e.pi
  | none => s.qPi q

/-- The most descriptors a queue holds: none where its EN is 0 (R333). -/
def State.qLimit (s : State) (q : Nat) : Nat := if s.is (UPL_Qn_CFG_EN q) then s.qSize q else 0

/-- An entry enters its ring: the data are in DRAM, then PI advances (R332). -/
def enterRing (e : Entering) (s : State) : State :=
  match e.down with
  | none => s.set (UPL_Qn_PI_PI e.queue) e.pi
  | some (seq, body) =>
    let s := if e.queue = 63 then qPush 63 kindManagement seq false body s
      else
        let slot := s.qSlotAddr e.queue (s.qPi e.queue)
        let desc := patch (body.take 32) 16 (le 5 slot)
        let s := modUpl (fun u => { u with refs := u.refs ++ [(e.queue, s.qPi e.queue, seq)] }) s
        qAdvancePi e.queue (qPlace e.queue desc (body.drop 32) s)
    emit 0x403 0 s

/-- The entries whose QIN records are acknowledged enter, those of one queue in order. -/
def ringSettle (s : State) : State :=
  let step (acc : State × List Nat) (e : Entering) : State × List Nat :=
    if acc.2.elem e.queue || !acc.1.ackedM e.gate then (acc.1, e.queue :: acc.2)
    else (enterRing e (modUpl (fun u => { u with entering := u.entering.erase e }) acc.1), acc.2)
  (s.upl.entering.foldl step (s, [])).1

/-- What an acknowledgement, a lost link or a change of mode lets go on: the link sequencer and the rings. -/
def gatesSettle (s : State) : State := linkSettle (ringSettle s)

/-- A descriptor enters a ring of queues 0 to 31: the QMSG item and the QIN record (R367). -/
def mirrorEntry (q index : Nat) (desc payload : Octets) (s : State) : State :=
  let x := s.stl.xseq
  let s := mirrorBulk 2 (desc ++ payload) s
  mirror (record 0x08 [(1, le 1 q), (12, le 4 index), (20, le 4 x)]) s

/-- Entries `from_` to `from_ + n − 1`, which software has written, are mirrored. -/
def mirrorEntries (q from_ n : Nat) (s : State) : State :=
  forEach (List.range n) (fun k t =>
    let i := (from_ + k) % 2 ^ 32
    let d := t.qDesc q i
    let n := leAt d 0 2 % 2048
    mirrorEntry q i d (t.memOr0 (leAt d 16 5) n) (engineReads 3 (leAt d 16 5) n (engineReads 3 (t.qDescAddr q i) 32 t))) s

/-- A ring error. -/
def ringError (s : State) : State := raise UPL_INT_STAT_RINGERR s

/-- Software writes the PI of a queue: queue 62, and outside STANDBY a downstream queue with SRC 1 (R332). -/
def State.piIsSoftwares (s : State) (q : Nat) : Bool :=
  q == 62 || (decide (q < 32) && s.is (UPL_Qn_CFG_SRC q) && s.mode != .standby)

/-- Software writes PI (R332) of queue 62 or of a queue with SRC 1; a shadow ring takes no write of software.
DEDUCED, unsafe: log 95. -/
def piWrite (q : Nat) (w : Word) (s : State) : State :=
  if !s.piIsSoftwares q then s
  else
    let now := s.nextPi q
    let used := ringDistance w.toNat (s.qCi q)
    if s.qLimit q < used then ringError s
    else if q = 62 then s.set (UPL_Qn_PI_PI q) w.toNat
    else
      let n := ringDistance w.toNat now
      let grows := decide (n ≤ s.qLimit q)
      let s := onlyIf grows (mirrorEntries q now n) s
      let gate := if grows && s.mirrors then some (s.stl.mseq - 1) else none
      ringSettle (modUpl (fun u => { u with entering := u.entering ++
        [{ queue := q, pi := w.toNat, down := none, gate := gate }] }) s)

/-- The addresses of `UPL_Qn_PI` and `UPL_Qn_CI`. -/
def piAddr (q : Nat) : Nat := 0x20101014 + 0x20 * q
def ciAddr (q : Nat) : Nat := 0x20101018 + 0x20 * q

/-- PI_WRITE (R332). -/
def execPiWrite (dt : Nat) (acc : Access) (q : Nat) (w : Word) (s : State) : Host.Outcome State Fault Refusal :=
  command dt (access acc (piAddr (q % 64)) (some w) (piWrite (q % 64) w)) s

/-- Software writes CI (R332) of a queue it consumes. -/
def ciWrite (q : Nat) (w : Word) (s : State) : State :=
  if (56 ≤ q ∧ q ≤ 61) ∨ q = 63 then
    let used := ringDistance (s.qPi q) w.toNat
    if s.qLimit q < used then ringError s else gatesSettle (s.set (UPL_Qn_CI_CI q) w.toNat)
  else s

/-- CI_WRITE (R332). -/
def execCiWrite (dt : Nat) (acc : Access) (q : Nat) (w : Word) (s : State) : Host.Outcome State Fault Refusal :=
  command dt (access acc (ciAddr (q % 64)) (some w) (ciWrite (q % 64) w)) s

/-! ### Reception of DOWN messages (R329, R339 to R341) -/

/-- The window of a queue. -/
def State.windowFor (s : State) (q : Nat) : Option SeqWindow := s.upl.windows.find? (fun w => w.queue == q)

/-- Put a window back, without the marks that have fallen out of it. -/
def setWindow (w : SeqWindow) (s : State) : State :=
  let kept := w.marks.filter (fun (m : Nat × Bool) => decide (diff32 m.1 w.high ≤ 0 ∧ -64 < diff32 m.1 w.high))
  modUpl (fun u => { u with windows := { w with marks := kept } :: u.windows.filter (fun x => x.queue != w.queue) }) s

/-- Mark a sequence (R339). -/
def markSeq (q seq : Nat) (timeout : Bool) (s : State) : State :=
  match s.windowFor q with
  | some w => setWindow { w with marks := (seq, timeout) :: w.marks } s
  | none => s

/-- A segment whose header breaks R329. -/
def badHeader (s : State) : State := raise UPL_INT_STAT_BADHDR (count UPL_CNT_BADHDR 1 s)

/-- The header of a DOWN segment is right (R329). -/
def State.headerOk (s : State) (m : Octets) : Bool :=
  let q := octAt m 2
  let segno := octAt m 10
  let segcnt := octAt m 11
  let plen := beAt m 12 2
  let mlen := beAt m 14 2
  decide (24 ≤ m.length) && octAt m 0 == 0x57 && octAt m 1 == 0x11
    && (q == 63 || (decide (q < 32) && s.is (UPL_Qn_CFG_EN q) && !s.is (UPL_Qn_CFG_SRC q)))
    && decide (segno < segcnt ∧ 1 ≤ segcnt ∧ segcnt ≤ 2) && plen == m.length - 24
    && (if q = 63 then decide (mlen ≤ 2048)
        else decide (mlen ≤ 2079) && (segno != 0 || mlen == 32 + leAt m 24 2 % 2048))

/-- A complete message enters its ring, or finds it full (R341). -/
def downComplete (q seq : Nat) (body : Octets) (s : State) : State :=
  let used := ringDistance (s.nextPi q) (s.qCi q)
  if s.qLimit q ≤ used then raise UPL_INT_STAT_DQFULL (count UPL_CNT_DQFULL 1 s)
  else
    let i := s.nextPi q
    let s := markSeq q seq false s
    let gate := if q = 63 then none else s.gate
    let s := if q = 63 then s
      else mirrorEntry q i (patch (body.take 32) 16 (le 5 (s.qSlotAddr q i))) (body.drop 32) s
    let gate := gate.map (fun _ => s.stl.mseq - 1)
    ringSettle (modUpl (fun u => { u with entering := u.entering ++
      [{ queue := q, pi := (i + 1) % 2 ^ 32, down := some (seq, body), gate := gate }] }) s)

/-- A segment joins its message (R340). The MLEN of every segment of queues 0 to 31 is that of segment 0, which holds the descriptor
(R329): a segment whose MLEN is another is dropped, be it when segment 0 comes after it. DEDUCED, unsafe: log 94. -/
def joinSegment (q seq : Nat) (m : Octets) (s : State) : State :=
  let old := s.upl.reasm.find? (fun r => r.queue == q && r.seq == seq)
  if old.isNone && decide (64 ≤ s.upl.reasm.length) then count UPL_CNT_SEGTO 1 s
  else
    let mlen := beAt m 14 2
    let r : Reasm := old.getD { queue := q, seq := seq, segcnt := octAt m 11, mlen := mlen, segs := [], since := s.cycles }
    let first := octAt m 10 == 0
    let differs := q != 63 && r.mlen != mlen
    let held := r.segs.any (fun (e : Nat × Octets) => e.1 == 0)
    if differs && !first && held then badHeader s
    else
    let s := onlyIf (differs && first && !r.segs.isEmpty) badHeader s
    let r := if differs then { r with mlen := mlen, segs := [] } else r
    let r := { r with segs := (octAt m 10, m.drop 24) :: r.segs.filter (fun (e : Nat × Octets) => e.1 != octAt m 10) }
    let others := s.upl.reasm.filter (fun x => !(x.queue == q && x.seq == seq))
    let part (k : Nat) : Octets := ((r.segs.find? (fun (e : Nat × Octets) => e.1 == k)).map (fun e => e.2)).getD []
    if (List.range r.segcnt).all (fun k => r.segs.any (fun (e : Nat × Octets) => e.1 == k)) then
      let body := (List.range r.segcnt).flatMap part
      let s := modUpl (fun u => { u with reasm := others }) s
      if body.length = r.mlen then downComplete q seq body s else badHeader s
    else modUpl (fun u => { u with reasm := others ++ [r] }) s

/-- The modes that accept a DOWN message (R346). -/
def State.acceptsDown (s : State) (q : Nat) : Bool :=
  s.mode.serving || (q == 63 && s.mode != .reset && s.mode != .load && s.mode != .lastgasp)

/-- A DOWN segment (R329, R339): `m` is the Weavan header and the segment payload. -/
def downSegment (m : Octets) (s : State) : State :=
  if !s.headerOk m then badHeader s
  else
    let q := octAt m 2
    let seq := beAt m 4 4
    if !s.acceptsDown q then count UPL_CNT_MODEDROP 1 s
    else
      match s.windowFor q with
      | none => joinSegment q seq m (setWindow { queue := q, high := seq, marks := [] } s)
      | some w =>
        let d := diff32 seq w.high
        if d ≤ -64 then count UPL_CNT_STALE 1 s
        else
          match w.marks.find? (fun (e : Nat × Bool) => e.1 == seq) with
          | some (_, true) => raise UPL_INT_STAT_ORPHAN (count UPL_CNT_ORPHAN 1 s)
          | some (_, false) => count UPL_CNT_DUPSEG 1 s
          | none => joinSegment q seq m (if 0 < d then setWindow { w with high := seq } s else s)

/-- DOWN_SEGMENT (R339): a DOWN segment that the filter of R327 has accepted. -/
def execDownSegment (dt : Nat) (m : Octets) (s : State) : Host.Outcome State Fault Refusal := command dt (downSegment m) s

/-- REASSEMBLY_TIMEOUT (R340): the oldest context has been open SEGTO ms. -/
def execReassemblyTimeout (dt : Nat) (s : State) : Host.Outcome State Fault Refusal :=
  command dt (fun s =>
    match s.upl.reasm.find? (fun r => s.passed r.since (s.get UPL_TIME_SEGTO * msCycles)) with
    | some r =>
      let s := modUpl (fun u => { u with reasm := u.reasm.erase r }) s
      emit 0x404 0 (raise UPL_INT_STAT_SEG_TIMEOUT (count UPL_CNT_SEGTO 1 (markSeq r.queue r.seq true s)))
    | none => s) s

/-! ### Received frames (R321, R323, R327) -/

/-- A frame the filter rejects. -/
def filtered (s : State) : State := count UPL_CNT_FILTER 1 s

/-- A frame is accepted at a port. DEDUCED, unsafe: log 93. -/
def accepted (p : Nat) (s : State) : State := if p = 0 then count UPL_CNT_RX0 1 s else count UPL_CNT_RX1 1 s

/-- A PTP message is dispatched by its type. DEDUCED, unsafe: log 96. -/
def ptpReceive (m : Octets) (s : State) : State :=
  let t := ptpType m
  if t = ptpSync then ptpOnSync m s
  else if t = ptpFollowUp then ptpOnFollowUp m s
  else if t = ptpDelayResp then ptpOnDelayResp m s
  else if t = ptpAnnounce then ptpOnAnnounce m s
  else s

/-- An ARP packet: a request for an address the device holds, or the answer of the next hop. -/
def arpReceive (p : Nat) (os : Octets) (s : State) : State :=
  let ok := !s.is UPL_CFG_IPV6 && beAt os 0 2 == 1 && beAt os 2 2 == 0x0800 && slice os 4 2 == [6, 4] && decide (28 ≤ os.length)
  let op := beAt os 6 2
  let sha := slice os 8 6
  let spa := slice os 14 4
  let tpa := slice os 24 4
  if !ok then filtered s
  else if op = 1 ∧ s.ownAddresses.elem tpa = true then
    reply p (s.ethernet sha (s.get UPL_VLAN_PCPM) 0x0806 (arpPacket 2 s.mac tpa sha spa)) (accepted p s)
  else if op = 2 ∧ spa = s.nextHop then resolved sha (accepted p s)
  else filtered s

/-- An ICMPv6 message: a neighbour solicitation, an advertisement of the next hop, or an echo request. -/
def icmp6Receive (p : Nat) (mac src dst : Octets) (hops : Nat) (os : Octets) (s : State) : State :=
  let type := octAt os 0
  let target := slice os 8 16
  let anon := src.all (fun b => b == 0)
  if !inetOk (s.pseudo 58 os.length src dst ++ os) then filtered s
  else if type = 135 ∧ hops = 255 ∧ s.ownAddresses.elem target = true then
    let reach := if anon then allNodes else src
    let rest := be 4 (2 ^ 29 + (if anon then 0 else 2 ^ 30)) ++ target ++ [2, 1] ++ s.mac
    let pkt := s.ip6Header 58 (4 + rest.length) 255 target reach ++ s.icmp6 136 rest target reach
    reply p (s.ethernet (if anon then allNodesMac else mac) (s.get UPL_VLAN_PCPM) 0x86DD pkt) (accepted p s)
  else if type = 136 ∧ hops = 255 ∧ target = s.nextHop then
    resolved (if octAt os 24 = 2 then slice os 26 6 else mac) (accepted p s)
  else if type = 128 ∧ s.ownAddresses.elem dst = true then
    let m := s.icmp6 129 (os.drop 4) dst src
    reply p (s.ethernet mac (s.get UPL_VLAN_PCPM) 0x86DD (s.ip6Header 58 m.length (s.get UPL_CFG_TTL) dst src ++ m))
      (accepted p s)
  else filtered s

/-- An ICMPv4 echo request is answered. -/
def icmp4Receive (p : Nat) (mac src dst os : Octets) (s : State) : State :=
  if !inetOk os || octAt os 0 != 8 || !s.ownAddresses.elem dst then filtered s
  else
    let m (sum : Nat) : Octets := [0, 0] ++ be 2 sum ++ os.drop 4
    let body := m (inetSum (m 0))
    reply p (s.ethernet mac (s.get UPL_VLAN_PCPM) 0x0800 (s.ip4Header 1 body.length dst src ++ body)) (accepted p s)

/-- An IP packet. -/
def ipReceive (p : Nat) (mac os : Octets) (s : State) : State :=
  match s.parseIp os with
  | none => filtered s
  | some (proto, src, dst, hops, body) =>
    if proto = 17 then
      match s.parseUdp src dst body with
      | none => filtered s
      | some (_, dport, data) =>
        let v6 := s.is UPL_CFG_IPV6
        let transport := s.get UPL_PTP_CFG_TRANSPORT
        let ptp := (dport == 319 || dport == 320) && transport == (if v6 then 2 else 1)
        if ptp then (if s.ptpRuns && p == s.get UPL_STAT_ACTIVE then ptpReceive data (accepted p s) else filtered s)
        else if dport = s.get UPL_UDP_LPORT ∧ src = s.ipOf UPL_RIPn then downSegment data (accepted p s)
        else filtered s
    else if s.is UPL_CFG_IPV6 then
      (if proto = 58 then icmp6Receive p mac src dst hops body s else filtered s)
    else if proto = 1 then icmp4Receive p mac src dst body s
    else filtered s

/-- The destination MAC address of a frame is one the device takes (R327). -/
def State.macTaken (s : State) (dst : Octets) (type : Nat) : Bool :=
  dst == s.mac || (dst == macBroadcast && type == 0x0806)
    || (s.is UPL_CFG_IPV6 && s.ownAddresses.any (fun ip => dst == solicitedMac ip))
    || dst == [0x01, 0x1B, 0x19, 0, 0, 0] || dst == [0x01, 0, 0x5E, 0, 1, 0x81] || dst == [0x33, 0x33, 0, 0, 1, 0x81]

/-- A PAUSE frame: the port pauses for its quanta of 512 bit times (R321). -/
def pauseReceive (p : Nat) (os : Octets) (s : State) : State :=
  let speed := if p = 0 then s.get UPL_STAT_SPEED0 else s.get UPL_STAT_SPEED1
  let mbps := match speed with
    | 0 => 10
    | 1 => 100
    | 2 => 1000
    | _ => 2500
  let until_ := s.cycles + (beAt os 2 2 * 512 * usCycles + mbps - 1) / mbps
  let s := if p = 0 then modUpl (fun u => { u with pause0 := until_ }) s else modUpl (fun u => { u with pause1 := until_ }) s
  accepted p s

/-- ETHERNET_RECEIVE (R321, R327): a frame with its FCS; `code` says that it had a code error. -/
def execEthernetReceive (dt port : Nat) (frame : Octets) (code : Bool) (s : State) : Host.Outcome State Fault Refusal :=
  command dt (fun s =>
    let p := port % 2
    let n := frame.length
    let body := frame.take (n - 4)
    if !s.portUp p then s
    else if code || decide (n < 64 ∨ 1522 < n) || leAt frame (n - 4) 4 != crc32 body then count UPL_CNT_RXERR 1 s
    else if beAt body 12 2 = 0x8808 ∧ beAt body 14 2 = 1 ∧ (body.take 6 = [0x01, 0x80, 0xC2, 0, 0, 1] ∨ body.take 6 = s.mac) then
      pauseReceive p (body.drop 14) s
    else
      match s.untag body with
      | none => filtered s
      | some (dst, src, type, os) =>
        if !s.macTaken dst type then filtered s
        else if type = 0x0806 then arpReceive p os s
        else if type = s.ipType then ipReceive p src os s
        else if type = 0x88F7 ∧ s.get UPL_PTP_CFG_TRANSPORT = 0 ∧ s.ptpRuns = true ∧ p = s.get UPL_STAT_ACTIVE then ptpReceive os (accepted p s)
        else filtered s) s

/-! ### Transmission (R342 to R346) -/

/-- The payload of STATUS (R345). -/
def State.statusPayload (s : State) : Octets :=
  le 1 s.mode.code ++ le 1 (flag (s.mode == .primary) + 2 * flag (!s.lock) + 4 * flag (s.mode == .holdover)) ++ zeros 2
    ++ (List.range 32).flatMap (fun q => be 2 (min (s.qFree q) 65535))

/-- A STATUS message is queued; one that waits already stands for both (assumption 37).
DESIGN CHOICE, unsafe: log 37. -/
def queueStatus (s : State) : State :=
  if s.upl.statusDue.isSome then s else modUpl (fun u => { u with statusDue := some (s.ts, s.lock) }) s

/-- STATUS_TIMER (R345): every STATINT × 10 ms. -/
def execStatusTimer (dt : Nat) (s : State) : Host.Outcome State Fault Refusal :=
  command dt (fun s =>
    let span := s.get UPL_TIME_STATINT * 10 * msCycles
    if s.get UPL_TIME_STATINT ≠ 0 ∧ s.passed s.upl.statusFrom span = true then
      queueStatus (modUpl (fun u => { u with statusFrom := u.statusFrom + span }) s)
    else s) s

/-- The effect of a write of `UPL_CTRL`: STATUS; a port whose RUN is cleared loses its link. -/
def uplCtrlWrite (w : Word) (s : State) : State :=
  let s := onlyIf (wrote w UPL_CTRL_STATUS) (fun s => queueStatus (startTask 0x400 s)) s
  forEach [0, 1] (fun p t => if t.portUp p && !t.ethRuns p then linkDown p t else t) s

/-- STATUS_SEND (R345): a write of `UPL_CTRL`, or the task. -/
def execStatusSend (dt : Nat) (trigger : WordTrigger) (s : State) : Host.Outcome State Fault Refusal :=
  command dt (fun s =>
    match trigger with
    | .write acc w => writeRow acc 0x20100000 w (uplCtrlWrite w) s
    | .task => if s.taskQueued 0x400 then queueStatus (takeTask 0x400 s) else s) s

/-- What a mode lets the ports send (R346): replies, queue 62 and STATUS; and everything. -/
def State.sendsManagement (s : State) : Bool := s.mode != .reset && s.mode != .load
def State.sendsAll (s : State) : Bool := s.ownsService

/-- A queue of 32 to 55 whose next message may start: the USENT of the one before is acknowledged (R367). -/
def State.queueReady (s : State) (q : Nat) : Bool :=
  s.is (UPL_Qn_CFG_EN q) && !s.qEmpty q && s.stl.usent.all (fun (e : Nat × Nat) => e.1 != q || s.ackedM (some e.2))

/-- The next queue of the round robin (R342). DEDUCED, unsafe: log 97. -/
def State.nextUpstream (s : State) : Option Nat :=
  ((List.range 24).map (fun k => 32 + (s.upl.lastQueue - 32 + 1 + k) % 24)).find? s.queueReady

/-- The header FLAGS of a message. -/
def headerFlags (resumed lock : Bool) : Nat := flag resumed + 2 * flag (!lock)

/-- The head of a queue, as frames. -/
def State.queueFrames (s : State) (q : Nat) : List Octets :=
  let d := s.qDesc q (s.qCi q)
  let data := s.memOr0 (leAt d 16 5) (leAt d 0 2)
  s.messageFrames msgUp q (octAt d 3) (leAt d 4 4) (leAt d 8 8) (q != 62) (q != 62) data

/-- The reads of the head of a queue: its descriptor and its data (R332, R407). -/
def readHead (q : Nat) (s : State) : State :=
  let d := s.qDesc q (s.qCi q)
  engineReads 5 (leAt d 16 5) (leAt d 0 2) (engineReads 5 (s.qDescAddr q (s.qCi q)) 32 s)

/-- The device fills in the descriptor of queue 62 as it sends it (R335, R343). -/
def fillManagement (s : State) : State :=
  let seq := s.get (UPL_Qn_SEQ_SEQ 62)
  let first := !s.upl.resumed.elem 62
  let fields := le 1 (headerFlags first s.lock) ++ le 4 seq ++ le 8 s.ts
  let s := enginePut 5 (s.qDescAddr 62 (s.qCi 62) + 3) fields s
  s.set (UPL_Qn_SEQ_SEQ 62) (seq + 1)

/-- A message begins. -/
def startSend (p : Nat) (m : UplMsg) (frames : List Octets) (s : State) : State :=
  modUpl (fun u => { u with sending := some { port := p, msg := m, frames := frames } }) s

/-- The head of queue 62 is sent; one whose LEN is not 1 to 2,048, or whose data cannot be read, is passed over with RINGERR
(assumption 38).
DEDUCED, unsafe: log 38. -/
def sendManagement (p : Nat) (s : State) : State :=
  let d := s.qDesc 62 (s.qCi 62)
  let len := leAt d 0 2
  if len = 0 ∨ 2048 < len then qAdvanceCi 62 (ringError s)
  else if (engineGet 5 (leAt d 16 5) len s).1.isNone then qAdvanceCi 62 (ringError (readHead 62 s))
  else
    let s := readHead 62 s
    let s := if s.upl.refs.any (fun (r : Nat × Nat × Nat) => r == (62, s.qCi 62, 0)) then s
      else modUpl (fun u => { u with refs := u.refs ++ [(62, s.qCi 62, 0)] }) (fillManagement s)
    let s := modUpl (fun u => { u with resumed := if u.resumed.elem 62 then u.resumed else 62 :: u.resumed }) s
    startSend p (.queue 62) (s.queueFrames 62) s

/-- The next message by precedence and round robin (R342). -/
def sendNext (s : State) : State :=
  let p := s.get UPL_STAT_ACTIVE
  let next := s.upl.replies.find? (fun (r : Nat × Octets) => s.portFree (s.replyPort r.1))
  match next with
  | some r => startSend (s.replyPort r.1) (.reply r.2) [r.2] (modUpl (fun u => { u with replies := u.replies.erase r }) s)
  | none =>
    if !s.portFree p || !s.is UPL_STAT_NHVALID then s
    else if s.is (UPL_Qn_CFG_EN 62) && !s.qEmpty 62 then sendManagement p s
    else
      match (if s.sendsAll then s.upl.compls else []), s.upl.statusDue with
      | c :: rest, _ =>
        let s := modUpl (fun u => { u with compls := rest }) s
        startSend p (.compl c) (s.messageFrames msgCompl (octAt c.data 4) (headerFlags false c.lock) (leAt c.data 24 4) c.ts true
          true c.data) s
      | [], some (ts, lock) =>
        let s := modUpl (fun u => { u with statusDue := none }) s
        startSend p (.status ts lock) (s.messageFrames msgStatus 0xFF (headerFlags false lock) s.upl.statusSeq ts false false
          s.statusPayload) s
      | [], none =>
        if s.sendsAll then
          match s.nextUpstream with
          | some q => startSend p (.queue q) (s.queueFrames q) (readHead q (modUpl (fun u => { u with lastQueue := q }) s))
          | none => s
        else s

/-- UPSTREAM_SEND (R342): a free port starts the next message. -/
def execUpstreamSend (dt : Nat) (s : State) : Host.Outcome State Fault Refusal :=
  command dt (fun s => if s.upl.sending.isSome || !s.sendsManagement then s else sendNext s) s

/-- USENT (R367). -/
def usentRecord (q seq : Nat) : Octets := record 0x0C [(1, le 1 q), (8, le 4 seq)]

/-- The last octet of a queue's message has left. -/
def queueSent (q : Nat) (s : State) : State :=
  let seq := leAt (s.qDesc q (s.qCi q)) 4 4
  let i := s.qCi q
  let s := qAdvanceCi q s
  if q = 62 then modUpl (fun u => { u with refs := u.refs.filter (fun (r : Nat × Nat × Nat) => r != (62, i, 0)) }) s
  else
    let m := s.stl.mseq
    let gated := s.mirrors
    let s := mirror (usentRecord q seq) s
    modStl (fun p => { p with
      usent := (if gated then [(q, m)] else []) ++ p.usent.filter (fun (e : Nat × Nat) => e.1 != q) }) s

/-- A STATUS has left. -/
def statusSent (s : State) : State :=
  let s := modUpl (fun u => { u with statusSeq := (u.statusSeq + 1) % 2 ^ 32 }) s
  let s := onlyIf (s.mode == .lastgasp) (modHold (fun h => { h with gasps := h.gasps + 1 })) s
  if s.upl.statusDue.isSome then s else endTask 0x400 (s.set UPL_CTRL_STATUS 0)

/-- MESSAGE_SENT (R342): the last octet of the message has left the port. -/
def execMessageSent (dt : Nat) (s : State) : Host.Outcome State Fault Refusal :=
  command dt (fun s =>
    match s.upl.sending with
    | none => s
    | some m =>
      let s := putWire m.port m.frames (modUpl (fun u => { u with sending := none }) s)
      let s := match m.msg with
        | .reply _ => s
        | .queue q => queueSent q s
        | .compl _ => s
        | .status _ _ => statusSent s
      lastgaspEnds s) s

end Sys2Proof.Machine
end

