-- ==== Sys2Proof/Machine/Pair.lean ====
section
/-!
DEFINITION. What a change of mode, of the mains or of the partner starts in a pair (R24, R33, R34, R365, R375, R465, R524): the
planned handover, the answer to a mains interruption, the judgement of SELFTEST, and a lost link.
-/

namespace Sys2Proof.Machine

/-! ### Planned handover (R375) -/

/-- The earliest instant from `t` on at least 3 ms from the beacon instants of every PAN that runs, before and after. -/
def State.clearInstant (s : State) : Nat → Nat → Nat
  | 0, t => t
  | n + 1, t =>
    let pans := (List.range 16).filter (fun p => s.panRuns p && s.panBeacons p)
    let gap := 3 * msCycles
    let blocked (p : Nat) : Option Nat :=
      let next := s.instantFrom p t
      if next < t + gap then some (next + gap)
      else if t + s.beaconInterval p < next + gap then some (next + gap - s.beaconInterval p)
      else none
    match pans.findSome? blocked with
    | some u => s.clearInstant n u
    | none => t

/-- H (R375): at least 100 µs after the trigger. DEDUCED, unsafe: log 102. -/
def State.handoverInstant (s : State) : Nat := s.clearInstant 64 (s.ts + 100 * usCycles)

/-- A CMD frame goes to the partner. -/
def sendCmd (code ts mseq : Nat) (s : State) : State := putFrame none none (stileCmd code ts mseq) s

/-- The codes of CMD (R356). -/
def cmdRequest : Nat := 1
def cmdYield : Nat := 2
def cmdYieldDone : Nat := 3
def cmdResign : Nat := 4

/-- A planned handover can run: the link is up and the partner, in STANDBY, is in SYNC. -/
def State.canHandOver (s : State) : Bool :=
  s.mode == .primary && s.stl.link && s.stl.elected && s.stl.peerMode == Mode.standby.code && s.partnerSynced
    && s.stl.handover.isNone

/-- The handover has ended or is refused: `STL_CTRL.HANDOVER` reads 0. -/
def handoverEnds (s : State) : State := endTask 0x440 (s.set STL_CTRL_HANDOVER 0)

/-- The primary chooses H and yields, or refuses. -/
def startHandover (s : State) : State :=
  if s.canHandOver then
    let h := s.handoverInstant
    sendCmd cmdYield h 0 (modStl (fun p => { p with
      handover := some { h := h, giving := true, moved := false, lastMseq := none } }) s)
  else if s.stl.handover.isSome then s
  else handoverEnds s

/-! ### The mains (R33, R35, R524) -/

/-- A mains interruption is declared (R522). -/
def State.interrupted (s : State) : Bool := 2 ≤ s.get PWR_MS_STAT_STATE

/-- The partner reports MAINS_OK over a link that is up. -/
def State.partnerMains (s : State) : Bool := s.stl.link && s.stl.elected && bitAt s.stl.peerState 4

/-- A declared interruption takes a PRIMARY to HOLDOVER where its partner reports one too, or is lost; a planned handover that
was under way ends with it (R33 row 18). -/
def mainsTogether (s : State) : State :=
  let s := if s.stl.handover.isSome then handoverEnds (modStl (fun p => { p with handover := none }) s) else s
  changeMode 18 .holdover s

/-- A declared interruption acts in the modes in which R33 lists it, where hold-up control is enabled. -/
def mainsAct (s : State) : State :=
  if s.interrupted && s.is PWR_HU_CFG_EN then
    match s.mode with
    | .solo => changeMode 17 .holdover s
    | .primary => if s.partnerMains then startHandover s else mainsTogether s
    | .standby => changeMode 19 .lastgasp s
    | _ => s
  else s

/-- A change of mode, after which a declared interruption acts at once (R34, R524). -/
def enterMode (row : Nat) (m : Mode) (s : State) : State := mainsAct (changeMode row m s)

/-! ### The judgement of SELFTEST (R465, R365) -/

/-- The span of an election: 60 ms. -/
def electionSpan : Nat := 60 * msCycles

/-- The Stile item has ended: pairing is impossible or disabled, the election has ended, or 60 ms have passed without it. -/
def State.pairKnown (s : State) : Bool :=
  s.variant == .wv5248 || s.stl.mismatch || s.stl.elected ||
    match s.stl.electing with
    | some t => !s.is STL_CFG_EN && !s.stl.link || s.passed t electionSpan
    | none => true

/-- The bits of `CFG_STRES` that must all be 1: the seven items beside PAIR, and LO. -/
def itemsPassed (r : Nat) : Bool := r % 128 == 127 && bitAt r 8

/-- The items are judged together once the last one has ended, and the mode changes by R33. -/
def judgeSelftest (s : State) : State :=
  match s.mode, s.cfg.tested with
  | .selftest, some r =>
    if s.pairKnown then
      let pair := !s.stl.mismatch
      let s := s.setWord CFG_STRES_RX.addr (BitVec.ofNat 32 (r + 128 * flag pair))
      let s := raise CFG_INT_STAT_STDONE (modCfg (fun c => { c with tested := none }) s)
      let paired := s.stl.link && s.stl.elected
      if itemsPassed r && pair then
        match s.stl.won with
        | some true => announceService (if paired then enterMode 7 .primary s else enterMode 6 .solo s)
        | some false =>
          if paired then enterMode 8 .standby (modStl (fun p => { p with sync := syncJoining, joinStep := 0 }) s)
          else announceService (enterMode 6 .solo s)
        | none => announceService (enterMode 6 .solo s)
      else enterMode 9 .safe s
    else s
  | _, _ => s

/-! ### A lost link (R360, R374) -/

/-- Nothing waits for an acknowledgement any longer. -/
def clearGates (s : State) : State :=
  let s := modSec (fun g => { g with resvs := g.resvs.map (fun r => { r with gate := none }) }) s
  let s := modLnk (fun l => { l with
    decided := l.decided.map (fun d => { d with mseq := none }),
    down := l.down.map (fun d => { d with gate := none, ciOwed := d.ciOwed.map (fun _ => none) }),
    completions := l.completions.map (fun c => { c with gate := none }) }) s
  let s := modCtx (fun c => { c with cmds := c.cmds.map (fun x => { x with gate := none }) }) s
  let s := modUpl (fun u => { u with entering := u.entering.map (fun e => { e with gate := none }) }) s
  modStl (fun p => { p with usent := [], unacked := [], sentTimes := [] }) s

/-- What an acknowledgement, a lost link or a change of mode lets go on. -/
def settleAll (s : State) : State := cmdAdvance (gatesSettle s)

/-- The numbers of records and items start at 0, as when an election ends (R358). -/
def restartNumbers (s : State) : State :=
  modStl (fun p => { p with
    mseq := 0, xseq := 0, macked := 0, xacked := 0, rxM := 0, rxX := 0, applied := 0, held := [], partial_ := none, items := [],
    decides := [], snapStamps := [] }) (clearGates s)

end Sys2Proof.Machine
end

