-- ==== Sys2Proof/Machine/Mains.lean ====
section
/-!
DEFINITION. The mains sense (R520 to R524), the hold-up store (R525 to R529), holdover and the last gasp (R533, R534).
-/

namespace Sys2Proof.Machine

/-- Change the mains sense. -/
def modMains (f : Mains → Mains) (s : State) : State := { s with mains := f s.mains }

/-! ### The mains state (R522) -/

/-- The codes of `PWR_MS_STAT.STATE`. -/
def msOff : Nat := 0
def msGood : Nat := 1
def msInterrupted : Nat := 2
def msRestoring : Nat := 3

/-- A sag starts (R523). -/
def sagStarts (s : State) : State :=
  if s.is PWR_MS_STAT_SAG then s
  else emit 0x043 0 (raise PWR_MH_INT_STAT_SAG (count PWR_MS_CNT_SAGS 1 (raise PWR_MS_STAT_SAG s)))

/-- The state GOOD is entered. -/
def mainsGood (s : State) : State := emit 0x046 0 (raise PWR_MH_INT_STAT_RESTORED (s.set PWR_MS_STAT_STATE msGood))

/-- An interruption is declared: from GOOD it is a new one; it is also a sag (R523), and it acts on the mode (R524). -/
def interruption (s : State) : State :=
  let fresh := s.get PWR_MS_STAT_STATE == msGood
  let s := modMains (fun m => { m with low := 0, ok := 0 }) (s.set PWR_MS_STAT_STATE msInterrupted)
  let s := onlyIf fresh (fun s => emit 0x045 0 (raise PWR_MH_INT_STAT_INT (count PWR_MS_CNT_INTS 1 s))) (sagStarts s)
  mainsAct s

/-- The state follows EN as LOAD has written it: OFF while EN is 0 (R522). -/
def mainsFollow (s : State) : State :=
  if !s.is PWR_MS_CFG_EN then s.set PWR_MS_STAT_STATE msOff
  else if s.get PWR_MS_STAT_STATE = msOff then
    mainsGood (modMains (fun m => { m with low := 0, ok := 0, zcAt := s.cycles }) s)
  else s

/-- A value in 0.1 V lies below a percentage of the declared voltage. -/
def State.belowPct (s : State) (urms pct : Nat) : Bool := decide (urms * 10 < pct * s.get PWR_MS_CFG_UDIN)

/-- The mains state after a half-cycle value. DEDUCED, unsafe: log 125. -/
def mainsStep (urms : Nat) (s : State) : State :=
  let n := s.get PWR_MS_THR_INTN
  let low := s.belowPct urms (s.get PWR_MS_THR_INT)
  let back := !s.belowPct urms (s.get PWR_MS_THR_INT + s.get PWR_MS_THR_HYST)
  let s := modMains (fun m => { m with low := if low then m.low + 1 else 0, ok := if back then m.ok + 1 else 0 }) s
  match s.get PWR_MS_STAT_STATE with
  | 1 => if n ≤ s.mains.low then interruption s else s
  | 2 =>
    if n ≤ s.mains.ok ∧ s.is PWR_MS_STAT_LOST = false then
      modMains (fun m => { m with low := 0, stableFrom := s.cycles }) (s.set PWR_MS_STAT_STATE msRestoring)
    else s
  | 3 =>
    if n ≤ s.mains.low then interruption s
    else if back then s else modMains (fun m => { m with stableFrom := s.cycles }) s
  | _ => s

/-- A sag or a swell starts or ends (R523). -/
def sagSwell (urms : Nat) (s : State) : State :=
  let sag := s.get PWR_MS_THR_SAG
  let swell := s.get PWR_MS_THR_SWELL
  let hyst := s.get PWR_MS_THR_HYST
  let s := if s.belowPct urms sag then sagStarts s
    else if s.belowPct urms (sag + hyst) then s else s.set PWR_MS_STAT_SAG 0
  let udin := s.get PWR_MS_CFG_UDIN
  if swell * udin < urms * 10 then
    (if s.is PWR_MS_STAT_SWELL then s
     else emit 0x044 0 (raise PWR_MH_INT_STAT_SWELL (count PWR_MS_CNT_SWELLS 1 (raise PWR_MS_STAT_SWELL s))))
  else if urms * 10 ≤ (swell - hyst) * udin then s.set PWR_MS_STAT_SWELL 0
  else s

/-- Mains volts, in 0.1 V, of an RMS value at the input in µV: GAIN is mains volts per input volt, in sixteenths (R521). -/
def State.mainsVolts (s : State) (uv : Nat) : Nat := (uv * s.get PWR_MS_CFG_GAIN + 800000) / 1600000

/-- HALF_CYCLE (R521, R522): the RMS over one cycle of the input's samples, `uv` in µV, is scaled into mains volts: Urms(1/2). -/
def execHalfCycle (dt : Nat) (uv : Nat) (s : State) : Host.Outcome State Fault Refusal :=
  command dt (fun s =>
    if s.is PWR_MS_CFG_EN then
      let u := min (s.mainsVolts uv) 65535
      let s := s.set PWR_MS_RMS_URMS u
      let s := s.set PWR_MS_RMS_MIN (if s.mains.minSeen then min u (s.get PWR_MS_RMS_MIN) else u)
      let s := modMains (fun m => { m with minSeen := true }) s
      mainsStep u (sagSwell u s)
    else s) s

/-- ZERO_CROSSING (R521): a positive-going crossing, `ago` ticks before it is reported. -/
def execZeroCrossing (dt : Nat) (ago : Nat) (s : State) : Host.Outcome State Fault Refusal :=
  command dt (fun s =>
    if s.is PWR_MS_CFG_EN then
      let s := s.set PWR_MS_ZC_TS32 (s.ts - ago)
      modMains (fun m => { m with zcAt := s.cycles - ago }) (s.set PWR_MS_STAT_LOST 0)
    else s) s

/-- The nominal frequency in mHz. -/
def State.nominalMhz (s : State) : Nat := if s.is PWR_MS_CFG_F60 then 60000 else 50000

/-- FREQUENCY_UPDATE (R521, R523): the frequency in mHz. -/
def execFrequencyUpdate (dt : Nat) (mhz : Nat) (s : State) : Host.Outcome State Fault Refusal :=
  command dt (fun s =>
    if s.is PWR_MS_CFG_EN then
      let s := s.set PWR_MS_FREQ_MHZ (min mhz (allOnes 20))
      let f := s.nominalMhz
      let dev := max (mhz - f) (f - mhz)
      if s.get PWR_MS_TIME_FTOL * f < dev * 1000 then
        (if s.is PWR_MS_STAT_FREQDEV then s else raise PWR_MH_INT_STAT_FREQDEV (raise PWR_MS_STAT_FREQDEV s))
      else s.set PWR_MS_STAT_FREQDEV 0
    else s) s

/-- Two nominal cycles. -/
def State.twoCycles (s : State) : Nat := 2 * secCycles * 1000 / s.nominalMhz

/-- SIGNAL_LOSS (R521): the input is open or shorted (`shut`), or no crossing has arrived for two nominal cycles. -/
def execSignalLoss (dt : Nat) (shut : Bool) (s : State) : Host.Outcome State Fault Refusal :=
  command dt (fun s =>
    if s.is PWR_MS_CFG_EN && !s.is PWR_MS_STAT_LOST && (shut || s.passed s.mains.zcAt s.twoCycles) then
      let s := raise PWR_MH_INT_STAT_LOST (count PWR_MS_CNT_LOSTS 1 (raise PWR_MS_STAT_LOST s))
      if s.get PWR_MS_STAT_STATE = msGood ∨ s.get PWR_MS_STAT_STATE = msRestoring then interruption s else s
    else s) s

/-! ### The hold-up store (R525 to R529) -/

/-- The codes of `PWR_HU_STAT.STATE`. -/
def huOff : Nat := 0
def huWait : Nat := 1
def huCharge : Nat := 2
def huReady : Nat := 3
def huSupply : Nat := 4
def huBleed : Nat := 5
def huFault : Nat := 6

/-- The state of the store controller. -/
def State.huState (s : State) : Nat := s.get PWR_HU_STAT_STATE

/-- C × V², in units of 0.5 nJ: C in mF, V in mV (R526). -/
def State.storeEnergy (s : State) : Nat := s.get PWR_HU_STORE_CAP * s.get PWR_HU_VI_MV ^ 2

/-- The available energy in the same units; 0 in BLEED and FAULT (R526). -/
def State.storeAvailable (s : State) : Nat :=
  let vmin := s.get PWR_HU_CFG_VMIN * 100
  if s.huState = huBleed ∨ s.huState = huFault then 0
  else s.get PWR_HU_STORE_CAP * (s.get PWR_HU_VI_MV ^ 2 - vmin ^ 2)

/-- A joule in units of 0.5 nJ. -/
def joule : Nat := 2000000000

/-- 10 mJ in units of 0.5 nJ. -/
def centiJoule : Nat := 20000000

/-- The charge current permitted now (R528): it rises from 0 to ICHG over RAMP ms, in mA. -/
def State.permitted (s : State) : Nat :=
  let full := s.get PWR_HU_CHG_ICHG * 10
  let ramp := s.get PWR_HU_CHG_RAMP * msCycles
  let t := s.cycles - s.hold.chargeFrom
  if t < ramp then full * t / ramp else full

/-- The store voltage in mV of a voltage in µV at HU_VSENSE: VDIV is the divider's ratio in 1/256 (R526, R585).
DEDUCED, unsafe: log 211. -/
def State.storeMv (s : State) (uv : Nat) : Nat := uv * s.get PWR_HU_STORE_VDIV / 256000

/-- The shunt current in mA of a voltage in µV across HU_ISNS: RSHUNT is in mΩ (R528). -/
def State.shuntMa (s : State) (uv : Int) : Int := uv / (s.get PWR_HU_CHG_RSHUNT : Int)

/-- For how long HU_CHG has been on in this CHARGE. -/
def State.chargedFor (s : State) : Nat := s.hold.chgOn + (if s.is PWR_HU_STAT_CHG then s.cycles - s.hold.chgAt else 0)

/-- A reading at HU_VSENSE in µV lies in the input range, 0 to 1.45 V; one below 20 mV after HU_CHG has been on for 5 s is a shorted
sense (R585). -/
def State.senseOk (s : State) (uv : Nat) : Bool :=
  decide (uv ≤ 1450000) && !(decide (uv < 20000) && decide (5 * secCycles ≤ s.chargedFor))

/-- HU_CHG is on in CHARGE by the shunt current (R528): it opens where the current reaches the one permitted, and closes again only
once the current lies a band below it. The band is a free value. DESIGN CHOICE, safe: log 202. -/
def State.chargeCloses (s : State) : Bool :=
  let ma := s.getInt PWR_HU_VI_MA
  decide (ma < s.permitted) && (s.is PWR_HU_STAT_CHG || decide (ma + Config.chargeBand s.permitted < s.permitted))

/-- The outputs follow the state (R525, R527, R528). -/
def huOutputs (s : State) : State :=
  let st := s.huState
  let idc := s.is PWR_HU_STAT_IDC
  let chg := st == huCharge && !s.is PWR_HU_CTRL_CHGOFF && s.chargeCloses
  let dis := !idc && (st == huCharge || st == huReady || st == huSupply)
  let bleed := st == huBleed || st == huFault
  let s := modHold (fun h => { h with chgOn := s.chargedFor, chgAt := s.cycles }) s
  ((s.set PWR_HU_STAT_CHG (flag chg)).set PWR_HU_STAT_DIS (flag dis)).set PWR_HU_STAT_BLEED (flag bleed)

/-- The store controller enters a state; while HU_SVC_N is low, WAIT gives way to BLEED at once (R527). Leaving BLEED clears the bit
that asked for it; leaving FAULT clears the cause. -/
def huEnter (goal : Nat) (s : State) : State :=
  let was := s.huState
  let st := if goal = huWait ∧ s.is PWR_HU_STAT_SVC = true then huBleed else goal
  let s := onlyIf (was == huBleed && st != huBleed) (fun s => s.set PWR_HU_CTRL_BLEED 0) s
  let s := onlyIf (was == huFault && st != huFault) (fun s => s.set PWR_HU_STAT_FCAUSE 0) s
  let bleeding := was == huBleed || was == huFault
  let s := s.set PWR_HU_STAT_STATE st
  let s := onlyIf (st == huCharge) (modHold (fun h => { h with chargeFrom := s.cycles, chgOn := 0, chgAt := s.cycles })) s
  let s := onlyIf ((st == huBleed || st == huFault) && !bleeding)
    (modHold (fun h => { h with bleedFrom := s.cycles, bled := false, bleedFailed := false })) s
  let s := onlyIf (st == huReady && was != huReady) (raise PWR_MH_INT_STAT_READY) s
  huOutputs s

/-- A cause of R529 puts the controller in FAULT; a fault that stands keeps its cause. -/
def huFaultBy (cause : Nat) (s : State) : State :=
  if s.huState = huOff ∨ s.huState = huFault then s
  else raise PWR_MH_INT_STAT_HUFAULT ((huEnter huFault s).set PWR_HU_STAT_FCAUSE cause)

/-- The trips within the last second. -/
def State.recentTrips (s : State) : List Nat := s.hold.trips.filter (fun t => decide (s.cycles < t + secCycles))

/-- A cause of R529 that is present: over-voltage, over-energy, three trips, a failed bleed that goes on, or an input out of
range. -/
def State.huCause (s : State) : Option Nat :=
  if s.get PWR_HU_CFG_VMAX * 100 < s.get PWR_HU_VI_MV then some 1
  else if 105 * s.get PWR_HU_CFG_ECAP * joule < 100 * s.storeEnergy then some 2
  else if 3 ≤ s.recentTrips.length then some 3
  else if s.hold.bleedFailed && !s.hold.bled then some 4
  else if !s.hold.inRange then some 5
  else none

/-- The store has fallen to BLEEDV. -/
def State.bledDown (s : State) : Bool := decide (s.get PWR_HU_VI_MV ≤ s.get PWR_HU_BLEED_BLEEDV * 100)

/-- The state after a sample (R527). DEDUCED, unsafe: log 126. -/
def huStep (s : State) : State :=
  let e := s.storeEnergy
  let cap := s.get PWR_HU_CFG_ECAP * joule
  let v := s.get PWR_HU_VI_MV
  let vmax := s.get PWR_HU_CFG_VMAX * 100
  let bleeding := s.huState == huBleed || s.huState == huFault
  let s := onlyIf (bleeding && s.bledDown && !s.hold.bled)
    (fun s => raise PWR_MH_INT_STAT_BLEEDDONE (modHold (fun h => { h with bled := true }) s)) s
  let s := match s.huCause with
    | some c => huFaultBy c s
    | none => s
  match s.huState with
  | 2 =>
    if cap ≤ e ∨ 97 * vmax ≤ 100 * v then huEnter huReady s else huOutputs s
  | 3 => if 2 * e + joule < 2 * cap ∧ 100 * v < 95 * vmax then huEnter huCharge s else huOutputs s
  | 5 => if s.bledDown && !s.is PWR_HU_STAT_SVC then huEnter huWait s else huOutputs s
  | _ => huOutputs s

/-! ### Holdover and the last gasp (R533, R534) -/

/-- HOLDOVER goes to LASTGASP. -/
def toLastgasp (s : State) : State := changeMode 21 .lastgasp s

/-- The store has fallen to the last-gasp reserve (R533). -/
def State.storeLow (s : State) : Bool := decide (s.storeAvailable ≤ s.get PWR_HU_PROF_LGRES * centiJoule)

/-- The time limit of HOLDOVER has passed (R533). -/
def State.holdLimit (s : State) : Bool :=
  s.get PWR_HU_PROF_HOLDMAX != 0 && s.passed s.hold.from_ (s.get PWR_HU_PROF_HOLDMAX * secCycles)

/-- `PWR_HOLD_STAT` while HOLDOVER lasts: the time since entry, and what is left at the fall of EA over the last second. -/
def holdTimes (s : State) : State :=
  let ea := s.storeAvailable
  let kept := s.hold.samples.filter (fun (p : Nat × Nat) => decide (s.cycles ≤ p.1 + secCycles)) ++ [(s.cycles, ea)]
  let fall := ((kept.head?.map (fun p => p.2)).getD ea) - ea
  let spare := ea - s.get PWR_HU_PROF_LGRES * centiJoule
  let left := if fall = 0 then 65535 else min 65535 (spare * 10 / fall)
  let s := s.set PWR_HOLD_STAT_ELAPSED (min 65535 ((s.cycles - s.hold.from_) / (100 * msCycles)))
  modHold (fun h => { h with samples := kept }) (s.set PWR_HOLD_STAT_LEFT left)

/-- What a sample means for HOLDOVER. -/
def holdStep (s : State) : State :=
  match s.mode with
  | .holdover =>
    let s := holdTimes s
    if s.storeLow then toLastgasp (emit 0x047 0 (raise PWR_MH_INT_STAT_STORELOW s)) else s
  | _ => s

/-- STORE_SAMPLE (R526): what stands at HU_VSENSE and across the shunt, in µV; `below` says that HU_VSENSE lies below 0 V, outside its
range. -/
def execStoreSample (dt : Nat) (uv : Nat) (shunt : Int) (below : Bool) (s : State) : Host.Outcome State Fault Refusal :=
  command dt (fun s =>
    let ok := s.senseOk uv && !below
    let s := (s.set PWR_HU_VI_MV (min (s.storeMv uv) 65535)).set PWR_HU_VI_MA (twos 16 (clamp (-32768) 32767 (s.shuntMa shunt)))
    let s := huStep (modHold (fun h => { h with inRange := ok }) s)
    let s := (s.set PWR_HU_E_E (min 65535 (s.storeEnergy / centiJoule))).set PWR_HU_E_EA
      (min 65535 (s.storeAvailable / centiJoule))
    holdStep s) s

/-- RESTORE_TIMER (R522): RESTORE × 100 ms have passed stable. HOLDOVER ends, unless a trigger to LASTGASP is present (R533). -/
def execRestoreTimer (dt : Nat) (s : State) : Host.Outcome State Fault Refusal :=
  command dt (fun s =>
    if s.get PWR_MS_STAT_STATE = msRestoring ∧ s.is PWR_MS_STAT_LOST = false
        ∧ s.passed s.mains.stableFrom (s.get PWR_MS_TIME_RESTORE * 100 * msCycles) then
      let s := mainsGood s
      match s.mode with
      | .holdover =>
        if s.storeLow then toLastgasp (emit 0x047 0 (raise PWR_MH_INT_STAT_STORELOW s))
        else if s.holdLimit then toLastgasp s
        else enterMode 20 .solo s
      | _ => s
    else s) s

/-- INPUT_FET_OPEN (R525): VIN_SENSE lies 20 mV or more below the bus. -/
def execInputFetOpen (dt : Nat) (vin bus : Nat) (s : State) : Host.Outcome State Fault Refusal :=
  command dt (fun s =>
    if s.lpw.powerGood && s.is PWR_HU_STAT_IDC && decide (vin + 20 ≤ bus) then
      let s := s.set PWR_HU_STAT_IDC 0
      if s.huState = huCharge ∨ s.huState = huReady then huEnter huSupply s else huOutputs s
    else s) s

/-- INPUT_FET_CLOSE (R525): VIN_SENSE lies at least 10 mV above the bus. -/
def execInputFetClose (dt : Nat) (vin bus : Nat) (s : State) : Host.Outcome State Fault Refusal :=
  command dt (fun s =>
    if s.lpw.powerGood && !s.is PWR_HU_STAT_IDC && decide (bus + 10 ≤ vin) then
      let s := modHold (fun h => { h with closedFrom := s.cycles }) (raise PWR_HU_STAT_IDC s)
      if s.huState = huSupply then huEnter huWait s else huOutputs s
    else s) s

/-- CHARGE_DELAY_END (R527): the input FETs have been closed for CHGDLY × 10 ms. -/
def execChargeDelayEnd (dt : Nat) (s : State) : Host.Outcome State Fault Refusal :=
  command dt (fun s =>
    if s.huState = huWait ∧ s.is PWR_HU_STAT_IDC = true
        ∧ s.passed s.hold.closedFrom (s.get PWR_HU_CHG_CHGDLY * 10 * msCycles) then huEnter huCharge s
    else s) s

/-- CHARGE_TRIP (R528): `shunt` µV across the shunt, a current above 1.5 × ICHG turns HU_CHG off and restarts the ramp; the third within 1 s is a fault. -/
def execChargeTrip (dt : Nat) (shunt : Int) (s : State) : Host.Outcome State Fault Refusal :=
  command dt (fun s =>
    let ma := s.shuntMa shunt
    if s.huState = huCharge ∧ s.is PWR_HU_STAT_CHG = true ∧ (15 * s.get PWR_HU_CHG_ICHG : Int) < ma then
      let s := s.set PWR_HU_VI_MA (twos 16 (clamp (-32768) 32767 ma))
      let s := modHold (fun h => { h with chargeFrom := s.cycles, trips := s.recentTrips ++ [s.cycles] }) s
      let s := huOutputs s
      if 3 ≤ s.recentTrips.length then huFaultBy 3 s else s
    else s) s

/-- SERVICE_SWITCH (R527): HU_SVC_N goes low or high. -/
def execServiceSwitch (dt : Nat) (low : Bool) (s : State) : Host.Outcome State Fault Refusal :=
  command dt (fun s =>
    let s := s.set PWR_HU_STAT_SVC (flag low)
    if low && s.huState != huOff then huEnter huBleed s else s) s

/-- The effect of a write of `PWR_HU_CTRL`: BLEED starts a bleed; CLRFAULT lets a bled store leave FAULT where no cause is
present; CHGOFF acts on the outputs. -/
def huCtrlWrite (w : Word) (s : State) : State :=
  let s := if wrote w PWR_HU_CTRL_CLRFAULT then
      (let s := s.set PWR_HU_CTRL_CLRFAULT 0
       if s.huState = huFault ∧ s.huCause = none ∧ s.bledDown = true then huEnter huWait s else s)
    else s
  let s := if wrote w PWR_HU_CTRL_BLEED then
      (if s.huState = huOff then s.set PWR_HU_CTRL_BLEED 0 else huEnter huBleed s)
    else s
  huOutputs s

/-- The address of `PWR_HU_CTRL`. -/
def huCtrlAddr : Nat := 0x20010840

/-- BLEED (R527): a write of `PWR_HU_CTRL`. -/
def execBleed (dt : Nat) (acc : Access) (w : Word) (s : State) : Host.Outcome State Fault Refusal :=
  command dt (writeRow acc huCtrlAddr w (huCtrlWrite w)) s

/-- CLRFAULT (R527): a write of `PWR_HU_CTRL`. -/
def execClrfault (dt : Nat) (acc : Access) (w : Word) (s : State) : Host.Outcome State Fault Refusal :=
  command dt (writeRow acc huCtrlAddr w (huCtrlWrite w)) s

/-- BLEEDFAIL (R527): the store has not reached BLEEDV within BLEEDT seconds; bleeding goes on, in FAULT (R529). -/
def execBleedfail (dt : Nat) (s : State) : Host.Outcome State Fault Refusal :=
  command dt (fun s =>
    if (s.huState = huBleed ∨ s.huState = huFault) ∧ s.hold.bled = false ∧ s.hold.bleedFailed = false
        ∧ s.passed s.hold.bleedFrom (s.get PWR_HU_BLEED_BLEEDT * secCycles) then
      huFaultBy 4 (raise PWR_MH_INT_STAT_BLEEDFAIL (modHold (fun h => { h with bleedFailed := true }) s))
    else s) s

/-- The store controller at the end of LOAD (R527): EN takes it out of OFF. -/
def storeStart (s : State) : State :=
  if s.is PWR_HU_CFG_EN then (if s.huState = huOff then huEnter huWait s else s)
  else if s.huState = huOff then s else huEnter huOff s

/-- HOLDOVER_LIMIT (R533): HOLDMAX seconds have passed. -/
def execHoldoverLimit (dt : Nat) (s : State) : Host.Outcome State Fault Refusal :=
  command dt (fun s =>
    match s.mode with
    | .holdover => if s.holdLimit then toLastgasp s else s
    | _ => s) s

/-- LASTGASP_STATUS (R534): the next of STATN messages is due, STATGAP × 10 ms after the one before it. -/
def execLastgaspStatus (dt : Nat) (s : State) : Host.Outcome State Fault Refusal :=
  command dt (fun s =>
    let s := gaspFollows s
    match s.mode with
    | .lastgasp =>
      if s.hold.gasps < s.get PWR_LG_CFG_STATN
          ∧ s.passed s.hold.gaspFrom (s.hold.gasps * s.get PWR_LG_CFG_STATGAP * 10 * msCycles) then queueStatus s
      else s
    | _ => s) s

/-- LASTGASP_TIME_LIMIT (R534): LGTIME ms have passed, and the device resets. -/
def execLastgaspTimeLimit (dt : Nat) (s : State) : Host.Outcome State Fault Refusal :=
  command dt (fun s =>
    let s := gaspFollows s
    match s.mode with
    | .lastgasp =>
      if s.passed s.hold.gaspFrom (s.get PWR_LG_CFG_LGTIME * msCycles) then deviceReset causeLastgasp false s else s
    | _ => s) s

end Sys2Proof.Machine
end

