-- ==== Sys2Proof/Machine/Start.lean ====
section
/-!
DEFINITION. The loader and start-up (R454 to R466): the end of RESET, the header and its signature, the sections and their
checks, the end of LOAD, and the judgement of SELFTEST.
-/

namespace Sys2Proof.Machine

/-! ### Power and RESET_N (R463, R573, R574, R580) -/

/-- POWER_GOOD (R573): every rail has stayed above its rising threshold for 1 ms. The timebase starts, and what the backup
domain owes is raised (R537). DEDUCED, unsafe: log 23. -/
def execPowerGood (dt : Nat) (s : State) : Host.Outcome State Fault Refusal :=
  command dt (fun s =>
    if s.lpw.powerGood then s
    else
      let s := modLpw (fun l => { l with powerGood := true, wdtFrom := s.cycles }) s
      let s := { s with tim := { s.tim with running := true, pllLock := true } }
      bkpReturn (renewChallenge s)) s

/-- The falling threshold of a rail in millivolts (R574). -/
def railFalling : Rail → Nat
  | .core => 520
  | .aon => 1620
  | .ana => 1650
  | .io => 1600
  | .vdd2 => 1020
  | .vddq => 540

/-- Power is no longer good: the timebase stops, and the TAP comes up again in Test-Logic-Reset with its instruction BYPASS (R586). -/
def losePower (s : State) : State :=
  let s := modLpw (fun l => { l with powerGood := false }) { s with tap := State.reset.tap }
  { s with tim := { s.tim with running := false, pllLock := false } }

/-- SUPPLY_MONITOR_RESET (R574): a rail stays below its falling threshold for 1 µs. -/
def execSupplyMonitorReset (dt : Nat) (rail : Rail) (mv : Nat) (s : State) : Host.Outcome State Fault Refusal :=
  command dt (fun s =>
    if s.lpw.powerGood && decide (mv < railFalling rail) then losePower (deviceReset causePor false s) else s) s

/-- RESET_N (R580): held low for 1 µs or more the pin resets the device; RESET lasts until it is released (R463). -/
def execResetN (dt : Nat) (low : Bool) (s : State) : Host.Outcome State Fault Refusal :=
  command dt (fun s =>
    if low then
      let s := modLpw (fun l => { l with resetLow := true }) s
      if s.lpw.powerGood then deviceReset causeResetn false s else s
    else modLpw (fun l => { l with resetLow := false }) s) s

/-! ### Codes of the loader (R462) -/

/-- The codes of `CFG_STAT.STATE`. -/
def cfgIdle : Nat := 0
def cfgHeader : Nat := 1
def cfgSignature : Nat := 2
def cfgSections : Nat := 3
def cfgChecks : Nat := 4
def cfgDone : Nat := 5
def cfgFailed : Nat := 6

/-- The codes of `CFG_STAT.FAIL`. -/
def failMagic : Nat := 1
def failFormat : Nat := 2
def failKey : Nat := 3
def failSig : Nat := 4
def failVariant : Nat := 5
def failBadsec : Nat := 6
def failDigest : Nat := 7
def failCrc : Nat := 8
def failRead : Nat := 9
def failUnwrap : Nat := 10
def failRule : Nat := 11
def failTimeout : Nat := 12

/-- FAILSEC where no section failed. -/
def noSection : Nat := 0x3F

/-- The maker request holds: latched, in life-cycle MAKER (R33, R496). -/
def State.makerRequest (s : State) : Bool := s.is LPW_RSTCAUSE_MAKERLATCH && s.lifeCycle == lcMaker

/-- Duration of LOAD in ms. -/
def loadTime (s : State) : State := s.set CFG_TIMES_LOADMS (min 65535 ((s.cycles - s.cfg.since) / msCycles))

/-- What sections of an image that is not applied had placed (R496): register fields, rules, keys and the cores' release. -/
def undoImage (s : State) : State :=
  let s := forEach s.cfg.undo (fun (e : Nat × Word) t => t.setWord e.1 e.2) s
  let s := forEach (List.range 64) (fun g t => if (t.slot (512 + g)).valid then eraseSlot (512 + g) t else t) s
  let s := modSec (fun g => { g with keys := [], pmks := [] }) s
  let s := modCfg (fun c => { c with undo := [] }) s
  { s with
    regs := ((s.set SHF_RTAG_RTAG 0).set SHF_RTAG_NRULES 0).regs,
    shf := { s.shf with rules := [] }, app := { s.app with appfw := false } }

/-- BOOT_KAT (R590): once the KWK is settled and the KEYS section, if there is one, is unwrapped, or the LOAD ends without that,
the known-answer test runs and RUN is set when at least 6 cores pass. -/
def bootKat (ends : Bool) (s : State) : State :=
  let keysLeft := (List.range s.nsec).any (fun k => s.secType k == secKeys && !s.cfg.done.elem k)
  if s.cfg.kat || (keysLeft && !ends) || !s.sec.kwkTried then s
  else
    let s := knownAnswerTest s.sec.katFail (modCfg (fun c => { c with kat := true }) s)
    if s.runAllowed then raise SEC_CTRL_RUN s else s

/-- What the boot ROM does of Gorse before LOAD ends: the known-answer test (R590), and in FIELD and RETURN every alarm source armed
and ALOCK set (R259). -/
def bootGorse (s : State) : State :=
  let s := bootKat true s
  if s.lifeCycle = lcField ∨ s.lifeCycle = lcReturn then raise SEC_CTRL_ALOCK (s.set ⟨0x20090018, 0, 5⟩ 0x1F) else s

/-- LOAD_FAIL (R462): the code and the section are recorded, and the device enters SAFE, or MAKER on a maker request. A
header failure stops DRAM training (R464). -/
def loadFail (code sec : Nat) (s : State) : State :=
  let s := ((s.set CFG_STAT_FAIL code).set CFG_STAT_FAILSEC sec).set CFG_STAT_STATE cfgFailed
  let s := onlyIf (decide (code ≤ failSig) || s.cfg.header.isEmpty) (fun s => s.set DMC_STAT_STATE dmcFailed) s
  let s := bootGorse (loadTime s)
  if s.makerRequest then changeMode 5 .maker (mainsFollow (undoImage s)) else changeMode 4 .safe (mainsFollow s)

/-! ### The header (R455, R457, R458) -/

/-- The loader's access. -/
def loaderAccess : Access := { init := initLoader, secure := true, bytes := 4 }

/-- SLOT_FIND (R455): the newest durable SLOT record of the log; slot A where there is none. -/
def State.activeSlot (s : State) : Nat :=
  match ((s.replayList s.jnlHead).filter (fun e => e.2.type == recSlot)).getLast? with
  | some e => e.2.payload % 2
  | none => 0

/-- The octets the signature covers. -/
def State.signedOctets (s : State) : Octets := s.cfg.header.take (s.cfg.header.length - 64)

/-- PUBKEY. -/
def State.pubKey (s : State) : Octets := (s.cfg.header.drop 0x20).take 64

/-- The first word of the hash that the life cycle accepts for KEYSEL (R458). -/
def State.keyHashWord (s : State) : Option Nat :=
  let sel := s.hdr 0x0F 1
  if s.lifeCycle = lcMaker ∨ s.lifeCycle = lcReturn then (if sel = 0 then some 0x20 else none)
  else if s.lifeCycle = lcField then (if sel = 1 then some (otpSlot s.customerSlot + 8) else none)
  else none

/-- The public key is the one the one-time row names; a blank or invalid word fails (R458). -/
def State.keyAccepted (s : State) : Bool :=
  match s.keyHashWord with
  | some w => (List.range 8).all (fun k => s.otpValid (w + k)) && sha256 s.pubKey == s.otpHash w
  | none => false

/-- The format of the header is wrong (R462). -/
def State.formatWrong (s : State) : Bool :=
  let n := s.nsec
  s.hdr 4 2 != 1 || decide (n < 1 ∨ 60 < n) || s.hdr 6 2 != 0x80 + 64 * n + 64 || s.hdr 0x10 4 / 2 ^ 16 % 16 == 0
    || s.hdr 0x10 4 % 4 == 3

/-- The signature of the header is valid (R458). -/
def State.signatureGood (s : State) : Bool :=
  let sig := s.cfg.header.drop (s.cfg.header.length - 64)
  ecdsaVerify (beNat (s.pubKey.take 32)) (beNat (s.pubKey.drop 32)) (sha256 s.signedOctets)
    (beNat (sig.take 32)) (beNat (sig.drop 32))

/-- Read the header of a slot into the loader; none where the flash cannot be read. -/
def readHeader (slot : Nat) (bad : Bool) (s : State) : Bool × State :=
  let o := slotBase slot
  let r := flashRead loaderAccess o 4096 bad false s
  match r.1 with
  | none => (false, r.2)
  | some os =>
    let n := max 0x80 (min 4096 (leAt os 6 2))
    (true, modCfg (fun c => { c with header := os.take n }) r.2)

/-- The registers taken from the header (R464). -/
def headerRegisters (s : State) : State :=
  let nvm := s.hdr 0x10 4
  let s := s.setWord 0x20040008 (BitVec.ofNat 32 (nvm % 2 ^ 20))
  let s := s.setWord 0x20080004 ((BitVec.ofNat 32 (s.hdr 0x14 4)) &&& 0xFF7F)
  s.setWord 0x20080008 (BitVec.ofNat 32 (s.hdr 0x18 4 % 2 ^ 8))

/-- Steps 2 and 3 of LOAD (R464): the slot, the header, the registers taken from it and the start of DRAM training.
DEDUCED, unsafe: log 122. -/
def loadHeader (vdd bad : Bool) (s : State) : State :=
  let slot := s.activeSlot
  let s := modLpw (fun l => { l with slot := slot }) ((s.set CFG_STAT_STATE cfgHeader).set CFG_STAT_SLOT slot)
  match readHeader slot bad s with
  | (false, s) => loadFail failRead noSection s
  | (true, s) =>
    if s.cfg.header.take 4 ≠ octetsOf [0x41, 0x5A, 0x4C, 0x45] then loadFail failMagic noSection s
    else if s.formatWrong then loadFail failFormat noSection s
    else
      let s := (s.set CFG_IMGSEQ_ISEQ (s.hdr 8 4)).set CFG_STAT_KEYSEL (s.hdr 0x0F 1)
      let s := beginTraining vdd (headerRegisters s)
      if s.keyAccepted then modCfg (fun c => { c with sigFrom := s.cycles }) (s.set CFG_STAT_STATE cfgSignature)
      else loadFail failKey noSection s

/-! ### The end of RESET (R463, R470, R491, R492) -/

/-- LIFE_CYCLE_REPAIR (R491): a life-cycle bit set in one or two copies is programmed into every copy. -/
def lifeCycleRepair (s : State) : State :=
  let any := (List.range 3).foldl (fun v k => v ||| s.otpWord (0x10 + k)) 0
  forEach (List.range 3) (fun k t => if t.otpWord (0x10 + k) = any then t else otpPut (0x10 + k) any t) s

/-- RETURN_CLEANUP (R492): in RETURN, once, the flash is erased, no region is VALID and a journal that holds a durable record
is blank; RCLEAN says so. In the other states RCLEAN is 0. -/
def returnCleanup (s : State) : State :=
  if s.lifeCycle ≠ lcReturn then s.set LPW_LC_STAT_RCLEAN 0
  else if s.is LPW_LC_STAT_RCLEAN then s
  else
    let durable := !(s.replayList s.jnlHead).isEmpty
    let s := modFls (fun f => { f with cells := [], undef := [], regions := [] }) s
    let s := onlyIf durable blankJournal (flashReset s)
    raise LPW_LC_STAT_RCLEAN s

/-- The row of R33 by which RESET was entered, by its cause. -/
def resetRow (cause : Nat) : Nat :=
  if cause = causeJoinlost then 14
  else if cause = causeLastgasp then 22
  else if cause = causeUpdate then 24
  else 1

/-- The change to RESET (R36): its entry stands in the log at the end of RESET (R480), and its flag and event, which the reset
itself would take away, come with the entry. A further reset within RESET changes no mode and adds none.
DESIGN CHOICE, unsafe: log 163. -/
def logReset (s : State) : State :=
  match s.lpw.entered with
  | none => s
  | some (old, cause) =>
    let s := modLpw (fun l => { l with entered := none }) s
    emit 0x0C0 0 (raise LPW_INT_STAT_MODECHG (logEntry 0x0300 (old + 256 * resetRow cause + 65536 * cause) s))

/-- Every pad hold latch opens at the end of RESET (R511). -/
def openLatches (s : State) : State := forEach (List.range domainCount) (fun d t => t.set (PWR_DOMn_HOLD d) 0) s

/-- RESET may end (R463, R535): power is good, RESET_N is high, and after LASTGASP, also where a further
reset that is no power-on reset has come since, the mains state is GOOD. -/
def State.resetEnds (s : State) : Bool :=
  s.mode == .reset && s.lpw.powerGood && !s.lpw.resetLow
    && (!s.hold.gaspReset || s.get PWR_MS_STAT_STATE == msGood)

/-- What RESET leaves behind: the backup check, the shadow of the one-time row with its life-cycle decision, the identity
registers, and the keys (R239, R463, R470, R538). -/
def resetWork (backupBad : Bool) (s : State) : State :=
  let s := lifeCycleRepair (otpShadowRead (backupCheck backupBad (logReset (openLatches s))))
  let s := (s.set CAP_EUI_LO_EUI (s.otpWord 0)).set CAP_EUI_HI_EUI (s.otpWord 1)
  deriveKwk (returnCleanup (s.set CAP_SERIAL_SERIAL (s.otpWord 2)))

/-- RESET_END (R463): RESET goes to LOAD, but for a SCRAPPED device. LOAD handles open flash records and the header; a BLANK
device reads no image and goes to MAKER (R33). `faults` says whether the flash can be read, and which cores fail their known-answer
test (R590). -/
def execResetEnd (dt : Nat) (backupBad vdd : Bool) (faults : BootFaults) (s : State) : Host.Outcome State Fault Refusal :=
  command dt (fun s =>
    if !s.resetEnds then s
    else
      let s := modSec (fun g => { g with katFail := faults.cores })
        (resetWork backupBad { s with tim := { s.tim with pllLock := true, tcxoOk := true } })
      if s.lifeCycle = lcScrapped then s
      else
        let s := openRecordRecovery (changeMode 2 .load s)
        if s.lifeCycle = lcBlank then changeMode 5 .maker (bootGorse s) else loadHeader vdd faults.flashBad s) s

/-! ### The end of LOAD (R33, R464) -/

/-- LOAD ends once the sections are checked and the table is rebuilt, or DRAM or the journal has failed. -/
def loadEnds (s : State) : State :=
  let data := s.get DMC_STAT_STATE == dmcFailed || s.get JNL_STAT_STATE == jnlFailed || s.get CTX_STAT_TABLE == tableReady
  if s.mode == .load && s.cfg.checked && data then
    let s := onlyIf (s.get DMC_STAT_STATE == dmcReady) zeroFlows s
    let s := storeStart (mainsFollow (bootGorse (loadTime (s.set CFG_STAT_STATE cfgDone))))
    if s.makerRequest then changeMode 5 .maker s else changeMode 3 .selftest s
  else s

/-- TRAINING (R414): training has run its steps. -/
def execTraining (dt : Nat) (failed : Option (Nat × Bool)) (mr4 : Word) (s : State) :
    Host.Outcome State Fault Refusal :=
  command dt (fun s => loadEnds (training failed mr4 s)) s

/-- JOURNAL_RECOVERY (R447): in LOAD, once DRAM is READY. -/
def execJournalRecovery (dt : Nat) (err : Bool) (time : Nat) (s : State) : Host.Outcome State Fault Refusal :=
  command dt (fun s =>
    if s.mode == .load && s.get JNL_STAT_STATE == jnlRecovering && s.get DMC_STAT_STATE == dmcReady then
      loadEnds (journalRecovery err time s)
    else s) s

/-- TABLE_REBUILD (R280): in LOAD, after journal recovery; warm where the array was retained and the header checks. The header
meets an uncorrectable error where `badHeader` says so, and so do the records of the nodes of `bad`. -/
def execTableRebuild (dt : Nat) (badHeader : Bool) (bad : List Nat) (s : State) : Host.Outcome State Fault Refusal :=
  command dt (fun s =>
    if s.mode == .load && s.get JNL_STAT_STATE == jnlReady && s.get DMC_STAT_STATE == dmcReady
        && s.get CTX_STAT_TABLE == tableNone then
      let (warm, s) := readTableHeader badHeader s
      loadEnds (rebuildEnds warm (rebuildTable warm bad s))
    else s) s

/-! ### The signature (R458) -/

/-- SIGNATURE_VERIFIED (R458): the ECDSA check of the header completes. -/
def execSignatureVerified (dt : Nat) (s : State) : Host.Outcome State Fault Refusal :=
  command dt (fun s =>
    if s.mode == .load && s.get CFG_STAT_STATE == cfgSignature then
      let ok := s.signatureGood
      let s := s.set CFG_TIMES_SIGUS (min 65535 ((s.cycles - s.cfg.sigFrom) / usCycles))
      if ok then s.set CFG_STAT_STATE cfgSections else loadFail failSig noSection s
    else s) s

/-! ### Sections (R459 to R461) -/

/-- The sections before `i` of its type. -/
def State.sameType (s : State) (i : Nat) : List Nat := (List.range i).filter (fun k => s.secType k == s.secType i)

/-- Two sections of one memory overlap at their destinations. -/
def State.destsMeet (s : State) (i k : Nat) : Bool := runsMeet (s.secDest i) (s.secLen i) (s.secDest k) (s.secLen k)

/-- A section's entry breaks the table of R460. -/
def State.entryBad (s : State) (i : Nat) : Bool :=
  let n := s.secLen i
  let memory (size : Nat) : Bool := decide (size < s.secDest i + n) || (s.sameType i).any (s.destsMeet i)
  let kind := match s.secType i with
    | 1 => s.secDest i != 0 || n % 8 != 0
    | 2 => s.secDest i != 0 || n % 32 != 0 || !(s.sameType i).isEmpty
    | 3 => s.secDest i != 0 || n != 65536 || !(s.sameType i).isEmpty
    | 4 => memory 0x200000
    | 5 => memory 0x40000
    | _ => true
  let source := match s.secLoc i with
    | 0 => decide (0x180000 < s.secSrc i + n)
    | 1 => decide (0x10000000 < s.secSrc i + n)
    | _ => true
  kind || source || n == 0 || n % 4 != 0

/-- The address and the value of pair `k` of a REGS section. -/
def pairAt (os : Octets) (k : Nat) : Nat × Word := (leAt os (8 * k) 4, BitVec.ofNat 32 (leAt os (8 * k + 4) 4))

/-- The pairs of a REGS section. -/
def pairsOf (os : Octets) : List (Nat × Word) := (List.range (os.length / 8)).map (pairAt os)

/-- A field that an image loads: CL, RW or RWL (R460). -/
def FieldRow.loaded (f : FieldRow) : Bool :=
  match f.acc with
  | .cl => true
  | .rw => true
  | .rwl => true
  | .ro => false
  | .wo => false
  | .w1c => false
  | .w1s => false
  | .rc => false

/-- The mask of a field. -/
def FieldRow.mask (f : FieldRow) : Word := BitVec.ofNat 32 ((2 ^ (f.hi + 1 - f.lo) - 1) * 2 ^ f.lo)

/-- A field of a loadable register whose reset value is 'live' (R460): `COD_TXLIM.EFF`, `BKP_CAL.CAL` and `BKP_DATAn.DATA`. -/
def liveField (a lo : Nat) : Bool :=
  (a == 0x200D0014 && lo == 8) || a == 0x20020014 || decide (0x20020040 ≤ a ∧ a < 0x20020080)

/-- The bits of a register that a section may name it for: those of its CL, RW and RWL fields (R460). -/
def loadableMask (a : Nat) : Word :=
  match regRow a with
  | some r => r.fields.foldl (fun m f => if f.loaded then m ||| f.mask else m) 0
  | none => 0

/-- The bits of a register that an image loads: a live field takes nothing. -/
def loadedMask (a : Nat) : Word :=
  match regRow a with
  | some r => r.fields.foldl (fun m f => if f.loaded && !liveField a f.lo then m ||| f.mask else m) 0
  | none => 0

/-- The bits that must carry their reset value in a pair: the fields an image does not load, but for the live ones, which have no
reset value (R460). -/
def fixedMask (a : Nat) : Word :=
  match regRow a with
  | some r => r.fields.foldl (fun m f => if f.loaded || liveField a f.lo then m else m ||| f.mask) 0
  | none => 0

/-- The registers taken from the header only. -/
def headerOnly (a : Nat) : Bool := a == 0x20040008 || a == 0x20080004 || a == 0x20080008

/-- A pair breaks R460: no register of blocks 0x01 to 0x13 that an image loads, or a fixed field without its reset value.
DEDUCED, unsafe: log 118. -/
def pairBad (p : Nat × Word) : Bool :=
  decide (p.1 < 0x20010000 ∨ 0x20140000 ≤ p.1) || loadableMask p.1 == 0 || headerOnly p.1
    || p.2 &&& fixedMask p.1 != resetWord p.1 &&& fixedMask p.1

/-- An entry of a KEYS section breaks R460. -/
def keyEntryBad (e : Octets) : Bool :=
  let kind := octAt e 0
  decide (1 < kind) || decide (63 < octAt e 1) || (kind == 0 && decide (15 < octAt e 1)) || (e.drop 2).take 6 != zeros 6

/-- The content of a section breaks R460. -/
def contentBad (type : Nat) (os : Octets) : Bool :=
  if type = secRegs then (pairsOf os).any pairBad
  else if type = secKeys then (keyEntries os).any keyEntryBad
  else false

/-- The fields of a register that hold a fixed value whatever an image gives: OWNER and RIGHTS of page 7 (R256). -/
def fixedFields (a : Nat) : Word := if a = 0x2009F064 then 0xF7 else 0

/-- Apply a pair: the fields an image loads take its bits; instances the variant lacks take none (R3, R460), and a field
stays within its limits (R78, R483). -/
def applyPair (p : Nat × Word) (s : State) : State :=
  let old := s.word p.1
  let m := loadedMask p.1 &&& presentMask s.variant p.1 &&& ~~~fixedFields p.1
  let s := modCfg (fun c => { c with wanted := p :: c.wanted }) s
  if absentRegister s.variant p.1 || (s.variant == .wv5248 && blockOf p.1 == 0x11) then s
  else modCfg (fun c => { c with undo := (p.1, old) :: c.undo }) (fieldLimits p.1 (s.setWord p.1 ((old &&& ~~~m) ||| (p.2 &&& m))))

/-- Apply the REGS sections that are loaded, in table order, as far as no earlier one is missing (R461). -/
def applyRegs (s : State) : State :=
  ((List.range s.nsec).foldl (fun (acc : Bool × State) i =>
    if acc.1 || acc.2.secType i != secRegs then acc
    else if !acc.2.cfg.done.elem i then (true, acc.2)
    else
      match acc.2.cfg.regsHeld.find? (fun (e : Nat × Octets) => e.1 == i) with
      | some e =>
        let t := forEach (pairsOf e.2) applyPair acc.2
        (false, modCfg (fun c => { c with regsHeld := c.regsHeld.filter (fun (x : Nat × Octets) => x.1 != i) }) t)
      | none => acc) (false, s)).2

/-- Unwrap the entries of a KEYS section: whether every integrity check passed (R241). -/
def applyKeys (mism : Bool) (os : Octets) (s : State) : Bool × State :=
  let es := (keyEntries os).map keyEntryOf
  unwrapAll [mism] es (modSec (fun g => { g with keys := es }) s)

/-- The group slots written at LOAD take the PANs that the image gives them. -/
def groupPans (s : State) : State :=
  modSec (fun g => { g with slots := g.slots.map (fun e =>
    if 512 ≤ e.1 ∧ e.2.valid = true then (e.1, { e.2 with pan := s.get (SEC_GRPn_CFG_PAN (e.1 - 512)) }) else e) }) s

/-- The rule table (R292), with its tag (R296) and the number of VALID rules. -/
def applyRules (os : Octets) (s : State) : State :=
  let all := (List.range 1024).map (fun n => (n, (os.drop (64 * n)).take 64))
  let used := all.filter (fun (e : Nat × Octets) => e.2 != zeros 64)
  let s := { s with shf := { s.shf with rules := used } }
  let s := s.set SHF_RTAG_RTAG (crc32c os)
  s.set SHF_RTAG_NRULES (used.filter (fun (e : Nat × Octets) => ruleValid e.2)).length

/-- A section that has passed its checks is applied or placed; false where an unwrap fails. -/
def applySection (mism : Bool) (i : Nat) (os : Octets) (s : State) : Bool × State :=
  let s := modCfg (fun c => { c with done := i :: c.done }) s
  match s.secType i with
  | 1 => (true, applyRegs (modCfg (fun c => { c with regsHeld := c.regsHeld ++ [(i, os)] }) s))
  | 2 => applyKeys mism os s
  | 3 => (true, applyRules os s)
  | 4 =>
    let s := { s with sram := Sparse.putRun blankByte s.sram (s.secDest i) os }
    (true, { s with app := { s.app with appfw := true } })
  | _ =>
    (true, modCfg (fun c => { c with lpwfw := true }) { s with lpwSram := Sparse.putRun blankByte s.lpwSram (s.secDest i) os })

/-- LOAD_CHECKS (R461): after the last section every rejection rule, then the variant test. -/
def loadChecks (s : State) : State :=
  if (List.range s.nsec).all s.cfg.done.elem && s.cfg.regsHeld.isEmpty then
    let s := groupPans (s.set CFG_STAT_STATE cfgChecks)
    if s.imageRejected then loadFail failRule noSection s
    else if s.hdr 0x0C 2 ≠ s.otpWord 3 % 2 ^ 16 ∨ s.wantsLacking = true then loadFail failVariant noSection s
    else loadEnds (modCfg (fun c => { c with checked := true }) s)
  else s

/-- The octets of a section as the loader reads them: from the slot, or as the NVM answered. -/
def sectionOctets (i : Nat) (nvm : Option Octets) (bad : Bool) (s : State) : Option Octets × State :=
  if s.secLoc i = 0 then flashRead loaderAccess (slotBase (s.get CFG_STAT_SLOT) + s.secSrc i) (s.secLen i) bad false s
  else (nvm.map (fun os => padTo (s.secLen i) (os.take (s.secLen i))), s)

/-- A section read, hashed, checked and applied. -/
def loadSection (i : Nat) (nvm : Option Octets) (bad : Bool) (engine : EngineFaults) (s : State) : State :=
  if s.entryBad i then loadFail failBadsec i s
  else
    match sectionOctets i nvm bad s with
    | (none, s) => loadFail failRead i s
    | (some os, s) =>
      if contentBad (s.secType i) os then loadFail failBadsec i s
      else if sha256 os ≠ (s.cfg.header.drop (0x80 + 64 * i + 0x20)).take 32 then loadFail failDigest i s
      else if crc32c os ≠ s.sec_ i 16 4 then loadFail failCrc i s
      else
        let s := modSec (fun g => { g with katFail := engine.cores }) s
        match applySection engine.mism i os s with
        | (false, _) => loadFail failUnwrap i (onlyIf engine.mism fallbackMismatch s)
        | (true, s) => loadChecks (bootKat false s)

/-- SECTION_LOADED (R461): section `index`. The slot's sections come in table order, and so do the NVM's. `nvm` is what the
NVM answered, `flashBad` says that the slot cannot be read, `engine` names the cores that fail the known-answer
test and says whether the fall-back engine meets a mismatch (R255).
DEDUCED, unsafe: log 119. -/
def execSectionLoaded (dt : Nat) (index : Nat) (nvm : Option Octets) (flashBad : Bool) (engine : EngineFaults) (s : State) :
    Host.Outcome State Fault Refusal :=
  command dt (fun s =>
    let inOrder := (List.range index).all (fun k => s.secLoc k != s.secLoc index || s.cfg.done.elem k)
    if s.mode == .load && s.get CFG_STAT_STATE == cfgSections && decide (index < s.nsec) && !s.cfg.done.elem index
        && inOrder then loadSection index nvm flashBad engine s
    else s) s

/-- LOAD_TIMEOUT (R462): LOAD has not ended 2,000 ms after it began. -/
def execLoadTimeout (dt : Nat) (s : State) : Host.Outcome State Fault Refusal :=
  command dt (fun s =>
    if s.mode == .load && s.passed s.cfg.since (2000 * msCycles) then loadFail failTimeout noSection s else s) s

/-! ### SELFTEST (R465) -/

/-- The channels enabled in `LNP_CHEN` have a measured noise floor. -/
def State.floorsMeasured (s : State) : Bool :=
  (List.range 16).all (fun n => !bitAt (s.get LNP_CHEN_CHEN) n || decide (n < s.rim.calnf.length))

/-- The results of the items beside Stile, as `CFG_STRES` codes them. DEDUCED, unsafe: log 123. -/
def State.selftestWord (s : State) : Nat :=
  let rx := popCount 16 (s.get RIM_PORT_EN_RXEN &&& (0xFFFF - s.get RIM_CAL_STAT_RXFAIL))
  let tx := popCount 8 (s.get RIM_PORT_EN_TXEN &&& (0xFF - s.get RIM_CAL_STAT_TXFAIL))
  let lo := s.is RIM_STAT_LO_LOCK
  let rxOk := decide (s.get CFG_STMIN_MINRX ≤ rx) && lo && s.floorsMeasured
  let decOk := decide (s.get CFG_STMIN_MINDEC ≤ 16 - popCount 16 (s.get COD_DEC_RUN_FAIL))
  let secOk := decide (6 ≤ popCount 8 s.sec.cores) && s.cfg.kat && (s.sec.keys.isEmpty || s.is SEC_KCV_VALID)
  flag rxOk + 2 * flag (decide (s.get CFG_STMIN_MINTX ≤ tx)) + 4 * flag decOk + 8 * flag secOk
    + 16 * flag (s.get DMC_STAT_STATE == dmcReady) + 32 * flag (s.get JNL_STAT_STATE == jnlReady)
    + 64 * flag (s.get CTX_STAT_TABLE == tableReady) + 2 ^ 8 * flag lo + 2 ^ 16 * rx + 2 ^ 24 * tx

/-- SELFTEST_JUDGE (R465): the items beside Stile have ended, calibration among them; `decFail` names the decoders that
failed their vector. The items are judged once Stile's has ended too. -/
def execSelftestJudge (dt : Nat) (decFail : Nat) (s : State) : Host.Outcome State Fault Refusal :=
  command dt (fun s =>
    if s.mode == .selftest && !s.rim.calibrating && s.cfg.tested.isNone then
      let s := onlyIf (decFail % 2 ^ 16 != 0) (raise COD_INT_STAT_DECFAIL) (s.set COD_DEC_RUN_FAIL (s.get COD_DEC_RUN_FAIL ||| decFail))
      let s := s.set COD_DEC_RUN_RUN (s.get COD_DEC_RUN_RUN &&& (0xFFFF - s.get COD_DEC_RUN_FAIL))
      judgeSelftest (modCfg (fun c => { c with tested := some s.selftestWord }) s)
    else s) s

/-! ### The pacer (R468, R469) -/

/-- One step of the pacer. DEDUCED, unsafe: log 130. -/
def pacerStep (s : State) : State :=
  let s := modCfg (fun c => { c with
    pacerFrom := c.pacerFrom + s.get CFG_PACE_STEP * msCycles,
    paced := some (s.cycles, s.word admAddr, s.is CFG_INT_STAT_PACEDONE) }) s
  if s.get LNK_ADM_INDEX + 1 = 2 ^ s.get LNK_ADM_M then
    let s := changeMirrored admAddr (fun t => (t.set LNK_ADM_M 0).set LNK_ADM_ENFORCE 0) s
    raise CFG_INT_STAT_PACEDONE (s.set CFG_PACECTL_ACTIVE 0)
  else admAdvance s

/-- PACER_STEP (R468): STEP ms have passed since the step before. -/
def execPacerStep (dt : Nat) (s : State) : Host.Outcome State Fault Refusal :=
  command dt (fun s =>
    if s.is CFG_PACECTL_ACTIVE && s.passed s.cfg.pacerFrom (s.get CFG_PACE_STEP * msCycles) then pacerStep s else s) s

/-- The effect of a write of `CFG_PACECTL`. -/
def paceCtlWrite (w : Word) (s : State) : State :=
  onlyIf (wrote w CFG_PACECTL_STOP) (pacerStop ∘ keepAdm) (s.set CFG_PACECTL_STOP 0)

/-- PACER_STOP (R469): a write of `CFG_PACECTL`. -/
def execPacerStop (dt : Nat) (acc : Access) (w : Word) (s : State) : Host.Outcome State Fault Refusal :=
  command dt (writeRow acc 0x2004001C w (paceCtlWrite w)) s

end Sys2Proof.Machine
end

