-- ==== Sys2Proof/Machine/Lapwing.lean ====
section
/-!
DEFINITION. Lapwing (R477 to R499): resets that software asks for, the watchdogs, the sensors, the update path, the NVM
pass-through, the life-cycle transitions, the tokens and the debug windows; and the resets that the sample PLL and the receive
LO cause (R62, R97).
-/

namespace Sys2Proof.Machine

/-- Lapwing's own access. -/
def lapwingAccess : Access := { init := initLapwing, secure := true, bytes := 4 }

/-! ### Resets on request (R479, R480, R496) and by the clocks (R62, R97) -/

/-- The address of `LPW_RSTCMD`. -/
def rstCmdAddr : Nat := 0x20030008

/-- The effect of a write of `LPW_RSTCMD`: KEY 0xA5 resets with cause CMD; MAKER latches a maker request in life-cycle
MAKER. -/
def rstCmdWrite (w : Word) (s : State) : State :=
  let s := s.setWord rstCmdAddr 0
  if extractBits w 0 8 = 0xA5 then deviceReset causeCmd (bitAt w.toNat 8 && s.lifeCycle == lcMaker) s else s

/-- RESET_COMMAND (R480): a write of `LPW_RSTCMD`. -/
def execResetCommand (dt : Nat) (acc : Access) (w : Word) (s : State) : Host.Outcome State Fault Refusal :=
  command dt (writeRow acc rstCmdAddr w (rstCmdWrite w)) s

/-- MAKER_REQUEST (R496): a write of `LPW_RSTCMD` with MAKER set. -/
def execMakerRequest (dt : Nat) (acc : Access) (w : Word) (s : State) : Host.Outcome State Fault Refusal :=
  command dt (writeRow acc rstCmdAddr (w ||| 0x100) (rstCmdWrite (w ||| 0x100))) s

/-- PLL_FAULT (R62): the sample PLL has lost lock, or TCXO_IN has stopped (`tcxo`). The chains on air ramp down,
and their ramp-downs go on through the reset; the lanes are
aborted with the reset of their blocks. The flag stands across the reset it causes. DEDUCED, unsafe: log 43. -/
def execPllFault (dt : Nat) (tcxo : Bool) (s : State) : Host.Outcome State Fault Refusal :=
  command dt (fun s =>
    if s.lpw.powerGood then
      let s := modRim (fun r => { r with fading := (List.range 8).filterMap s.fadeOf }) s
      let s := raise TIM_INT_STAT_PLL_FAULT (deviceReset causePll false (logEntry 0x1280 0 s))
      { s with tim := { s.tim with pllLock := false, tcxoOk := !tcxo } }
    else s) s

/-- RXLO_TIMEOUT (R97): the receive LO has not locked again 1 ms after it lost lock. -/
def execRxloTimeout (dt : Nat) (s : State) : Host.Outcome State Fault Refusal :=
  command dt (fun s =>
    match s.rim.loLost with
    | some t => if s.passed t msCycles then deviceReset causeRxlo false (logEntry 0x0E80 0 s) else s
    | none => s) s

/-! ### The device watchdog (R483) -/

/-- Modes through which the ROM kicks the device watchdog (R483). -/
def Mode.romKicks (m : Mode) : Bool := m == .reset || m == .load

/-- When the device watchdog was last kicked: in RESET and LOAD the ROM kicks it every millisecond, where R483 asks for at least every
100 ms. DESIGN CHOICE, safe: log 131. -/
def State.lastKick (s : State) : Nat :=
  if s.mode.romKicks then s.cycles - (s.cycles - s.lpw.wdtFrom) % msCycles else s.lpw.wdtFrom

/-- The instant at which the device watchdog expires. -/
def State.wdtEnd (s : State) : Nat := s.lastKick + s.get LPW_WDT_CFG_TIMEOUT * msCycles

/-- Milliseconds left to the expiry of the device watchdog. -/
def State.wdtLeft (s : State) : Nat := (s.wdtEnd - s.cycles) / msCycles

/-- The key that kicks a watchdog. -/
def kickKey (w : Word) : Bool := extractBits w 0 8 == 0x4B

/-- The effect of a write of `LPW_WDT_KICK`; at the expiry instant it is too late. -/
def wdtKickWrite (w : Word) (s : State) : State :=
  let s := s.setWord 0x20030024 0
  if kickKey w && decide (s.cycles < s.wdtEnd) then modLpw (fun l => { l with wdtFrom := s.cycles, warned := false }) s
  else s

/-- WATCHDOG_KICK (R483): a write of `LPW_WDT_KICK`. -/
def execWatchdogKick (dt : Nat) (acc : Access) (w : Word) (s : State) : Host.Outcome State Fault Refusal :=
  command dt (writeRow acc 0x20030024 w (wdtKickWrite w)) s

/-- WDOG_WARN (R483): WARN ms before expiry, once until the next kick. DEDUCED, unsafe: log 131. -/
def execWdogWarn (dt : Nat) (s : State) : Host.Outcome State Fault Refusal :=
  command dt (fun s =>
    let warn := s.wdtEnd - s.get LPW_WDT_CFG_WARN * msCycles
    if s.lpw.powerGood && !s.mode.romKicks && !s.lpw.warned && decide (warn ≤ s.cycles ∧ s.cycles < s.wdtEnd) then
      let s := modLpw (fun l => { l with warned := true }) s
      logEntry 0x0302 s.wdtLeft (emit 0x0C2 0 (raise LPW_INT_STAT_WDWARN s))
    else s) s

/-- WATCHDOG_EXPIRY (R483): the device resets with cause WDOG. -/
def execWatchdogExpiry (dt : Nat) (s : State) : Host.Outcome State Fault Refusal :=
  command dt (fun s =>
    if s.lpw.powerGood && !s.mode.romKicks && decide (s.wdtEnd ≤ s.cycles) then deviceReset causeWdog false s else s) s

/-! ### The supervisors of the application cores (R484) -/

/-- When a core's supervisor was last kicked. -/
def State.supSince (s : State) (c : Nat) : Nat :=
  ((s.lpw.supFrom.find? (fun (e : Nat × Nat) => e.1 == c)).map (·.2)).getD 0

/-- The instant at which a core's supervisor expires. -/
def State.supEnd (s : State) (c : Nat) : Nat := s.supSince c + s.get (LPW_SUPc_CFG_TIMEOUT c) * msCycles

/-- The resets of a core within WINDOW seconds. -/
def State.supCount (s : State) (c : Nat) : Nat :=
  (s.lpw.supResets.filter (fun (e : Nat × Nat) =>
    e.1 == c && decide (s.cycles < e.2 + s.get (LPW_SUPc_CFG_WINDOW c) * secCycles))).length

/-- The address of `LPW_SUPc_KICK`. -/
def supKickAddr (c : Nat) : Nat := 0x20030034 + 0x10 * c

/-- The address of `LPW_SUPc_STAT`. -/
def supStatAddr (c : Nat) : Nat := 0x20030038 + 0x10 * c

/-- The effect of a write of `LPW_SUPc_KICK`: a kick by another initiator than core `c` gets an error response (R484).
DEDUCED, unsafe: log 138. -/
def supKickWrite (acc : Access) (c : Nat) (w : Word) (s : State) : State :=
  let s := s.setWord (supKickAddr c) 0
  if kickKey w && acc.init != (if c = 0 then initHart0 else initHart1) then { s with resp := .error }
  else if kickKey w && decide (s.cycles < s.supEnd c) then
    modLpw (fun l => { l with
      supFrom := (c, s.cycles) :: l.supFrom.filter (fun (e : Nat × Nat) => e.1 != c) }) s
  else s

/-- SUPERVISOR_KICK (R484): a write of `LPW_SUPc_KICK`. -/
def execSupervisorKick (dt core : Nat) (acc : Access) (w : Word) (s : State) : Host.Outcome State Fault Refusal :=
  command dt (fun s => if core < 2 then writeRow acc (supKickAddr core) w (supKickWrite acc core w) s else s) s

/-- A core runs, halted by its debugger or not. -/
def Hart.runs (h : Hart) : Bool :=
  match h.state with
  | .running => true
  | .debugHalted => true
  | .reset => false
  | .held => false

/-- Reset core `c` on the expiry of its supervisor: it restarts at its reset vector, or is held once MAXRST resets fall
within WINDOW. Its supervisor runs anew. -/
def superviseReset (c : Nat) (s : State) : State :=
  let s := modLpw (fun l => { l with
    supResets := (c, s.cycles) :: l.supResets,
    supFrom := (c, s.cycles) :: l.supFrom.filter (fun (e : Nat × Nat) => e.1 != c) }) s
  let ran := (s.hart c).runs
  let held := decide (s.get (LPW_SUPc_CFG_MAXRST c) ≤ s.supCount c) || (s.hart c).state == .held
  let s := setHart c ((s.hart c).toReset (if held then .held else .reset)) s
  let s := if held then raise (LPW_SUPc_STAT_HELD c) s else if ran then restartHart c s else s
  logEntry 0x0381 (c + 256 * flag held) (raise LPW_INT_STAT_SUPRST s)

/-- SUPERVISOR_EXPIRY (R484): the supervisor runs whenever TIMEOUT is not 0, in reset too; a core that the mode or its missing section
holds in reset stays there. DEDUCED, unsafe: log 138. -/
def execSupervisorExpiry (dt core : Nat) (s : State) : Host.Outcome State Fault Refusal :=
  command dt (fun s =>
    if decide (core < 2) && s.get (LPW_SUPc_CFG_TIMEOUT core) != 0
        && decide (s.supEnd core ≤ s.cycles) then superviseReset core s
    else s) s

/-- Lapwing releases a held core by writing 1 to HELD. -/
def heldWrite (c : Nat) (w : Word) (s : State) : State :=
  if bitAt w.toNat 4 && (s.hart c).state == .held then
    restartHart c (setHart c ((s.hart c).toReset .reset) s)
  else s

/-- HELD_RELEASE (R484): a write of `LPW_SUPc_STAT`. -/
def execHeldRelease (dt core : Nat) (acc : Access) (w : Word) (s : State) : Host.Outcome State Fault Refusal :=
  command dt (fun s => if core < 2 then writeRow acc (supStatAddr core) w (heldWrite core w) s else s) s

/-! ### The log task and the sensors (R481, R482, R498) -/

/-- LOG_MARK (R498): the task writes entry 0x0380; its LOG event carries the run's hop count (R481). -/
def execLogMark (dt : Nat) (s : State) : Host.Outcome State Fault Refusal :=
  command dt (fun s =>
    if s.taskQueued 0x0C0 then
      let h := s.taskHop 0x0C0
      endTask 0x0C0 (logEntryHop 0x0380 0 h (takeTask 0x0C0 s))
    else s) s

/-- The nominal of a supply monitor in mV (R482, R572): that of the core supply is the voltage of the CODE last commanded. -/
def State.nominal (s : State) (n : Nat) : Nat :=
  match n with
  | 0 => codeMv s.volt.code
  | 3 => 1100
  | 4 => 600
  | _ => 1800

/-- The threshold bits a sample sets. PRESUMED, unsafe: log 42. -/
def State.sensorBits (s : State) (temps : List Int) (mv : List Nat) : Nat :=
  let hot := 4 * s.getInt LPW_SENS_CFG_THI
  let cold := 4 * s.getInt LPW_SENS_CFG_TLO
  let tol := s.get LPW_SENS_CFG_VTOL
  let bit (n : Nat) (c : Bool) : Nat := 2 ^ n * flag c
  let temp (n : Nat) : Nat := match temps[n]? with
    | some t => bit n (decide (hot < t)) + bit (8 + n) (decide (t < cold))
    | none => 0
  let volt (n : Nat) : Nat := match mv[n]? with
    | some v =>
      let nom := s.nominal n
      bit (16 + n) (decide (tol * nom < 100 * ((v - nom) + (nom - v))))
    | none => 0
  ((List.range 8).map temp).sum + ((List.range 6).map volt).sum

/-- SENSOR_SAMPLE (R482): the die temperatures of sites 0 to 7 in 0.25 °C and the supplies of monitors 0 to 5 in mV.
A site below −50 °C or above +140 °C fires alarm source TEMP where it is armed (R252).
DEDUCED, unsafe: log 132. -/
def execSensorSample (dt : Nat) (temps : List Int) (mv : List Nat) (s : State) : Host.Outcome State Fault Refusal :=
  command dt (fun s =>
    if !s.lpw.powerGood then s
    else
      let s := forEach ((List.range 8).zip temps) (fun (e : Nat × Int) t =>
        t.set (LPW_TEMPn_T e.1) (twos 12 (clamp (-2048) 2047 e.2))) s
      let s := forEach ((List.range 6).zip mv) (fun (e : Nat × Nat) t =>
        lowerTo (LPW_VMONn_MIN e.1) (min 0xFFF e.2) (t.set (LPW_VMONn_MV e.1) (min 0xFFF e.2))) s
      let hot := temps.any (fun t => decide (t < -200 ∨ 560 < t))
      let s := { s with sec := { s.sec with live := s.sec.live / 4 * 4 + 2 * flag hot + s.sec.live % 2 } }
      let s := onlyIf (hot && s.is SEC_ALARM_EN_TEMP && !s.alarms.elem 1) (fireAlarm 1) s
      let old := (s.word 0x20030144).toNat
      let new := s.sensorBits temps mv &&& (0x3FFFFF - old)
      if new = 0 then s
      else
        let s := s.setWord 0x20030144 (BitVec.ofNat 32 (old ||| new))
        logEntry 0x0303 (new % 2 ^ 16) (emit 0x0C3 0 (raise LPW_INT_STAT_SENSOR s))) s

/-! ### The update path (R485 to R489) -/

/-- The results of `LPW_UPD_STAT`. -/
def updOk : Nat := 1
def updHeader : Nat := 2
def updKey : Nat := 3
def updSig : Nat := 4
def updDigest : Nat := 5
def updRollback : Nat := 6
def updVariant : Nat := 7
def updRead : Nat := 8
def updNotallowed : Nat := 9
def updStale : Nat := 10
def updJournal : Nat := 11
def updBadarg : Nat := 12

/-- The inactive slot (R485). -/
def State.inactiveSlot (s : State) : Nat := 1 - s.lpw.slot

/-- An update command ends with a result. -/
def endUpdate (result : Nat) (s : State) : State :=
  let s := ((s.set LPW_UPD_STAT_RESULT result).set LPW_UPD_STAT_BUSY 0).set LPW_UPD_CMD_GO 0
  let s := modLpw (fun l => { l with verifying := false, updFrom := none }) s
  logEntry 0x0384 (result + 16 * s.inactiveSlot) (raise LPW_INT_STAT_UPDDONE s)

/-- The modes in which ACTIVATE is accepted (R488, row 23 of R33). -/
def Mode.mayActivate (m : Mode) : Bool :=
  match m with
  | .solo => true
  | .standby => true
  | .safe => true
  | .maker => true
  | .reset => false
  | .load => false
  | .selftest => false
  | .primary => false
  | .takeover => false
  | .holdover => false
  | .lastgasp => false
  | .update => false

/-- ACTIVATE (R488): a mode without the transition refuses it (R479). On acceptance the mode controller enters UPDATE, which
stops detection and the chains, and both flushes are written. -/
def activate (s : State) : State :=
  if !s.mode.mayActivate then endUpdate updNotallowed (raise LPW_INT_STAT_REFUSED s)
  else if !s.is LPW_UPD_STAT_VERIFIED then endUpdate updNotallowed s
  else
    let s := changeMode 23 .update (raise LPW_UPD_STAT_BUSY s)
    let s := modLpw (fun l => { l with updFrom := some s.cycles }) s
    ctxCtrlWrite 0xFFFFFFFF (shfCtrlWrite 0xFFFFFFFF s)

/-- The address of `LPW_UPD_CMD`. -/
def updCmdAddr : Nat := 0x200300B0

/-- The effect of a write of `LPW_UPD_CMD` (R487, R488, R491): OP 1 VERIFY, 2 ACTIVATE, others end BADARG.
DEDUCED, unsafe: log 133. -/
def updCmdWrite (w : Word) (s : State) : State :=
  if !wrote w LPW_UPD_CMD_GO || s.is LPW_UPD_STAT_BUSY then s
  else if s.lpw.lc.isSome then endUpdate updNotallowed s
  else
    match s.get LPW_UPD_CMD_OP with
    | 1 => modLpw (fun l => { l with verifying := true }) (raise LPW_UPD_STAT_BUSY s)
    | 2 => activate s
    | _ => endUpdate updBadarg s

/-- VERIFY (R487): a write of `LPW_UPD_CMD` with OP 1. -/
def execVerify (dt : Nat) (acc : Access) (w : Word) (s : State) : Host.Outcome State Fault Refusal :=
  command dt (writeRow acc updCmdAddr w (updCmdWrite w)) s

/-- ACTIVATE (R488): a write of `LPW_UPD_CMD` with OP 2. -/
def execActivate (dt : Nat) (acc : Access) (w : Word) (s : State) : Host.Outcome State Fault Refusal :=
  command dt (writeRow acc updCmdAddr w (updCmdWrite w)) s

/-- UPDATE_BADARG (R488): a write of `LPW_UPD_CMD` with another OP. -/
def execUpdateBadarg (dt : Nat) (acc : Access) (w : Word) (s : State) : Host.Outcome State Fault Refusal :=
  command dt (writeRow acc updCmdAddr w (updCmdWrite w)) s

/-- The octets of a section of the staged image. -/
def stagedSection (i : Nat) (nvm : List (Nat × Octets)) (bad : Bool) (s : State) : Option Octets × State :=
  if s.secLoc i = 0 then
    flashRead lapwingAccess (slotBase s.inactiveSlot + s.secSrc i) (s.secLen i) bad false s
  else ((nvm.find? (fun (e : Nat × Octets) => e.1 == i)).map (fun e => padTo (s.secLen i) (e.2.take (s.secLen i))), s)

/-- VERIFY's check of one section of the staged image: the result so far stays where it is not 0. -/
def verifySection (nvm : List (Nat × Octets)) (bad : Bool) (acc : Nat × State) (i : Nat) : Nat × State :=
  let s := acc.2
  if acc.1 ≠ 0 then acc
  else if s.entryBad i then (updHeader, s)
  else
    match stagedSection i nvm bad s with
    | (none, s) => (updRead, s)
    | (some os, s) =>
      if contentBad (s.secType i) os then (updHeader, s)
      else if sha256 os ≠ (s.cfg.header.drop (0x80 + 64 * i + 0x20)).take 32 ∨ crc32c os ≠ s.sec_ i 16 4 then
        (updDigest, s)
      else (0, s)

/-- The newest durable SLOT record. -/
def State.newestSlotIseq (s : State) : Option Nat :=
  (((s.replayList s.jnlHead).filter (fun (e : Nat × LogSlot) => e.2.type == recSlot)).getLast?).map
    (fun e => e.2.payload / 4 % 2 ^ 32)

/-- VERIFY's checks once the header of the staged image has been read (R487). -/
def verifyHeader (nvm : List (Nat × Octets)) (bad : Bool) (s : State) : Nat × State :=
  if s.cfg.header.take 4 ≠ octetsOf [0x41, 0x5A, 0x4C, 0x45] ∨ s.formatWrong = true then (updHeader, s)
  else if !s.keyAccepted then (updKey, s)
  else if !s.signatureGood then (updSig, s)
  else
    let r := (List.range s.nsec).foldl (verifySection nvm bad) (0, s)
    let iseq := s.hdr 8 4
    if r.1 ≠ 0 then r
    else if s.hdr 0x0C 2 ≠ s.otpWord 3 % 2 ^ 16 then (updVariant, r.2)
    else match s.newestSlotIseq with
      | some last => (if iseq ≤ last then updRollback else updOk, r.2)
      | none => (updOk, r.2)

/-- VERIFY ends: on success VERIFIED is set and ISEQ copied. The loader's own state is not touched. -/
def verifyEnds (nvm : List (Nat × Octets)) (bad : Bool) (s : State) : State :=
  let r := match readHeader s.inactiveSlot bad s with
    | (false, t) => (updRead, t)
    | (true, t) => verifyHeader nvm bad t
  let iseq := r.2.hdr 8 4
  let t := { r.2 with cfg := s.cfg }
  endUpdate r.1 (if r.1 = updOk then raise LPW_UPD_STAT_VERIFIED (t.set LPW_UPD_ISEQ_ISEQ iseq) else t)

/-- VERIFY_DONE (R487): `nvm` is what the NVM answered for the sections held there, by section number; `flashBad` says that
the slot cannot be read. -/
def execVerifyDone (dt : Nat) (nvm : List (Nat × Octets)) (flashBad : Bool) (s : State) :
    Host.Outcome State Fault Refusal :=
  command dt (fun s => if s.lpw.verifying then verifyEnds nvm flashBad s else s) s

/-- Both flushes have ended and queues 32 to 55 and 62 have drained (R488). -/
def State.updateDrained (s : State) : Bool :=
  !s.is SHF_CTRL_FLUSH && !s.is CTX_CTRL_FLUSH && (List.range 24).all (fun k => s.qEmpty (32 + k)) && s.qEmpty 62

/-- Records put to the journal are accepted and made durable, oldest first, until none is left. -/
def settleJournal (s : State) : State :=
  forEach (List.range (2 * (s.jnl.offered.length + s.jnl.accepted.length) + 4))
    (fun _ t => recordDurable (if t.jnl.offered.isEmpty then t else journalRecord t)) s

/-- The SLOT record of an activation is written through `JNL_SLOTCMD` (R488): the result. -/
def writeSlotRecord (s : State) : Nat × State :=
  let s := (s.set JNL_SLOTCMD_SLOT s.inactiveSlot).set JNL_ISEQ_ISEQ (s.get LPW_UPD_ISEQ_ISEQ)
  let t := s.jnl.nextTicket
  let s := jnlOffer recSlot (paySlot s.inactiveSlot (s.get LPW_UPD_ISEQ_ISEQ)) s
  let s := settleJournal (modJnl (fun j => { j with slotTicket := some t }) s)
  (if s.jnlDurable t then updOk else updJournal, s)

/-- UPDATE_DRAINED (R488): the drain is complete, or 20 ms have passed since entry. The device resets with cause UPDATE,
whatever the result. DEDUCED, unsafe: log 134. -/
def execUpdateDrained (dt : Nat) (s : State) : Host.Outcome State Fault Refusal :=
  command dt (fun s =>
    match s.lpw.updFrom with
    | some since =>
      if s.updateDrained || s.passed since (20 * msCycles) then
        let r := if s.is LPW_UPD_STAT_VERIFIED then writeSlotRecord s else (updStale, s)
        deviceReset causeUpdate false (endUpdate r.1 r.2)
      else s
    | none => s) s

/-! ### The NVM pass-through (R486) -/

/-- The address of `LPW_SPIX_CMD`. -/
def spixCmdAddr : Nat := 0x200300C0

/-- The data octets of a pass-through command: LEN, 256 at most, as far as the Lapwing SRAM goes. -/
def spixLen (cmd buf : Nat) : Nat := min (min 256 (cmd / 2 ^ 18 % 512)) (0x40000 - buf)

/-- The effect of a write of `LPW_SPIX_CMD`: the command goes to the NVM with its opcode, its address and, for a write, the octets
that stand at the buffer. GO is refused in RESET and LOAD, and with ALEN 1. A write pass-through clears
VERIFIED (R485). DEDUCED, unsafe: log 135. -/
def spixCmdWrite (old w : Word) (s : State) : State :=
  if s.lpw.spix.isSome then s.setWord spixCmdAddr old
  else if !wrote w LPW_SPIX_CMD_GO then s
  else if s.mode.romKicks || s.get LPW_SPIX_CMD_ALEN == 1 then
    raise LPW_INT_STAT_REFUSED (s.set LPW_SPIX_CMD_GO 0)
  else
    let s := onlyIf (s.is LPW_SPIX_CMD_DIR) (fun t => t.set LPW_UPD_STAT_VERIFIED 0) s
    let buf := s.get LPW_SPIX_BUF_OFFSET
    let sent := if s.is LPW_SPIX_CMD_DIR then Sparse.getRun blankByte s.lpwSram buf (spixLen (s.word spixCmdAddr).toNat buf) else []
    raise LPW_SPIX_CMD_BUSY (modLpw (fun l => { l with
      spix := some ((s.word spixCmdAddr).toNat, s.get LPW_SPIX_ADDR_ADDR, buf), spixOut := sent }) s)

/-- SPIX_COMMAND (R486): a write of `LPW_SPIX_CMD`. -/
def execSpixCommand (dt : Nat) (acc : Access) (w : Word) (s : State) : Host.Outcome State Fault Refusal :=
  command dt (fun s => writeRow acc spixCmdAddr w (spixCmdWrite (s.word spixCmdAddr) w) s) s

/-- SPIXDONE (R486): the command under way completes; a read places LEN octets of what the NVM answered at the buffer, as far
as the Lapwing SRAM goes. -/
def execSpixdone (dt : Nat) (data : Octets) (s : State) : Host.Outcome State Fault Refusal :=
  command dt (fun s =>
    match s.lpw.spix with
    | some (cmd, _, buf) =>
      let n := spixLen cmd buf
      let s := if bitAt cmd 17 then s
        else { s with lpwSram := Sparse.putRun blankByte s.lpwSram buf (padTo n (data.take n)) }
      let s := onlyIf (bitAt cmd 17) (fun t => t.set LPW_UPD_STAT_VERIFIED 0) s
      let s := (modLpw (fun l => { l with spix := none }) s).set LPW_SPIX_CMD_BUSY 0
      raise LPW_INT_STAT_SPIXDONE (s.set LPW_SPIX_CMD_GO 0)
    | none => s) s

/-! ### Life-cycle transitions (R490, R491) -/

/-- The results of `LPW_LC_STAT`. -/
def lcDone : Nat := 1
def lcNotallowed : Nat := 2
def lcPrecond : Nat := 3
def lcFuse : Nat := 4
def lcBusy : Nat := 5

/-- The bit that marks SCRAPPED in the life-cycle words (R438). -/
def lcScrapBit : Nat := 31

/-- A life-cycle command ends without a transition. -/
def lcEnds (result : Nat) (s : State) : State :=
  let s := (s.set LPW_LC_STAT_RESULT result).set LPW_LC_CMD_GO (flag s.lpw.lc.isSome)
  raise LPW_INT_STAT_LCDONE s

/-- A transition begins with its preparatory steps (R491): INV of the current slot for RETURN, the zeroising of Gorse for
SCRAPPED. -/
def beginTransition (new : Nat) (s : State) : State :=
  let old := s.lifeCycle
  let inv := otpSlot s.customerSlot + 4
  let s :=
    if new = lcReturn then (if s.otpProgrammed inv then s else otpPut inv (1 + s.freeNow % (2 ^ 32 - 1)) (useFree s))
    else if new = lcScrapped then zeroise s
    else s
  let run : LcRun := { old := old, new := new, bit := if new = lcScrapped then lcScrapBit else s.lcN }
  raise LPW_LC_STAT_BUSY (modLpw (fun l => { l with lc := some run }) s)

/-- The precondition of a transition by `LPW_LC_CMD` (R490). -/
def State.lcReady (s : State) (new : Nat) : Bool :=
  let w := otpSlot s.customerSlot
  if new = lcMaker then (List.range 16).all (fun k => s.otpValid (0x20 + k))
  else if new = lcField then
    (List.range 4).all (fun k => s.otpValid (w + k)) && (List.range 16).all (fun k => s.otpValid (w + 8 + k))
      && !s.otpProgrammed (w + 4) && !s.otpInvalid (w + 4)
  else true

/-- The table of R490 allows a transition by `LPW_LC_CMD`. -/
def lcAllowed (old target : Nat) : Bool :=
  (target == lcMaker && old == lcBlank) || (target == lcField && old == lcMaker)
    || (target == lcScrapped && (old == lcBlank || old == lcMaker))

/-- The address of `LPW_LC_CMD`. -/
def lcCmdAddr : Nat := 0x20030080

/-- The effect of a write of `LPW_LC_CMD`. -/
def lcCmdWrite (w : Word) (s : State) : State :=
  let target := s.get LPW_LC_CMD_TARGET
  if !wrote w LPW_LC_CMD_GO then s
  else if s.is LPW_LC_STAT_BUSY then lcEnds lcBusy s
  else if !lcAllowed s.lifeCycle target then lcEnds lcNotallowed s
  else if !s.lcReady target then lcEnds lcPrecond s
  else beginTransition target s

/-- LC_MAKER (R490): a write of `LPW_LC_CMD` with TARGET MAKER. -/
def execLcMaker (dt : Nat) (acc : Access) (w : Word) (s : State) : Host.Outcome State Fault Refusal :=
  command dt (writeRow acc lcCmdAddr w (lcCmdWrite w)) s

/-- LC_FIELD (R490): a write of `LPW_LC_CMD` with TARGET FIELD. -/
def execLcField (dt : Nat) (acc : Access) (w : Word) (s : State) : Host.Outcome State Fault Refusal :=
  command dt (writeRow acc lcCmdAddr w (lcCmdWrite w)) s

/-- LC_SCRAPPED (R490): a write of `LPW_LC_CMD` with TARGET SCRAPPED. -/
def execLcScrapped (dt : Nat) (acc : Access) (w : Word) (s : State) : Host.Outcome State Fault Refusal :=
  command dt (writeRow acc lcCmdAddr w (lcCmdWrite w)) s

/-- Program a life-cycle bit into the first `copies` of the three words, in their order. -/
def programLifeCycle (bit copies : Nat) (s : State) : State :=
  forEach (List.range (min 3 copies)) (fun k t => otpPut (0x10 + k) (t.otpWord (0x10 + k) ||| 2 ^ bit) t) s

/-- LC_TRANSITION_DONE (R491): the bit has been programmed into `copies` of its words; 3 complete the transition, fewer end
it with FUSE. -/
def execLcTransitionDone (dt copies : Nat) (s : State) : Host.Outcome State Fault Refusal :=
  command dt (fun s =>
    match s.lpw.lc with
    | some run =>
      let s := programLifeCycle run.bit copies s
      let s := (modLpw (fun l => { l with lc := none }) s).set LPW_LC_STAT_BUSY 0
      if copies < 3 then lcEnds lcFuse s
      else deviceReset causeLctrans false (logEntry 0x0382 (run.old + 8 * run.new) (lcEnds lcDone s))
    | none => s) s

/-! ### Tokens (R493, R494) -/

/-- The results of `LPW_TOK_STAT`. -/
def tokOk : Nat := 1
def tokFormat : Nat := 2
def tokState : Nat := 3
def tokDevice : Nat := 4
def tokChal : Nat := 5
def tokKey : Nat := 6
def tokSig : Nat := 7
def tokBusy : Nat := 8
def tokRead : Nat := 9

/-- The octets of a token. -/
def tokenLength : Nat := 200

/-- MAGIC of a token. -/
def tokenMagic : Octets := octetsOf [0x57, 0x56, 0x54, 0x4B]

/-- A field of a token, most significant octet first. -/
def tokField (t : Octets) (o n : Nat) : Nat := beNat (slice t o n)

/-- TYPE of a token. -/
def tokType (t : Octets) : Nat := octAt t 4

/-- A token breaks the format of R493. -/
def tokenMalformed (t : Octets) : Bool :=
  let type := tokType t
  let dur := tokField t 32 4
  let debug := type == 1 || type == 4
  t.length != tokenLength || t.take 4 != tokenMagic || decide (type < 1 ∨ 5 < type) || tokField t 5 3 != 0
    || tokField t 37 3 != 0 || tokField t 104 32 != 0 || decide (3 < octAt t 36) || (type != 1 && octAt t 36 != 0)
    || (if debug then decide (dur < 1 ∨ 86400 < dur) else dur != 0)

/-- TYPE is allowed in the current life-cycle state (R490, R495). -/
def State.tokenAllowed (s : State) (type : Nat) : Bool :=
  let lc := s.lifeCycle
  let clean := s.is LPW_LC_STAT_RCLEAN
  match type with
  | 1 => lc == lcField
  | 2 => lc == lcField
  | 3 => lc == lcField || lc == lcReturn
  | 4 => lc == lcReturn && clean
  | 5 => lc == lcReturn && clean && decide (s.lcN ≤ 9)
  | _ => false

/-- The first word of the hash of the key a token needs: the customer debug-token key in FIELD, the maker debug key in
RETURN. -/
def State.tokenKeyWord (s : State) : Nat :=
  if s.lifeCycle = lcField then otpSlot s.customerSlot + 0x10 else 0x28

/-- The challenge, as 16 octets read most significant first. -/
def State.challenge (s : State) : Nat :=
  (List.range 4).foldl (fun v k => v * 2 ^ 32 + s.get (LPW_CHALn k)) 0

/-- The check of a token (R494): the first failure in the order of the rule. -/
def State.tokenResult (s : State) (t : Octets) : Nat :=
  let key := slice t 40 64
  let w := s.tokenKeyWord
  if tokenMalformed t then tokFormat
  else if !s.tokenAllowed (tokType t) then tokState
  else if slice t 8 8 ≠ le 4 (s.get CAP_EUI_LO_EUI) ++ le 4 (s.get CAP_EUI_HI_EUI) then tokDevice
  else if tokField t 16 16 ≠ s.challenge then tokChal
  else if !((List.range 8).all (fun k => s.otpValid (w + k)) && sha256 key == s.otpHash w) then tokKey
  else if !ecdsaVerify (beNat (key.take 32)) (beNat (key.drop 32)) (sha256 (t.take 136)) (tokField t 136 32)
      (tokField t 168 32) then tokSig
  else tokOk

/-- A check ends with a result. -/
def tokenEnds (type result : Nat) (s : State) : State :=
  let s := (s.set LPW_TOK_STAT_RESULT result).set LPW_TOK_STAT_TYPE type
  logEntry 0x0383 (type % 16 + 16 * result) (raise LPW_INT_STAT_TOKDONE s)

/-- A token arrives (R493, R494): none where it could not be read. A second one ends BUSY and leaves the challenge.
DEDUCED, unsafe: log 137. -/
def tokenArrives (t : Option Octets) (s : State) : State :=
  if s.is LPW_LC_STAT_BUSY then tokenEnds (tokType (t.getD [])) tokBusy s
  else
    raise LPW_LC_STAT_BUSY (raise LPW_TOK_STAT_BUSY (raise LPW_TOK_CMD_GO (modLpw (fun l => { l with tok := some t }) s)))

/-- The address of `LPW_TOK_CMD`. -/
def tokCmdAddr : Nat := 0x200300A8

/-- The address of the token that `LPW_TOK_LO` and `LPW_TOK_HI` name. -/
def State.tokenAddress (s : State) : Nat := s.get LPW_TOK_LO + 2 ^ 32 * s.get LPW_TOK_HI

/-- The effect of a write of `LPW_TOK_CMD`: Lapwing reads the token. -/
def tokCmdWrite (w : Word) (s : State) : State :=
  if wrote w LPW_TOK_CMD_GO then
    let s := s.set LPW_TOK_CMD_GO (flag (s.is LPW_TOK_STAT_BUSY))
    match engineRead lapwingAccess s.tokenAddress tokenLength s with
    | (t, s) => tokenArrives t s
  else s

/-- The oldest message of queue 63. -/
def State.message63 (s : State) : Octets :=
  let i := s.qCi 63
  s.memOr0 (s.qSlotAddr 63 i) (leAt (s.qDesc 63 i) 0 2)

/-- A message of queue 63 that begins with MAGIC is a token: Lapwing takes it from the queue. -/
def tokenFromQueue (s : State) : State :=
  let m := s.message63
  if s.qEmpty 63 || m.take 4 != tokenMagic then s else tokenArrives (some m) (qAdvanceCi 63 s)

/-- The token that a row brings. -/
def tokenVia (via : TokenVia) (s : State) : State :=
  match via with
  | .write acc w => writeRow acc tokCmdAddr w (tokCmdWrite w) s
  | .queue => tokenFromQueue s

/-- CDEBUG (R494): a token of TYPE 1 comes to be checked. The check treats every TYPE alike until it ends (TOKDONE). -/
def execCdebug (dt : Nat) (via : TokenVia) (s : State) : Host.Outcome State Fault Refusal := command dt (tokenVia via) s

/-- RETURN (R494): a token of TYPE 2. -/
def execReturnToken (dt : Nat) (via : TokenVia) (s : State) : Host.Outcome State Fault Refusal :=
  command dt (tokenVia via) s

/-- SCRAP (R494): a token of TYPE 3. -/
def execScrap (dt : Nat) (via : TokenVia) (s : State) : Host.Outcome State Fault Refusal := command dt (tokenVia via) s

/-- MDEBUG (R494): a token of TYPE 4. -/
def execMdebug (dt : Nat) (via : TokenVia) (s : State) : Host.Outcome State Fault Refusal := command dt (tokenVia via) s

/-- REMAKE (R494): a token of TYPE 5. -/
def execRemake (dt : Nat) (via : TokenVia) (s : State) : Host.Outcome State Fault Refusal := command dt (tokenVia via) s

/-- What an accepted token does (R490, R495). -/
def applyToken (t : Octets) (s : State) : State :=
  let window (harts : Nat) : State :=
    modLpw (fun l => { l with debug := some (harts, s.cycles + tokField t 32 4 * secCycles) }) s
  match tokType t with
  | 1 => window (octAt t 36)
  | 2 => beginTransition lcReturn s
  | 3 => beginTransition lcScrapped s
  | 4 => window 3
  | 5 => beginTransition lcMaker s
  | _ => s

/-- TOKDONE (R494): the check ends with one result, and the challenge is renewed whatever it is. -/
def execTokdone (dt : Nat) (s : State) : Host.Outcome State Fault Refusal :=
  command dt (fun s =>
    match s.lpw.tok with
    | some t =>
      let result := match t with
        | some os => s.tokenResult os
        | none => tokRead
      let s := ((s.set LPW_TOK_STAT_BUSY 0).set LPW_TOK_CMD_GO 0).set LPW_LC_STAT_BUSY 0
      let s := renewChallenge (modLpw (fun l => { l with tok := none }) s)
      let os := t.getD []
      let s := tokenEnds (tokType os) result s
      if result = tokOk then applyToken os s else s
    | none => s) s

/-! ### Debug access (R495) -/

/-- Whether the debug of application core `c` is open. -/
def State.appDebugOpen (s : State) (c : Nat) : Bool :=
  let lc := s.lifeCycle
  if lc = lcBlank ∨ lc = lcMaker then true
  else if lc = lcField ∨ lc = lcReturn then
    match s.lpw.debug with
    | some (harts, stop) => bitAt harts c && decide (s.cycles < stop)
    | none => false
  else false

/-- Whether the debug of Lapwing is open. -/
def State.lapwingDebugOpen (s : State) : Bool :=
  let lc := s.lifeCycle
  decide (lc = lcBlank ∨ lc = lcMaker)

/-- A debug window closes: a core it had halted runs on. -/
def closeWindow (s : State) : State :=
  let s := modLpw (fun l => { l with debug := none }) s
  forEach (List.range 2) (fun c t =>
    let h := t.hart c
    if h.state == .debugHalted && !t.appDebugOpen c then setHart c { h with state := .running } t else t) s

/-- DEBUG_WINDOW_END (R495): DUR has passed. -/
def execDebugWindowEnd (dt : Nat) (s : State) : Host.Outcome State Fault Refusal :=
  command dt (fun s =>
    match s.lpw.debug with
    | some (_, stop) => if stop ≤ s.cycles then closeWindow s else s
    | none => s) s

end Sys2Proof.Machine
end

