-- ==== Sys2Proof/Machine/App.lean ====
section
/-!
DEFINITION. The application complex (R545 to R562): the application SRAM with its code, reservations and atomic operations, the
interrupt controller, the timers of the harts and the interrupts of software and of Hedgerow.
-/

namespace Sys2Proof.Machine

/-! ### The application SRAM (R547, R556) -/

/-- Log the first error of a kind in the word with index `i` (R556). -/
def logCorrected (i : Nat) (s : State) : State :=
  let s := raise APP_INT_STAT_SRAMCE (count APP_ECC_CNT_CE 1 s)
  if s.is APP_ECC_LOG_CEVALID then s else raise APP_ECC_LOG_CEVALID (s.set APP_ECC_LOG_CEWORD i)

/-- Log a double-bit error in the word with index `i`; its word stands in CEWORD while CEVALID is 0. -/
def logDouble (i : Nat) (s : State) : State :=
  let s := raise APP_INT_STAT_SRAMUE (count APP_ECC_CNT_UE 1 s)
  if s.is APP_ECC_LOG_UEVALID then s
  else
    let s := onlyIf (!s.is APP_ECC_LOG_CEVALID) (fun t => t.set APP_ECC_LOG_CEWORD i) s
    raise APP_ECC_LOG_UEVALID s

/-- The result of the operation of an AMO on a memory word and a register (R547; the RISC-V A extension). -/
def amoResult (op : AmoOp) (m v : Word) : Word :=
  match op with
  | .swap => v
  | .add => m + v
  | .xor => m ^^^ v
  | .and => m &&& v
  | .or => m ||| v
  | .min => if m.toInt < v.toInt then m else v
  | .max => if m.toInt < v.toInt then v else m
  | .minu => if m.toNat < v.toNat then m else v
  | .maxu => if m.toNat < v.toNat then v else m

/-- The operations of the A extension. -/
def sramAtomic (op : SramOp) : Bool :=
  match op with
  | .read => false
  | .write _ => false
  | .lr => true
  | .sc _ => true
  | .amo _ _ => true

/-- The operation writes. -/
def sramWrites (op : SramOp) : Bool :=
  match op with
  | .read => false
  | .write _ => true
  | .lr => false
  | .sc _ => true
  | .amo _ _ => true

/-- The hart an application core's access names. -/
def hartOf (acc : Access) : Nat := if acc.init = initHart1 then 1 else 0

/-- Give an access its data. -/
def answerWord (w : Word) (s : State) : State := { s with resp := .data w }

/-- Serve an access at SRAM offset `o` whose word the code has found readable. -/
def sramServe (acc : Access) (o : Nat) (op : SramOp) (s : State) : State :=
  let a := 0x10000000 + o
  let n := acc.bytes
  let old : Word := BitVec.ofNat 32 (leNat (Sparse.getRun blankByte s.sram o n))
  let put (v : Word) (s : State) : State := memPut a (le n v.toNat) s
  let c := hartOf acc
  let reserve (r : Option Nat) (s : State) : State := setHart c { s.hart c with reservation := r } s
  match op with
  | .read => answerWord old s
  | .write v => { put v s with resp := .ok }
  | .lr => answerWord old (reserve (some (a / 64)) s)
  | .sc v =>
    if (s.hart c).reservation = some (a / 64) then answerWord 0 (reserve none (put v s))
    else answerWord 1 (reserve none s)
  | .amo f v => answerWord old (put (amoResult f old v) s)

/-- The operation reads the word it acts on: all but a write of a whole word, and a store-conditional that fails. -/
def sramReads (op : SramOp) (acc : Access) : Bool :=
  match op with
  | .read => true
  | .write _ => acc.bytes != 4
  | .lr => true
  | .sc _ => false
  | .amo _ _ => true

/-- An access to the application SRAM at offset `o` once its bank is on: what the code found in its word comes first. -/
def sramCoded (acc : Access) (o : Nat) (op : SramOp) (ecc : SramEcc) (s : State) : State :=
  if !sramReads op acc then sramServe acc o op s
  else
    match ecc with
    | .clean => sramServe acc o op s
    | .single => sramServe acc o op (logCorrected (o / 4) s)
    | .double => errorResponse (logDouble (o / 4) s)

/-- The size and the alignment of an access are ones the SRAM serves: a misaligned access, and an operation of the A extension
by another initiator than a hart, make none (R547). -/
def sramForm (acc : Access) (a : Nat) (op : SramOp) : Bool :=
  (acc.bytes == 1 || acc.bytes == 2 || acc.bytes == 4) && a % acc.bytes == 0
    && (!sramAtomic op || (acc.bytes == 4 && fromApp acc))

/-- An access to the application SRAM (R547, R552, R554, R556), which passes the address map, the firewall and its bank's
domain (R505, R507). -/
def sramAccess (acc : Access) (a : Nat) (op : SramOp) (ecc : SramEcc) (s : State) : State :=
  let o := a - 0x10000000
  let d := 10 + o / 0x40000
  if !sramForm acc a op || !targetAdmits (.sram o) acc (sramWrites op) s.mode then errorResponse s
  else
    match s.firewall acc (sramWrites op) a acc.bytes with
    | some w => errorResponse (firewallRefusal acc (sramWrites op) a w s)
    | none =>
      if s.domainLocked d then errorResponse (domainError 0 d acc.init s)
      else if s.domainReady d then sramCoded acc o op ecc (meetDomain d s)
      else
        stallAccess d { acc := acc, addr := a, write := none, sram := some op, since := s.cycles } s

/-- APP_SRAM_ACCESS (R556): an access at bus address `a`; `ecc` is what the code finds in the word it reads. An AMO, LR or
SC elsewhere makes no access and is answered with an error (R547). -/
def execAppSramAccess (dt : Nat) (acc : Access) (a : Nat) (op : SramOp) (ecc : SramEcc) (s : State) :
    Host.Outcome State Fault Refusal :=
  command dt (fun s =>
    if 0x10000000 ≤ a ∧ a < 0x10200000 then sramAccess acc a op ecc s
    else if sramAtomic op then errorResponse s else s) s

/-! ### The interrupt controller (R557, R558) -/

/-- The ID a claim gives: of the highest priority, the lowest on a tie, or 0. -/
def State.plicBest (s : State) (ctx : Nat) : Nat :=
  (s.plicReady ctx).foldl (fun b i =>
    if b = 0 ∨ s.plicPriority b < s.plicPriority i ∨ (s.plicPriority b = s.plicPriority i ∧ i < b) then i else b) 0

/-- Whether an initiator may use a context: context 2 answers only Lapwing. -/
def mayUseContext (acc : Access) (ctx : Nat) : Bool := ctx != 2 || acc.init == initLapwing

/-- A claim by a context: the pending bit of the ID clears. -/
def plicClaim (ctx : Nat) (s : State) : State :=
  let id := s.plicBest ctx
  let s := if id = 0 then s
    else keepPending (fun s => { s with app := { s.app with
      pendingIds := s.app.pendingIds.filter (fun i => i != id), claimed := s.app.claimed ++ [(id, ctx)] } }) s
  answerWord (BitVec.ofNat 32 id) s

/-- A complete by a context: one that names an ID it has not claimed is ignored. -/
def plicComplete (ctx : Nat) (w : Word) (s : State) : State :=
  { s with resp := .ok, app := { s.app with
    claimed := s.app.claimed.filter (fun (e : Nat × Nat) => e != (w.toNat, ctx)) } }

/-- PLIC_CLAIM (R558): a read of a context's claim register. -/
def execPlicClaim (dt : Nat) (acc : Access) (ctx : Nat) (s : State) : Host.Outcome State Fault Refusal :=
  command dt (fun s =>
    if acc.bytes ≠ 4 ∨ 3 ≤ ctx then errorResponse s
    else if mayUseContext acc ctx then plicClaim ctx s
    else answerWord 0 s) s

/-- PLIC_COMPLETE (R558): a write of a context's complete register. -/
def execPlicComplete (dt : Nat) (acc : Access) (ctx : Nat) (w : Word) (s : State) : Host.Outcome State Fault Refusal :=
  command dt (fun s =>
    if acc.bytes ≠ 4 ∨ 3 ≤ ctx then errorResponse s
    else if mayUseContext acc ctx then plicComplete ctx w s
    else { s with resp := .ok }) s

/-- The ID's priority answers only Lapwing: those of sources 12 to 19 and 44 to 51. -/
def lapwingId (id : Nat) : Bool := decide ((13 ≤ id ∧ id ≤ 20) ∨ (45 ≤ id ∧ id ≤ 52))

/-- What an offset in the interrupt controller names (R557). -/
inductive PlicReg where
  | priority (id : Nat)
  | pending (k : Nat)
  | enable (ctx k : Nat)
  | threshold (ctx : Nat)
  | claim (ctx : Nat)
  deriving DecidableEq, Repr

/-- The register at an offset, if one answers there. -/
def plicReg (o : Nat) : Option PlicReg :=
  if o % 4 ≠ 0 then none
  else if 4 ≤ o ∧ o ≤ 4 * 128 then some (.priority (o / 4))
  else if 0x1000 ≤ o ∧ o ≤ 0x1010 then some (.pending ((o - 0x1000) / 4))
  else if 0x2000 ≤ o ∧ o < 0x2180 ∧ o % 0x80 ≤ 0x10 then some (.enable ((o - 0x2000) / 0x80) (o % 0x80 / 4))
  else if 0x200000 ≤ o ∧ o < 0x203000 then
    if o % 0x1000 = 0 then some (.threshold ((o - 0x200000) / 0x1000))
    else if o % 0x1000 = 4 then some (.claim ((o - 0x200000) / 0x1000))
    else none
  else none

/-- Whether an initiator has an answer from a register of the controller. -/
def PlicReg.admits (r : PlicReg) (acc : Access) : Bool :=
  match r with
  | .priority id => !lapwingId id || acc.init == initLapwing
  | .pending _ => true
  | .enable ctx _ => mayUseContext acc ctx
  | .threshold ctx => mayUseContext acc ctx
  | .claim ctx => mayUseContext acc ctx

/-- The pending bits of word `k`. -/
def State.plicPending (s : State) (k : Nat) : Nat :=
  ((s.app.pendingIds.filter (fun i => i / 32 == k)).map (fun i => 2 ^ (i % 32))).sum

/-- A read of the interrupt controller at offset `o`. PRESUMED, unsafe: log 28. -/
def plicRead (acc : Access) (o : Nat) (s : State) : State :=
  match plicReg o with
  | none => errorResponse s
  | some r =>
    if acc.bytes ≠ 4 then errorResponse s
    else if !r.admits acc then answerWord 0 s
    else
      match r with
      | .pending k => answerWord (BitVec.ofNat 32 (s.plicPending k)) s
      | .claim ctx => plicClaim ctx s
      | .priority _ => answerWord (s.word (plicBase + o)) s
      | .enable _ _ => answerWord (s.word (plicBase + o)) s
      | .threshold _ => answerWord (s.word (plicBase + o)) s

/-- The bits an enable word holds: ID 0 has none, and the last ID is 128. -/
def enableMask (k : Nat) : Word := if k = 0 then 0xFFFFFFFE else if k = 4 then 1 else 0xFFFFFFFF

/-- A write of the interrupt controller at offset `o`. DEDUCED, unsafe: log 19. -/
def plicWrite (acc : Access) (o : Nat) (w : Word) (s : State) : State :=
  match plicReg o with
  | none => errorResponse s
  | some r =>
    if acc.bytes ≠ 4 then errorResponse s
    else
      let t : State := { s with resp := .ok }
      if !r.admits acc then t
      else
        match r with
        | .pending _ => t
        | .claim ctx => plicComplete ctx w t
        | .priority _ => keepPending (State.setWord (plicBase + o) (w &&& 7)) t
        | .enable _ k => keepPending (State.setWord (plicBase + o) (w &&& enableMask k)) t
        | .threshold _ => keepPending (State.setWord (plicBase + o) (w &&& 7)) t

/-! ### Timers and software interrupts (R548, R560) -/

/-- A write of `APP_MTIMECMPc_LO` is held; the register keeps what it held before (`old`). -/
def mtimecmpLoWrite (c : Nat) (old w : Word) (s : State) : State :=
  setHart c { s.hart c with cmpLo := some w } (s.setWord (mtimecmpLo c) old)

/-- A write of `APP_MTIMECMPc_HI` commits both halves. -/
def mtimecmpHiWrite (c : Nat) (s : State) : State :=
  let s := match (s.hart c).cmpLo with
    | some w => s.setWord (mtimecmpLo c) w
    | none => s
  mtipFollows c (setHart c { s.hart c with cmpLo := none } s)

/-- MTIMECMP_WRITE (R548): a write of `APP_MTIMECMPc_HI`. -/
def execMtimecmpWrite (dt : Nat) (acc : Access) (core : Nat) (w : Word) (s : State) : Host.Outcome State Fault Refusal :=
  command dt (fun s =>
    if core < 2 then writeRow acc (mtimecmpLo core + 4) w (mtimecmpHiWrite core) s else s) s

/-- MTIP (R548): TS64 has reached the compare value of a hart; a hart whose domain sleeps is woken (R505, R509). -/
def execMtip (dt core : Nat) (s : State) : Host.Outcome State Fault Refusal :=
  command dt (fun s =>
    if core < 2 ∧ s.mtimecmp core ≤ s.ts then
      let s := mtipFollows core s
      if s.domainLocked (8 + core) then s else workFor (8 + core) .interrupt s
    else s) s

/-- The address of `APP_SWIRQ`. -/
def swIrqAddr : Nat := 0x20130010

/-- The effect of a write of `APP_SWIRQ`: bits 7:0 of `APP_INT_STAT` are set; the register reads 0. -/
def swIrqWrite (w : Word) (s : State) : State :=
  let s := s.setWord swIrqAddr 0
  s.setWord 0x20130014 (s.word 0x20130014 ||| (w &&& 0xFF))

/-- IRQ (R560): task IRQk, or a write of `APP_SWIRQ`. DESIGN CHOICE, unsafe: log 7. -/
def execIrq (dt k : Nat) (trigger : WordTrigger) (s : State) : Host.Outcome State Fault Refusal :=
  command dt (fun s =>
    match trigger with
    | .write acc w => writeRow acc swIrqAddr w (swIrqWrite w) s
    | .task =>
      let id := 0x4C0 + k
      if decide (k < 8) && s.taskQueued id then endTask id (raise ⟨0x20130014, k, 1⟩ (takeTask id s)) else s) s

end Sys2Proof.Machine
end

