-- ==== Sys2Proof/Machine/Chk.lean ====
section
/-!
DEFINITION. The check-value units (R473 to R476).
-/

namespace Sys2Proof.Machine

/-- One bit of a CRC taken most significant bit first. -/
def crcBitMsb (poly c : BitVec 64) : BitVec 64 := if c.getLsbD 63 then (c <<< 1) ^^^ poly else c <<< 1

/-- One octet of a CRC taken most significant bit first. -/
def crcOctetMsb (poly c : BitVec 64) (b : Byte) : BitVec 64 :=
  (List.range 8).foldl (fun v _ => crcBitMsb poly v) (c ^^^ (b.setWidth 64 <<< 56))

/-- CRC-64/ECMA (R473). -/
def crc64 (os : Octets) : Nat := (os.foldl (crcOctetMsb 0x42F0E1EBA9EA3693) 0).toNat

/-- The CRC that POLY selects (R473). -/
def checkValue (poly : Nat) (os : Octets) : Nat :=
  match poly with
  | 0 => crc16 os
  | 1 => crc32 os
  | 2 => crc32c os
  | _ => crc64 os

/-- The bits of the result that POLY selects. -/
def checkWidth (poly : Nat) : Nat :=
  match poly with
  | 0 => 16
  | 1 => 32
  | 2 => 32
  | _ => 64

/-- The codes of `CHKu_STAT.RESULT`. -/
def chkNone : Nat := 0
def chkOk : Nat := 1
def chkMismatch : Nat := 2
def chkAborted : Nat := 3
def chkBuserr : Nat := 4
def chkBadarg : Nat := 5

/-- The task that starts a unit. -/
def chkTask (u : Nat) : Nat := 0x100 + u

/-- The run of a unit. -/
def State.chkRun (s : State) (u : Nat) : Option ChkRun := s.cfg.chks.find? (fun r => r.unit == u)

/-- A run ends with one result (R474, R476): its flag, CHKu_DONE unless it was aborted, and CHK_MISMATCH. -/
def chkEnd (u result : Nat) (s : State) : State :=
  let hop := s.taskHop (chkTask u)
  let s := modCfg (fun c => { c with chks := c.chks.filter (fun r => r.unit != u) }) s
  let s := ((s.set (CHKu_STAT_RESULT u) result).set (CHKu_STAT_BUSY u) 0).set (CHKu_CTRL_GO u) 0
  let s := if result = chkAborted then s
    else
      let s := raise ⟨0x20040030, (if result = chkOk then 0 else 4) + u, 1⟩ s
      let s := emit (0x100 + u) hop s
      onlyIf (result == chkMismatch) (emit 0x104 hop) s
  endTask (chkTask u) s

/-- A unit starts with its current registers (R474); LEN 0 ends BADARG. DEDUCED, unsafe: log 129. -/
def chkStart (u : Nat) (acc : Access) (s : State) : State :=
  let s := ((s.set (CHKu_STAT_BUSY u) 1).set (CHKu_STAT_RESULT u) chkNone).set (CHKu_STAT_ABORT_LATE u) 0
  let run : ChkRun :=
    { unit := u, acc := acc, poly := s.get (CHKu_CTRL_POLY u), cmp := s.is (CHKu_CTRL_CMPEN u),
      addr := s.get (CHKu_SRC_HI_ADDR u) * 2 ^ 32 + s.get (CHKu_SRC_LO_ADDR u), len := s.get (CHKu_LEN_LEN u),
      exp := s.get (CHKu_EXP_HI_EXP u) * 2 ^ 32 + s.get (CHKu_EXP_LO_EXP u) }
  if run.len = 0 then chkEnd u chkBadarg s
  else modCfg (fun c => { c with chks := c.chks ++ [run] }) s

/-- A run completes: the octets are read under its identity, and the CRC is compared (R473). -/
def chkComplete (r : ChkRun) (s : State) : State :=
  match engineRead r.acc r.addr r.len s with
  | (none, s) => chkEnd r.unit chkBuserr s
  | (some os, s) =>
    let v := checkValue r.poly os
    let s := (s.set (CHKu_VAL_LO_VAL r.unit) v).set (CHKu_VAL_HI_VAL r.unit) (v / 2 ^ 32)
    let differs := r.cmp && v != r.exp % 2 ^ checkWidth r.poly
    chkEnd r.unit (if differs then chkMismatch else chkOk) s

/-- CHK_DONE (R473): a run completes. -/
def execChkDone (dt : Nat) (unit : Nat) (s : State) : Host.Outcome State Fault Refusal :=
  command dt (fun s =>
    match s.chkRun unit with
    | some r => chkComplete r s
    | none => s) s

/-- The effect of a write of `CHKu_CTRL`: GO starts an idle unit; during LOAD the loader alone uses the units. ABORT ends a
run, or meets its completion (`finished`) and leaves that result with ABORT_LATE. -/
def chkCtrlWrite (acc : Access) (u : Nat) (finished : Bool) (w : Word) (s : State) : State :=
  let s := s.set (CHKu_CTRL_ABORT u) 0
  let s := if wrote w (CHKu_CTRL_ABORT u) then
      (match s.chkRun u with
       | some r => if finished then raise (CHKu_STAT_ABORT_LATE u) (chkComplete r s) else chkEnd u chkAborted s
       | none => s)
    else s
  if wrote w (CHKu_CTRL_GO u) && (s.chkRun u).isNone then
    (if s.mode == .load && acc.init != initLoader then s.set (CHKu_CTRL_GO u) 0
     else chkStart u acc (startTask (chkTask u) s))
  else s.set (CHKu_CTRL_GO u) (flag (s.chkRun u).isSome)

/-- The address of `CHKu_CTRL`. -/
def chkCtrlAddr (u : Nat) : Nat := (CHKu_CTRL_GO u).addr

/-- CHK_START (R474): a write of `CHKu_CTRL`, or the task CHKu_START. -/
def execChkStart (dt : Nat) (unit : Nat) (trigger : WordTrigger) (s : State) : Host.Outcome State Fault Refusal :=
  command dt (fun s =>
    if unit < 4 then
      match trigger with
      | .write acc w => writeRow acc (chkCtrlAddr unit) w (chkCtrlWrite acc unit false w) s
      | .task =>
        if s.taskQueued (chkTask unit) && (s.chkRun unit).isNone then
          chkStart unit { init := initCheck, secure := false, bytes := 4 } (raise (CHKu_CTRL_GO unit) (takeTask (chkTask unit) s))
        else s
    else s) s

/-- CHK_ABORT (R474): a write of `CHKu_CTRL`; `finished` says that the run completes at the same instant. -/
def execChkAbort (dt : Nat) (acc : Access) (unit : Nat) (w : Word) (finished : Bool) (s : State) :
    Host.Outcome State Fault Refusal :=
  command dt (fun s =>
    if unit < 4 then writeRow acc (chkCtrlAddr unit) w (chkCtrlWrite acc unit finished w) s else s) s

end Sys2Proof.Machine
end

