-- ==== Sys2Proof/Machine/Standby.lean ====
section
/-!
DEFINITION. What a standby does with what it receives (R358, R367 to R372): sequence numbers and acknowledgements, bulk items,
the records, and the join on both sides.
-/

namespace Sys2Proof.Machine

/-! ### The snapshot's pieces (R371) -/

/-- The regions of a snapshot. -/
def regTable : Nat := 0
def regFlows : Nat := 1
def regClasses : Nat := 2
def regInput : Nat := 3
def regQueues : Nat := 4
def regHeld : Nat := 5
def regOther : Nat := 6

/-- The piece that stands for a region as a whole: what its frames do not carry, the region has not. -/
def wholeRegion : Nat := 2 ^ 64

/-- A record changes a piece of data only if its MSEQ exceeds the STAMP of the frame that carried the piece, or of the last frame
of its region where none did. -/
def State.newer (s : State) (region piece m : Nat) : Bool :=
  let stamp (x : Nat) : Option Nat := (s.stl.snapStamps.find? (fun e => e.1 == region && e.2.1 == x)).map (fun e => e.2.2)
  let t := match stamp piece with
    | some t => some t
    | none => stamp wholeRegion
  t.all (fun v => decide (0 < diff32 m v))

/-- The same for a field of a node record: the frame that carried its first octet. -/
def State.newerNode (s : State) (i : Nat) (f : NrFld) (m : Nat) : Bool :=
  let a := 256 * i + f.off
  s.stl.snapStamps.all (fun e => !(e.1 == regTable && decide (e.2.1 ≤ a ∧ a < e.2.1 + 240)) || decide (0 < diff32 m e.2.2))

/-- The same for one octet of a node record, by the SNAP frame that carried it. -/
def State.newerOctet (s : State) (i m k : Nat) : Bool :=
  let a := 256 * i + k
  s.stl.snapStamps.all (fun e => !(e.1 == regTable && decide (e.2.1 ≤ a ∧ a < e.2.1 + 240)) || decide (0 < diff32 m e.2.2))

/-- A record changes the octets of a node record that it may change, and no other (R371). -/
def State.mixRecord (s : State) (i m : Nat) (old new : Octets) : Octets :=
  if s.stl.snapStamps.isEmpty then new
  else (List.range 256).map (fun k => if s.newerOctet i m k then octAt new k else octAt old k)

/-- A commit record updates a node record where it may. -/
def updateNewer (m i : Nat) (f : Octets → Octets) (s : State) : State :=
  updateNode i (fun os => s.mixRecord i m os (f os)) s

/-- A piece of the snapshot has come with a STAMP. -/
def stampPiece (region piece stamp : Nat) (s : State) : State :=
  modStl (fun p => { p with snapStamps := (region, piece, stamp) :: p.snapStamps.filter (fun e => !(e.1 == region && e.2.1 == piece)) }) s

/-! ### Items -/

/-- An item received whole, by its code and the XSEQ that a record names. -/
def State.itemAt (s : State) (kind x : Nat) : Option Octets :=
  (s.stl.items.find? (fun i => i.kind == kind && i.first == x)).map (fun i => i.data)

/-- An item is used up. -/
def dropItem (kind x : Nat) (s : State) : State :=
  modStl (fun p => { p with items := p.items.filter (fun i => !(i.kind == kind && i.first == x)) }) s

/-- The item codes (R368). -/
def itemFrame : Nat := 1
def itemQmsg : Nat := 2
def itemCtxbuf : Nat := 3
def itemSnap : Nat := 4
def itemJsum : Nat := 5
def itemSnapend : Nat := 6

/-! ### The records (R367, R370) -/

/-- An acknowledgement that the old primary has booked, as its DECIDE record tells of it, counts among this device's own in a planned
handover (R204, R375). DEDUCED, unsafe: log 188. -/
def noteOldAck (r : Octets) (s : State) : State :=
  let last := s.cycles - (s.ts - leAt r 12 8)
  let pan := octAt r 25 % 16
  let first := last + turnaround
  let mpdu := immAck (bitAt (octAt r 6) 1) (octAt r 5)
  let q : BookReq :=
    { id := s.cod.nextId, cls := .ack, ch := octAt r 7, mode := nrMode (s.nodeRec (leAt r 2 3)), first := first, mask := 0xFF,
      sig := none, mpdu := mpdu, asked := s.cycles }
  let span := s.innerSpan q q.pulseEnd
  let a : AckBooking :=
    { booking := q.id, ch := q.ch, pan := pan, start := span.1, stop := span.2, ackEnd := first + airCycles q.mode mpdu,
      pri := s.get (LNK_PANn_CFG_ACKPRI pan), command := octAt r 1 != decAccept, lastChip := last, lane := octAt r 24,
      released := true, failed := false, secure := none, slot := none, poll := none, foreign := true }
  modLnk (fun l => { l with acks := l.acks ++ [a] }) (modCod (fun c => { c with nextId := c.nextId + 1 }) s)

/-- DECIDE: the counters follow, a counter record is journalled, and the decision is held pending.
DEDUCED, unsafe: log 105. -/
def applyDecide (m : Nat) (r : Octets) (s : State) : State :=
  let i := leAt r 2 3
  let code := octAt r 1
  let ctr := leAt r 8 4
  let s := onlyIf (s.lnk.heard.any (fun h => diverges r h.1 h.2.1 h.2.2.1 h.2.2.2)) diverged s
  let os := s.nodeRec i
  let known := decide (i < nodeCount)
  let secured := ctr != nr os nrInctr
  let s := onlyIf (known && codeAdvances code) (updateNewer m i (nrSet nrLastseq (octAt r 5))) s
  let s := onlyIf (known && codeAdvances code && s.newerNode i nrInctr m)
    (fun s =>
      let s := onlyIf secured (updateNode i (nrSet nrInctr ctr)) s
      jnlOffer recCounter (payCounter i ctr (octAt r 5) secured) s) s
  let s := onlyIf (known && code == decCtrend) (updateNewer m i (nrSetFlag fCtrendsent true)) s
  let s := onlyIf (s.takesOver && bitAt (octAt r 6) 0) (noteOldAck r) s
  modStl (fun p => { p with
    decides := p.decides ++ [{ mseq := m, record := r, oldNoCtr := nrFlag os fNoctr, secured := secured && codeAdvances code }] }) s

/-- The pending DECIDE a record names. -/
def State.pendingDecide (s : State) (r : Octets) : Option StlDecide := s.stl.decides.find? (fun d => d.mseq == leAt r 16 4)

/-- A DECIDE is pending no longer. -/
def dropDecide (d : StlDecide) (s : State) : State :=
  dropItem itemFrame (leAt d.record 20 4) (modStl (fun p => { p with decides := p.decides.filter (fun x => x.mseq != d.mseq) }) s)

/-- WITHHOLD: the counters go back, and a void record is journalled. -/
def applyWithhold (m : Nat) (r : Octets) (s : State) : State :=
  match s.pendingDecide r with
  | none => s
  | some d =>
    let i := leAt r 2 3
    let s := dropDecide d s
    if i < nodeCount ∧ codeAdvances (octAt d.record 1) = true ∧ s.newerNode i nrInctr m = true then
      let s := updateNewer m i (fun os =>
        nrSetFlag fNoctr d.oldNoCtr (nrSet nrLastseq (octAt r 12) (nrSet nrInctr (leAt r 8 4) os))) s
      let s := modStl (fun p => { p with decides := p.decides.map (fun x =>
        if leAt x.record 2 3 = i then { x with oldNoCtr := d.oldNoCtr } else x) }) s
      jnlOffer recVoid (payVoid i (leAt d.record 8 4) (leAt r 8 4) (octAt r 12) (!d.oldNoCtr)) s
    else s

/-- A released ACCEPT reaches this device's Sheaf, and its node record. A standby takes its frames where the records place them; with
8,192 frames waiting its primary, whose buffer holds no more, has taken the oldest already (R290, R315). DEDUCED, unsafe: log 89. -/
def feedFrame (item : Octets) (m due : Nat) (s : State) : State :=
  let f := shfFrameOf item (m % 2 ^ 32) due
  let s := updateNewer m f.node
    (fun os => nrSetMode f.mode (heardUpdate f.lock f.sfdts f.rssi f.lqi (s.get CTX_CFG_LQISH) os)) s
  onlyIf (s.newer regInput 0 m) (fun s => sheafTakes f (onlyIf (decide (8192 ≤ s.shf.input.length)) takeHead s)) s

/-- Release a pending DECIDE: a secured frame of code 0, 1, 3 or 5 ends NOCTR (R276), and an accepted one reaches Sheaf. -/
def releaseDecide (d : StlDecide) (m : Nat) (s : State) : State :=
  let i := leAt d.record 2 3
  let code := octAt d.record 1
  let kept := code == decAccept || code == decPoll || code == decNofunc || code == decDup
  let s := onlyIf (d.secured && kept && decide (i < nodeCount)) (updateNewer m i (nrSetFlag fNoctr false)) s
  let s := match s.itemAt itemFrame (leAt d.record 20 4) with
    | some item => if octAt d.record 1 = decAccept then feedFrame item m (cutOffTs (leAt d.record 12 8)) s else s
    | none => s
  dropDecide d s

/-- RESV: the reservation is journalled; it counts once its record is durable. -/
def applyResv (m : Nat) (r : Octets) (s : State) : State :=
  let group := bitAt (octAt r 1) 0
  let id := leAt r 2 3
  let block := leAt r 8 4
  let ok := if group then s.newer regOther (16 + id) m else s.newerNode id nrReserved m
  if ok then
    let v : Resv := { group := group, id := id, block := block, ticket := some s.jnl.nextTicket, gate := none, since := s.cycles }
    let s := jnlOffer recResv (payResv id group block) s
    modSec (fun g => { g with resvs := g.resvs.filter (fun x => !(x.group == group && x.id == id)) ++ [v] }) s
  else s

/-- A space has used a value, as a record says. -/
def usedValue (m : Nat) (p : Space) (v : Nat) (s : State) : State :=
  if p.group then onlyIf (s.newer regOther (16 + p.id) m) (State.set (SEC_GRPn_OCTR_NEXT p.id) (max (s.spaceNext p) (v + 1))) s
  else updateNewer m p.id (fun os => nrSet nrNext (max (nr os nrNext) (v + 1)) os) s

/-- The link key of a record, wherever the record is held. -/
def State.recordKey (s : State) (os : Octets) : Option Octets :=
  match nr os nrKind with
  | 1 => (s.pmk (nr os nrPan)).map (fun k => deriveKey k (nr os nrEui))
  | 2 => s.sec.kwk.bind (fun k => keyUnwrap k (nrOctets os nrWrap))
  | _ => none

/-- The key of a downstream frame, as the standby can tell it: that of its slot, or of its node's record. -/
def State.startKey (s : State) (desc : Octets) (node : Option Nat) : Octets :=
  if descLevel desc = 0 then []
  else
    match s.outKey (descKim desc) (descSlot desc) node with
    | some k => k.1
    | none =>
      if descKim desc = 0 ∨ s.is (SEC_GRPn_CFG_LINK (descSlot desc)) = true then
        (node.bind (fun i => s.recordKey (s.nodeRec i))).getD []
      else []

/-- DSTART: the frame in flight, as the authority sends it. The record names no attempt and no frame pending bit, so that a held
frame's first send after a takeover sets that bit anew. DEDUCED, unsafe: log 106. -/
def applyStart (m : Nat) (r : Octets) (s : State) : State :=
  let q := octAt r 1 % 32
  let i := leAt r 12 4
  let node := if leAt r 2 3 < nodeCount then some (leAt r 2 3) else none
  let dsn := octAt r 5
  let ctr := leAt r 8 4
  let desc := s.qDesc q i
  let s := engineReads 2 (leAt desc 16 5) (leAt desc 0 2 % 2048) (engineReads 2 (s.qDescAddr q i) 32 s)
  let pan := s.get (LNK_DQn_PAN q)
  let hdr := s.downHeader pan desc dsn ctr
  let plain := hdr ++ s.memOr0 (leAt desc 16 5) (leAt desc 0 2 % 2048)
  let d : Down := { Down.fresh s.lnk.nextId q i desc pan with
    node := node, mode := octAt r 6 % 8, plain := plain, hdrLen := hdr.length, mpdu := plain, dsn := dsn, counter := ctr,
    key := s.startKey desc node }
  let s := onlyIf (s.newer regOther pan m) (State.set (LNK_PANn_STAT_DSN pan) dsn) s
  let s := onlyIf (descLevel desc != 0) (usedValue m (s.downSpace d) ctr) s
  if s.lnk.down.any (fun x => x.queue == q && x.index == i) then s
  else modLnk (fun l => { l with down := l.down ++ [d], nextId := l.nextId + 1 }) s

/-- A shadow ring of queues 0 to 31 has given up the entry at an index. -/
def shadowCi (m q i : Nat) (s : State) : State := onlyIf (s.newer regQueues q m && s.qCi q == i) (qAdvanceCi q) s

/-- DHOLD: the frame moves to its node's held list. -/
def applyHold (m : Nat) (r : Octets) (s : State) : State :=
  let q := octAt r 1 % 32
  let i := leAt r 12 4
  let node := leAt r 2 3
  let mine (d : Down) : Bool := d.queue == q && d.index == i && !d.held
  let s := modLnk (fun l => { l with
    down := l.down.filter (fun d => !mine d)
      ++ (if s.newer regHeld 0 m then (l.down.filter mine).map (fun d => { d with held := true, heldFrom := s.cycles }) else []) }) s
  followHeld node (shadowCi m q i s)

/-- DDONE: the frame has completed; the authority owes the completion. -/
def applyDone (m : Nat) (r : Octets) (s : State) : State :=
  let q := octAt r 1 % 32
  let i := leAt r 12 4
  let held := s.lnk.down.filter (fun d => d.queue == q && d.index == i && d.held)
  let s := modLnk (fun l => { l with down := l.down.filter (fun d => !(d.queue == q && d.index == i)) }) s
  let s := modUpl (fun u => { u with refs := u.refs.filter (fun e => !(e.1 == q && e.2.1 == i)) }) s
  let nodes := held.filterMap (fun d => d.node)
  if held.isEmpty then shadowCi m q i s else forEach nodes followHeld s

/-- QIN: the descriptor and its data enter the shadow ring. The SEQ of its DOWN message is not in the record: it is a free value
(assumption 41). DESIGN CHOICE, safe: log 41. -/
def applyEntry (m : Nat) (r : Octets) (s : State) : State :=
  let q := octAt r 1 % 32
  let i := leAt r 12 4
  let x := leAt r 20 4
  match s.itemAt itemQmsg x with
  | none => s
  | some item =>
    let s := dropItem itemQmsg x s
    if s.newer regQueues q m then
      let desc := if s.is (UPL_Qn_CFG_SRC q) then item.take 32 else patch (item.take 32) 16 (le 5 (s.qSlotAddr q i))
      let s := enginePut 3 (s.qDescAddr q i) desc (enginePut 3 (leAt desc 16 5) (item.drop 32) s)
      let s := modUpl (fun u => { u with refs := u.refs ++ [(q, i, s.freeNow % 2 ^ 32)] }) (useFree s)
      s.set (UPL_Qn_PI_PI q) (i + 1)
    else s

/-- CTXCMD: the command takes effect with the staging buffer of its item, on the octets of its record that were copied before it (R371).
DEDUCED, unsafe: log 190. -/
def applyCtxcmd (m : Nat) (r : Octets) (s : State) : State :=
  let x := leAt r 20 4
  let op := octAt r 1
  let i := leAt r 2 3
  let os := s.nodeRec i
  let may := (List.range 256).any (s.newerOctet i m)
  let t := onlyIf may (shadowCommand op i (leAt r 8 4) ((s.itemAt itemCtxbuf x).getD [])) s
  let s' := onlyIf (may && !s.stl.snapStamps.isEmpty) (updateNode i (fun new => s.mixRecord i m os new)) t
  if opTakesBuffer op then dropItem itemCtxbuf x s' else s'

/-- SHFCLOSE: frames up to the RELEASE it names, then the closure under its BSEQ. -/
def applyClose (m : Nat) (r : Octets) (s : State) : State :=
  let c := octAt r 1 % 16
  if s.newer regClasses c m then
    shadowClose c (octAt r 2) (leAt r 8 4) (leAt r 16 4) s
  else s

/-- SHFWIN: frames up to the RELEASE it names, then the windows that end at its instant. -/
def applyWindow (m : Nat) (r : Octets) (s : State) : State :=
  let t := leAt r 8 8
  let fresh := (s.windowsAt t).all (fun e => s.newer regFlows e.1 m)
  if fresh then shadowWindows t (leAt r 16 4) s else s

/-- The index of the entry of an upstream ring with a SEQ. -/
def State.entryOf (s : State) (q seq : Nat) : Option Nat :=
  ((List.range (min (s.qUsed q) 65536)).map (fun k => (s.qCi q + k) % 2 ^ 32)).find? (fun i => leAt (s.qDesc q i) 4 4 == seq)

/-- Take frames until a raw queue holds the entry with a SEQ. -/
def drainUntil : Nat → Nat → Nat → State → State
  | 0, _, _, s => s
  | n + 1, q, seq, s =>
    if (s.entryOf q seq).isSome then s else drainUntil n q seq (takeHead s)

/-- USENT: the shadow ring gives up its entries up to the message that left. -/
def applyUsent (m : Nat) (r : Octets) (s : State) : State :=
  let q := octAt r 1
  let seq := leAt r 8 4
  if q < 32 ∨ 55 < q ∨ s.newer regQueues q m = false then s
  else
    let s := onlyIf (decide (48 ≤ q)) (drainUntil s.shf.input.length q seq) s
    match s.entryOf q seq with
    | some i => forEach (List.range 16) writeWaiting (writeWaitingRaw (s.set (UPL_Qn_CI_CI q) (i + 1)))
    | none => s

/-- BEACON: the PAN's BSN and the instant of its last beacon. -/
def applyBeacon (m : Nat) (r : Octets) (s : State) : State :=
  let p := octAt r 1 % 16
  let ts := leAt r 12 8
  let s := onlyIf (s.newer regOther p m) (State.set (LNK_PANn_STAT_BSN p) (octAt r 5)) s
  let s := s.set (LNK_PANn_BCNTS_TS32 p) ts
  let off := s.get (LNK_PANn_BCN_OFF p) * symCycles
  let t := off + (ts - off) / s.beaconInterval p * s.beaconInterval p
  modLnk (fun l => { l with
    handled := (p, t) :: l.handled.filter (fun e => e.1 != p),
    lastBeacon := (p, s.cycles - (s.ts - ts)) :: l.lastBeacon.filter (fun e => e.1 != p) }) s

/-- REG: a mirrored register takes its new value. -/
def applyReg (m : Nat) (r : Octets) (s : State) : State :=
  let a := leAt r 4 4
  if mirroredRegister a && s.newer regOther a m then s.setWord a (BitVec.ofNat 32 (leAt r 8 4)) else s

/-- A record, by its KIND. -/
def applyKind (m : Nat) (r : Octets) (s : State) : State :=
  match octAt r 0 with
  | 1 => applyDecide m r s
  | 2 => applyWithhold m r s
  | 3 => (match s.pendingDecide r with
    | some d => releaseDecide d m s
    | none => s)
  | 4 => applyResv m r s
  | 5 => applyStart m r s
  | 6 => applyHold m r s
  | 7 => applyDone m r s
  | 8 => applyEntry m r s
  | 9 => applyCtxcmd m r s
  | 10 => applyClose m r s
  | 11 => applyWindow m r s
  | 12 => applyUsent m r s
  | 13 => applyBeacon m r s
  | 14 => applyReg m r s
  | _ => s

/-- What a record does is not mirrored back. -/
def quietly (f : State → State) (s : State) : State :=
  let e := s.stl.elected
  modStl (fun p => { p with elected := e }) (f (modStl (fun p => { p with elected := false }) s))

/-- The item a record depends on has come (R358). -/
def State.recordReady (s : State) (r : Octets) : Bool :=
  let x := leAt r 20 4
  match octAt r 0 with
  | 3 => (match s.pendingDecide r with
    | some d => octAt d.record 1 != decAccept || (s.itemAt itemFrame (leAt d.record 20 4)).isSome
    | none => true)
  | 8 => (s.itemAt itemQmsg x).isSome
  | 9 => !opTakesBuffer (octAt r 1) || (s.itemAt itemCtxbuf x).isSome
  | _ => true

/-- The device applies records now: in STANDBY once the snapshot has ended, and while it takes over by plan. -/
def State.appliesNow (s : State) : Bool :=
  (s.mode == .standby && (s.stl.sync == syncSync || s.stl.joinStep == 2)) || s.takesOver

/-- Apply the records that are due, in MSEQ order. -/
def applyReady : Nat → State → State
  | 0, s => s
  | n + 1, s =>
    match s.stl.held.find? (fun h => !h.bulk && h.seq == s.stl.applied) with
    | none => s
    | some h =>
      if !s.recordReady h.payload then s
      else
        let s := modStl (fun p => { p with held := p.held.erase h, applied := p.applied + 1 }) s
        applyReady n (count STL_CNT_COMMIT 1 ((quietly (applyKind (h.seq % 2 ^ 32) h.payload) s).set STL_MSEQ_MSEQ h.seq))

/-- Apply what is due, or keep it for later. A device with authority that is in no handover has no use for records. -/
def applyDue (s : State) : State :=
  if s.appliesNow then applyReady s.stl.held.length s
  else if s.mode = .standby ∨ s.stl.handover.isSome = true then s
  else modStl (fun p => { p with applied := p.rxM, held := p.held.filter (fun h => h.bulk || decide (p.rxM ≤ h.seq)) }) s

/-! ### The join (R371, R372) -/

/-- The word of a JSUM for a reserved block. -/
def blockWord (block : Nat) (some_ : Bool) : Nat := if some_ then block + 2 ^ 31 else 0

/-- The JSUM of this device. -/
def State.summary (s : State) : Octets :=
  (List.range nodeCount).flatMap (fun i =>
    let w := s.indexState i
    le 4 w ++ le 4 (blockWord (w / 2 ^ 32 % 2 ^ 20) (bitAt w 52))) ++
  (List.range 64).flatMap (fun g =>
    let b := (s.groupSpace g).block
    le 4 (blockWord (b.getD 0) b.isSome))

/-- No hot context holds a record. -/
def dropContexts (s : State) : State :=
  let s := forEach s.ctx.hot (fun (h : Nat × Hot) t => if (t.slot h.1).valid then eraseSlot h.1 t else t) s
  modCtx (fun c => { c with hot := [], wb := [], fills := [], swpins := [] }) s

/-- The queues that a standby shadows, as after LOAD. -/
def emptyRings (s : State) : State :=
  let s := forEach (List.range 56) (fun q t =>
    ((t.set (UPL_Qn_PI_PI q) 0).set (UPL_Qn_CI_CI q) 0).set (UPL_Qn_SEQ_SEQ q) 0) s
  modUpl (fun u => { u with
    resumed := u.resumed.filter (fun q => decide (56 ≤ q)), refs := u.refs.filter (fun e => decide (56 ≤ e.1)),
    windows := u.windows.filter (fun w => decide (56 ≤ w.queue)), entering := u.entering.filter (fun e => decide (56 ≤ e.queue)),
    reasm := u.reasm.filter (fun r => decide (56 ≤ r.queue)) }) s

/-- The copies a standby keeps are emptied: Sheaf, rings, frames in flight and held. -/
def clearCopies (s : State) : State :=
  let nodes := (s.lnk.down.filter (fun d => d.held)).filterMap (fun d => d.node)
  let s := modLnk (fun l => { l with down := [], completions := [] }) s
  let s := forEach nodes followHeld s
  emptyRings (modShf (fun h => { h with flows := [], classes := [], input := [], rawWait := none }) s)

/-- Step 1: the joining device sends its JSUM. -/
def sendSummary (s : State) : State :=
  let data := s.summary
  let s := clearCopies (dropContexts s)
  let s := modStl (fun p => { p with joinStep := 1, resync := false, snapStamps := [], held := p.held.filter (fun h => h.bulk), applied := p.rxM }) s
  mirrorItem itemJsum 0 data.length data (s.set STL_JOIN_DONE 0)

/-- Step 2 for a node index: raise what the summary exceeds, and journal each rise. -/
def mergeNode (data : Octets) (i : Nat) (s : State) : State :=
  let ctr := leAt data (8 * i) 4
  let w := leAt data (8 * i + 4) 4
  let mine := s.indexState i
  let ctrRises := decide (mine % 2 ^ 32 < ctr)
  let blockRises := bitAt w 31 && (!bitAt mine 52 || decide (mine / 2 ^ 32 % 2 ^ 20 < w % 2 ^ 20))
  if !ctrRises && !blockRises then s
  else
    let os := s.nodeRec i
    let s := if nrFlag os fValid || nrFlag os fRetired then
        updateNode i (fun os =>
          let os := if ctrRises then nrSetFlag fNoctr false (nrSet nrInctr ctr os) else os
          if blockRises then nrSet nrNext ((w % 2 ^ 20 + 1) * 4096) (nrSet nrReserved (w % 2 ^ 20 + 2 ^ 20) os) else os) s
      else
        let e := leNat (s.memOr0 (s.recoveryAddr i) 8)
        let block := if blockRises then w % 2 ^ 20 else mine / 2 ^ 32 % 2 ^ 20
        enginePut 3 (s.recoveryAddr i) (le 8 (stateBits (max (mine % 2 ^ 32) ctr) block (blockRises || bitAt mine 52)
          (ctrRises || bitAt mine 53) + e / 2 ^ 54 * 2 ^ 54)) s
    jnlOffer recState (s.statePayload i) s

/-- Step 2 for a group slot. -/
def mergeGroup (data : Octets) (g : Nat) (s : State) : State :=
  let w := leAt data (8 * nodeCount + 4 * g) 4
  let b := w % 2 ^ 20
  if bitAt w 31 && (s.groupSpace g).block.all (fun x => decide (x < b)) then
    let s := (modGroup g (fun x => { x with block := some b }) s).set (SEC_GRPn_OCTR_NEXT g) ((b + 1) * 4096)
    jnlOffer recState (s.statePayload (nodeCount + g)) s
  else s

/-- The octets of a node record in a snapshot: without NR.SIG, and checked again. DEDUCED, unsafe: log 107. -/
def snapRecord (os : Octets) : Octets :=
  if nrFlag os fValid || nrFlag os fRetired then withCheck (nrSetFlag fSigvalid false (nrPut nrSig (zeros 32) os)) else os

/-- The pieces of a region of 1 to 6 (R371). -/
def State.snapItems (s : State) (region : Nat) : List SnapItem :=
  match region with
  | 1 => s.shf.flows.map (fun e => .flow e.1 e.2)
  | 2 => s.shf.classes.map (fun e => .cls e.1 e.2)
  | 3 => s.shf.input.map .input
  | 4 =>
    (List.range 56).flatMap (fun q =>
      .ring q (s.qPi q) (s.qCi q) (s.get (UPL_Qn_SEQ_SEQ q)) (s.upl.resumed.elem q) ::
        (List.range (s.qUsed q)).map (fun k =>
          let i := (s.qCi q + k) % 2 ^ 32
          let d := s.qDesc q i
          .entry q i d (s.memOr0 (leAt d 16 5) (leAt d 0 2 % 4096)))) ++ s.upl.windows.map .window
  | 5 => (s.lnk.down.filter (fun d => d.held)).map .held
  | 6 =>
    (List.range 16).map (fun p => .pan p (s.get (LNK_PANn_STAT_BSN p)) (s.get (LNK_PANn_STAT_DSN p))) ++
      (List.range 64).map (fun g => .group g (s.groupSpace g).block) ++
      ([0x200B0000, 0x200B000C, 0x200B0010, 0x200B0014, 0x200D0014] ++ (List.range 32).map (fun k => 0x200B0100 + 4 * k) ++
        (List.range 16).map (fun k => 0x200F0040 + 4 * k)).map (fun a => .reg a (s.word a))
  | _ => []

/-- The octets of a region: the node table as it stands, the others in a layout the manual does not give. -/
def State.regionOctets (s : State) (region : Nat) : Octets :=
  if region = regTable then (List.range nodeCount).flatMap (fun i => snapRecord (s.nodeRec i))
  else (s.snapItems region).flatMap Config.snapEncode

/-- The SNAP frames of a region: ILEN is the offset in the region (R368). -/
def snapFrames (region stamp : Nat) (data : Octets) : List Octets :=
  (List.range (max 1 ((data.length + 239) / 240))).map (fun k =>
    le 1 itemSnap ++ le 1 region ++ le 2 k ++ le 4 (240 * k) ++ le 4 stamp ++ zeros 4 ++ slice data (240 * k) 240)

/-- Steps 3 and 4: the snapshot and SNAPEND. -/
def sendSnapshot (s : State) : State :=
  let stamp := (s.stl.mseq + 2 ^ 32 - 1) % 2 ^ 32
  let s := engineReads 3 (s.nodeAddr 0) 0x4000000 s
  let datas := (List.range 7).map s.regionOctets
  let s := forEach (List.range 7) (fun r t => sendParts (snapFrames r stamp ((datas[r]?).getD [])) t) s
  let total := (datas.map List.length).sum
  mirrorItem itemSnapend 0 0 [] (s.set STL_JOIN_DONE (total / 4096))

/-- A JSUM has come: the serving device merges it and sends the snapshot. -/
def mergeSummary (data : Octets) (s : State) : State :=
  if s.mode == .solo || s.mode == .primary then
    sendSnapshot (forEach (List.range 64) (mergeGroup data) (forEach (List.range nodeCount) (mergeNode data) s))
  else s

/-- A piece of the snapshot is taken. -/
def takePiece (stamp : Nat) (x : SnapItem) (s : State) : State :=
  match x with
  | .flow n f => stampPiece regFlows n stamp (setFlow n f s)
  | .cls n c => stampPiece regClasses n stamp (setClass n c s)
  | .input f => stampPiece regInput 0 stamp (modShf (fun h => { h with input := h.input ++ [f] }) s)
  | .entry q i desc data => stampPiece regQueues q stamp (enginePut 3 (s.qDescAddr q i) desc (enginePut 3 (leAt desc 16 5) data s))
  | .ring q pi ci seq begun =>
    let s := ((s.set (UPL_Qn_PI_PI q) pi).set (UPL_Qn_CI_CI q) ci).set (UPL_Qn_SEQ_SEQ q) seq
    stampPiece regQueues q stamp (modUpl (fun u => { u with
      resumed := if begun then q :: u.resumed.filter (· != q) else u.resumed.filter (· != q) }) s)
  | .window w => stampPiece regQueues w.queue stamp (setWindow w s)
  | .held d =>
    let s := modLnk (fun l => { l with
      down := l.down ++ [{ d with id := l.nextId, held := true, heldFrom := s.cycles, gate := none, ciOwed := none }],
      nextId := l.nextId + 1 }) s
    stampPiece regHeld 0 stamp s
  | .pan p bsn dsn => stampPiece regOther p stamp ((s.set (LNK_PANn_STAT_BSN p) bsn).set (LNK_PANn_STAT_DSN p) dsn)
  | .group g b => stampPiece regOther (16 + g) stamp (modGroup g (fun x => { x with block := b }) s)
  | .reg a w => stampPiece regOther a stamp (onlyIf (mirroredRegister a) (State.setWord a w) s)

/-- Step 3 begins (R371): the records sent before its first frame are not kept. DEDUCED, unsafe: log 189. -/
def dropBefore (stamp : Nat) (s : State) : State :=
  let first := ((s.stl.rxM : Int) + diff32 stamp (s.stl.rxM % 2 ^ 32) + 1).toNat
  let n := max s.stl.applied (min first s.stl.rxM)
  modStl (fun p => { p with applied := n, held := p.held.filter (fun h => h.bulk || decide (n ≤ h.seq)) }) s

/-- A SNAP frame. After an overflow the rest of the old snapshot is passed over, up to the first frame of the new one (R372). -/
def takeSnap (payload : Octets) (content : List SnapItem) (s : State) : State :=
  let region := octAt payload 1
  let off := leAt payload 4 4
  let begins := decide (region = regTable ∧ off = 0)
  if s.mode = .standby ∧ s.stl.sync = syncJoining ∧ s.stl.joinStep = 1 ∧ (s.stl.resync = false ∨ begins = true) then
    let s := modStl (fun p => { p with resync := false }) s
    let stamp := leAt payload 8 4
    let data := payload.drop 16
    let s := onlyIf s.stl.snapStamps.isEmpty (dropBefore stamp) s
    let s := s.set STL_JOIN_DONE ((off + data.length) / 4096)
    if region = regTable then stampPiece regTable off stamp (enginePut 3 (s.nodeAddr 0 + off) data s)
    else stampPiece region wholeRegion stamp (forEach content (takePiece stamp) s)
  else s

/-- One copied record: it is kept where it checks, and named by the maps and the EUI index. -/
def copyNode (i : Nat) (s : State) : State :=
  let os := s.memOr0 (s.nodeAddr i) 256
  let r := engineGet 1 (s.nodeAddr i) 256 s
  let s := r.2
  if (nrFlag os fValid || nrFlag os fRetired) && nr os nrCheck == nrChecksum os && r.1.isSome then indexNode i os s
  else raise CTX_INT_STAT_BADREC (count CTX_CNT_BADREC 1 (zeroDram (s.nodeAddr i) 256 s))

/-- The maps, the EUI index and the pending bitmap are rebuilt from the copied records (R371). -/
def rebuildCopies (s : State) : State :=
  let s := dropContexts s
  let s := zeroDram (s.mapAddr 0 0) 0x400000 (zeroDram (s.bucketAddr 0) 0x800000 s)
  let s := forEach (sortBy (fun a b => decide (a < b)) s.listedNodes) copyNode s
  let s := modCtx (fun c => { c with pend := [] }) s
  forEach ((s.lnk.down.filter (fun d => d.held)).filterMap (fun d => d.node)) followHeld s

/-- SNAPEND: the copies are complete, and the records kept since are applied. -/
def endSnap (s : State) : State :=
  if s.mode = .standby ∧ s.stl.sync = syncJoining ∧ s.stl.joinStep = 1 ∧ s.stl.resync = false then
    applyDue (modStl (fun p => { p with joinStep := 2 }) (rebuildCopies s))
  else s

/-- The join starts again at step 3 (R372): the copies are given up, the rest of the old snapshot is passed over, and the partner is
asked for the regions again by a JSUM, the one item that brings them; it finds nothing left to raise. DESIGN CHOICE, unsafe: log 191. -/
def restartCopies (s : State) : State := modStl (fun p => { p with resync := true, decides := [] }) (sendSummary s)

/-- A record buffer that overflows starts the join again (R372). -/
def checkBuffer (s : State) : State :=
  if s.mode = .standby ∧ s.stl.sync = syncJoining ∧ s.stl.joinStep = 1 ∧ 262144 < (s.stl.held.filter (fun h => !h.bulk)).length then
    restartCopies ((raise STL_INT_STAT_JOINFAIL s).set STL_JOIN_DONE 0)
  else s

/-! ### Sequence numbers and acknowledgements (R358) -/

/-- The number near `base` that a 32-bit sequence number stands for; none where it is behind. -/
def seqFrom (base w : Nat) : Option Nat :=
  let d := diff32 w (base % 2 ^ 32)
  if d < 0 then none else some (base + d.toNat)

/-- The next bulk frame in order. -/
def bulkIn (h : StlHeld) (s : State) : State :=
  let kind := octAt h.payload 0
  let data := h.payload.drop 16
  if kind = itemSnap then takeSnap h.payload h.content s
  else
    let part := match s.stl.partial_ with
      | some (x, os) => (x, os ++ data)
      | none => (h.seq % 2 ^ 32, data)
    if !h.last then modStl (fun p => { p with partial_ := some part }) s
    else
      let s := modStl (fun p => { p with partial_ := none }) s
      if kind = itemJsum then mergeSummary part.2 s
      else if kind = itemSnapend then endSnap s
      else modStl (fun p => { p with items := p.items ++ [{ kind := kind, first := part.1, data := part.2 }] }) s

/-- Move MACK and XACK on over what is held, and take the bulk frames in order. -/
def advance : Nat → State → State
  | 0, s => s
  | n + 1, s =>
    if s.stl.held.any (fun h => !h.bulk && h.seq == s.stl.rxM) then advance n (modStl (fun p => { p with rxM := p.rxM + 1 }) s)
    else
      match s.stl.held.find? (fun h => h.bulk && h.seq == s.stl.rxX) with
      | some h => advance n (bulkIn h (modStl (fun p => { p with held := p.held.erase h, rxX := p.rxX + 1 }) s))
      | none => s

/-- An ACK with MACK and XACK. -/
def sendAck (s : State) : State :=
  let m := (s.stl.rxM + 2 ^ 32 - 1) % 2 ^ 32
  let x := (s.stl.rxX + 2 ^ 32 - 1) % 2 ^ 32
  let s := onlyIf (s.mode == .standby) (State.set STL_MACK_MACK m) s
  putFrame none none (stileFrame tyStileAck false 0 (le 4 m ++ le 4 x ++ zeros 8)) s

/-- COMMIT records or a BULK frame arrive: those already held are discarded, what is in order is acknowledged and applied. -/
def takeSequenced (new : List StlHeld) (s : State) : State :=
  let s := forEach new (fun (h : StlHeld) t =>
    let base := if h.bulk then t.stl.rxX else t.stl.rxM
    match seqFrom base h.seq with
    | some q =>
      if t.stl.held.any (fun x => x.bulk == h.bulk && x.seq == q) then t
      else modStl (fun p => { p with held := p.held ++ [{ h with seq := q }] }) t
    | none => t) s
  let m := s.stl.rxM
  let x := s.stl.rxX
  let s := advance (2 * s.stl.held.length + 2) s
  let s := if s.stl.rxM ≠ m ∨ s.stl.rxX ≠ x then sendAck s else s
  checkBuffer (applyDue s)

end Sys2Proof.Machine
end

