-- ==== Sys2Proof/Machine/Takeover.lean ====
section
/-!
DEFINITION. The loss of the link and the takeovers (R360, R374 to R377): attached, detached, and the end of a planned handover.
-/

namespace Sys2Proof.Machine

/-! ### Counter spaces after a takeover (R248, R377) -/

/-- The nodes whose record is in use or retired somewhere. -/
def State.knownNodes (s : State) : List Nat :=
  let all := s.ctx.hot.map (fun h => h.2.node) ++ s.ctx.wb.map (fun e => e.1) ++ s.listedNodes
  (all.eraseDups).filter (fun i => nrFlag (s.nodeRec i) fValid || nrFlag (s.nodeRec i) fRetired)

/-- The highest block reserved for a space, by what is durable, what is on its way to the journal, and the values the space has
passed: a space that recovery or a snapshot put at the start of a block has had the blocks below reserved (R248). -/
def State.highestBlock (s : State) (p : Space) : Option Nat :=
  let mine := (s.sec.resvs.filter (fun r => r.group == p.group && r.id == p.id)).map (fun r => r.block)
  let kept := if p.group then (s.groupSpace p.id).block else nrReservedBlock (s.nodeRec p.id)
  let next := s.spaceNext p
  let passed := if next = 0 then [] else [(next - 1) / 4096]
  (kept.toList ++ mine ++ passed).max?

/-- The value a space resumes at: the first one after its highest block, and `extra` blocks more where another device may have
served alone; a space without a block then starts after those. -/
def resumeAt (block : Option Nat) (extra : Option Nat) : Option Nat :=
  match block, extra with
  | none, none => none
  | some b, none => some ((b + 1) * 4096)
  | b, some e => some (((b.map (· + 1)).getD 0 + e) * 4096)

/-- A space resumes; a value past 32 bits is as good as exhausted. -/
def resumeSpace (extra : Option Nat) (p : Space) (s : State) : State :=
  match resumeAt (s.highestBlock p) extra with
  | none => s
  | some v =>
    let v := min v (2 ^ 32 - 1)
    if p.group then s.set (SEC_GRPn_OCTR_NEXT p.id) v
    else updateNode p.id (fun os => nrSet nrNext v os) s

/-- Every outgoing space resumes. -/
def resumeSpaces (extra : Option Nat) (s : State) : State :=
  let s := forEach s.knownNodes (fun i t => resumeSpace extra { group := false, id := i } t) s
  forEach (List.range 64) (fun g t => resumeSpace extra { group := true, id := g } t) s

/-! ### Downstream heads (R247, R376) -/

/-- The octets of a frame that is sent again, under its own counter and the key of its first start (R247). -/
def State.reseal (s : State) (d : Down) : Option Octets :=
  if descLevel d.desc = 0 then some d.plain
  else if !d.key.isEmpty then some (s.sealWith d.key d)
  else
    let p := s.downSpace d
    let key := if p.group then (if (s.slot (512 + p.id)).valid then some (s.slot (512 + p.id)).key else none)
      else d.node.bind (fun i => s.recordKey (s.nodeRec i))
    key.map (fun k => s.sealWith k d)

/-- The head of each downstream queue that has started is sent again, with its DSN and counter. -/
def resendHeads (s : State) : State :=
  forEach (s.lnk.down.filter (fun d => !d.held)) (fun d t =>
    if (t.attemptOf d.id).isSome then t
    else
      match t.reseal d with
      | some os => startDown { d with mpdu := os } none 0 (modDown d.id (fun x => { x with mpdu := os, gate := none }) t)
      | none => complete d stAborted (nokey t)) s

/-! ### Taking over -/

/-- TAKEOVER is entered (R374, R376). Its instant is the decision instant D, from which this device decides. -/
def enterTakeover (s : State) : State :=
  modStl (fun p => { p with decidesFrom := some s.ts }) (emit 0x443 0 (enterMode 13 .takeover s))

/-- Every pending DECIDE is released, in MSEQ order. DEDUCED, unsafe: log 149. -/
def releasePending (s : State) : State := forEach s.stl.decides (fun d t => quietly (releaseDecide d d.mseq) t) s

/-- What lies beyond the first gap is discarded. -/
def discardHeld (s : State) : State := modStl (fun p => { p with held := [], partial_ := none, items := [] }) s

/-- The service address is this device's. -/
def takeService (s : State) : State := announce s.ownAddresses (settleAll s)

/-- The frames in Sheaf's input count under this device's own RELEASE records. -/
def ownFrames (s : State) : State :=
  let first := match s.shf.input.find? (fun f => decide (2 ^ 32 ≤ f.mseq)) with
    | some f => f.mseq
    | none => s.stl.mseq
  modShf (fun h => { h with
    input := h.input.map (fun f => { f with mseq := f.mseq % 2 ^ 32 }),
    lastRelease := (first + 2 ^ 32 - 1) % 2 ^ 32 }) s

/-- An attached takeover (R376), but for the change to SOLO or PRIMARY. -/
def attachedTakeover (s : State) : State :=
  let s := raise STL_INT_STAT_TAKEOVER (count STL_CNT_TAKEOVER 1 (enterTakeover s))
  let s := closeForTakeover (discardHeld (releasePending s))
  takeService (resumeSpaces none (resendHeads (ownFrames s)))

/-- E in sixteenths of a second, rounded up. DEDUCED, unsafe: log 108. -/
def State.detachedSixteenths (s : State) : Nat :=
  match s.stl.detachedAt with
  | some t => (16 * (s.cycles - t) + secCycles - 1) / secCycles
  | none => 0

/-- A detached takeover (R377): queues, held lists, flows and open batches are discarded, and every space skips what the old
primary may have used. -/
def detachedTakeover (s : State) : State :=
  let extra := s.detachedSixteenths
  let s := raise STL_INT_STAT_TAKEOVER (count STL_CNT_TAKEOVER 1 (enterTakeover s))
  let s := discardHeld (releasePending (clearCopies s))
  takeService (resumeSpaces (some extra) (ownFrames (modStl (fun p => { p with detachedAt := none, sync := syncNone }) s)))

/-- The supervision beacon of the window that is open, where the old primary has not sent it (R375).
DEDUCED, unsafe: log 111. -/
def oweSupervision (s : State) : State :=
  let pan := s.get STL_SUP_SUPPAN
  let span := s.get STL_SUP_SUPINT * 320000
  let start := s.ts / span * span
  let sent := decide ((s.ts + 2 ^ 64 - s.get (LNK_PANn_BCNTS_TS32 pan)) % 2 ^ 32 ≤ s.ts - start)
  if s.is STL_SUP_SUPEN && !sent && s.panRuns pan && !s.panBeacons pan then answerBeacon pan s else s

/-- Step 5 of a planned handover: the new primary takes Sheaf, queues, beacons and the service address. -/
def handoverTakes (s : State) : State :=
  let s := quietly (fun s => drainSheaf s.shf.input.length (s.shf.lastRelease + 2 ^ 31 - 1) s) s
  let s := modLnk (fun l => { l with acks := l.acks.filter (fun a => !a.foreign) }) s
  let s := modStl (fun p => { p with
    handover := none, sync := syncSync, lastSup := s.ts, decidesFrom := s.stl.handover.map (fun h => h.h) }) s
  let s := resumeSpaces none (resendHeads (ownFrames s))
  let s := raise STL_INT_STAT_HANDOVER (count STL_CNT_HANDOVER 1 (handoverEnds (oweSupervision s)))
  takeService (enterMode 15 .primary s)

/-! ### The link is lost (R360, R374) -/

/-- What the loss of the link does to the mode. `resigned` says that the partner said RESIGN. -/
def linkLossMode (resigned : Bool) (s : State) : State :=
  match s.mode with
  | .primary =>
    if s.interrupted && s.is PWR_HU_CFG_EN then mainsAct s else enterMode 11 .solo s
  | .standby =>
    if s.stl.sync = syncSync then
      if resigned then attachedTakeover s
      else emit 0x444 0 (raise STL_INT_STAT_DETACHED
        (modStl (fun p => { p with sync := syncDetached, detachedAt := some s.cycles, splitSaid := false }) s))
    else if s.stl.sync = syncDetached then modStl (fun p => { p with splitSaid := false }) s
    else deviceReset causeJoinlost false s
  | _ => s

/-- The partner has not yielded to the request of `STL_CTRL.HANDOVER`: the handover counts as refused (R375). -/
def refuseHandover (s : State) : State := handoverEnds (modStl (fun p => { p with asked := none }) s)

/-- A planned handover is cut short: the device that takes over goes on as in an attached takeover, from the records it has. -/
def cutHandover (s : State) : State :=
  match s.stl.handover with
  | none => onlyIf s.stl.asked.isSome refuseHandover s
  | some h =>
    let s := modLnk (fun l => { l with acks := l.acks.filter (fun a => !a.foreign) }) s
    let s := handoverEnds (modStl (fun p => { p with handover := none, decidesFrom := if h.giving then p.decidesFrom else some h.h }) s)
    if h.giving then s
    else
      let s := closeForTakeover (discardHeld (releasePending s))
      takeService (resumeSpaces none (resendHeads (ownFrames s)))

/-- The link is lost. -/
def linkLost (resigned : Bool) (s : State) : State :=
  if !s.stl.link then s
  else
    let s := emit 0x441 0 (raise STL_INT_STAT_LINKLOSS (count STL_CNT_LINKLOSS 1 s))
    let s := modStl (fun p => { p with
      link := false, elected := false, yielded := false, waiting := p.waiting.filter (fun w => octAt w.frame 0 == tyHeart), won := none, peerMode := 0, peerState := 0, missed := 0,
      electing := (match s.mode with
        | .selftest => some s.cycles
        | _ => none),
      sync := (match s.mode with
        | .standby => p.sync
        | _ => syncNone) }) s
    settleAll (linkLossMode resigned (cutHandover (clearGates s)))

end Sys2Proof.Machine
end

