-- ==== Sys2Proof/Machine/Stile.lean ====
section
/-!
DEFINITION. The commands of Stile (R355 to R379): heartbeats, the election, acknowledgements, what the partner sends, the join,
time transfer, supervision and handover.
-/

namespace Sys2Proof.Machine

/-! ### Frames (R356) -/

/-- Stile runs: the device has one, and is past LOAD (R355, R364). DEDUCED, unsafe: log 98. -/
def State.stlRuns (s : State) : Bool := s.variant != .wv5248 && s.mode != .reset && s.mode != .load

/-- LEN fits the TYPE. -/
def lenFits (type len : Nat) : Bool :=
  match type with
  | 1 => len == 32
  | 2 => len == 32
  | 3 => len == 16
  | 4 => len == 16
  | 0x10 => decide (0 < len ∧ len ≤ 256) && len % 32 == 0
  | 0x20 => decide (16 ≤ len ∧ len ≤ 256)
  | _ => false

/-- A frame that a receiver takes: CRC, LEN and TYPE are right. -/
def frameValid (f : Octets) : Bool :=
  let n := f.length
  let len := leAt f 2 2
  decide (12 ≤ n) && n == len + 12 && leAt f (n - 4) 4 == crc32c (f.take (n - 4)) && lenFits (octAt f 0) len

/-- The payload of a frame. -/
def framePayload (f : Octets) : Octets := slice f 8 (leAt f 2 2)

/-- A frame of some kind arrives on a lane: one that fails R356 is discarded and counted, and ends the run of valid HEART frames
(R360). -/
def receive (lane : Nat) (f : Octets) (kind : Octets → Bool) (take : Octets → State → State) (s : State) : State :=
  if s.stlRuns = false ∨ 2 ≤ lane then s
  else if frameValid f = false then count STL_CNT_CRCERR 1 (modStlLane lane (fun l => { l with run := 0 }) s)
  else if kind f then take (framePayload f) s
  else s

/-- A frame of a TYPE. -/
def ofType (t : Nat) (f : Octets) : Bool := octAt f 0 == t

/-- A CMD frame of a code. -/
def ofCmd (c : Nat) (f : Octets) : Bool := octAt f 0 == tyCmd && octAt f 8 == c

/-- A COMMIT frame whose first record is of a KIND. -/
def ofRecord (k : Nat) (f : Octets) : Bool := octAt f 0 == tyCommit && octAt f 8 == k

/-- A BULK frame of an ITEM. -/
def ofItem (k : Nat) (f : Octets) : Bool := octAt f 0 == tyBulk && octAt f 8 == k

/-! ### Heartbeats (R359, R360, R362) -/

/-- The device holds decision authority (R367, R375). -/
def State.holdsAuthority (s : State) : Bool :=
  s.mode.serving && s.stl.handover.all (fun h => if h.giving then decide (s.ts < h.h) else decide (h.h ≤ s.ts))

/-- STATE of a HEART. -/
def State.heartState (s : State) : Nat :=
  s.stl.sync + 8 * flag s.holdsAuthority + 16 * flag (!s.interrupted) + 32 * flag s.lock + 64 * flag s.mode.serving

/-- A HEART on a lane. TXTS is set as the lane starts it (`stampFrame`). -/
def sendHeart (n : Nat) (s : State) : State :=
  let l := s.stlLane n
  let payload := le 1 s.mode.code ++ le 1 s.heartState ++ zeros 2 ++ zeros 8 ++ le 8 l.txts ++ le 8 l.rxts
    ++ le 4 (s.get STL_PEPOCH_PEPOCH)
  putFrame (some n) none (stileFrame tyHeart false 0 payload) s

/-- HEART_SEND (R356, R359): every 10 µs, on each lane. -/
def execHeartSend (dt : Nat) (s : State) : Host.Outcome State Fault Refusal :=
  command dt (fun s =>
    if s.stlRuns && s.passed s.stl.heartFrom (10 * usCycles) then
      sendHeart 1 (sendHeart 0 (modStl (fun p => { p with heartFrom := s.cycles }) s))
    else s) s

/-- The link comes up: the election begins (R363). -/
def linkUp (s : State) : State :=
  let s := modStl (fun p => { p with
    link := true, electing := some s.cycles, electSent := 0, elected := false, won := none, mismatch := false, missed := 0 }) s
  emit 0x440 0 (raise STL_INT_STAT_LINKUP s)

/-- The lane whose exchanges count: lane 0 while it is up, else lane 1. -/
def State.timeLane (s : State) : Nat := if s.stl.lane0.up then 0 else 1

/-- A signed 32-bit value in ns, saturating, from twice an offset in ticks. -/
def halfTicksNs (d : Int) : Nat := twos 32 (clamp (-(2 ^ 31 : Nat)) ((2 ^ 31 : Nat) - 1) (roundDiv (d * 25) 16))

/-- One exchange of the time transfer (R362): twice θ, where ECHOTX names a HEART sent in the last 100 µs. -/
def exchange (n : Nat) (payload : Octets) (now : Nat) (s : State) : State :=
  let t1 : Int := leAt payload 4 8
  let t3 := leAt payload 12 8
  let t4 : Int := leAt payload 20 8
  let known := (s.stlLane n).sent.any (fun t => t == t3 && decide (now ≤ t + 100 * usCycles))
  if n ≠ s.timeLane ∨ known = false then s
  else
    let d := ((now : Int) - t1) - (t4 - (t3 : Int)) - 2 * s.getInt STL_TT_ASYM
    let s := s.set STL_OFFSET_OFFSET (halfTicksNs d)
    if s.mode = .standby then modStl (fun p => { p with ttSum := p.ttSum + d, ttCount := p.ttCount + 1 }) s else s

/-- What the partner's MODE and STATE bring about: PEPOCH follows, a join begins, the serving device becomes PRIMARY once its
partner is in SYNC, or SOLO once its partner leaves STANDBY; an interruption that the partner reports too goes before that
(R33, R34, R365, R371). `before` is the partner's mode so far. -/
def partnerSays (before : Nat) (s : State) : State :=
  let standby := s.stl.peerMode == Mode.standby.code
  match s.mode with
  | .standby =>
    let s := if s.stl.sync = syncSync ∧ s.stl.peerEpoch ≠ s.get STL_PEPOCH_PEPOCH ∧ (modeOf s.stl.peerMode).serving = true then
        jnlOffer recPepoch s.stl.peerEpoch (s.set STL_PEPOCH_PEPOCH s.stl.peerEpoch)
      else s
    if s.stl.elected = true ∧ s.stl.sync = syncJoining ∧ s.stl.joinStep = 0
        ∧ (s.stl.peerMode = Mode.solo.code ∨ s.stl.peerMode = Mode.primary.code) then sendSummary s
    else s
  | .solo =>
    if s.stl.elected = true ∧ standby = true ∧ s.partnerSynced = true then
      settleAll (enterMode 10 .primary (modStl (fun p => { p with sync := syncSync }) s))
    else if before = Mode.standby.code ∧ standby = false then settleAll (clearGates s)
    else s
  | .primary =>
    if (s.interrupted && s.is PWR_HU_CFG_EN && !s.partnerMains) = true then mainsTogether s
    else if s.stl.handover.isSome then
      -- The partner leaves STANDBY for TAKEOVER as the handover has it; for another mode it ends the handover (row 11).
      if standby = true ∨ s.stl.peerMode = Mode.takeover.code ∨ s.stl.peerMode = Mode.primary.code then s
      else
        let s := handoverEnds (modStl (fun p => { p with handover := none, sync := syncNone }) s)
        settleAll (enterMode 11 .solo (clearGates s))
    else if before = Mode.standby.code ∧ standby = false then
      settleAll (enterMode 11 .solo (modStl (fun p => { p with sync := syncNone }) (clearGates s)))
    else if standby = true ∧ s.partnerSynced = true then mainsAct (modStl (fun p => { p with sync := syncSync }) s)
    else mainsAct s
  | _ => s

/-- A HEART that the partner sent 100 µs or more after this standby asked it to yield, and no YIELD before it: the handover is refused
(R375). DESIGN CHOICE, unsafe: log 187. -/
def refusedBy (payload : Octets) (s : State) : State :=
  onlyIf (s.stl.asked.any (fun t => decide (t + 100 * usCycles ≤ leAt payload 4 8))) refuseHandover s

/-- The partner of an old primary has left TAKEOVER, with step 5 of the handover: from here on instants are judged again (R375). -/
def stepFive (s : State) : State :=
  if s.stl.yielded = true ∧ s.stl.peerMode ≠ Mode.takeover.code ∧ s.stl.peerMode ≠ Mode.standby.code then
    modStl (fun p => { p with yielded := false, standbyTs := s.ts }) s
  else s

/-- A valid HEART. -/
def takeHeart (n : Nat) (payload : Octets) (s : State) : State :=
  let now := s.ts
  let s := refusedBy payload (drainLanes s.stl.waiting.length (s.cycles * 125) s)
  let s := exchange n payload now s
  let s := modStlLane n (fun l => { l with
    run := l.run + 1, last := s.cycles, txts := leAt payload 4 8, rxts := now, up := l.up || decide (3 ≤ l.run + 1) }) s
  let s := if s.stl.link = false ∧ (s.stlLane n).up = true then linkUp s else s
  if s.stl.link then
    let before := s.stl.peerMode
    partnerSays before (stepFive (modStl (fun p => { p with
      peerMode := octAt payload 0, peerState := octAt payload 1, peerEpoch := leAt payload 28 4 }) s))
  else s

/-- HEART (R359). -/
def execHeart (dt lane : Nat) (frame : Octets) (s : State) : Host.Outcome State Fault Refusal :=
  command dt (receive lane frame (ofType tyHeart) (takeHeart lane)) s

/-- Send frames again on a lane, in sequence order. -/
def resendOn (lane : Nat) (due : StlSent → Bool) (s : State) : State :=
  let again := s.stl.unacked.filter due
  let s := forEach again (fun f t =>
    count STL_CNT_RESEND 1
      (putFrame (some lane) (some (f.bulk, f.seq)) (stileFrame (if f.bulk then tyBulk else tyCommit) f.last f.seq f.payload) t)) s
  modStl (fun p => { p with unacked := p.unacked.map (fun f => if due f then { f with lane := lane, at_ := s.cycles } else f) }) s

/-- The kept frames that wait for a lane that is lost wait for the other. -/
def moveWaiting (lane : Nat) (s : State) : State :=
  modStl (fun p => { p with waiting := p.waiting.map (fun w =>
    if w.kept.isSome ∧ w.lane = some lane then { w with lane := some (1 - lane) } else w) }) s

/-- LANE_LOSS (R360): 30 µs without a valid HEART, or the loss of block lock for 1 µs.
DESIGN CHOICE, safe: log 185. -/
def execLaneLoss (dt lane : Nat) (block : Bool) (s : State) : Host.Outcome State Fault Refusal :=
  command dt (fun s =>
    let l := s.stlLane lane
    let silent := s.passed l.last (30 * usCycles)
    if s.stlRuns = false ∨ 2 ≤ lane ∨ (block = false ∧ silent = false) then s
    else
      let s := modStlLane lane (fun x => { x with up := false, run := 0 }) s
      if !l.up then s
      else
        let s := raise STL_INT_STAT_LANELOSS (count STL_CNT_LANELOSS 1 s)
        if (s.stlLane (1 - lane)).up then resendOn (1 - lane) (fun f => f.lane == lane && !s.stillWaits f) (moveWaiting lane s)
        else linkLost false s) s

/-! ### Acknowledgements (R358) -/

/-- What an acknowledgement value stands for: the first number not acknowledged. -/
def ackedTo (base limit w : Nat) : Nat :=
  match seqFrom base (w + 1) with
  | some n => if n ≤ limit then n else base
  | none => base

/-- The round trip of the newest record acknowledged. -/
def recordRtt (s : State) : State :=
  match s.stl.sentTimes.find? (fun e => e.1 + 1 == s.stl.macked) with
  | some (_, t) => raiseTo STL_RTT_MAX (s.ts - t) (s.set STL_RTT_LAST (min (s.ts - t) 65535))
  | none => s

/-- An ACK. -/
def takeAck (payload : Octets) (s : State) : State :=
  if s.stl.link = false then s
  else
    let m := ackedTo s.stl.macked s.stl.mseq (leAt payload 0 4)
    let x := ackedTo s.stl.xacked s.stl.xseq (leAt payload 4 4)
    let moved := decide (s.stl.macked < m)
    let s := modStl (fun p => { p with
      macked := m, xacked := x,
      unacked := p.unacked.filter (fun f => decide (0 ≤ diff32 f.seq ((if f.bulk then x else m) % 2 ^ 32))) }) s
    let s := onlyIf moved (fun s => recordRtt (s.set STL_MACK_MACK (leAt payload 0 4))) s
    settleAll (modStl (fun p => { p with sentTimes := p.sentTimes.filter (fun e => decide (m ≤ e.1)) }) s)

/-- ACK (R358). -/
def execAck (dt lane : Nat) (frame : Octets) (s : State) : Host.Outcome State Fault Refusal :=
  command dt (receive lane frame (ofType tyStileAck) takeAck) s

/-- RESEND_TIMEOUT (R358): frames unacknowledged 20 µs after they were sent go again on the other lane. -/
def execResendTimeout (dt : Nat) (s : State) : Host.Outcome State Fault Refusal :=
  command dt (fun s =>
    let due (n : Nat) (f : StlSent) : Bool := f.lane == n && s.passed f.at_ (20 * usCycles) && !s.stillWaits f
    let target (n : Nat) : Nat := if (s.stlLane (1 - n)).up then 1 - n else n
    if s.stl.link then
      let first := s.stl.unacked.filter (due 0)
      resendOn (target 0) (fun f => first.elem f) (resendOn (target 1) (due 1) s)
    else s) s

/-! ### The election (R363 to R365) -/

/-- SERVEDMS. -/
def State.servedMs (s : State) : Nat :=
  if s.mode.serving then min ((s.cycles - s.stl.serveFrom) / msCycles) (2 ^ 32 - 1) else 0

/-- The device EUI-64. -/
def State.ownEui (s : State) : Nat := s.get CAP_EUI_HI_EUI * 2 ^ 32 + s.get CAP_EUI_LO_EUI

/-- An ELECT on both lanes. -/
def sendElect (s : State) : State :=
  let payload := le 1 s.mode.code ++ le 1 (flag s.mode.serving + 2 * s.get STL_CFG_EN) ++ le 1 (s.get STL_CFG_PRIO) ++ zeros 1
    ++ le 4 (s.get STL_PEPOCH_PEPOCH) ++ le 4 s.servedMs ++ le 2 (s.get STL_COMPAT_COMPAT) ++ le 2 (s.get UPL_SYSID_SYSID)
    ++ be 3 (s.get SEC_KCV_KCV) ++ zeros 1 ++ le 8 s.ownEui ++ zeros 4
  let f := stileFrame tyElect false 0 payload
  putFrame (some 1) none f (putFrame (some 0) none f s)

/-- ELECT_SEND (R363): every 1 ms until the election ends. -/
def execElectSend (dt : Nat) (s : State) : Host.Outcome State Fault Refusal :=
  command dt (fun s =>
    if s.stlRuns && s.stl.link && !s.stl.elected && !s.stl.mismatch && s.passed s.stl.electSent msCycles then
      sendElect (modStl (fun p => { p with electSent := s.cycles }) s)
    else s) s

/-- The pairing test (R364). -/
def State.pairs (s : State) (e : Octets) : Bool :=
  s.is STL_CFG_EN && bitAt (octAt e 1) 1 && s.get STL_COMPAT_COMPAT == leAt e 12 2 && s.get UPL_SYSID_SYSID == leAt e 14 2
    && s.is SEC_KCV_VALID && s.get SEC_KCV_KCV == beAt e 16 3

/-- The two devices do not pair. DEDUCED, unsafe: log 100. -/
def mismatched (s : State) : State :=
  let s := raise STL_INT_STAT_MISMATCH (modStl (fun p => { p with mismatch := true, electing := none }) s)
  if s.mode = .standby then deviceReset causeMismatch false s else judgeSelftest s

/-- The election ends with the devices paired. -/
def electionEnds (won : Option Bool) (s : State) : State :=
  modStl (fun p => { p with elected := true, electing := none, won := won }) (restartNumbers (sendElect s))

/-- This device outranks its partner: a larger value first, a lower EUI-64 at the end. -/
def outranks : List (Nat × Nat) → Nat → Nat → Bool
  | [], mine, theirs => decide (mine < theirs)
  | (a, b) :: rest, mine, theirs => if a = b then outranks rest mine theirs else decide (b < a)

/-- The table of R365. A partner neither serving nor in SELFTEST decides nothing for a device in SELFTEST. -/
def elect (e : Octets) (s : State) : State :=
  let eui := leAt e 20 8
  let theirs := bitAt (octAt e 1) 0
  match s.mode.serving, theirs with
  | true, true =>
    if outranks [(s.servedMs, leAt e 8 4)] s.ownEui eui then electionEnds none s
    else deviceReset causePairlose false (raise STL_INT_STAT_SPLIT s)
  | true, false => electionEnds none s
  | false, true =>
    if s.mode = .standby then
      modStl (fun p => { p with sync := syncJoining, joinStep := 0, detachedAt := none }) (electionEnds none s)
    else electionEnds (if s.mode = .selftest then some false else none) s
  | false, false =>
    if s.mode = .selftest ∧ octAt e 0 = Mode.selftest.code then
      let win := outranks [(s.get STL_PEPOCH_PEPOCH, leAt e 4 4), (s.get STL_CFG_PRIO, octAt e 2)] s.ownEui eui
      electionEnds (some win) s
    else s

/-- An ELECT. DEDUCED, unsafe: log 99. -/
def takeElect (e : Octets) (s : State) : State :=
  if s.stl.link = false ∨ s.stl.elected = true ∨ s.stl.mismatch = true then s
  else
    let s := (s.set STL_PEER_EUI_LO_EUI (leAt e 20 4)).set STL_PEER_EUI_HI_EUI (leAt e 24 4)
    if s.pairs e then judgeSelftest (elect e s) else mismatched s

/-- ELECT (R364, R365). -/
def execElect (dt lane : Nat) (frame : Octets) (s : State) : Host.Outcome State Fault Refusal :=
  command dt (receive lane frame (ofType tyElect) takeElect) s

/-- ELECTION_TIMEOUT (R365): SELFTEST no longer waits for a partner. -/
def execElectionTimeout (dt : Nat) (s : State) : Host.Outcome State Fault Refusal := command dt judgeSelftest s

/-! ### Handover and resignation (R361, R374 to R376) -/

/-- HANDOVER on this device: the primary chooses H; a standby in SYNC asks its partner to yield. -/
def askHandover (s : State) : State :=
  if s.mode = .standby ∧ s.stl.link = true ∧ s.stl.sync = syncSync then
    sendCmd cmdRequest 0 0 (modStl (fun p => { p with asked := some s.ts }) s)
  else startHandover s

/-- The effect of a write of `STL_CTRL`. -/
def stlCtrlWrite (w : Word) (s : State) : State := if wrote w STL_CTRL_HANDOVER then askHandover (startTask 0x440 s) else s

/-- HANDOVER (R375): a write of `STL_CTRL`, or the task. -/
def execHandover (dt : Nat) (trigger : WordTrigger) (s : State) : Host.Outcome State Fault Refusal :=
  command dt (fun s =>
    match trigger with
    | .write acc w => writeRow acc 0x20110000 w (stlCtrlWrite w) s
    | .task => if s.taskQueued 0x440 then askHandover ((takeTask 0x440 s).set STL_CTRL_HANDOVER 1) else s) s

/-- REQUEST (R374): the primary yields. -/
def execRequest (dt lane : Nat) (frame : Octets) (s : State) : Host.Outcome State Fault Refusal :=
  command dt (receive lane frame (ofCmd cmdRequest) (fun _ s => if s.canHandOver then startHandover s else s)) s

/-- YIELD with H: the partner enters TAKEOVER, and books nothing before H. -/
def takeYield (p : Octets) (s : State) : State :=
  if s.mode = .standby ∧ s.stl.sync = syncSync ∧ s.stl.link = true then
    enterTakeover (modStl (fun x => { x with
      handover := some { h := leAt p 4 8, giving := false, moved := false, lastMseq := none }, asked := none }) s)
  else s

/-- YIELD (R375). -/
def execYield (dt lane : Nat) (frame : Octets) (s : State) : Host.Outcome State Fault Refusal :=
  command dt (receive lane frame (ofCmd cmdYield) takeYield) s

/-- HANDOVER_INSTANT (R375): TS64 reaches H. The old primary drops the channel accesses that have not reached step 1; the new one
sends their frames. -/
def execHandoverInstant (dt : Nat) (s : State) : Host.Outcome State Fault Refusal :=
  command dt (fun s =>
    match s.stl.handover with
    | none => s
    | some h =>
      if s.ts < h.h ∨ h.moved = true then s
      else
        let s := modStl (fun p => { p with handover := some { h with moved := true } }) s
        if h.giving then forEach (s.lnk.attempts.filter s.stoppable) dropAttempt s else s) s

/-- The old primary has nothing left that steps 2 and 3 wait for: decisions before their cut-off, attempts on the air, a
message of a queue in transmission, completions. -/
def State.yieldReady (s : State) : Bool :=
  let sending := match s.upl.sending with
    | some x => (match x.msg with
      | .queue q => decide (32 ≤ q ∧ q ≤ 55)
      | _ => false)
    | none => false
  s.lnk.decided.isEmpty && (s.lnk.attempts.filter (fun a => !s.stoppable a)).isEmpty && !sending && s.lnk.completions.isEmpty

/-- OLD_PRIMARY_YIELD (R375): 200 µs after H, the old primary closes its batches, says YIELD_DONE and enters STANDBY.
DEDUCED, unsafe: log 103. -/
def execOldPrimaryYield (dt : Nat) (s : State) : Host.Outcome State Fault Refusal :=
  command dt (fun s =>
    match s.stl.handover with
    | none => s
    | some h =>
      if h.giving = false ∨ s.ts < h.h + 200 * usCycles ∨ s.yieldReady = false then s
      else
        let s := forEach (s.lnk.attempts.filter s.stoppable) dropAttempt s
        let s := closeForTakeover s
        let s := sendCmd cmdYieldDone 0 ((s.stl.mseq + 2 ^ 32 - 1) % 2 ^ 32) s
        let s := clearGates (modStl (fun p => { p with handover := none, sync := syncSync, lastSup := s.ts, yielded := true }) s)
        let s := raise STL_INT_STAT_HANDOVER (count STL_CNT_HANDOVER 1 (handoverEnds s))
        applyDue (settleAll (enterMode 12 .standby s))) s

/-- YIELD_DONE (R375): the old primary's last MSEQ. -/
def takeYieldDone (p : Octets) (s : State) : State :=
  match s.stl.handover with
  | some h => if h.giving then s else modStl (fun x => { x with handover := some { h with lastMseq := some (leAt p 12 4) } }) s
  | none => s

def execYieldDone (dt lane : Nat) (frame : Octets) (s : State) : Host.Outcome State Fault Refusal :=
  command dt (receive lane frame (ofCmd cmdYieldDone) takeYieldDone) s

/-- RESIGN (R361, R376): the link counts as lost at once. -/
def execResign (dt lane : Nat) (frame : Octets) (s : State) : Host.Outcome State Fault Refusal :=
  command dt (receive lane frame (ofCmd cmdResign) (fun _ s =>
    linkLost true (modStlLane 1 (fun l => { l with up := false, run := 0 }) (modStlLane 0 (fun l => { l with up := false, run := 0 }) s)))) s

/-- TAKEOVER_COMPLETE (R375, R376): TAKEOVER goes to PRIMARY with the link up and the partner in STANDBY, else to SOLO; with the link
up and the partner in another mode R33 names no row, and the device goes to SOLO (DESIGN CHOICE, unsafe: log 199). A planned
handover has applied every record of the old primary first. DESIGN CHOICE, unsafe: log 199. -/
def execTakeoverComplete (dt : Nat) (s : State) : Host.Outcome State Fault Refusal :=
  command dt (fun s =>
    if s.mode ≠ .takeover then s
    else
      match s.stl.handover with
      | some h =>
        (match h.lastMseq with
         | some m => if diff32 m (s.stl.applied % 2 ^ 32) < 0 then handoverTakes s else s
         | none => s)
      | none =>
        if s.stl.link = true ∧ s.stl.peerMode = Mode.standby.code then settleAll (enterMode 15 .primary s)
        else settleAll (enterMode 16 .solo s)) s

/-! ### Records and items (R367 to R371) -/

/-- The records of a COMMIT payload from its first MSEQ on. -/
def recordsOf (seq : Nat) : Nat → Octets → List StlHeld
  | 0, _ => []
  | n + 1, os =>
    { bulk := false, seq := seq, payload := os.take 32, last := false, content := [] } ::
      recordsOf ((seq + 1) % 2 ^ 32) n (os.drop 32)

/-- A COMMIT frame. -/
def takeCommit (f p : Octets) (s : State) : State :=
  if s.stl.link && s.stl.elected then takeSequenced (recordsOf (leAt f 4 4) (p.length / 32) p) s else s

/-- A BULK frame, with the pieces of the snapshot that it ends. -/
def takeBulk (f : Octets) (content : List SnapItem) (p : Octets) (s : State) : State :=
  if s.stl.link && s.stl.elected then
    takeSequenced [{ bulk := true, seq := leAt f 4 4, payload := p, last := bitAt (octAt f 1) 0, content := content }] s
  else s

/-- DECIDE (R370). -/
def execDecide (dt lane : Nat) (frame : Octets) (s : State) : Host.Outcome State Fault Refusal :=
  command dt (receive lane frame (ofRecord 1) (takeCommit frame)) s

/-- WITHHOLD (R370). -/
def execWithhold (dt lane : Nat) (frame : Octets) (s : State) : Host.Outcome State Fault Refusal :=
  command dt (receive lane frame (ofRecord 2) (takeCommit frame)) s

/-- RELEASE (R370). -/
def execRelease (dt lane : Nat) (frame : Octets) (s : State) : Host.Outcome State Fault Refusal :=
  command dt (receive lane frame (ofRecord 3) (takeCommit frame)) s

/-- RESV (R246, R367). -/
def execResv (dt lane : Nat) (frame : Octets) (s : State) : Host.Outcome State Fault Refusal :=
  command dt (receive lane frame (ofRecord 4) (takeCommit frame)) s

/-- DSTART (R367). -/
def execDstart (dt lane : Nat) (frame : Octets) (s : State) : Host.Outcome State Fault Refusal :=
  command dt (receive lane frame (ofRecord 5) (takeCommit frame)) s

/-- DHOLD (R367). -/
def execDhold (dt lane : Nat) (frame : Octets) (s : State) : Host.Outcome State Fault Refusal :=
  command dt (receive lane frame (ofRecord 6) (takeCommit frame)) s

/-- DDONE (R367). -/
def execDdone (dt lane : Nat) (frame : Octets) (s : State) : Host.Outcome State Fault Refusal :=
  command dt (receive lane frame (ofRecord 7) (takeCommit frame)) s

/-- QIN (R367). -/
def execQin (dt lane : Nat) (frame : Octets) (s : State) : Host.Outcome State Fault Refusal :=
  command dt (receive lane frame (ofRecord 8) (takeCommit frame)) s

/-- CTXCMD (R367). -/
def execCtxcmd (dt lane : Nat) (frame : Octets) (s : State) : Host.Outcome State Fault Refusal :=
  command dt (receive lane frame (ofRecord 9) (takeCommit frame)) s

/-- SHFCLOSE (R315, R367). -/
def execShfclose (dt lane : Nat) (frame : Octets) (s : State) : Host.Outcome State Fault Refusal :=
  command dt (receive lane frame (ofRecord 10) (takeCommit frame)) s

/-- SHFWIN (R315, R367). -/
def execShfwin (dt lane : Nat) (frame : Octets) (s : State) : Host.Outcome State Fault Refusal :=
  command dt (receive lane frame (ofRecord 11) (takeCommit frame)) s

/-- USENT (R367). -/
def execUsent (dt lane : Nat) (frame : Octets) (s : State) : Host.Outcome State Fault Refusal :=
  command dt (receive lane frame (ofRecord 12) (takeCommit frame)) s

/-- BEACON (R367). -/
def execBeacon (dt lane : Nat) (frame : Octets) (s : State) : Host.Outcome State Fault Refusal :=
  command dt (receive lane frame (ofRecord 13) (takeCommit frame)) s

/-- REG (R367). -/
def execReg (dt lane : Nat) (frame : Octets) (s : State) : Host.Outcome State Fault Refusal :=
  command dt (receive lane frame (ofRecord 14) (takeCommit frame)) s

/-- FRAME (R368). -/
def execFrame (dt lane : Nat) (frame : Octets) (s : State) : Host.Outcome State Fault Refusal :=
  command dt (receive lane frame (ofItem 1) (takeBulk frame [])) s

/-- QMSG (R368). -/
def execQmsg (dt lane : Nat) (frame : Octets) (s : State) : Host.Outcome State Fault Refusal :=
  command dt (receive lane frame (ofItem 2) (takeBulk frame [])) s

/-- CTXBUF (R368). -/
def execCtxbuf (dt lane : Nat) (frame : Octets) (s : State) : Host.Outcome State Fault Refusal :=
  command dt (receive lane frame (ofItem 3) (takeBulk frame [])) s

/-- JSUM (R371). -/
def execJsum (dt lane : Nat) (frame : Octets) (s : State) : Host.Outcome State Fault Refusal :=
  command dt (receive lane frame (ofItem 5) (takeBulk frame [])) s

/-- SNAPEND (R371). -/
def execSnapend (dt lane : Nat) (frame : Octets) (s : State) : Host.Outcome State Fault Refusal :=
  command dt (receive lane frame (ofItem 6) (takeBulk frame [])) s

/-- SNAP (R371): `content` are the pieces of regions 1 to 6 that end in this frame, whose octets the manual lays out for none but
the node table. -/
def execSnap (dt lane : Nat) (frame : Octets) (content : List SnapItem) (s : State) : Host.Outcome State Fault Refusal :=
  command dt (receive lane frame (ofItem itemSnap) (takeBulk frame content)) s

/-- JOIN_APPLIED (R371): step 5 is done; the checkpoint is written, and SYNC reported. -/
def execJoinApplied (dt : Nat) (s : State) : Host.Outcome State Fault Refusal :=
  command dt (fun s =>
    if s.mode = .standby ∧ s.stl.sync = syncJoining ∧ s.stl.joinStep = 2 then
      let s := modJnl (fun j => { j with restate := some 0 }) s
      let s := modStl (fun p => { p with sync := syncSync, joinStep := 0, snapStamps := [] }) s
      mainsAct (emit 0x442 0 (raise STL_INT_STAT_SYNC (count STL_CNT_JOIN 1 s)))
    else s) s

/-- TIME_TRANSFER (R362): every 10 ms the mean offset is one discipline measurement. -/
def execTimeTransfer (dt : Nat) (s : State) : Host.Outcome State Fault Refusal :=
  command dt (fun s =>
    if s.mode ≠ .standby ∨ s.passed s.stl.ttFrom (10 * msCycles) = false then s
    else
      let n := s.stl.ttCount
      let sum := s.stl.ttSum
      let s := modStl (fun p => { p with ttSum := 0, ttCount := 0, ttFrom := s.cycles }) s
      if n = 0 then s
      else
        let theta := roundDiv (sum * 25 * (offsetUnit : Nat)) (16 * n)
        measurement .stile theta (s.get STL_TT_KP) (s.get STL_TT_KI) (10 * msCycles) s) s

/-! ### Supervision (R373, R374) -/

/-- A supervision instant was heard. -/
def instantHeard (s : State) : State :=
  let s := modStl (fun p => { p with missed := 0 }) s
  if s.stl.sync = syncDetached ∧ s.stl.link = false ∧ s.stl.splitSaid = false then
    emit 0x446 0 (raise STL_INT_STAT_SPLITGUARD (modStl (fun p => { p with splitSaid := true }) s))
  else s

/-- The standby acts on MISSED (R374). -/
def actOnMissed (s : State) : State :=
  if s.stl.link = true then
    if s.stl.sync = syncSync ∧ s.stl.missed = s.get STL_CFG_MISSN then sendCmd cmdRequest 0 0 s else s
  else if s.stl.sync = syncDetached ∧ s.get STL_CFG_LOSTN ≤ s.stl.missed then detachedTakeover s
  else s

/-- The reports with status OK that have arrived since the previous instant (R373). -/
def State.otherReports (s : State) : Nat := (s.stl.okReports.filter (fun t => decide (s.stl.lastInstant ≤ t))).length

/-- A supervision instant was not heard: it is missed where enough other reports came, else the ears are deaf.
DEDUCED, unsafe: log 109. -/
def instantMissed (s : State) : State :=
  if s.otherReports < s.get STL_CFG_MINRX then raise STL_INT_STAT_DEAF s
  else
    let s := modStl (fun p => { p with missed := min (p.missed + 1) 255 }) s
    actOnMissed (emit 0x445 0 (raise STL_INT_STAT_SUPMISS (count STL_CNT_SUPMISS 1 s)))

/-- The instant `at_` is judged; the reports from it on count for the next one. -/
def judgeInstant (at_ : Nat) (heard : Bool) (s : State) : State :=
  let last := max s.stl.lastInstant at_
  let t := if heard then instantHeard s else instantMissed s
  modStl (fun p => { p with
    lastInstant := last, okReports := p.okReports.filter (fun t => decide (last ≤ t)),
    beaconsHeard := p.beaconsHeard.filter (fun b => decide (s.ts ≤ b.2.2 + 300 * msCycles)) }) t

/-- The beacon instant of a PAN to judge next: the one after the last judged, else the latest that is 3 ms past.
DEDUCED, unsafe: log 110. -/
def State.instantDue (s : State) (pan : Nat) : Option Nat :=
  let i := s.beaconInterval pan
  let past := s.ts - 3 * msCycles
  let latest := s.instantFrom pan (past + 1) - i
  let t := match s.stl.judged.find? (fun e => e.1 == pan) with
    | some (_, t, _) => if latest < t then t + i else if t + i ≤ latest then t + i else latest + i
    | none => latest
  if t ≤ past ∧ s.stl.standbyTs ≤ t ∧ 3 * msCycles ≤ s.ts then some t else none

/-- A record has told the BSN of the beacon at instant `t`. -/
def State.beaconTold (s : State) (pan t : Nat) : Bool :=
  decide ((s.get (LNK_PANn_BCNTS_TS32 pan) + 2 ^ 32 - t % 2 ^ 32) % 2 ^ 32 < 3 * msCycles)

/-- The instants of a PAN in a row that were silent. -/
def State.beaconSilent (s : State) (pan : Nat) : Nat :=
  match s.stl.judged.find? (fun e => e.1 == pan) with
  | some (_, _, n) => n
  | none => 0

/-- The beacon heard for instant `t` of a PAN: the next BSN, and an SFDTS within 2 µs of `t` + 160 µs. -/
def State.beaconFor (s : State) (pan t : Nat) : Option (Nat × Nat × Nat) :=
  let next := (s.get (LNK_PANn_STAT_BSN pan) + (if s.beaconTold pan t then 0 else 1)) % 256
  s.stl.beaconsHeard.find? (fun b =>
    b.1 == pan && decide ((b.2.1 + 256 - next) % 256 ≤ s.beaconSilent pan)
      && decide (t + 158 * usCycles ≤ b.2.2 ∧ b.2.2 ≤ t + 162 * usCycles))

/-- An instant of a PAN is judged: a detached standby takes the BSN it heard, and the silent instants are counted. -/
def instantJudged (pan t : Nat) (found : Option Nat) (s : State) : State :=
  let count := if found.isSome || s.beaconTold pan t then 0 else s.beaconSilent pan + 1
  let s := match found with
    | some bsn => onlyIf (!s.stl.link) (State.set (LNK_PANn_STAT_BSN pan) bsn) s
    | none => s
  modStl (fun p => { p with judged := (pan, t, count) :: p.judged.filter (fun e => e.1 != pan) }) s

/-- The beacon instant `t` of a PAN is judged by what was heard for it, in STANDBY. -/
def judgeBeacon (pan t : Nat) (s : State) : State :=
  let found := (s.beaconFor pan t).map (fun b => b.2.1)
  onlyIf (s.mode == .standby) (judgeInstant t found.isSome ∘ instantJudged pan t found) s

/-- The supervision instant that is due for judgement (R373): the end of its window, where this standby judges it. One that the old
primary of a planned handover meets before step 5 is not judged (R375). -/
def State.supervisionDue (s : State) : Option Nat :=
  let span := s.get STL_SUP_SUPINT * msCycles
  let now := s.ts / span * span
  if s.mode = .standby ∧ s.is STL_SUP_SUPEN = true ∧ 0 < span ∧ s.stl.lastSup < now ∧ s.stl.standbyTs + span ≤ now
      ∧ s.stl.yielded = false then some now
  else none

/-- The supervision instant whose window ends at `now` is judged. -/
def judgeSupervision (now : Nat) (s : State) : State :=
  let pan := s.get STL_SUP_SUPPAN
  let span := s.get STL_SUP_SUPINT * msCycles
  judgeInstant (now - span) (s.stl.beaconsHeard.any (fun b => b.1 == pan && decide (now - span ≤ b.2.2 ∧ b.2.2 < now)))
    (modStl (fun p => { p with lastSup := s.ts }) s)

/-- The beacon instants that are due for judgement, of every PAN that runs with beacons. -/
def State.beaconsDue (s : State) : List (Nat × Nat) :=
  ((List.range 16).filter (fun p => s.mode == .standby && s.panRuns p && s.panBeacons p)).filterMap (fun p => (s.instantDue p).map (fun t => (p, t)))

/-- Judge, in time order, what is due before an instant of judgement (R373): the beacons, each 3 ms after its instant, and the
supervision beacon at the end of its window. -/
def judgeBefore : Nat → Nat → State → State
  | 0, _, s => s
  | n + 1, limit, s =>
    let first := s.beaconsDue.foldl (fun (best : Option (Nat × Nat)) x =>
      match best with
      | some b => if x.2 < b.2 then some x else some b
      | none => some x) none
    let beaconAt := first.map (fun x => x.2 + 3 * msCycles)
    match s.supervisionDue, first, beaconAt with
    | some now, _, some b =>
      if now < limit ∧ now ≤ b then judgeBefore n limit (judgeSupervision now s)
      else
        (match first with
         | some x => if b < limit then judgeBefore n limit (judgeBeacon x.1 x.2 s) else s
         | none => s)
    | some now, _, none => if now < limit then judgeBefore n limit (judgeSupervision now s) else s
    | none, some x, some b => if b < limit then judgeBefore n limit (judgeBeacon x.1 x.2 s) else s
    | none, _, _ => s

/-- BEACON_INSTANT_JUDGED (R373): 3 ms after a beacon instant T, a beacon of the PAN's coordinator with the next BSN and an SFDTS
within 2 µs of T + 160 µs was heard or not. Records tell the BSN while the link is up; a detached standby counts on from the
last one it heard. -/
def execBeaconInstantJudged (dt pan : Nat) (s : State) : Host.Outcome State Fault Refusal :=
  command dt (fun s =>
    if s.mode ≠ .standby ∨ 16 ≤ pan ∨ s.panRuns pan = false ∨ s.panBeacons pan = false then s
    else
      match s.instantDue pan with
      | none => s
      | some t => judgeBeacon pan t (judgeBefore 32 (t + 3 * msCycles) s)) s

/-- SUPERVISION_INSTANT (R373): at each instant S the device with authority sends the supervision beacon; a standby judges the
window that has just ended. -/
def execSupervisionInstant (dt : Nat) (s : State) : Host.Outcome State Fault Refusal :=
  command dt (fun s =>
    let pan := s.get STL_SUP_SUPPAN
    let span := s.get STL_SUP_SUPINT * msCycles
    let now := s.ts / span * span
    if s.is STL_SUP_SUPEN = false ∨ span = 0 ∨ now ≤ s.stl.lastSup ∨ s.stlRuns = false then s
    else
      if s.mode = .standby then
        (match (judgeBefore 32 now s).supervisionDue with
         | some t => judgeSupervision t (judgeBefore 32 now s)
         | none => modStl (fun p => { p with lastSup := s.ts }) (judgeBefore 32 now s))
      else
      let s := modStl (fun p => { p with lastSup := s.ts }) s
      if s.mayBook && s.panRuns pan && !s.panBeacons pan then answerBeacon pan s
      else s) s

end Sys2Proof.Machine
end

