-- ==== Sys2Proof/Machine/Live.lean ====
section
/-!
DEFINITION. What a read of a register shows: the word the register holds, with the live fields (the reset value 'live' of the
field tables) taken from the state they report, and the capability list (R471).
-/

namespace Sys2Proof.Machine

/-- Put values into the fields of a word: low bit, width, value. -/
def withFields (fs : List (Nat × Nat × Nat)) (w : Word) : Word :=
  fs.foldl (fun v (f : Nat × Nat × Nat) => insertBits v f.1 f.2.1 f.2.2) w

/-- A bit for every instance below `n` that a test admits. -/
def bitsWhere (n : Nat) (p : Nat → Bool) : Nat := (List.range n).foldl (fun v k => v + flag (p k) * 2 ^ k) 0

/-- Four-bit fields, one per instance below 8. -/
def occFields (f : Nat → Nat) : List (Nat × Nat × Nat) := (List.range 8).map (fun m => (4 * m, 3, f m))

/-! ### The capability list (R6, R471) -/

/-- A capability: its ID, whether its function is in use under the loaded image, and its parameter bytes. -/
structure Capability where
  id : Nat
  enabled : Bool
  params : Octets
  deriving DecidableEq, Repr

/-- Some VALID rule has MODE 2 or 3. -/
def State.anyLossyRule (s : State) : Bool :=
  s.shf.rules.any (fun (e : Nat × Octets) => ruleValid e.2 && (ruleMode e.2 == modeBounded || ruleMode e.2 == modeSummary))

/-- The capabilities of the variant, in ascending ID order, with the parameters their chapters give.
DEDUCED, unsafe: log 139. -/
def State.capabilities (s : State) : List Capability :=
  let v := s.variant
  let lanes := match v with
    | .wv5280 => 64
    | .wv5264 => 32
    | .wv5248 => 32
  let extended := (List.range 16).any (fun n => s.get (LNK_PANn_CFG_MODES n) / 2 != 0)
  let all : List Capability :=
    [⟨0x0101, s.is LNP_SEP_CORX, octetsOf [4, 70, 6]⟩, ⟨0x0102, extended, octetsOf [0x0F] ++ le 2 2047 ++ octetsOf [8]⟩,
     ⟨0x0110, true, octetsOf [42, 8, 2, 40, 120]⟩, ⟨0x0201, s.is STL_CFG_EN, octetsOf [2, 10, 3, 1, 8]⟩,
     ⟨0x0301, s.anyLossyRule, le 2 32767 ++ octetsOf [8]⟩, ⟨0x0302, s.anyLossyRule, le 2 65535 ++ le 2 65535⟩,
     ⟨0x0310, true, le 2 1024 ++ octetsOf [8, 6, 2, 1]⟩, ⟨0x0401, s.is UPL_PTP_CFG_EN, octetsOf [7, 4, 1]⟩,
     ⟨0x0402, true, octetsOf [4, 0x0F, 1, 60, 2]⟩, ⟨0x0501, s.is PWR_HU_CFG_EN, octetsOf [100, 20] ++ le 2 1600 ++ le 2 900⟩,
     ⟨0x0502, true, octetsOf [32, 64, 12] ++ le 2 512 ++ octetsOf [4]⟩, ⟨0x0601, true, octetsOf [4, 1]⟩,
     ⟨0x0602, true, le 3 262144 ++ octetsOf [16, 2, 9]⟩, ⟨0x0701, true, le 2 lanes ++ octetsOf [4, 16]⟩,
     ⟨0x0702, true, octetsOf [s.portCount, 8]⟩, ⟨0x0703, true, le 2 256 ++ octetsOf [64, 4, 8, 8]⟩,
     ⟨0x0801, true, octetsOf [2, 2] ++ le 2 4266 ++ octetsOf [3, 3]⟩, ⟨0x0901, true, le 2 512 ++ octetsOf [64, 8, 12]⟩,
     ⟨0x0A01, true, le 3 262144 ++ le 2 512 ++ octetsOf [8]⟩, ⟨0x0B01, true, octetsOf [16, 8, 4, 1]⟩,
     ⟨0x0D01, true, octetsOf [16, 4, 48, 16]⟩, ⟨0x0F01, true, le 2 1024 ++ le 3 65536 ++ le 2 1400 ++ octetsOf [1]⟩,
     ⟨0x1001, true, octetsOf [2, 64, 16, 1] ++ le 2 1400⟩, ⟨0x1301, true, octetsOf [2, 16] ++ le 2 2048 ++ octetsOf [127, 3, 8, 4]⟩]
  match v with
  | .wv5280 => all
  | .wv5264 => all.filter (fun c => c.id != 0x0101)
  | .wv5248 => all.filter (fun c => c.id != 0x0201)

/-- The entries of the list, as octets from offset 0x0100 on. ENABLED reads 0 until LOAD ends. -/
def State.capabilityOctets (s : State) : Octets :=
  let cs := s.capabilities
  let loaded := s.mode != .reset && s.mode != .load
  (cs.zip (List.range cs.length)).flatMap (fun (e : Capability × Nat) =>
    let next := if e.2 + 1 < cs.length then 0x0110 + 16 * e.2 else 0
    le 2 e.1.id ++ octetsOf [1, flag (e.1.enabled && loaded)] ++ le 2 next ++ (padTo 10 e.1.params).take 10)

/-! ### Live fields, block by block -/

/-- The code of the voltage loop's state. -/
def VoltState.code (v : VoltState) : Nat :=
  match v with
  | .idle => 0
  | .hold => 1
  | .down => 2
  | .up => 3
  | .emerg => 4
  | .frozen => 5
  | .fixed => 6

/-- Block 0x01. -/
def State.livePower (s : State) (a : Nat) : List (Nat × Nat × Nat) :=
  if a = 0x20010000 then
    let busy (g : Nat) : Bool :=
      let st := s.get (PWR_GRPg_STAT_STATE g)
      st == grpPrepare || st == grpCommit || st == grpRestoring
    [(0, 6, s.pwr.trans.length), (8, 6, (s.domains.filter s.domainOn).length), (16, 8, bitsWhere 8 busy)]
  else if a = 0x2001040C then
    let slack (n : Nat) : Nat := s.get ⟨0x20010420 + 4 * n, 0, 8⟩
    let site := ((List.range 8).find? (fun n => slack n == s.minSlack)).getD 0
    [(0, 7, s.volt.code), (8, 3, s.volt.state.code), (16, 8, s.minSlack), (24, 3, site)]
  else []

/-- Block 0x02. -/
def State.liveBackup (s : State) (a : Nat) : List (Nat × Nat × Nat) :=
  if a = 0x20020000 then [(0, 32, s.bkp.timeWord)] else []

/-- Block 0x03. -/
def State.liveLapwing (s : State) (a : Nat) : List (Nat × Nat × Nat) :=
  if a = 0x20030000 then [(0, 4, s.mode.code)]
  else if a = 0x20030028 then [(0, 16, s.wdtLeft)]
  else if a = 0x20030038 ∨ a = 0x20030048 then [(0, 4, min 15 (s.supCount ((a - 0x20030038) / 0x10)))]
  else if a = 0x20030064 then
    [(0, 10, s.logCount), (10, 1, flag (decide (logSize < s.logCount))), (16, 15, s.logCount)]
  else if 0x2003006C ≤ a ∧ a ≤ 0x20030078 then [(0, 32, leAt (s.logAt (s.get LPW_LOG_SEL_ENTRY)) (a - 0x2003006C) 4)]
  else if a = 0x20030088 then
    let left := match s.lpw.debug with
      | some (_, stop) => (stop - s.cycles + 60 * secCycles - 1) / (60 * secCycles)
      | none => 0
    [(0, 1, 1), (1, 2, bitsWhere 2 s.appDebugOpen), (3, 1, flag s.lapwingDebugOpen), (16, 16, min 65535 left)]
  else if a = 0x200300B4 then [(6, 1, s.inactiveSlot)]
  else []

/-- Block 0x05: the regions and the one-time row. -/
def State.liveFlash (s : State) (a : Nat) : List (Nat × Nat × Nat) :=
  let w := s.get OTP_RSEL_WORD
  if 0x20050030 ≤ a ∧ a ≤ 0x2005003C then
    let r := (a - 0x20050030) / 4
    let g := s.flsRegion r
    [(0, 5, g.start), (8, 5, g.stop), (16, 1, flag g.wp), (17, 1, flag g.rp), (18, 1, flag g.core),
      (24, 1, flag (!s.flsLocked r)), (31, 1, flag g.valid)]
  else if a = 0x2005800C then [(0, 32, s.otpRead w)]
  else if a = 0x20058010 then [(4, 2, s.otpState w)]
  else if a = 0x20058014 then
    [(0, 3, s.lifeCycle), (3, 2, s.customerSlot), (5, 4, s.lcN), (9, 1, flag s.keyFusesValid)]
  else []

/-- Block 0x06. -/
def State.liveJournal (s : State) (a : Nat) : List (Nat × Nat × Nat) :=
  if a = 0x2006000C then [(0, 18, s.jnl.pos), (18, 14, wrapOf s.jnl.pos)]
  else if a = 0x20060010 then [(0, 18, s.jnl.sweep), (20, 10, min 512 s.jnl.owed)]
  else []

/-- Block 0x07. -/
def State.liveHedgerow (s : State) (a : Nat) : List (Nat × Nat × Nat) :=
  if a = 0x2007001C then [(0, 32, s.taskStat)] else if a = 0x20070020 then [(0, 32, s.hdgStat)] else []

/-- Block 0x08. -/
def State.liveDram (s : State) (a : Nat) : List (Nat × Nat × Nat) :=
  if a = 0x2008000C then [(8, 8, s.visible / 0x10000000)] else []

/-- Block 0x09. DEDUCED, unsafe: log 140. -/
def State.liveGorse (s : State) (a : Nat) : List (Nat × Nat × Nat) :=
  if a = 0x20090008 then
    [(0, 1, flag s.sec.kwk.isSome), (1, 1, flag s.sec.cleared), (2, 1, flag (!s.sec.pages.isEmpty)), (4, 8, s.sec.cores),
      (12, 10, (s.sec.slots.filter (fun (e : Nat × Slot) => e.2.valid)).length)]
  else if a = 0x20090014 then [(0, 6, s.sec.live)]
  else if a = 0x20090030 then
    let k := s.slot (s.get SEC_SLOT_SEL_SLOT)
    [(0, 24, k.gen), (24, 1, flag k.valid), (25, 2, k.kind), (28, 4, k.pan)]
  else []

/-- Block 0x0A. -/
def State.liveContext (s : State) (a : Nat) : List (Nat × Nat × Nat) :=
  if a = 0x200A0020 then
    [(4, 10, s.ctx.hot.length), (14, 10, (s.ctx.hot.filter (fun (h : Nat × Hot) => h.2.dirty.isSome)).length)]
  else if a = 0x200A0024 then
    [(0, 10, (s.ctx.hot.filter (fun (h : Nat × Hot) => s.pinnedByUse h.2.node)).length), (16, 9, s.ctx.swpins.length)]
  else if a = 0x200A0028 then
    let ns := (s.listedNodes ++ s.ctx.hot.map (fun (h : Nat × Hot) => h.2.node)).eraseDups
    let recs := ns.map s.nodeRec
    [(0, 19, (recs.filter (fun r => nrFlag r fValid)).length),
      (19, 13, min 8191 (recs.filter (fun r => nrFlag r fRetired)).length)]
  else if a = 0x200A003C then
    let w := s.get CTX_PBM_SEL_WORD
    [(0, 32, bitsWhere 32 (fun k => s.pendingBit (32 * w + k)))]
  else []

/-- Block 0x0B. -/
def State.liveLink (s : State) (a : Nat) : List (Nat × Nat × Nat) :=
  let held := s.lnk.down.filter (fun d => d.held)
  if a = 0x200B0008 then [(0, 4, s.liveAcks.length), (8, 17, held.length)]
  else if 0x200B0180 ≤ a ∧ a < 0x200B0200 then
    let q := (a - 0x200B0180) / 4
    let dsn := match s.inFlight q with
      | some d => d.dsn
      | none => 0
    [(0, 1, flag (s.inFlight q).isSome), (1, 1, flag (s.lnk.aborting.any (fun (e : Nat × Nat) => e.1 == q))), (8, 8, dsn),
      (16, 16, min 65535 (held.filter (fun d => d.queue == q)).length)]
  else []

/-- The lanes not IDLE and not LOST on a channel. -/
def State.laneOcc (s : State) (ch : Nat) : Nat :=
  ((s.lanesOn ch).filter (fun (e : Nat × Lane) => e.2.st != .idle && e.2.st != .lost)).length

/-- The code of a lane's state (R142). -/
def LaneState.code (l : LaneState) : Nat :=
  match l with
  | .idle => 0
  | .est => 1
  | .sfds => 2
  | .phr => 3
  | .psdu => 4
  | .lost => 5
  | .final => 6
  | .report => 7

/-- Block 0x0C. -/
def State.liveLanes (s : State) (a : Nat) : List (Nat × Nat × Nat) :=
  let busy (m : Nat) : Bool := (s.lane m).st != .idle
  if a = 0x200C0010 then [(0, 7, s.busyLanes), (16, 1, flag s.nfReady)]
  else if a = 0x200C0018 then [(0, 32, bitsWhere 32 busy)]
  else if a = 0x200C001C then [(0, 32, bitsWhere 32 (fun m => busy (m + 32)))]
  else if a = 0x200C0020 then occFields (fun m => s.laneOcc (11 + m))
  else if a = 0x200C0024 then occFields (fun m => s.laneOcc (19 + m))
  else if 0x200C0200 ≤ a ∧ a < 0x200C0300 then
    let n := (a - 0x200C0200) / 4
    let l := s.lane n
    if l.st == .idle then []
    else [(0, 3, l.st.code), (3, 5, l.ch), (8, 3, if l.sfd then l.mode else 0), (11, 1, flag (!(s.pastSfd n).isEmpty)),
      (16, 8, twos 8 l.rssi)]
  else []

/-- `COD_CHn.STATE` of a chain. -/
def State.chainState (s : State) (t : Nat) : Nat :=
  let bs := s.bookingsOf t []
  if !bitAt (s.get RIM_PORT_EN_TXEN) t || !bitAt (s.get RIM_PORT_RUN_TXRUN) t then 5
  else if (s.chain t).recal.isSome then 4
  else if bs.any (fun b => decide (1 ≤ b.step)) then 3
  else if (s.chain t).tuning.isSome then 2
  else if !bs.isEmpty then 1
  else 0

/-- Block 0x0D. -/
def State.liveCoding (s : State) (a : Nat) : List (Nat × Nat × Nat) :=
  let onDecoder (d : Nat) : Nat := (s.cod.ctxs.filter (fun c => c.decoder == d)).length
  let bs (t : Nat) : List Booking := s.bookingsOf t []
  if a = 0x200D0004 then [(0, 7, s.cod.ctxs.length)]
  else if a = 0x200D0008 then occFields onDecoder
  else if a = 0x200D000C then occFields (fun m => onDecoder (m + 8))
  else if a = 0x200D0014 then [(8, 4, s.txLimit)]
  else if a = 0x200D0018 then
    [(0, 8, bitsWhere 8 (fun t => s.chainRuns t && (bs t).isEmpty)), (8, 8, bitsWhere 8 (fun t => (bs t).any (fun b => b.step == 0))),
      (16, 8, bitsWhere 8 (fun t => (bs t).any (fun b => b.step != 0))), (24, 8, bitsWhere 8 (fun t => (s.chain t).tuning.isSome))]
  else if 0x200D0020 ≤ a ∧ a < 0x200D0040 then
    let t := (a - 0x200D0020) / 4
    let c := s.chain t
    let cls := match bs t with
      | b :: _ => b.req.cls.rank
      | [] => 0
    [(0, 5, c.locked), (5, 1, flag (c.locked != 0)), (8, 3, s.chainState t), (12, 2, cls), (16, 2, min 3 c.synfail)]
  else []

/-- Block 0x0E. DESIGN CHOICE, unsafe: log 159. -/
def State.liveRim (s : State) (a : Nat) : List (Nat × Nat × Nat) :=
  if a = 0x200E001C then
    let recal (t : Nat) : Bool := (s.chain t).recal.isSome
    let busy := s.rim.calibrating || s.rim.rxCal.isSome || (List.range 8).any recal
    [(1, 1, flag busy), (16, 8, bitsWhere 8 (fun t => (s.bookingsOf t []).any (fun b => b.step != 0))), (24, 8, bitsWhere 8 recal)]
  else []

/-- Block 0x0F. -/
def State.liveSheaf (s : State) (a : Nat) : List (Nat × Nat × Nat) :=
  if a = 0x200F0014 then [(0, 17, s.shf.flows.length), (18, 14, s.shf.input.length)]
  else if a = 0x200F0020 then
    let r := ((s.shf.rules.find? (fun (e : Nat × Octets) => e.1 == s.get SHF_RULE_SEL_RULE)).map (fun e => e.2)).getD (zeros 64)
    [(0, 32, leAt r (4 * s.get SHF_RULE_SEL_WORD) 4)]
  else if a = 0x200F0024 then [(0, 16, bitsWhere 16 (fun c => (s.batchClass c).waiting.isSome))]
  else if 0x200F0080 ≤ a ∧ a < 0x200F00C0 then [(0, 32, (s.batchClass ((a - 0x200F0080) / 4)).bseq)]
  else []

/-- `UPL_Qn_SEQ`: BSEQ of the class of queues 32 to 47, HIGHSEQ of the downstream queues and of queue 63, and the producer's
count elsewhere. -/
def State.queueSeq (s : State) (q : Nat) : List (Nat × Nat × Nat) :=
  if 32 ≤ q ∧ q < 48 then [(0, 32, (s.batchClass (q - 32)).bseq)]
  else if q < 32 ∨ q = 63 then
    match s.windowFor q with
    | some w => [(0, 32, w.high)]
    | none => []
  else []

/-- Block 0x10. -/
def State.liveUpstream (s : State) (a : Nat) : List (Nat × Nat × Nat) :=
  if a = 0x20100064 then
    [(0, 1, flag s.upl.up0), (1, 1, flag s.upl.up1), (4, 1, flag s.ownsService), (8, 7, s.upl.reasm.length)]
  else if a = 0x2010020C then [(0, 4, s.ptpState), (5, 3, s.qualifiedCount)]
  else if 0x20101000 ≤ a ∧ a % 0x20 = 0x1C then s.queueSeq ((a - 0x20101000) / 0x20)
  else []

/-- Block 0x11. -/
def State.liveStile (s : State) (a : Nat) : List (Nat × Nat × Nat) :=
  if a = 0x20110014 then
    let p := s.stl
    [(0, 1, flag p.lane0.up), (1, 1, flag p.lane1.up), (2, 1, flag p.link), (3, 1, flag s.holdsAuthority), (4, 3, p.sync),
      (7, 1, flag (bitAt p.peerState 6)), (8, 4, p.peerMode), (12, 1, flag (bitAt p.peerState 4)), (16, 8, min 255 p.missed)]
  else if a = 0x20110038 then
    match s.stl.detachedAt with
    | some t => [(0, 32, min 0xFFFFFFFF ((s.cycles - t) / secCycles))]
    | none => [(0, 32, 0)]
  else []

/-- Block 0x12. -/
def State.liveTime (s : State) (a : Nat) : List (Nat × Nat × Nat) :=
  if a = 0x2012000C then
    [(0, 2, s.tim.st.code), (2, 1, flag s.lock), (3, 2, s.tim.src.code), (5, 1, flag s.tim.pllLock), (6, 1, flag s.tim.tcxoOk)]
  else if a = 0x20120010 then [(0, 32, s.ts)]
  else []

/-- The code of a hart's state in `APP_STAT`. -/
def HartState.code (h : HartState) : Nat :=
  match h with
  | .reset => 0
  | .running => 1
  | .held => 2
  | .debugHalted => 3

/-- Block 0x13. -/
def State.liveApp (s : State) (a : Nat) : List (Nat × Nat × Nat) :=
  if a = 0x20130008 then
    [(0, 2, s.app.hart0.state.code), (2, 2, s.app.hart1.state.code), (4, 1, flag s.app.throttled)]
  else []

/-- The live fields of a register. -/
def State.liveFields (s : State) (a : Nat) : List (Nat × Nat × Nat) :=
  match blockOf a with
  | 0x00 => if 0x20000100 ≤ a then [(0, 32, leAt s.capabilityOctets (a - 0x20000100) 4)] else []
  | 0x01 => s.livePower a
  | 0x02 => s.liveBackup a
  | 0x03 => s.liveLapwing a
  | 0x05 => s.liveFlash a
  | 0x06 => s.liveJournal a
  | 0x07 => s.liveHedgerow a
  | 0x08 => s.liveDram a
  | 0x09 => s.liveGorse a
  | 0x0A => s.liveContext a
  | 0x0B => s.liveLink a
  | 0x0C => s.liveLanes a
  | 0x0D => s.liveCoding a
  | 0x0E => s.liveRim a
  | 0x0F => s.liveSheaf a
  | 0x10 => s.liveUpstream a
  | 0x11 => s.liveStile a
  | 0x12 => s.liveTime a
  | 0x13 => s.liveApp a
  | _ => []

/-- Write-only fields read 0 (R10). -/
def readableMask (a : Nat) : Word :=
  match regRow a with
  | some r => r.fields.foldl (fun m f =>
      match f.acc with
      | .wo => m &&& ~~~(BitVec.ofNat 32 ((2 ^ (f.hi + 1 - f.lo) - 1) * 2 ^ f.lo))
      | .rw => m
      | .rwl => m
      | .ro => m
      | .w1c => m
      | .w1s => m
      | .rc => m
      | .cl => m) 0xFFFFFFFF
  | none => 0

/-- What a read of a register shows: instances and bits the variant lacks read 0 (R3). -/
def State.readWord (s : State) (a : Nat) : Word :=
  if absentRegister s.variant a then 0
  else withFields (s.liveFields a) (s.word a) &&& presentMask s.variant a &&& readableMask a

end Sys2Proof.Machine
end

