-- ==== Sys2Proof/Machine/Bus.lean ====
section
/-!
DEFINITION. The bus: what a write or a read does at every address of the map (R552), the registers whose fields take other
values than were written, the accesses that wait for a domain (R505, R508), and the writes of `PWR_DOMn`.
-/

namespace Sys2Proof.Machine

/-! ### Writes of PWR_DOMn (R502, R507, R511) -/

/-- The effect of a write of `PWR_DOMn`; the bookings of a chain locked off move (R179). A domain the variant lacks ignores
the write (R3, R500). -/
def domSet (acc : Access) (n : Nat) (old w : Word) (s : State) : State :=
  if domainAbsent s.variant n then s
  else
    let s := domWrite acc n old w s
    onlyIf (decide (domTx0 ≤ n) && s.domainLocked n) chainsChanged s

/-- The write of `PWR_DOMn` through the bus. -/
def domRow (acc : Access) (n : Nat) (w : Word) (s : State) : State :=
  writeRow acc (domAddr n) w (domSet acc n (s.word (domAddr n)) w) s

/-- DOMAIN_REQ_WRITE (R502): a write of `PWR_DOMn`. -/
def execDomainReqWrite (dt : Nat) (acc : Access) (n : Nat) (w : Word) (s : State) : Host.Outcome State Fault Refusal :=
  command dt (fun s => onlyIf (decide (n < domainCount)) (domRow acc n w) s) s

/-- DOMAIN_RELEASE (R511): a write of `PWR_DOMn` with RELEASE. -/
def execDomainRelease (dt : Nat) (acc : Access) (n : Nat) (w : Word) (s : State) : Host.Outcome State Fault Refusal :=
  command dt (fun s => onlyIf (decide (n < domainCount)) (domRow acc n (w ||| 0x80000)) s) s

/-! ### Values that are stored otherwise than written -/

/-- Software writes to `TIM_RATE` are ignored while a source is active, and stored within ±200 ppm (R65). -/
def rateWrite (old : Word) (s : State) : State :=
  match s.tim.src with
  | .none => s.set TIM_RATE_RATE (twos 32 (clamp (-rateLimit) rateLimit (s.getInt TIM_RATE_RATE)))
  | .ptp => s.setWord 0x20120024 old
  | .stile => s.setWord 0x20120024 old

/-- A decoder that has failed cannot be put in service (`COD_DEC_RUN`). DEDUCED, unsafe: log 141. -/
def decRunWrite (old : Word) (s : State) : State :=
  let was := old.toNat % 2 ^ 16
  let fail := s.get COD_DEC_RUN_FAIL
  s.set COD_DEC_RUN_RUN (s.get COD_DEC_RUN_RUN &&& (was ||| (0xFFFF - fail)))

/-- The members of a sleep group: fixed and absent domains read 0, and nothing changes while GO reads 1. -/
def grpMaskWrite (a g : Nat) (old : Word) (s : State) : State :=
  if s.is (PWR_GRPg_CTRL_GO g) then s.setWord a old
  else
    let base := if a % 16 = 0 then 0 else 32
    let present := (List.range 32).foldl (fun v k =>
      let d := base + k
      v + flag (!domainFixed d && decide (d < domainCount) && !domainAbsent s.variant d) * 2 ^ k) 0
    s.setWord a (s.word a &&& BitVec.ofNat 32 present)

/-- `DMC_PORTn.TARGET`: port 0 is read only, and 0 stores 1. -/
def portTargetWrite (n : Nat) (old : Word) (s : State) : State :=
  if n = 0 then s.setWord 0x20080040 old else floorField (DMC_PORTn_TARGET n) 1 s

/-- OSF stays while the oscillator does not run (R540). -/
def bkpStatWrite (old : Word) (s : State) : State :=
  onlyIf (!s.is BKP_STAT_OSCRUN && bitAt old.toNat 1) (raise BKP_STAT_OSF) s

/-- What stands in a register after a write where the manual stores another value than was written. -/
def settleWord (a : Nat) (old : Word) (s : State) : State :=
  if a = 0x20120024 then rateWrite old s
  else if 0x20010200 ≤ a ∧ a < 0x20010280 then grpMaskWrite a ((a - 0x20010200) / 16) old s
  else if a = 0x20020018 then bkpStatWrite old s
  else if 0x20080040 ≤ a ∧ a ≤ 0x2008005C then portTargetWrite ((a - 0x20080040) / 4) old s
  else if a = 0x200D0000 then decRunWrite old s
  else if 0x200E00B4 ≤ a ∧ a ≤ 0x200E00C0 then onlyIf (s.is RIM_CAP_STAT_ACTIVE) (State.setWord a old) s
  else fieldLimits a s

/-! ### Registers whose write acts -/

/-- The write of a bank of one bit per channel: the bits of channels the writer does not own keep their value (R394). -/
def bankMask (acc : Access) (a : Nat) (w : Word) (s : State) : Word :=
  let own : Word := BitVec.ofNat 32 (s.ownedBits acc (a % 0x20 / 4))
  if 0x20070120 ≤ a ∧ a < 0x20070140 then (w &&& own) ||| (s.word a &&& ~~~own) else w &&& own

/-- The effect of a write of a register of blocks 0x01 to 0x06 after its fields are written; `old` is the word before. -/
def lowEffect (acc : Access) (a : Nat) (old w : Word) (s : State) : State :=
  if 0x20010100 ≤ a ∧ a ≤ 0x200101A4 then domSet acc ((a - 0x20010100) / 4) old w s
  else if 0x20010200 ≤ a ∧ a < 0x20010280 ∧ a % 16 = 8 then grpCtrlWrite acc ((a - 0x20010200) / 16) old w s
  else if a = 0x20010414 then frozenRestart w s
  else if a = 0x20010418 then holdmaxWrite (bitAt old.toNat 0) s
  else if a = huCtrlAddr then huCtrlWrite w s
  else if a = setCmdAddr then setCmdWrite w s
  else if a = rstCmdAddr then rstCmdWrite w s
  else if a = 0x20030024 then wdtKickWrite w s
  else if a = supKickAddr 0 then supKickWrite acc 0 w s
  else if a = supKickAddr 1 then supKickWrite acc 1 w s
  else if a = supStatAddr 0 then heldWrite 0 w s
  else if a = supStatAddr 1 then heldWrite 1 w s
  else if a = lcCmdAddr then lcCmdWrite w s
  else if a = tokCmdAddr then tokCmdWrite w s
  else if a = updCmdAddr then updCmdWrite w s
  else if a = spixCmdAddr then spixCmdWrite old w s
  else if a = 0x2004001C then paceCtlWrite w s
  else if (List.range 4).any (fun u => a == chkCtrlAddr u) then
    chkCtrlWrite acc (((List.range 4).find? (fun u => a == chkCtrlAddr u)).getD 0) false w s
  else if a = 0x20050000 then flsCmdWrite acc false false w s
  else if a = 0x20058000 then otpCmdWrite 1800 w s
  else if a = 0x20060000 then jnlCtrlWrite w s
  else if a = 0x20060018 then slotCmdWrite old w s
  else s

/-- The effect of a write of a register of blocks 0x07 to 0x13 after its fields are written. -/
def highEffect (acc : Access) (a : Nat) (old w : Word) (before s : State) : State :=
  if 0x20071000 ≤ a ∧ a < 0x20073000 then channelWrite ((a - 0x20071000) / 0x20) before s
  else if a = dmcCtrlAddr then dmcCtrlWrite w s
  else if a = 0x20090000 then secCtrlWrite old w s
  else if a = 0x20090010 then alarmClear old s.sec.live 0 s
  else if (List.range 8).any (fun n => a == pageCtrlAddr n) then
    pageCtrlWrite acc (((List.range 8).find? (fun n => a == pageCtrlAddr n)).getD 0) false w s
  else if a = 0x200A0000 then ctxCtrlWrite w s
  else if a = 0x200B0018 then dqAbort w s
  else if a = 0x200C0028 then onlyIf (wrote w LNP_NFCTL_RESEED) (fun t => (reseedFloors t).set LNP_NFCTL_RESEED 0) s
  else if a = 0x200E0004 then portRunWrite old s
  else if a = 0x200E0018 then pilotWrite old s
  else if a = 0x200E0040 then nextRxCal s
  else if a = 0x200E00B0 then capCtrlWrite old w s
  else if a = 0x200F0000 then shfCtrlWrite w s
  else if a = 0x20100000 then uplCtrlWrite w s
  else if a = mdioAddr 0 then mdioStart 0 (bitAt old.toNat 31) w s
  else if a = mdioAddr 1 then mdioStart 1 (bitAt old.toNat 31) w s
  else if a = 0x20110000 then stlCtrlWrite w s
  else if a = 0x20120000 then changeSource s
  else if a = 0x20120020 then stepGo w s
  else if a = 0x2013000C then keepPending (fun _ => s) before
  else if a = swIrqAddr then swIrqWrite w s
  else if a = mtimecmpLo 0 then mtimecmpLoWrite 0 old w s
  else if a = mtimecmpLo 1 then mtimecmpLoWrite 1 old w s
  else if a = mtimecmpLo 0 + 4 then mtimecmpHiWrite 0 s
  else if a = mtimecmpLo 1 + 4 then mtimecmpHiWrite 1 s
  else s

/-- The effect of a register's write. DESIGN CHOICE, unsafe: log 14. -/
def writeEffect (acc : Access) (a : Nat) (old w : Word) (before s : State) : State :=
  if blockOf a < 0x07 then lowEffect acc a old w s else highEffect acc a old w before s

/-- The mirrored registers whose write is more than a record of the change: `LNK_CTRL` and `LNK_ADM`. -/
def mirroredEffect (a : Nat) (old : Word) (s : State) : State :=
  if a = 0x200B0000 then panrunWrite old s
  else if a = admAddr then admWrite old s
  else onlyIf (s.word a != old) (mirrorReg a) s

/-- A write of a register by an initiator: the checks of the bus, the fields by their access codes, and what the write does. -/
def registerWrite (acc : Access) (a : Nat) (w : Word) (s : State) : State :=
  if a = fireAddr false then access acc a (some w) (fireWrite acc false w) s
  else if a = fireAddr true then access acc a (some w) (fireWrite acc true w) s
  else if 0x20070100 ≤ a ∧ a < 0x20070160 then writeRow acc a (bankMask acc a w s) id s
  else if a = 0x2007001C then access acc a (some w) (taskStatWrite w) s
  else if a = cmdAddr 0 then cmdWrite acc 0 w false s
  else if a = cmdAddr 1 then cmdWrite acc 1 w false s
  else if 0x20101000 ≤ a ∧ a < 0x20101800 ∧ a % 0x20 = 0x14 then
    access acc a (some w) (piWrite ((a - 0x20101000) / 0x20) w) s
  else if 0x20101000 ≤ a ∧ a < 0x20101800 ∧ a % 0x20 = 0x18 then
    access acc a (some w) (ciWrite ((a - 0x20101000) / 0x20) w) s
  else if mirroredRegister a then
    writeMirrored acc a w (fun old t => mirroredEffect a old (settleWord a old t)) s
  else
    access acc a (some w) (fun t =>
      writeEffect acc a (t.word a) w t (settleWord a (t.word a) (plainWrite a w t))) s

/-! ### Registers whose read acts -/

/-- A read of a register that has passed the bus: its value, then what the read leaves behind. -/
def readServe (acc : Access) (a : Nat) (s : State) : State :=
  if a = 0x20120010 then tsLoRead s
  else
    let w := s.readWord a
    if 0x20070100 ≤ a ∧ a < 0x20070160 then
      answerWord (w &&& BitVec.ofNat 32 (s.visibleBits acc (a % 0x20 / 4))) s
    else
      let s := answerWord w (readClear a s)
      if a = 0x2007001C then taskStatRead s
      else if 0x20071000 ≤ a ∧ a < 0x20073000 ∧ a % 0x20 = 0x10 then
        let n := (a - 0x20071000) / 0x20
        let ts := ((s.hdg.stamps.find? (fun (e : Nat × Nat) => e.1 == n)).map (·.2)).getD 0
        s.set (HDG_CHn_TS_HI_TS n) (ts / 2 ^ 32)
      else if a = 0x20020000 then s.setWord 0x20020004 (BitVec.ofNat 32 s.bkp.dateWord)
      else if a = PWR_MS_RMS_MIN.addr then modMains (fun m => { m with minSeen := false }) s
      else s

/-- A read of a register by an initiator. -/
def registerRead (acc : Access) (a : Nat) (s : State) : State := access acc a none (readServe acc a) s

/-! ### The address map (R552) -/

/-- The bus takes bytes, half words and words at their own alignment. DEDUCED, unsafe: log 15. -/
def busForm (acc : Access) (a : Nat) : Bool :=
  (acc.bytes == 1 || acc.bytes == 2 || acc.bytes == 4) && a % acc.bytes == 0

/-- The data of a read that an engine's path served. -/
def answerRead (r : Option Octets × State) : State :=
  match r.1 with
  | some os => answerWord (BitVec.ofNat 32 (leNat os)) r.2
  | none => errorResponse r.2

/-- An access to memory outside the DRAM and the application SRAM passes the map, the firewall and its domain. -/
def memoryAccess (acc : Access) (a : Nat) (t : Target) (w : Option Word) (serve : State → State) (s : State) : State :=
  if !busForm acc a || !targetAdmits t acc w.isSome s.mode then errorResponse s
  else
    match s.firewall acc w.isSome a acc.bytes with
    | some n => errorResponse (firewallRefusal acc w.isSome a n s)
    | none =>
      if s.domainLocked t.domain then errorResponse (domainError 0 t.domain acc.init s)
      else if s.domainReady t.domain then serve { meetDomain t.domain s with resp := .ok }
      else stallAccess t.domain { acc := acc, addr := a, write := w, sram := none, since := s.cycles } s

/-- A write on the bus. -/
def busWrite (acc : Access) (a : Nat) (w : Word) (s : State) : State :=
  let t := s.route a acc.bytes
  let os := le acc.bytes w.toNat
  match t with
  | .register r => registerWrite acc r w s
  | .sram _ => sramAccess acc a (.write w) .clean s
  | .lpwSram _ => memoryAccess acc a t (some w) (memPut a os) s
  | .plic o => memoryAccess acc a t (some w) (plicWrite acc o w) s
  | .dram _ => if busForm acc a then dramRequest (.bus acc a) 0 (some os) s else errorResponse s
  | .rom _ => errorResponse s
  | .flash _ => errorResponse s
  | .journal _ => errorResponse s
  | .nothing => errorResponse s

/-- A read on the bus. -/
def busRead (acc : Access) (a : Nat) (s : State) : State :=
  let t := s.route a acc.bytes
  let n := acc.bytes
  match t with
  | .register r => registerRead acc r s
  | .sram _ => sramAccess acc a .read .clean s
  | .lpwSram o => memoryAccess acc a t none (fun s => answerRead (some (Sparse.getRun blankByte s.lpwSram o n), s)) s
  | .plic o => memoryAccess acc a t none (plicRead acc o) s
  | .dram _ => if busForm acc a then dramRequest (.bus acc a) n none s else errorResponse s
  | .rom o =>
    memoryAccess acc a t none (fun s => answerRead (some ((List.range n).map (fun k => Config.bootRom (o + k))), s)) s
  | .flash o => memoryAccess acc a t none (fun s => answerRead (flashRead acc o n false false s)) s
  | .journal o => memoryAccess acc a t none (fun s => answerRead (journalRead o n s)) s
  | .nothing => errorResponse s

/-- REGISTER_WRITE (R10): a write on the bus. -/
def execRegisterWrite (dt : Nat) (acc : Access) (a : Nat) (w : Word) (s : State) : Host.Outcome State Fault Refusal :=
  command dt (busWrite acc a w) s

/-- REGISTER_READ (R10): a read on the bus. -/
def execRegisterRead (dt : Nat) (acc : Access) (a : Nat) (s : State) : Host.Outcome State Fault Refusal :=
  command dt (busRead acc a) s

/-! ### Wakes (R505, R508) -/

/-- Serve an access that waited for its domain. -/
def serveStalled (x : Stalled) (s : State) : State :=
  match x.sram with
  | some op => sramAccess x.acc x.addr op .clean s
  | none =>
    match x.write with
    | some w => busWrite x.acc x.addr w s
    | none => busRead x.acc x.addr s

/-- The domain that an access waits for. -/
def Stalled.on (x : Stalled) : Nat := x.dom

/-- The accesses that wait for a domain are served in their order of arrival. -/
def serveDomain (d : Nat) (s : State) : State :=
  let mine := s.stalled.filter (fun x => x.on == d)
  forEach mine serveStalled { s with stalled := s.stalled.filter (fun x => x.on != d) }

/-- WAKE (R505, R516): a wake under way ends, the group of the domain goes on, and the accesses that wait for the domain are served;
also those that wait where a mode change has turned the domain on. -/
def execWake (dt : Nat) (n : Nat) (s : State) : Host.Outcome State Fault Refusal :=
  command dt (fun s =>
    let s := match s.transOf n with
      | some t => if t.target = 2 then groupWoken n (domainOnNow n t.cause t.init s) else s
      | none => s
    if s.domainOn n then serveDomain n s else s) s

/-- The bus timeout (R508). -/
def busTimeout : Nat := 200 * usCycles

/-- BUS_TIMEOUT (R508): the oldest access that has stalled for 200 µs, for a domain or at the DRAM controller, gets an error
response; the wake goes on. DESIGN CHOICE, safe: log 18. -/
def execBusTimeout (dt : Nat) (s : State) : Host.Outcome State Fault Refusal :=
  command dt (fun s =>
    match s.stalled.find? (fun x => s.passed x.since busTimeout) with
    | some x =>
      let d := x.on
      errorResponse (domainError 1 d x.acc.init { s with stalled := s.stalled.erase x })
    | none =>
      match s.dmc.queue.find? (fun r => r.acc.isSome && s.passed r.since busTimeout) with
      | some r =>
        let i := match r.acc with
          | some a => a.init
          | none => 0
        errorResponse (domainError 1 domDmc i
          (modDmc (fun m => { m with queue := m.queue.filter (fun q => q.id != r.id) }) s))
      | none => s) s

end Sys2Proof.Machine
end

