-- ==== Sys2Proof/Machine/Tap.lean ====
section
/-!
DEFINITION. The test access port (R586, R587) and the debug module of the harts behind it (R495, R561). The registers of the
debug transport and of the debug module are those of RISC-V External Debug Support 0.13.2, which R561 names (assumption 34,
PRESUMED).
-/

namespace Sys2Proof.Machine

/-- Change the TAP. -/
def modTap (f : Tap → Tap) (s : State) : State := { s with tap := f s.tap }

/-! ### Instructions and scans (R586) -/

/-- The opcodes of the TAP's instructions. -/
def irExtest : Nat := 0x00
def irSample : Nat := 0x02
def irClamp : Nat := 0x03
def irHighz : Nat := 0x04
def irDtmcs : Nat := 0x10
def irDmi : Nat := 0x11
def irBypass : Nat := 0x1F

/-- The instruction an opcode of 5 bits selects: every one not listed selects BYPASS. -/
def irOf (opcode : Nat) : Nat :=
  if opcode = irExtest ∨ opcode = irSample ∨ opcode = irClamp ∨ opcode = irHighz ∨ opcode = irDtmcs ∨ opcode = irDmi then
    opcode
  else irBypass

/-- Select an instruction. -/
def selectIr (ir : Nat) (s : State) : State := modTap (fun t => { t with ir := ir }) s

/-- What a scan leaves in a register that captured `reg` (the cell nearest TDI first). -/
def scanned (reg tdi : List Bool) : List Bool := (tdi.reverse ++ reg).take reg.length

/-- What a scan shifts out on TDO, first bit first. -/
def shiftedOut (reg tdi : List Bool) : List Bool := (reg.reverse ++ tdi).take tdi.length

/-- A scan of the bypass register, which captures 0. -/
def bypassScan (tdi : List Bool) (s : State) : State := modTap (fun t => { t with out := shiftedOut [false] tdi }) s

/-! ### Boundary scan (R587) -/

/-- The pads of the chain, in ball order. -/
inductive Pad where
  | fema (n : Nat)
  | femb (n : Nat)
  | mdc (n : Nat)
  | mdio (n : Nat)
  | pmbScl | pmbSda | pmbAlert
  | nvmSck | nvmCs
  | nvmIo (n : Nat)
  | huIdc | huDis | huChg | huBleed | huSvc
  deriving DecidableEq, Repr

/-- The front-end pads of eight ports. -/
def femPads (first : Nat) : List Pad := (List.range 8).flatMap (fun k => [Pad.fema (first + k), Pad.femb (first + k)])

/-- The 54 pads of the chain, from TDI: rows in the order of R564, columns ascending within a row. -/
def chainPads : List Pad :=
  femPads 0 ++
    [.mdc 0, .mdio 0, .mdc 1, .mdio 1, .pmbScl, .pmbSda, .pmbAlert, .nvmSck, .nvmCs, .nvmIo 0, .nvmIo 1, .nvmIo 2,
     .huIdc, .nvmIo 3, .huDis, .nvmIo 4, .huChg, .nvmIo 5, .huBleed, .nvmIo 6, .huSvc, .nvmIo 7] ++ femPads 8

/-- A pad without an internal connection (R570): FEMA_8 to 15 and FEMB_8 to 15 of the WV-5248. -/
def Pad.absent (p : Pad) (v : Variant) : Bool :=
  match p with
  | .fema n => v == .wv5248 && decide (8 ≤ n)
  | .femb n => v == .wv5248 && decide (8 ≤ n)
  | _ => false

/-- A pad whose cells drive nothing: an input, a pad under the control of R525, or one without a connection. -/
def Pad.captureOnly (p : Pad) (v : Variant) : Bool :=
  match p with
  | .pmbAlert => true
  | .huSvc => true
  | .huIdc => true
  | .huDis => true
  | .fema n => v == .wv5248 && decide (8 ≤ n)
  | .femb n => v == .wv5248 && decide (8 ≤ n)
  | _ => false

/-- What drives a pad: the device with what it has to say there, nothing (a transmit pair: electrical idle), or a level. -/
inductive PadDrive where
  | device
  | released
  | level (b : Bool)
  deriving DecidableEq, Repr

/-- What stands on a pad of a domain while its hold latch is closed (R510) and in RESET (R567), and otherwise the device. -/
def State.heldDrive (s : State) (d : Nat) (v : PadDrive) : PadDrive :=
  if s.is (PWR_DOMn_HOLD d) then v
  else match s.mode with
    | .reset => v
    | _ => .device

/-- A hold-up output: high impedance before power-good (R567). -/
def State.huDrive (s : State) (f : Fld) : PadDrive := if s.lpw.powerGood then .level (s.is f) else .released

/-- What the device drives on a pad of the chain (R83, R510, R525, R527, R567). -/
def State.latchDrive (s : State) (p : Pad) : PadDrive :=
  let held := s.heldDrive
  match p with
  | .nvmCs => held 6 (.level true)
  | .nvmSck => held 6 (.level false)
  | .nvmIo _ => held 6 .released
  | .mdc n => held (23 + n) (.level false)
  | .mdio n => held (23 + n) .released
  | .fema n => .level (bitAt (s.femPattern n) 0)
  | .femb n => .level (bitAt (s.femPattern n) 1)
  | .pmbScl | .pmbSda =>
    (match s.mode with
     | .reset => .released
     | _ => .device)
  | .pmbAlert | .huSvc => .released
  | .huIdc => s.huDrive PWR_HU_STAT_IDC
  | .huDis => s.huDrive PWR_HU_STAT_DIS
  | .huChg => .level (s.is PWR_HU_STAT_CHG)
  | .huBleed => .level (s.is PWR_HU_STAT_BLEED)

/-- The outputs that are not in the chain: the DRAM pads, and the transmit pairs of the ports and of Stile. -/
inductive FarPad where
  | dramResetN | dramCke | dramOut
  | ethTx (n : Nat)
  | stlTx (n : Nat)
  deriving DecidableEq, Repr

/-- What the device drives on an output outside the chain (R510, R567, R568): the DRAM pads stand low from a power-on reset, and keep
the self-refresh of R415 from any other, until training begins. -/
def State.farDrive (s : State) (p : FarPad) : PadDrive :=
  let untrained : Bool := s.get DMC_STAT_STATE == dmcOff
  let por : Bool := s.get LPW_RSTCAUSE_CAUSE == causePor
  let dram (v w : PadDrive) : PadDrive := if untrained then w else if s.is (PWR_DOMn_HOLD domDmc) then v else .device
  match p with
  | .dramResetN => dram (.level true) (.level (!por))
  | .dramCke => dram (.level false) (.level false)
  | .dramOut => dram (.level false) (if por then .level false else .device)
  | .ethTx n => s.heldDrive (23 + n) .released
  | .stlTx _ => s.heldDrive 25 .released

/-- The value of the update latch of a cell: 0 the input, 1 the output, 2 the output enable of pad `k`. -/
def State.cell (s : State) (k c : Nat) : Bool := (s.tap.cells[3 * k + c]?).getD false

/-- What drives pad `k` of the chain under the selected instruction: EXTEST and CLAMP drive the update latches, HIGHZ
releases the pads. -/
def State.padDrive (s : State) (k : Nat) : PadDrive :=
  let fromCells : PadDrive := if s.cell k 2 then .level (s.cell k 1) else .released
  match chainPads[k]? with
  | none => .device
  | some p =>
    if p.absent s.variant then .released
    else if p.captureOnly s.variant then s.latchDrive p
    else if s.tap.ir = irExtest ∨ s.tap.ir = irClamp then fromCells
    else if s.tap.ir = irHighz then .released
    else s.latchDrive p

/-- What the cells capture: what stands at the pads and what the device drives there, and 0 in the input cells of pads
without a connection. DEDUCED, unsafe: log 142. -/
def State.captured (s : State) (capture : List Bool) : List Bool :=
  (List.range 162).map (fun i =>
    let absent := match chainPads[i / 3]? with
      | some p => p.absent s.variant
      | none => false
    if i % 3 = 0 ∧ absent = true then false else (capture[i]?).getD false)

/-- A scan of the boundary-scan register: capture, shift, update. -/
def boundaryScan (capture tdi : List Bool) (s : State) : State :=
  let reg := s.captured capture
  modTap (fun t => { t with cells := scanned reg tdi, out := shiftedOut reg tdi }) s

/-- EXTEST (R586): selected, and a scan with what the cells capture and what is shifted in, first bit first. -/
def execExtest (dt : Nat) (capture tdi : List Bool) (s : State) : Host.Outcome State Fault Refusal :=
  command dt (fun s => boundaryScan capture tdi (selectIr irExtest s)) s

/-- SAMPLE_PRELOAD (R586): as EXTEST, with the pads under the device's control. -/
def execSamplePreload (dt : Nat) (capture tdi : List Bool) (s : State) : Host.Outcome State Fault Refusal :=
  command dt (fun s => boundaryScan capture tdi (selectIr irSample s)) s

/-- CLAMP (R586): the pads follow the update latches, and the bypass register is scanned. -/
def execClamp (dt : Nat) (tdi : List Bool) (s : State) : Host.Outcome State Fault Refusal :=
  command dt (fun s => bypassScan tdi (selectIr irClamp s)) s

/-- HIGHZ (R586): the pads are released, and the bypass register is scanned. -/
def execHighz (dt : Nat) (tdi : List Bool) (s : State) : Host.Outcome State Fault Refusal :=
  command dt (fun s => bypassScan tdi (selectIr irHighz s)) s

/-- BYPASS (R586), by its opcode or by one not listed; an opcode of another instruction selects that one. -/
def execBypass (dt : Nat) (opcode : Nat) (tdi : List Bool) (s : State) : Host.Outcome State Fault Refusal :=
  command dt (fun s => bypassScan tdi (selectIr (irOf (opcode % 32)) s)) s

/-! ### The debug transport (R561) -/

/-- The bits of a word, least significant first. -/
def wordBits (w : Word) : List Bool := (List.range 32).map (fun i => bitAt w.toNat i)

/-- What `dtmcs` captures: version 1, the result kept by the last DMI access, and what an implementation fixes. -/
def State.dtmcs (s : State) : Word :=
  withFields [(0, 4, 1), (10, 2, s.tap.dmiOp), (15, 17, 0)] (Config.dtmLayout 0)

/-- DTMCS (R586, R561): selected and scanned with `w`; dmireset and dmihardreset clear the kept result. -/
def execDtmcs (dt : Nat) (w : Word) (s : State) : Host.Outcome State Fault Refusal :=
  command dt (fun s =>
    let s := selectIr irDtmcs s
    let s := modTap (fun t => { t with out := wordBits s.dtmcs }) s
    if bitAt w.toNat 16 || bitAt w.toNat 17 then modTap (fun t => { t with dmiOp := 0 }) s else s) s

/-! ### The debug module: harts (R561) -/

/-- `dmactive`. -/
def State.dmActive (s : State) : Bool := bitAt s.tap.control.toNat 0

/-- The hart selected: hartsello and hartselhi. -/
def State.hartSel (s : State) : Nat := extractBits s.tap.control 16 10 + 2 ^ 10 * extractBits s.tap.control 6 10

/-- The debug module of the application cores answers at all (R495). -/
def State.debugModuleOpen (s : State) : Bool := s.appDebugOpen 0 || s.appDebugOpen 1

/-- A hart is reset or held. -/
def Hart.unavailable (h : Hart) : Bool := h.state == .reset || h.state == .held

/-- A halt request: a running hart in an open window halts, and what its registers hold is not known yet. -/
def haltHart (c : Nat) (s : State) : State :=
  let h := s.hart c
  if h.state == .running && s.appDebugOpen c then setHart c { h with state := .debugHalted } s else s

/-- The number of `dcsr`. -/
def dcsrNo : Nat := 0x7B0

/-- The word a hart's register store holds under a number. -/
def Hart.reg? (h : Hart) (n : Nat) : Option Word := (h.regs.find? (fun (e : Nat × Word) => e.1 == n)).map (·.2)

/-- Place a word under a number. -/
def Hart.setReg (n : Nat) (w : Word) (h : Hart) : Hart :=
  { h with regs := Sparse.place n w (Sparse.erase h.regs (fun k => k == n)) }

/-- Registers that a running hart does not change: `dcsr`, the debug scratch registers, `tselect` and the triggers. -/
def keptReg (n : Nat) : Bool :=
  n == dcsrNo || n == 0x7B2 || n == 0x7B3 || n == 0x7A0 || decide (0x10000 ≤ n)

/-- A resume request: a halted hart runs on, and what its registers will hold is open from then on; a hart that single-steps
halts again after one instruction. -/
def resumeHart (c : Nat) (s : State) : State :=
  let h := s.hart c
  let ack (s : State) : State := modTap (fun t => { t with control := insertBits t.control (4 + c) 1 1 }) s
  if h.state == .debugHalted && s.appDebugOpen c then
    let step := match h.reg? dcsrNo with
      | some w => bitAt w.toNat 2
      | none => false
    let st : HartState := if step then .debugHalted else .running
    ack (setHart c { h with state := st, regs := h.regs.filter (fun (e : Nat × Word) => keptReg e.1), reservation := none } s)
  else s

/-- A write of `dmcontrol`: with dmactive 0 the module is reset; the halt request wins over the resume request. -/
def dmcontrolWrite (w : Word) (s : State) : State :=
  if !bitAt w.toNat 0 then
    modTap (fun t => { t with control := 0, data0 := 0, data1 := 0, cmderr := 0, progbuf0 := 0, progbuf1 := 0, sbcs := 0,
                              sbaddr := 0, sbdata := 0 }) s
  else
    let acks := extractBits s.tap.control 4 2
    let c : Word := insertBits (insertBits 1 16 10 (extractBits w 16 10)) 6 10 (extractBits w 6 10)
    let s := modTap (fun t => { t with control := insertBits c 4 2 acks }) s
    let h := s.hartSel
    if 2 ≤ h then s
    else if bitAt w.toNat 31 then haltHart h s
    else if bitAt w.toNat 30 then
      resumeHart h (modTap (fun t => { t with control := insertBits t.control (4 + h) 1 0 }) s)
    else s

/-- A read of `dmcontrol`: hartsel and dmactive. -/
def State.dmcontrol (s : State) : Word := insertBits s.tap.control 4 2 0

/-- `dmstatus`: version 2, authenticated, and the selected hart; the bits an implementation fixes are open. -/
def State.dmstatus (s : State) : Word :=
  let c := s.hartSel
  let h := s.hart c
  let there := decide (c < 2)
  let both (b : Bool) : Nat := if b then 3 else 0
  withFields
    [(0, 4, 2), (4, 1, 0), (6, 2, 2), (8, 2, both (there && h.state == .debugHalted)),
     (10, 2, both (there && h.state == .running)), (12, 2, both (there && h.unavailable)), (14, 2, both (!there)),
     (16, 2, both (there && bitAt s.tap.control.toNat (4 + c))), (20, 2, 0), (23, 9, 0)] (Config.dtmLayout 1)

/-- `abstractcs`: two data words, two program-buffer words and the command error. -/
def State.abstractcs (s : State) : Word := withFields [(0, 4, 2), (8, 3, s.tap.cmderr), (24, 5, 2)] 0

/-! ### Abstract commands -/

/-- The control and status registers a hart answers: those of machine and user mode, its PMP entries, the debug registers and
its triggers. -/
def csrExists (n : Nat) : Bool :=
  [0x300, 0x301, 0x304, 0x305, 0x306, 0x320, 0x340, 0x341, 0x342, 0x343, 0x344, 0x7A0, 0x7A1, 0x7A2, 0x7A4, 0x7B0, 0x7B1,
    0x7B2, 0x7B3, 0xB00, 0xB02, 0xB80, 0xB82, 0xC00, 0xC01, 0xC02, 0xC80, 0xC81, 0xC82, 0xF11, 0xF12, 0xF13, 0xF14].elem n
    || decide (0x3A0 ≤ n ∧ n ≤ 0x3A3) || decide (0x3B0 ≤ n ∧ n ≤ 0x3BF)

/-- A register number of an access-register command names a register: a control and status register or one of x0 to x31. -/
def regnoExists (n : Nat) : Bool := (decide (n < 0x1000) && csrExists n) || decide (0x1000 ≤ n ∧ n < 0x1020)

/-- The number a register is kept under: the four triggers of a hart are told apart by `tselect`. -/
def Hart.regKey (h : Hart) (n : Nat) : Nat :=
  if n = 0x7A1 ∨ n = 0x7A2 then 0x10000 + 16 * ((h.reg? 0x7A0).getD 0).toNat + n % 16 else n

/-- The registers whose value the manual fixes: x0, `misa` and `mhartid`. -/
def fixedReg (c n : Nat) : Option Word :=
  if n = 0x1000 then some 0 else if n = 0x301 then some 0x40101105 else if n = 0xF14 then some (BitVec.ofNat 32 c) else none

/-- Read a register of a halted hart: one whose value is open gives a free value, which it then holds. -/
def readReg (c n : Nat) (s : State) : State :=
  let put (w : Word) (s : State) : State := modTap (fun t => { t with data0 := w }) s
  match fixedReg c n with
  | some w => put w s
  | none =>
    let h := s.hart c
    match h.reg? (h.regKey n) with
    | some w => put w s
    | none =>
      let w := BitVec.ofNat 32 s.freeNow
      put w (useFree (setHart c (h.setReg (h.regKey n) w) s))

/-- Write a register of a halted hart; `tselect` selects one of 4 triggers. -/
def writeReg (c n : Nat) (w : Word) (s : State) : State :=
  let h := s.hart c
  if (fixedReg c n).isSome ∨ (n = 0x7A0 ∧ 4 ≤ w.toNat) then s
  else setHart c (h.setReg (h.regKey n) w) s

/-- The program buffer runs: what the hart's instructions leave in its registers, and whether one raised an exception, are
open. -/
def runProgram (c : Nat) (s : State) : State :=
  let h := s.hart c
  let s := setHart c { h with regs := h.regs.filter (fun (e : Nat × Word) => keptReg e.1) } s
  let failed := s.freeNow % 2 == 1
  useFree (onlyIf failed (modTap (fun t => { t with cmderr := 3 })) s)

/-- A command error is recorded while none is. -/
def commandError (e : Nat) (s : State) : State :=
  modTap (fun t => { t with cmderr := if t.cmderr = 0 then e else t.cmderr }) s

/-- An abstract command: access register, on a halted hart, 32 bits wide; others are not supported. -/
def abstractCommand (w : Word) (s : State) : State :=
  let c := s.hartSel
  let n := extractBits w 0 16
  if s.tap.cmderr ≠ 0 then s
  else if extractBits w 24 8 ≠ 0 then commandError 2 s
  else if 2 ≤ c ∨ (s.hart c).state ≠ .debugHalted then commandError 4 s
  else
    let transfer := bitAt w.toNat 17
    if transfer ∧ extractBits w 20 3 ≠ 2 then commandError 2 s
    else if transfer ∧ regnoExists n = false then commandError 3 s
    else
      let s := if transfer then (if bitAt w.toNat 16 then writeReg c n s.tap.data0 s else readReg c n s) else s
      if bitAt w.toNat 18 then runProgram c s else s

/-! ### System bus access -/

/-- The fields of `sbcs` that a write sets. -/
def sbcsMask : Word := 0x001F8000

/-- `sbcs`: version 1, a 32-bit address, accesses of 8, 16 and 32 bits. -/
def State.sbcsWord (s : State) : Word := withFields [(0, 5, 7), (5, 7, 32), (29, 3, 1)] s.tap.sbcs

/-- A write of `sbcs`: sbbusyerror and sberror clear where 1 is written. -/
def sbcsWrite (w : Word) (s : State) : State :=
  let keep : Word := s.tap.sbcs &&& 0x00607000 &&& ~~~(w &&& 0x00407000)
  modTap (fun t => { t with sbcs := (w &&& sbcsMask) ||| keep }) s

/-- A system bus error. -/
def sbError (e : Nat) (s : State) : State := modTap (fun t => { t with sbcs := insertBits t.sbcs 12 3 e }) s

/-- The access that the debug module makes for the selected hart (R561): the hart's identity, secure. -/
def State.sbAccess (s : State) : Access :=
  { init := initHart0 + s.hartSel, secure := true, bytes := 2 ^ extractBits s.tap.sbcs 17 3 }

/-- Take up what a system bus access got: data, an error (2), or nothing yet. -/
def sbCollect (s : State) : State :=
  let idle (s : State) : State := modTap (fun t => { t with sbcs := insertBits t.sbcs 21 1 0 }) s
  match s.resp with
  | .data w => idle (modTap (fun t => { t with sbdata := w }) s)
  | .error => idle (sbError 2 s)
  | .stalled => modTap (fun t => { t with sbcs := insertBits t.sbcs 21 1 1 }) s
  | .ok => idle s
  | .octets os => idle (modTap (fun t => { t with sbdata := BitVec.ofNat 32 (leNat os) }) s)
  | .none => idle s

/-- A system bus access: by a hart whose window is open, of a size the bus has, aligned. -/
def sbStart (go : State → State) (s : State) : State :=
  let acc := s.sbAccess
  if extractBits s.tap.sbcs 12 3 ≠ 0 then s
  else if 2 ≤ s.hartSel ∨ s.appDebugOpen s.hartSel = false then sbError 7 s
  else if 2 < extractBits s.tap.sbcs 17 3 then sbError 4 s
  else if s.tap.sbaddr.toNat % acc.bytes ≠ 0 then sbError 3 s
  else
    let s := sbCollect (go s)
    if bitAt s.tap.sbcs.toNat 16 then
      modTap (fun t => { t with sbaddr := t.sbaddr + BitVec.ofNat 32 acc.bytes }) s
    else s

/-- Read through the system bus. -/
def sbRead (s : State) : State := sbStart (busRead s.sbAccess s.tap.sbaddr.toNat) s

/-- Write through the system bus. -/
def sbWrite (w : Word) (s : State) : State :=
  sbStart (busWrite s.sbAccess s.tap.sbaddr.toNat w) (modTap (fun t => { t with sbdata := w }) s)

/-! ### DMI accesses -/

/-- Whether a system bus access waits; its result is taken up when the bus has answered. -/
def sbSettle (s : State) : State := if bitAt s.tap.sbcs.toNat 21 then sbCollect s else s

/-- Answer a DMI read. -/
def dmiAnswer (w : Word) (s : State) : State := modTap (fun t => { t with dmiData := w, dmiOp := 0 }) s

/-- A read of a register of the debug module. -/
def dmiRead (a : Nat) (s : State) : State :=
  if a = 0x04 then dmiAnswer s.tap.data0 s
  else if a = 0x05 then dmiAnswer s.tap.data1 s
  else if a = 0x10 then dmiAnswer s.dmcontrol s
  else if a = 0x11 then dmiAnswer s.dmstatus s
  else if a = 0x12 then dmiAnswer (Config.dtmLayout 2 &&& 0x00F1FFFF) s
  else if a = 0x16 then dmiAnswer s.abstractcs s
  else if a = 0x20 then dmiAnswer s.tap.progbuf0 s
  else if a = 0x21 then dmiAnswer s.tap.progbuf1 s
  else if a = 0x38 then dmiAnswer s.sbcsWord s
  else if a = 0x39 then dmiAnswer s.tap.sbaddr s
  else if a = 0x3C then
    let s := dmiAnswer s.tap.sbdata s
    if bitAt s.tap.sbcs.toNat 15 then sbRead s else s
  else if a = 0x40 then
    dmiAnswer (BitVec.ofNat 32 (bitsWhere 2 (fun c => (s.hart c).state == .debugHalted))) s
  else dmiAnswer 0 s

/-- A write of a register of the debug module; while dmactive is 0 only `dmcontrol` is written. -/
def dmiWrite (a : Nat) (w : Word) (s : State) : State :=
  let s := modTap (fun t => { t with dmiOp := 0 }) s
  if a = 0x10 then dmcontrolWrite w s
  else if !s.dmActive then s
  else if a = 0x04 then modTap (fun t => { t with data0 := w }) s
  else if a = 0x05 then modTap (fun t => { t with data1 := w }) s
  else if a = 0x16 then
    modTap (fun t => { t with cmderr := t.cmderr &&& (7 - extractBits w 8 3) }) s
  else if a = 0x17 then abstractCommand w s
  else if a = 0x20 then modTap (fun t => { t with progbuf0 := w }) s
  else if a = 0x21 then modTap (fun t => { t with progbuf1 := w }) s
  else if a = 0x38 then sbcsWrite w s
  else if a = 0x39 then
    let s := modTap (fun t => { t with sbaddr := w }) s
    if bitAt s.tap.sbcs.toNat 20 then sbRead s else s
  else if a = 0x3C then sbWrite w s
  else s

/-- A DMI access (R561): a closed debug module answers with result 2 (R495), which stays until `dtmcs` clears it.
PRESUMED, unsafe: log 34. -/
def dmiAccess (op a : Nat) (w : Word) (s : State) : State :=
  if s.tap.dmiOp = 2 then s
  else if !s.debugModuleOpen then modTap (fun t => { t with dmiOp := 2 }) s
  else
    let s := sbSettle s
    match op % 4 with
    | 1 => dmiRead a s
    | 2 => dmiWrite a w s
    | _ => s

/-- DMI (R586, R561): selected and scanned with an address, data and an operation. -/
def execDmi (dt : Nat) (op addr : Nat) (data : Word) (s : State) : Host.Outcome State Fault Refusal :=
  command dt (fun s => dmiAccess op addr data (selectIr irDmi s)) s

end Sys2Proof.Machine
end

