-- ==== Sys2Proof/Machine/Dispatch.lean ====
section
/-!
DEFINITION. The dispatch: one arm per command, each a direct call of its meaning.
-/

namespace Sys2Proof.Machine

def exec (i : Instr) (s : State) : Host.Outcome State Fault Refusal :=
  match i with
  | .registerWrite dt acc a w => Sys2Proof.Machine.execRegisterWrite dt acc a w s
  | .powerGood dt => Sys2Proof.Machine.execPowerGood dt s
  | .supplyMonitorReset dt rail mv => Sys2Proof.Machine.execSupplyMonitorReset dt rail mv s
  | .resetN dt low => Sys2Proof.Machine.execResetN dt low s
  | .resetEnd dt backupBad vdd faults => Sys2Proof.Machine.execResetEnd dt backupBad vdd faults s
  | .signatureVerified dt => Sys2Proof.Machine.execSignatureVerified dt s
  | .sectionLoaded dt index nvm flashBad engine => Sys2Proof.Machine.execSectionLoaded dt index nvm flashBad engine s
  | .loadTimeout dt => Sys2Proof.Machine.execLoadTimeout dt s
  | .selftestJudge dt decFail => Sys2Proof.Machine.execSelftestJudge dt decFail s
  | .pllFault dt tcxo => Sys2Proof.Machine.execPllFault dt tcxo s
  | .sourceTimeout dt => Sys2Proof.Machine.execSourceTimeout dt s
  | .coastExpiry dt => Sys2Proof.Machine.execCoastExpiry dt s
  | .activeSourceChange dt wr => Sys2Proof.Machine.execActiveSourceChange dt wr s
  | .stepGo dt acc w => Sys2Proof.Machine.execStepGo dt acc w s
  | .tsLoRead dt acc => Sys2Proof.Machine.execTsLoRead dt acc s
  | .second dt => Sys2Proof.Machine.execSecond dt s
  | .milli dt => Sys2Proof.Machine.execMilli dt s
  | .capture dt => Sys2Proof.Machine.execCapture dt s
  | .loopStart dt ack pecOk voutMode status vout => Sys2Proof.Machine.execLoopStart dt ack pecOk voutMode status vout s
  | .stepDown dt slacks => Sys2Proof.Machine.execStepDown dt slacks s
  | .stepUp dt slacks => Sys2Proof.Machine.execStepUp dt slacks s
  | .emergency dt slacks => Sys2Proof.Machine.execEmergency dt slacks s
  | .voutCommandDone dt ack => Sys2Proof.Machine.execVoutCommandDone dt ack s
  | .readbackCheck dt ack pecOk status vout => Sys2Proof.Machine.execReadbackCheck dt ack pecOk status vout s
  | .pmbAlert dt => Sys2Proof.Machine.execPmbAlert dt s
  | .frozenRestart dt acc w => Sys2Proof.Machine.execFrozenRestart dt acc w s
  | .holdmax dt acc w => Sys2Proof.Machine.execHoldmax dt acc w s
  | .stallAlarm dt site => Sys2Proof.Machine.execStallAlarm dt site s
  | .overflow dt port => Sys2Proof.Machine.execOverflow dt port s
  | .gapEnd dt port => Sys2Proof.Machine.execGapEnd dt port s
  | .txUnderrun dt chain => Sys2Proof.Machine.execTxUnderrun dt chain s
  | .agcStepDown dt port clipped power => Sys2Proof.Machine.execAgcStepDown dt port clipped power s
  | .agcStepUp dt port power => Sys2Proof.Machine.execAgcStepUp dt port power s
  | .txWindowOpen dt chain loaded => Sys2Proof.Machine.execTxWindowOpen dt chain loaded s
  | .rampUp dt chain => Sys2Proof.Machine.execRampUp dt chain s
  | .txStart dt chain diff => Sys2Proof.Machine.execTxStart dt chain diff s
  | .rampDown dt chain => Sys2Proof.Machine.execRampDown dt chain s
  | .txEnd dt chain => Sys2Proof.Machine.execTxEnd dt chain s
  | .femReceive dt chain => Sys2Proof.Machine.execFemReceive dt chain s
  | .desenseEnd dt chain => Sys2Proof.Machine.execDesenseEnd dt chain s
  | .portUnblank dt chain => Sys2Proof.Machine.execPortUnblank dt chain s
  | .calibrationEnd dt loFail rxFail txFail iso calnf degrees => Sys2Proof.Machine.execCalibrationEnd dt loFail rxFail txFail iso calnf degrees s
  | .txchainRecalRequest dt cause => Sys2Proof.Machine.execTxchainRecalRequest dt cause s
  | .recalGrant dt chain => Sys2Proof.Machine.execRecalGrant dt chain s
  | .recalDone dt chain ok iso degrees => Sys2Proof.Machine.execRecalDone dt chain ok iso degrees s
  | .rxportCalRequest dt acc w => Sys2Proof.Machine.execRxportCalRequest dt acc w s
  | .rxportCalDone dt ok => Sys2Proof.Machine.execRxportCalDone dt ok s
  | .pilot dt acc w => Sys2Proof.Machine.execPilot dt acc w s
  | .portRunWrite dt acc w => Sys2Proof.Machine.execPortRunWrite dt acc w s
  | .loUnlock dt => Sys2Proof.Machine.execLoUnlock dt s
  | .loRelock dt => Sys2Proof.Machine.execLoRelock dt s
  | .rxloTimeout dt => Sys2Proof.Machine.execRxloTimeout dt s
  | .capStart dt acc w => Sys2Proof.Machine.execCapStart dt acc w s
  | .capStop dt src => Sys2Proof.Machine.execCapStop dt src s
  | .capTrig dt src => Sys2Proof.Machine.execCapTrig dt src s
  | .captureBlock dt blocks => Sys2Proof.Machine.execCaptureBlock dt blocks s
  | .noiseWindowEnd dt quiet => Sys2Proof.Machine.execNoiseWindowEnd dt quiet s
  | .nfReseed dt src => Sys2Proof.Machine.execNfReseed dt src s
  | .detection dt ch timings peaks => Sys2Proof.Machine.execDetection dt ch timings peaks s
  | .estEnd dt lane h offset timing => Sys2Proof.Machine.execEstEnd dt lane h offset timing s
  | .sfdFound dt lane sfd back snr => Sys2Proof.Machine.execSfdFound dt lane sfd back snr s
  | .sfdTimeout dt lane => Sys2Proof.Machine.execSfdTimeout dt lane s
  | .phrEnd dt lane phr snr corrs => Sys2Proof.Machine.execPhrEnd dt lane phr snr corrs s
  | .mmseWeightChange dt lane => Sys2Proof.Machine.execMmseWeightChange dt lane s
  | .payloadSymbol dt lane sym soft corr best h => Sys2Proof.Machine.execPayloadSymbol dt lane sym soft corr best h s
  | .octetRelease dt lane => Sys2Proof.Machine.execOctetRelease dt lane s
  | .lastChip dt lane => Sys2Proof.Machine.execLastChip dt lane s
  | .lostEnd dt lane => Sys2Proof.Machine.execLostEnd dt lane s
  | .finalComplete dt lane => Sys2Proof.Machine.execFinalComplete dt lane s
  | .reportAccepted dt lane => Sys2Proof.Machine.execReportAccepted dt lane s
  | .decoderBlock dt lane => Sys2Proof.Machine.execDecoderBlock dt lane s
  | .provisionalOctet dt lane => Sys2Proof.Machine.execProvisionalOctet dt lane s
  | .finalOctet dt lane => Sys2Proof.Machine.execFinalOctet dt lane s
  | .finalTraceback dt lane => Sys2Proof.Machine.execFinalTraceback dt lane s
  | .booking dt => Sys2Proof.Machine.execBooking dt s
  | .cancel dt => Sys2Proof.Machine.execCancel dt s
  | .synthLock dt chain => Sys2Proof.Machine.execSynthLock dt chain s
  | .txOutcome dt => Sys2Proof.Machine.execTxOutcome dt s
  | .txHalt dt => Sys2Proof.Machine.execTxHalt dt s
  | .decision dt lane => Sys2Proof.Machine.execDecision dt lane s
  | .mirrorCutOff dt => Sys2Proof.Machine.execMirrorCutOff dt s
  | .ackMatch dt lane => Sys2Proof.Machine.execAckMatch dt lane s
  | .ackWaitEnd dt => Sys2Proof.Machine.execAckWaitEnd dt s
  | .backoffEnd dt pan who => Sys2Proof.Machine.execBackoffEnd dt pan who s
  | .ccaEnd dt pan who p0 p1 p2 p3 => Sys2Proof.Machine.execCcaEnd dt pan who p0 p1 p2 p3 s
  | .beaconBooking dt pan => Sys2Proof.Machine.execBeaconBooking dt pan s
  | .bcnreqBeacon dt pan => Sys2Proof.Machine.execBcnreqBeacon dt pan s
  | .activePeriodEnd dt pan => Sys2Proof.Machine.execActivePeriodEnd dt pan s
  | .indirectSend dt node => Sys2Proof.Machine.execIndirectSend dt node s
  | .heldExpiry dt => Sys2Proof.Machine.execHeldExpiry dt s
  | .downstreamStart dt => Sys2Proof.Machine.execDownstreamStart dt s
  | .dqAbort dt acc w => Sys2Proof.Machine.execDqAbort dt acc w s
  | .panrunWrite dt acc w => Sys2Proof.Machine.execPanrunWrite dt acc w s
  | .admNext dt => Sys2Proof.Machine.execAdmNext dt s
  | .admWrite dt acc w => Sys2Proof.Machine.execAdmWrite dt acc w s
  | .dqHalt dt => Sys2Proof.Machine.execDqHalt dt s
  | .secRequest dt who => Sys2Proof.Machine.execSecRequest dt who s
  | .reservationDurable dt => Sys2Proof.Machine.execReservationDurable dt s
  | .reservationRetry dt => Sys2Proof.Machine.execReservationRetry dt s
  | .faultAlarm dt source live => Sys2Proof.Machine.execFaultAlarm dt source live s
  | .zeroise dt trig => Sys2Proof.Machine.execZeroise dt trig s
  | .alarmClear dt acc w live katFail => Sys2Proof.Machine.execAlarmClear dt acc w live katFail s
  | .rebuilt dt acc w => Sys2Proof.Machine.execRebuilt dt acc w s
  | .alock dt acc w => Sys2Proof.Machine.execAlock dt acc w s
  | .pageCcmSecure dt acc page w => Sys2Proof.Machine.execPageCcmSecure dt acc page w s
  | .pageCcmUnsecure dt acc page w => Sys2Proof.Machine.execPageCcmUnsecure dt acc page w s
  | .pageCmac dt acc page w => Sys2Proof.Machine.execPageCmac dt acc page w s
  | .pageEcb dt acc page w => Sys2Proof.Machine.execPageEcb dt acc page w s
  | .pageWrap dt acc page w => Sys2Proof.Machine.execPageWrap dt acc page w s
  | .pageUnwrap dt acc page w => Sys2Proof.Machine.execPageUnwrap dt acc page w s
  | .pageDerive dt acc page w => Sys2Proof.Machine.execPageDerive dt acc page w s
  | .pageCopy dt acc page w => Sys2Proof.Machine.execPageCopy dt acc page w s
  | .pageErase dt acc page w => Sys2Proof.Machine.execPageErase dt acc page w s
  | .pageBadarg dt acc page w => Sys2Proof.Machine.execPageBadarg dt acc page w s
  | .pageAbort dt acc page w finished => Sys2Proof.Machine.execPageAbort dt acc page w finished s
  | .pageClear dt acc page w => Sys2Proof.Machine.execPageClear dt acc page w s
  | .pageDone dt fault memErr => Sys2Proof.Machine.execPageDone dt fault memErr s
  | .lookup dt lane => Sys2Proof.Machine.execLookup dt lane s
  | .lookupFill dt bad1 bad2 badRecord => Sys2Proof.Machine.execLookupFill dt bad1 bad2 badRecord s
  | .writeBack dt cause => Sys2Proof.Machine.execWriteBack dt cause s
  | .writeBackDone dt node ok => Sys2Proof.Machine.execWriteBackDone dt node ok s
  | .ctxRead dt acc ch w ecc => Sys2Proof.Machine.execCtxRead dt acc ch w ecc s
  | .ctxCreate dt acc ch w ecc => Sys2Proof.Machine.execCtxCreate dt acc ch w ecc s
  | .ctxRestore dt acc ch w ecc => Sys2Proof.Machine.execCtxRestore dt acc ch w ecc s
  | .ctxUpdate dt acc ch w ecc => Sys2Proof.Machine.execCtxUpdate dt acc ch w ecc s
  | .ctxRekey dt acc ch w ecc => Sys2Proof.Machine.execCtxRekey dt acc ch w ecc s
  | .ctxRetire dt acc ch w ecc => Sys2Proof.Machine.execCtxRetire dt acc ch w ecc s
  | .ctxPurge dt acc ch w ecc => Sys2Proof.Machine.execCtxPurge dt acc ch w ecc s
  | .ctxAlloc dt acc ch w ecc => Sys2Proof.Machine.execCtxAlloc dt acc ch w ecc s
  | .ctxBind dt acc ch w ecc => Sys2Proof.Machine.execCtxBind dt acc ch w ecc s
  | .ctxUnbind dt acc ch w ecc => Sys2Proof.Machine.execCtxUnbind dt acc ch w ecc s
  | .ctxBadop dt acc ch w ecc => Sys2Proof.Machine.execCtxBadop dt acc ch w ecc s
  | .cmdDone dt => Sys2Proof.Machine.execCmdDone dt s
  | .quarantineExpiry dt => Sys2Proof.Machine.execQuarantineExpiry dt s
  | .tableRebuild dt badHeader bad => Sys2Proof.Machine.execTableRebuild dt badHeader bad s
  | .sheafProcess dt err lost => Sys2Proof.Machine.execSheafProcess dt err lost s
  | .rawQueueRoom dt => Sys2Proof.Machine.execRawQueueRoom dt s
  | .batchAgeClose dt cls => Sys2Proof.Machine.execBatchAgeClose dt cls s
  | .flush dt trigger => Sys2Proof.Machine.execFlush dt trigger s
  | .flushDone dt => Sys2Proof.Machine.execFlushDone dt s
  | .window dt => Sys2Proof.Machine.execWindow dt s
  | .waitingBatchWrite dt cls => Sys2Proof.Machine.execWaitingBatchWrite dt cls s
  | .linkUp dt port signalled full => Sys2Proof.Machine.execLinkUp dt port signalled full s
  | .linkDown dt port => Sys2Proof.Machine.execLinkDown dt port s
  | .revert dt => Sys2Proof.Machine.execRevert dt s
  | .ethernetReceive dt port frame code => Sys2Proof.Machine.execEthernetReceive dt port frame code s
  | .mdioAddress dt acc port w => Sys2Proof.Machine.execMdioAddress dt acc port w s
  | .mdioWrite dt acc port w => Sys2Proof.Machine.execMdioWrite dt acc port w s
  | .mdioRead dt acc port w => Sys2Proof.Machine.execMdioRead dt acc port w s
  | .mdioReadIncrement dt acc port w => Sys2Proof.Machine.execMdioReadIncrement dt acc port w s
  | .mdioDone dt port value => Sys2Proof.Machine.execMdioDone dt port value s
  | .nextHopResolve dt => Sys2Proof.Machine.execNextHopResolve dt s
  | .resolveTryTimeout dt => Sys2Proof.Machine.execResolveTryTimeout dt s
  | .downSegment dt m => Sys2Proof.Machine.execDownSegment dt m s
  | .reassemblyTimeout dt => Sys2Proof.Machine.execReassemblyTimeout dt s
  | .upstreamSend dt => Sys2Proof.Machine.execUpstreamSend dt s
  | .messageSent dt => Sys2Proof.Machine.execMessageSent dt s
  | .statusTimer dt => Sys2Proof.Machine.execStatusTimer dt s
  | .statusSend dt trigger => Sys2Proof.Machine.execStatusSend dt trigger s
  | .piWrite dt acc q w => Sys2Proof.Machine.execPiWrite dt acc q w s
  | .ciWrite dt acc q w => Sys2Proof.Machine.execCiWrite dt acc q w s
  | .sync dt m => Sys2Proof.Machine.execSync dt m s
  | .followUp dt m => Sys2Proof.Machine.execFollowUp dt m s
  | .delayResp dt m => Sys2Proof.Machine.execDelayResp dt m s
  | .announce dt m => Sys2Proof.Machine.execAnnounce dt m s
  | .delayReq dt => Sys2Proof.Machine.execDelayReq dt s
  | .announceTimeout dt => Sys2Proof.Machine.execAnnounceTimeout dt s
  | .heartSend dt => Sys2Proof.Machine.execHeartSend dt s
  | .heart dt lane frame => Sys2Proof.Machine.execHeart dt lane frame s
  | .laneLoss dt lane block => Sys2Proof.Machine.execLaneLoss dt lane block s
  | .ack dt lane frame => Sys2Proof.Machine.execAck dt lane frame s
  | .resendTimeout dt => Sys2Proof.Machine.execResendTimeout dt s
  | .electSend dt => Sys2Proof.Machine.execElectSend dt s
  | .elect dt lane frame => Sys2Proof.Machine.execElect dt lane frame s
  | .electionTimeout dt => Sys2Proof.Machine.execElectionTimeout dt s
  | .request dt lane frame => Sys2Proof.Machine.execRequest dt lane frame s
  | .yield dt lane frame => Sys2Proof.Machine.execYield dt lane frame s
  | .yieldDone dt lane frame => Sys2Proof.Machine.execYieldDone dt lane frame s
  | .resign dt lane frame => Sys2Proof.Machine.execResign dt lane frame s
  | .decide dt lane frame => Sys2Proof.Machine.execDecide dt lane frame s
  | .withhold dt lane frame => Sys2Proof.Machine.execWithhold dt lane frame s
  | .release dt lane frame => Sys2Proof.Machine.execRelease dt lane frame s
  | .resv dt lane frame => Sys2Proof.Machine.execResv dt lane frame s
  | .dstart dt lane frame => Sys2Proof.Machine.execDstart dt lane frame s
  | .dhold dt lane frame => Sys2Proof.Machine.execDhold dt lane frame s
  | .ddone dt lane frame => Sys2Proof.Machine.execDdone dt lane frame s
  | .qin dt lane frame => Sys2Proof.Machine.execQin dt lane frame s
  | .ctxcmd dt lane frame => Sys2Proof.Machine.execCtxcmd dt lane frame s
  | .shfclose dt lane frame => Sys2Proof.Machine.execShfclose dt lane frame s
  | .shfwin dt lane frame => Sys2Proof.Machine.execShfwin dt lane frame s
  | .usent dt lane frame => Sys2Proof.Machine.execUsent dt lane frame s
  | .beacon dt lane frame => Sys2Proof.Machine.execBeacon dt lane frame s
  | .reg dt lane frame => Sys2Proof.Machine.execReg dt lane frame s
  | .frame dt lane frame => Sys2Proof.Machine.execFrame dt lane frame s
  | .qmsg dt lane frame => Sys2Proof.Machine.execQmsg dt lane frame s
  | .ctxbuf dt lane frame => Sys2Proof.Machine.execCtxbuf dt lane frame s
  | .jsum dt lane frame => Sys2Proof.Machine.execJsum dt lane frame s
  | .snap dt lane frame content => Sys2Proof.Machine.execSnap dt lane frame content s
  | .snapend dt lane frame => Sys2Proof.Machine.execSnapend dt lane frame s
  | .joinApplied dt => Sys2Proof.Machine.execJoinApplied dt s
  | .timeTransfer dt => Sys2Proof.Machine.execTimeTransfer dt s
  | .beaconInstantJudged dt pan => Sys2Proof.Machine.execBeaconInstantJudged dt pan s
  | .supervisionInstant dt => Sys2Proof.Machine.execSupervisionInstant dt s
  | .handover dt trigger => Sys2Proof.Machine.execHandover dt trigger s
  | .handoverInstant dt => Sys2Proof.Machine.execHandoverInstant dt s
  | .oldPrimaryYield dt => Sys2Proof.Machine.execOldPrimaryYield dt s
  | .takeoverComplete dt => Sys2Proof.Machine.execTakeoverComplete dt s
  | .eventArrival dt => Sys2Proof.Machine.execEventArrival dt s
  | .eventDelivery dt ch => Sys2Proof.Machine.execEventDelivery dt ch s
  | .fire dt acc hi w => Sys2Proof.Machine.execFire dt acc hi w s
  | .dramRequest dt source len data => Sys2Proof.Machine.execDramRequest dt source len data s
  | .dramCommandIssue dt errors => Sys2Proof.Machine.execDramCommandIssue dt errors s
  | .requestUrgent dt id => Sys2Proof.Machine.execRequestUrgent dt id s
  | .requestLate dt id => Sys2Proof.Machine.execRequestLate dt id s
  | .refreshDue dt rank => Sys2Proof.Machine.execRefreshDue dt rank s
  | .mr4Poll dt w => Sys2Proof.Machine.execMr4Poll dt w s
  | .zqCalibration dt => Sys2Proof.Machine.execZqCalibration dt s
  | .dqsOscillatorRead dt reading => Sys2Proof.Machine.execDqsOscillatorRead dt reading s
  | .scrub dt bit => Sys2Proof.Machine.execScrub dt bit s
  | .training dt failed mr4 => Sys2Proof.Machine.execTraining dt failed mr4 s
  | .zerofillDone dt => Sys2Proof.Machine.execZerofillDone dt s
  | .selfRefresh dt acc w => Sys2Proof.Machine.execSelfRefresh dt acc w s
  | .autoSelfRefresh dt => Sys2Proof.Machine.execAutoSelfRefresh dt s
  | .selfRefreshEntryDone dt => Sys2Proof.Machine.execSelfRefreshEntryDone dt s
  | .selfRefreshExit dt acc w => Sys2Proof.Machine.execSelfRefreshExit dt acc w s
  | .selfRefreshExitDone dt => Sys2Proof.Machine.execSelfRefreshExitDone dt s
  | .program dt acc w srcErr => Sys2Proof.Machine.execProgram dt acc w srcErr s
  | .erase dt acc w => Sys2Proof.Machine.execErase dt acc w s
  | .suspend dt acc w => Sys2Proof.Machine.execSuspend dt acc w s
  | .resume dt acc w => Sys2Proof.Machine.execResume dt acc w s
  | .abortFlash dt acc w finished => Sys2Proof.Machine.execAbortFlash dt acc w finished s
  | .unlockRegion dt acc w => Sys2Proof.Machine.execUnlockRegion dt acc w s
  | .lockRegion dt acc w => Sys2Proof.Machine.execLockRegion dt acc w s
  | .setregion dt acc w => Sys2Proof.Machine.execSetregion dt acc w s
  | .flashBadarg dt acc w => Sys2Proof.Machine.execFlashBadarg dt acc w s
  | .flashOperationStart dt => Sys2Proof.Machine.execFlashOperationStart dt s
  | .progDone dt => Sys2Proof.Machine.execProgDone dt s
  | .eraseDone dt => Sys2Proof.Machine.execEraseDone dt s
  | .passwordCompareEnd dt => Sys2Proof.Machine.execPasswordCompareEnd dt s
  | .setregionDone dt => Sys2Proof.Machine.execSetregionDone dt s
  | .flashRead dt acc o n bad corrected => Sys2Proof.Machine.execFlashRead dt acc o n bad corrected s
  | .otpProgram dt acc w mv => Sys2Proof.Machine.execOtpProgram dt acc w mv s
  | .otpProgramDone dt ok => Sys2Proof.Machine.execOtpProgramDone dt ok s
  | .journalRecord dt => Sys2Proof.Machine.execJournalRecord dt s
  | .recordDurable dt => Sys2Proof.Machine.execRecordDurable dt s
  | .journalRecovery dt err time => Sys2Proof.Machine.execJournalRecovery dt err time s
  | .restate dt acc w => Sys2Proof.Machine.execRestate dt acc w s
  | .formatJournal dt acc w => Sys2Proof.Machine.execFormatJournal dt acc w s
  | .slotRecord dt acc w => Sys2Proof.Machine.execSlotRecord dt acc w s
  | .pacerStep dt => Sys2Proof.Machine.execPacerStep dt s
  | .pacerStop dt acc w => Sys2Proof.Machine.execPacerStop dt acc w s
  | .chkStart dt unit trigger => Sys2Proof.Machine.execChkStart dt unit trigger s
  | .chkAbort dt acc unit w finished => Sys2Proof.Machine.execChkAbort dt acc unit w finished s
  | .chkDone dt unit => Sys2Proof.Machine.execChkDone dt unit s
  | .resetCommand dt acc w => Sys2Proof.Machine.execResetCommand dt acc w s
  | .makerRequest dt acc w => Sys2Proof.Machine.execMakerRequest dt acc w s
  | .watchdogKick dt acc w => Sys2Proof.Machine.execWatchdogKick dt acc w s
  | .wdogWarn dt => Sys2Proof.Machine.execWdogWarn dt s
  | .watchdogExpiry dt => Sys2Proof.Machine.execWatchdogExpiry dt s
  | .supervisorKick dt core acc w => Sys2Proof.Machine.execSupervisorKick dt core acc w s
  | .supervisorExpiry dt core => Sys2Proof.Machine.execSupervisorExpiry dt core s
  | .heldRelease dt core acc w => Sys2Proof.Machine.execHeldRelease dt core acc w s
  | .logMark dt => Sys2Proof.Machine.execLogMark dt s
  | .sensorSample dt temps mv => Sys2Proof.Machine.execSensorSample dt temps mv s
  | .verify dt acc w => Sys2Proof.Machine.execVerify dt acc w s
  | .verifyDone dt nvm flashBad => Sys2Proof.Machine.execVerifyDone dt nvm flashBad s
  | .activate dt acc w => Sys2Proof.Machine.execActivate dt acc w s
  | .updateBadarg dt acc w => Sys2Proof.Machine.execUpdateBadarg dt acc w s
  | .updateDrained dt => Sys2Proof.Machine.execUpdateDrained dt s
  | .spixCommand dt acc w => Sys2Proof.Machine.execSpixCommand dt acc w s
  | .spixdone dt data => Sys2Proof.Machine.execSpixdone dt data s
  | .lcMaker dt acc w => Sys2Proof.Machine.execLcMaker dt acc w s
  | .lcField dt acc w => Sys2Proof.Machine.execLcField dt acc w s
  | .lcScrapped dt acc w => Sys2Proof.Machine.execLcScrapped dt acc w s
  | .lcTransitionDone dt copies => Sys2Proof.Machine.execLcTransitionDone dt copies s
  | .cdebug dt via => Sys2Proof.Machine.execCdebug dt via s
  | .returnToken dt via => Sys2Proof.Machine.execReturnToken dt via s
  | .scrap dt via => Sys2Proof.Machine.execScrap dt via s
  | .mdebug dt via => Sys2Proof.Machine.execMdebug dt via s
  | .remake dt via => Sys2Proof.Machine.execRemake dt via s
  | .tokdone dt => Sys2Proof.Machine.execTokdone dt s
  | .debugWindowEnd dt => Sys2Proof.Machine.execDebugWindowEnd dt s
  | .domainReqWrite dt acc n w => Sys2Proof.Machine.execDomainReqWrite dt acc n w s
  | .domainIdle dt n => Sys2Proof.Machine.execDomainIdle dt n s
  | .domainEntryDone dt n => Sys2Proof.Machine.execDomainEntryDone dt n s
  | .domainWake dt n cause => Sys2Proof.Machine.execDomainWake dt n cause s
  | .wake dt n => Sys2Proof.Machine.execWake dt n s
  | .busTimeout dt => Sys2Proof.Machine.execBusTimeout dt s
  | .domainRelease dt acc n w => Sys2Proof.Machine.execDomainRelease dt acc n w s
  | .groupGo dt acc g w => Sys2Proof.Machine.execGroupGo dt acc g w s
  | .groupVoteEnd dt g busy => Sys2Proof.Machine.execGroupVoteEnd dt g busy s
  | .groupCommit dt g => Sys2Proof.Machine.execGroupCommit dt g s
  | .groupRefused dt g late => Sys2Proof.Machine.execGroupRefused dt g late s
  | .groupAbort dt acc g w => Sys2Proof.Machine.execGroupAbort dt acc g w s
  | .halfCycle dt urms => Sys2Proof.Machine.execHalfCycle dt urms s
  | .zeroCrossing dt ago => Sys2Proof.Machine.execZeroCrossing dt ago s
  | .frequencyUpdate dt mhz => Sys2Proof.Machine.execFrequencyUpdate dt mhz s
  | .signalLoss dt shut => Sys2Proof.Machine.execSignalLoss dt shut s
  | .restoreTimer dt => Sys2Proof.Machine.execRestoreTimer dt s
  | .storeSample dt uv shunt below => Sys2Proof.Machine.execStoreSample dt uv shunt below s
  | .inputFetOpen dt vin bus => Sys2Proof.Machine.execInputFetOpen dt vin bus s
  | .inputFetClose dt vin bus => Sys2Proof.Machine.execInputFetClose dt vin bus s
  | .chargeDelayEnd dt => Sys2Proof.Machine.execChargeDelayEnd dt s
  | .chargeTrip dt shunt => Sys2Proof.Machine.execChargeTrip dt shunt s
  | .serviceSwitch dt low => Sys2Proof.Machine.execServiceSwitch dt low s
  | .bleed dt acc w => Sys2Proof.Machine.execBleed dt acc w s
  | .clrfault dt acc w => Sys2Proof.Machine.execClrfault dt acc w s
  | .bleedfail dt => Sys2Proof.Machine.execBleedfail dt s
  | .holdoverLimit dt => Sys2Proof.Machine.execHoldoverLimit dt s
  | .lastgaspStatus dt => Sys2Proof.Machine.execLastgaspStatus dt s
  | .lastgaspTimeLimit dt => Sys2Proof.Machine.execLastgaspTimeLimit dt s
  | .supplySwitch dt aon vbat => Sys2Proof.Machine.execSupplySwitch dt aon vbat s
  | .backupPor dt mv => Sys2Proof.Machine.execBackupPor dt mv s
  | .rtcSecond dt => Sys2Proof.Machine.execRtcSecond dt s
  | .osf dt => Sys2Proof.Machine.execOsf dt s
  | .calendarSet dt acc w => Sys2Proof.Machine.execCalendarSet dt acc w s
  | .plicClaim dt acc ctx => Sys2Proof.Machine.execPlicClaim dt acc ctx s
  | .plicComplete dt acc ctx w => Sys2Proof.Machine.execPlicComplete dt acc ctx w s
  | .mtimecmpWrite dt acc core w => Sys2Proof.Machine.execMtimecmpWrite dt acc core w s
  | .irq dt k trigger => Sys2Proof.Machine.execIrq dt k trigger s
  | .extest dt capture tdi => Sys2Proof.Machine.execExtest dt capture tdi s
  | .samplePreload dt capture tdi => Sys2Proof.Machine.execSamplePreload dt capture tdi s
  | .clamp dt tdi => Sys2Proof.Machine.execClamp dt tdi s
  | .highz dt tdi => Sys2Proof.Machine.execHighz dt tdi s
  | .dtmcs dt w => Sys2Proof.Machine.execDtmcs dt w s
  | .dmi dt op addr data => Sys2Proof.Machine.execDmi dt op addr data s
  | .bypass dt opcode tdi => Sys2Proof.Machine.execBypass dt opcode tdi s
  | .registerRead dt acc a => Sys2Proof.Machine.execRegisterRead dt acc a s
  | .appSramAccess dt acc a op ecc => Sys2Proof.Machine.execAppSramAccess dt acc a op ecc s
  | .mtip dt core => Sys2Proof.Machine.execMtip dt core s
  | .fmtdone dt => Sys2Proof.Machine.execFmtdone dt s
  | .restated dt => Sys2Proof.Machine.execRestated dt s
  | .calendarSetApplied dt => Sys2Proof.Machine.execCalendarSetApplied dt s

end Sys2Proof.Machine
end

