-- ==== Sys2Proof/Machine/Step.lean ====
section
/-!
DEFINITION. The step: the command at the front of the queue takes effect with the queue's rest; on an empty queue the block
idles (assumption 2).
-/

namespace Sys2Proof.Machine

/-- One step. DESIGN CHOICE, safe: log 2. DESIGN CHOICE, safe: log 11. -/
def step (s : State) : Host.Outcome State Fault Refusal :=
  match s.pending with
  | [] => .next s
  | c :: rest => exec c { s with pending := rest }

/-- The state with a command in front of its queue. -/
def State.push (c : Instr) (s : State) : State := { s with pending := c :: s.pending }

/-- The state with the command a word spells in front of its queue; unchanged where the word spells none. -/
def State.withFetchWord (s : State) (nbits w : Nat) : State :=
  match decodeTableWord nbits w with
  | some c => s.push c
  | none => s

end Sys2Proof.Machine
end

