-- ==== Sys2Proof/Safety.lean ====
section
/-!
DEFINITION. What counts as a safe run: it does not stop, its maps keep their canonical form, and its interrupt gateways
follow their sources.
-/

namespace Sys2Proof.Machine

/-- The registers and the memories are in their canonical form: keys strictly rising, no entry equal to the default. -/
def State.canonical (s : State) : Bool :=
  Sparse.wf resetWord s.regs && Sparse.wf blankByte s.sram && Sparse.wf blankByte s.lpwSram && Sparse.wf blankByte s.dram

/-- Memory is in its canonical form. -/
abbrev Memory.wf (m : List Host.Cell) : Bool := Sparse.wf blankByte m

/-- The gateways of the interrupt controller follow their sources (R558): every source that is raised has its ID pending or
claimed. -/
def State.gatewaysFollow (s : State) : Prop :=
  ∀ k, k < 128 → s.sourceRaised k = true → s.idClaimed (k + 1) = true ∨ k + 1 ∈ s.app.pendingIds

/-- Only the IDs 1 to 128 exist. -/
def State.idsExist (s : State) : Prop := ∀ i, i ∈ s.app.pendingIds → 0 < i ∧ i ≤ 128

/-- A step that does not stop. -/
def State.goesOn (s : State) : Prop := ∃ t, step s = .next t

end Sys2Proof.Machine
end

