-- ==== Sys2Proof/Certificates/Slice0/Obligations.lean ====
section
/-!
DEFINITION. The statements for the provers.
-/

section
open Sys2Proof Sys2Proof.Machine

/-- Two seconds without a measurement take the time rim from ACQ to FREE and from LOCKED to COAST, with SRC_LOST flagged,
counted and reported. COAST_S seconds in COAST without a measurement take it to FREE. A new source taken up in LOCKED
goes through COAST; a served write of TIM_CTRL takes up the source it selects. A served write of TIM_STEP_CMD with GO
adds the signed step in FREE and ACQ, and is refused with REFUSED where the lock flag is 1. A served read of TIM_TS_LO
returns the low half of TS64 and latches the high half. SECOND and MILLI fire once for each multiple TS64 has reached.
CAPTURE copies TS64 and frees its task input. Each leaves everything it does not name as it was. -/
def Obligations.TimeRimTransitionsTakeEffect : Prop :=
  (∀ (dt : Nat) (s : State), let t := elapse dt s
    t.passed t.tim.lastMeas (2 * secCycles) = true → t.tim.st = .acq →
    exec (.sourceTimeout dt) s = .next (after dt s
      (emit 0x483 0 (count TIM_CNT_SRCLOSS 1 (raise TIM_INT_STAT_SRC_LOST (enterTim .free t)))))) ∧
  (∀ (dt : Nat) (s : State), let t := elapse dt s
    t.passed t.tim.lastMeas (2 * secCycles) = true → t.tim.st = .locked →
    exec (.sourceTimeout dt) s = .next (after dt s
      (emit 0x483 0 (count TIM_CNT_SRCLOSS 1 (raise TIM_INT_STAT_SRC_LOST (enterTim .coast t)))))) ∧
  (∀ (dt : Nat) (s : State), let t := elapse dt s
    t.tim.st = .coast → t.passed (max t.tim.coastFrom t.tim.lastMeas) (t.get TIM_COAST_COAST_S * secCycles) = true →
    exec (.coastExpiry dt) s = .next (after dt s (enterTim .free t))) ∧
  (∀ (dt : Nat) (s : State), let t := elapse dt s
    t.tim.st = .locked → t.selectedSource ≠ t.tim.src →
    exec (.activeSourceChange dt none) s = .next (after dt s
      (enterTim .coast (modTim (fun x => { x with src := t.selectedSource, good := 0, bad := 0 }) t)))) ∧
  (∀ (dt : Nat) (acc : Access) (w : Word) (s : State), let t := elapse dt s
    verdict acc 0x20120000 true t = .serve →
    exec (.activeSourceChange dt (some (acc, w))) s = .next (after dt s (changeSource (written 0x20120000 w t)))) ∧
  (∀ (dt : Nat) (acc : Access) (w : Word) (s : State), let t := elapse dt s
    let u := (written 0x20120020 w t).set TIM_STEP_CMD_GO 0
    verdict acc 0x20120020 true t = .serve → wrote w TIM_STEP_CMD_GO = true → u.lock = false →
    exec (.stepGo dt acc w) s = .next (after dt s
      (applyStep (signed 64 (u.get TIM_STEP_HI * 2 ^ 32 + u.get TIM_STEP_LO) * (2 ^ 40 : Nat)) u))) ∧
  (∀ (dt : Nat) (acc : Access) (w : Word) (s : State), let t := elapse dt s
    let u := (written 0x20120020 w t).set TIM_STEP_CMD_GO 0
    verdict acc 0x20120020 true t = .serve → wrote w TIM_STEP_CMD_GO = true → u.lock = true →
    exec (.stepGo dt acc w) s = .next (after dt s (raise TIM_STEP_CMD_REFUSED u))) ∧
  (∀ (dt : Nat) (acc : Access) (s : State), let t := elapse dt s
    verdict acc 0x20120010 false t = .serve →
    exec (.tsLoRead dt acc) s = .next (after dt s
      { ({ meetDomain (domainOfBlock (blockOf 0x20120010)) t with resp := .ok } : State).set TIM_TS_HI (t.ts / 2 ^ 32)
        with resp := .data (BitVec.ofNat 32 t.ts) })) ∧
  (∀ (dt : Nat) (s : State), let t := elapse dt s
    t.tim.secFired < t.ts / 320000000 →
    exec (.second dt) s = .next (after dt s
      (emit 0x484 0 (modTim (fun x => { x with secFired := x.secFired + 1 }) t)))) ∧
  (∀ (dt : Nat) (s : State), let t := elapse dt s
    t.tim.milliFired < t.ts / 320000 →
    exec (.milli dt) s = .next (after dt s
      (emit 0x485 0 (modTim (fun x => { x with milliFired := x.milliFired + 1 }) t)))) ∧
  (∀ (dt : Nat) (s : State), let t := elapse dt s
    t.taskQueued 0x480 = true →
    exec (.capture dt) s = .next (after dt s
      (endTask 0x480 ((t.set TIM_CAP_LO_CAP t.ts).set TIM_CAP_HI_CAP (t.ts / 2 ^ 32)))))

/-- At the end of LOAD a loop whose regulator answers in the linear format with EN 1 commands CODE 70 and holds. It steps
down by exactly one code when the dwell has passed with every canary at or above DOWN, and up by UPSTEP, at most to
70, when one is below UP; a canary below EMERG or at 0, or a stall alarm, makes it enter EMERG and command CODE 70;
the alarm sets STALL, is logged with its site and fires Gorse's source STALL. The end of a VOUT_COMMAND returns a
running loop to HOLD, restarts the dwell and sets the next check 200 µs later; a NACK freezes it; where HOLDMAX is 1
and another code stands, CODE 70 follows. A fault bit in STATUS_WORD freezes the loop at its start. A check that finds
a mismatch or a fault bit freezes the loop, with both in the error register where both show; only a scheduled one puts
off the next check, by 10 ms. PMB_ALERT_N makes a check due. Writing FROZEN restarts a frozen loop with CODE 70 first.
Setting HOLDMAX commands CODE 70. -/
def Obligations.VoltageLoopObeysItsCauses : Prop :=
  (∀ (dt : Nat) (mode : Byte) (status vout : Nat) (s : State), let t := elapse dt s
    let a := modVolt (fun v => { v with expo := voutExponent mode })
      (pmbus .readVout 0 (pmbus .statusWord 0 (pmbus .voutMode 0 t)))
    let b := (a.set PWR_VL_VOUT_MV (voutMv a.volt.expo vout)).set PWR_VL_VOUT_STATUS status
    t.mode ≠ .reset → t.mode ≠ .load → t.volt.state = .idle → voutLinear mode = true → statusFault status = false →
    b.is PWR_VL_CFG_EN = true →
    exec (.loopStart dt true true mode status vout) s = .next (after dt s
      (commandCode 70 .hold (modVolt (fun v => { v with state := .hold }) b)))) ∧
  (∀ (dt : Nat) (slacks : List Nat) (s : State), let u := readCanaries slacks (elapse dt s)
    u.mayStepDown = true →
    exec (.stepDown dt slacks) s = .next (after dt s (count PWR_VL_CNT_DOWNS 1 (commandCode (u.volt.code - 1) .down u)))) ∧
  (∀ (dt : Nat) (slacks : List Nat) (s : State), let u := restartDwell (readCanaries slacks (elapse dt s))
    u.volt.running = true → u.slackEmergency = false → u.minSlack < u.get PWR_VL_THRESH_UP →
    u.minSlack < u.get PWR_VL_THRESH_DOWN →
    exec (.stepUp dt slacks) s = .next (after dt s
      (commandCode (min 70 (u.volt.code + u.get PWR_VL_TIME_UPSTEP)) .up (count PWR_VL_CNT_UPS 1 u)))) ∧
  (∀ (dt : Nat) (slacks : List Nat) (s : State), let u := readCanaries slacks (elapse dt s)
    u.slackEmergency = true → u.volt.running = true →
    exec (.emergency dt slacks) s = .next (after dt s
      (modVolt (fun v => { v with state := .emerg }) (commandCode 70 .emerg (count PWR_VL_CNT_EMERGS 1 u))))) ∧
  (∀ (dt c : Nat) (s : State), let t := elapse dt s
    let u := modVolt (fun v => { v with
        inflight := none, dwellFrom := t.cycles, checkAt := some (t.cycles + 200 * usCycles), state := .hold }) t
    t.volt.inflight = some c → t.volt.running = true → t.volt.next = none →
    (t.is PWR_VL_FORCE_HOLDMAX = false ∨ t.volt.code = 70 →
      exec (.voutCommandDone dt true) s = .next (after dt s u)) ∧
    (t.is PWR_VL_FORCE_HOLDMAX = true → t.volt.code ≠ 70 →
      exec (.voutCommandDone dt true) s = .next (after dt s (startCommand 70 .hold u)))) ∧
  (∀ (dt status vout : Nat) (mode : Byte) (s : State), let t := elapse dt s
    let a := modVolt (fun v => { v with expo := voutExponent mode })
      (pmbus .readVout 0 (pmbus .statusWord 0 (pmbus .voutMode 0 t)))
    let b := (a.set PWR_VL_VOUT_MV (voutMv a.volt.expo vout)).set PWR_VL_VOUT_STATUS status
    t.mode ≠ .reset → t.mode ≠ .load → t.volt.state = .idle → voutLinear mode = true → statusFault status = true →
    exec (.loopStart dt true true mode status vout) s = .next (after dt s (frozen 3 true b))) ∧
  (∀ (dt c : Nat) (s : State), let t := elapse dt s
    t.volt.inflight = some c →
    exec (.voutCommandDone dt false) s = .next (after dt s (frozen 0 true t))) ∧
  (∀ (dt status vout : Nat) (s : State), let t := elapse dt s
    let a := modVolt (fun v => { v with
        checkAt := if t.scheduled then some (t.cycles + 10 * msCycles) else v.checkAt, alert := none })
      (pmbus .statusWord 0 (pmbus .readVout 0 t))
    let b := (a.set PWR_VL_VOUT_MV (voutMv a.volt.expo vout)).set PWR_VL_VOUT_STATUS status
    t.checkDue = true →
    (voutMismatch b.volt.expo vout b.volt.code = true → statusFault status = false →
      exec (.readbackCheck dt true true status vout) s = .next (after dt s (frozen 2 true b))) ∧
    (voutMismatch b.volt.expo vout b.volt.code = true → statusFault status = true →
      exec (.readbackCheck dt true true status vout) s = .next (after dt s (frozen 2 true (raise (errFld 3) b)))) ∧
    (voutMismatch b.volt.expo vout b.volt.code = false → statusFault status = true →
      exec (.readbackCheck dt true true status vout) s = .next (after dt s (frozen 3 true b))) ∧
    (voutMismatch b.volt.expo vout b.volt.code = false → statusFault status = false →
      exec (.readbackCheck dt true true status vout) s = .next (after dt s b))) ∧
  (∀ (dt : Nat) (s : State), let t := elapse dt s
    exec (.pmbAlert dt) s = .next (after dt s (modVolt (fun v => { v with alert := some t.cycles }) t))) ∧
  (∀ (dt : Nat) (acc : Access) (w : Word) (s : State), let t := elapse dt s
    let u := written 0x20010414 w t
    verdict acc 0x20010414 true t = .serve → wrote w PWR_VL_ERR_FROZEN = true → u.volt.state = .frozen →
    exec (.frozenRestart dt acc w) s = .next (after dt s
      (startCommand 70 .idle (modVolt (fun v => { v with bus := [], state := .idle, dwellFrom := u.cycles }) u)))) ∧
  (∀ (dt : Nat) (acc : Access) (w : Word) (s : State), let t := elapse dt s
    let u := written 0x20010418 w t
    verdict acc 0x20010418 true t = .serve → t.is PWR_VL_FORCE_HOLDMAX = false → u.is PWR_VL_FORCE_HOLDMAX = true →
    u.volt.running = true →
    exec (.holdmax dt acc w) s = .next (after dt s (commandCode 70 .hold u))) ∧
  (∀ (dt site : Nat) (s : State), let t := elapse dt s
    exec (.stallAlarm dt site) s = .next (after dt s
      (Sys2Proof.Machine.emergency (fireAlarm 4 (logEntry 0x0181 site (raise PWR_VL_ERR_STALL t))))))

/-- A sample that meets a full FIFO of a running port opens the port's gap, marks its next captured block, sets its OVF
flag, counts it, raises the flag and event, aborts every lane with OVF, is a D1 miss, and triggers a capture that asks
for it. The end of an open gap closes it, and detection starts afresh from there. A FIFO that runs empty in a frame
starts the ramp-down at that instant and marks the booking. On a live port with no fixed gain, ATTACK clipped samples
lower GAIN by one step and count the interval, and an RMS more than 8 dB below the target for DECAY raises it by one
step, at most to 15, unless raising is suspended. -/
def Obligations.RimFifosAndAgcTakeEffect : Prop :=
  (∀ (dt port : Nat) (s : State), let t := elapse dt s
    let a := pauseCapture port (modRim (fun r => { r with gaps := port :: r.gaps }) t)
    let b := emit 0x380 0 (raise RIM_INT_STAT_OVF (count (ovfFld port) 1 (a.set RIM_FLAG_OVF (a.get RIM_FLAG_OVF ||| 2 ^ port))))
    let c := abortLanes (fun _ => true) stOvf LNP_CNT_OVF b
    let d := if b.lnp.lanes.any (fun e => e.2.st != .idle && e.2.st != .report) then
      emit 0x306 0 (raise LNP_INT_STAT_OVF c) else c
    let e := d1Miss (disturb channels d)
    t.portRuns port = true → t.domainOn (domRx0 + port / 4) = true → t.rim.gaps.elem port = false →
    exec (.overflow dt port) s = .next (after dt s
      (if e.is RIM_CAP_CTRL_OVFTRIG && bitAt (e.get RIM_CAP_CTRL_PORTS) port then captureTrigger 0 e else e))) ∧
  (∀ (dt port : Nat) (s : State), let t := elapse dt s
    (t.rim.gaps.elem port = true → exec (.gapEnd dt port) s = .next (after dt s
      (modRim (fun r => { r with gaps := r.gaps.filter (· != port), gapEnd := some t.cycles }) t))) ∧
    (t.rim.gaps.elem port = false → exec (.gapEnd dt port) s = .next (after dt s t))) ∧
  (∀ (dt chain : Nat) (b : Booking) (s : State), let t := elapse dt s
    let u := modBooking b.req.id (fun x => { x with step := 4, e := t.cycles, under := true, heldAt := some (t.sampleIndex x) }) t
    t.airOf chain = some b → b.step = 3 →
    exec (.txUnderrun dt chain) s = .next (after dt s
      (d1Miss (raise RIM_INT_STAT_UNDR (u.set RIM_FLAG_UNDR (u.get RIM_FLAG_UNDR ||| 2 ^ chain)))))) ∧
  (∀ (dt port clipped : Nat) (power : Int) (s : State), let t := elapse dt s
    let u := count (clipFld port) 1 (showPower port power t)
    let v := if u.farBelow port power then u else restartLow port u
    t.portLive port = true → v.get RIM_AGC_ATTACK ≤ clipped → 0 < clipped → v.gainFixed port = false →
    exec (.agcStepDown dt port clipped power) s = .next (after dt s
      (restartLow port (v.set (gainFld port) (v.get (gainFld port) - 1))))) ∧
  (∀ (dt port : Nat) (power : Int) (s : State), let t := elapse dt s
    let u := showPower port power t
    t.portLive port = true →
    (u.farBelow port power = true → u.raiseSuspended = false → u.gainFixed port = false → u.decayed port = true →
      exec (.agcStepUp dt port power) s = .next (after dt s
        (restartLow port (u.set (gainFld port) (min 15 (u.get (gainFld port) + 1)))))) ∧
    (u.farBelow port power = false → exec (.agcStepUp dt port power) s = .next (after dt s (restartLow port u))))

/-- Step 1 opens the window of a chain's first booking when the lead and ramp before its first chip have come, its MPDU is
there, its synthesiser is locked on the channel and fewer chains than the limit are on air: the front end goes to
transmit and the blanked ports leave the lanes. Step 2 samples LEVEL and begins the desense interval; step 3 sends the
first chip, fires TX_START and compares the level; step 4 begins the ramp-down at E; step 5 fires TX_END; step 6
returns the front end to receive, step 7 ends the desense interval and step 8 gives the outcome SENT (UNDERRUN for a
chain that ran dry) and frees the chain. A chain beyond the limit ends the booking NOCHAIN; an MPDU that is not there,
or an Enh-Ack not yet secured, LATE; an unlocked synthesiser SYNTH. -/
def Obligations.TransmissionStepsRunInOrder : Prop :=
  (∀ (dt chain : Nat) (b : Booking) (s : State), let t := elapse dt s
    firstAfter 0 ((t.bookingsOf chain []).filter (fun x => x.step == 0)) = some b →
    t.step1 b.req.first ≤ t.cycles → t.airOf chain = none → t.onAir.length < t.txLimit →
    t.lnk.acks.any (fun a => a.booking == b.req.id && a.secure.isSome) = false →
    (t.chain chain).locked = b.req.ch → t.domainOn (domTx0 + chain) = true →
    exec (.txWindowOpen dt chain true) s = .next (after dt s
      (let u := modBooking b.req.id (fun x => { x with step := 1, fem := true }) t
       forEach (u.blankedBy chain) dropPort u))) ∧
  (∀ (dt chain : Nat) (loaded : Bool) (b : Booking) (s : State), let t := elapse dt s
    firstAfter 0 ((t.bookingsOf chain []).filter (fun x => x.step == 0)) = some b →
    t.step1 b.req.first ≤ t.cycles → t.airOf chain = none → t.txLimit ≤ t.onAir.length →
    exec (.txWindowOpen dt chain loaded) s = .next (after dt s (tuneNext chain (endBooking b.req.id .nochain t)))) ∧
  (∀ (dt chain : Nat) (loaded : Bool) (b : Booking) (s : State), let t := elapse dt s
    firstAfter 0 ((t.bookingsOf chain []).filter (fun x => x.step == 0)) = some b →
    t.step1 b.req.first ≤ t.cycles → t.airOf chain = none → t.onAir.length < t.txLimit →
    (loaded = false ∨ t.lnk.acks.any (fun a => a.booking == b.req.id && a.secure.isSome) = true) →
    exec (.txWindowOpen dt chain loaded) s = .next (after dt s (tuneNext chain (endBooking b.req.id .late t)))) ∧
  (∀ (dt chain : Nat) (b : Booking) (s : State), let t := elapse dt s
    firstAfter 0 ((t.bookingsOf chain []).filter (fun x => x.step == 0)) = some b →
    t.step1 b.req.first ≤ t.cycles → t.airOf chain = none → t.onAir.length < t.txLimit →
    t.lnk.acks.any (fun a => a.booking == b.req.id && a.secure.isSome) = false →
    ((t.chain chain).locked ≠ b.req.ch ∨ t.domainOn (domTx0 + chain) = false) →
    exec (.txWindowOpen dt chain true) s = .next (after dt s (synthFail chain b.req.id t))) ∧
  (∀ (dt chain : Nat) (b : Booking) (s : State), let t := elapse dt s
    t.airOf chain = some b → b.step = 1 → b.req.first ≤ t.cycles + t.ramp →
    exec (.rampUp dt chain) s = .next (after dt s (desenseLanes b.req.ch (modBooking b.req.id
      (fun x => { x with step := 2, des := true, level := t.get (RIM_TXLVLn_LEVEL chain), rampFrom := t.cycles }) t)))) ∧
  (∀ (dt chain : Nat) (diff : Int) (b : Booking) (s : State), let t := elapse dt s
    let u := emit 0x344 0 (modBooking b.req.id (fun x => { x with step := 3 }) t)
    t.airOf chain = some b → b.step = 2 → b.req.first ≤ t.cycles → u.beaconPan b.req.id = none →
    exec (.txStart dt chain diff) s = .next (after dt s (detectorCheck chain diff (modLnk (fun l => { l with
      down := l.down.map (fun d => if l.attempts.any (fun a => a.for_ == .down d.id && a.bookedAs b.req.id)
        then { d with firstChip := u.ts } else d) }) u)))) ∧
  (∀ (dt chain pan : Nat) (diff : Int) (b : Booking) (s : State), let t := elapse dt s
    let u := emit 0x344 0 (modBooking b.req.id (fun x => { x with step := 3 }) t)
    let v := beaconStarts b pan u
    t.airOf chain = some b → b.step = 2 → b.req.first ≤ t.cycles → u.beaconPan b.req.id = some pan →
    exec (.txStart dt chain diff) s = .next (after dt s (detectorCheck chain diff (modLnk (fun l => { l with
      down := l.down.map (fun d => if l.attempts.any (fun a => a.for_ == .down d.id && a.bookedAs b.req.id)
        then { d with firstChip := v.ts } else d) }) v)))) ∧
  (∀ (dt chain : Nat) (b : Booking) (s : State), let t := elapse dt s
    t.airOf chain = some b → b.step = 3 → b.e ≤ t.cycles →
    exec (.rampDown dt chain) s = .next (after dt s (modBooking b.req.id (fun x => { x with step := 4 }) t))) ∧
  (∀ (dt chain : Nat) (b : Booking) (s : State), let t := elapse dt s
    let u := modRim (fun r => { r with rampEnd := t.cycles }) (modBooking b.req.id (fun x => { x with step := 5 }) t)
    t.airOf chain = some b → b.step = 4 → t.step5 b.e ≤ t.cycles →
    exec (.txEnd dt chain) s = .next (after dt s (emit 0x345 0 (modCod (fun c => { c with
      ownEnd := (b.req.ch, t.cycles) :: c.ownEnd.filter (fun e => e.1 != b.req.ch) }) u)))) ∧
  (∀ (dt chain : Nat) (b : Booking) (s : State), let t := elapse dt s
    t.airOf chain = some b → b.step = 5 → t.step5 b.e + t.lag ≤ t.cycles →
    exec (.femReceive dt chain) s = .next (after dt s (modBooking b.req.id (fun x => { x with fem := false }) t))) ∧
  (∀ (dt chain : Nat) (b : Booking) (s : State), let t := elapse dt s
    let u := modBooking b.req.id (fun x => { x with des := false }) t
    let near := channels.filter (fun k => u.desenseRow b.req.ch k == 1)
    let any := channels.filter (fun k => decide (0 < u.desenseRow b.req.ch k))
    t.airOf chain = some b → b.step = 5 → b.des = true → t.step5 b.e + 2 * usCycles ≤ t.cycles →
    exec (.desenseEnd dt chain) s = .next (after dt s (modLnp (fun p => { p with
      desEnd := near.map (fun k => (k, u.cycles)) ++ p.desEnd.filter (fun e => !near.elem e.1),
      desAll := any.map (fun k => (k, u.cycles)) ++ p.desAll.filter (fun e => !any.elem e.1) }) u))) ∧
  (∀ (dt chain : Nat) (b : Booking) (s : State), let t := elapse dt s
    t.airOf chain = some b → b.step = 5 → b.fem = false → b.des = false → t.step8 b.e ≤ t.cycles →
    exec (.portUnblank dt chain) s = .next (after dt s
      (gaspFollows (tuneNext chain (useDomain (domTx0 + chain) (unplace b.req.id
        (if b.under then giveOutcome b.req.id .underrun t
         else giveOutcome b.req.id .sent (modChain chain (fun c => { c with synfail := 0 }) t))))))))

/-- Start calibration ends by storing the isolations of the enabled chains and the noise floors and setting the failures
in CAL_STAT, or every enabled port on a LO failure. A served write of RIM_CAL_CMD, a temperature change of TEMPDELTA
or more, or a chain enabled again requests a chain recalibration, which is granted alone and with nothing booked in
1.2 ms; its end clears the request, stores the isolations or the failure, and raises CAL_DONE. RXPORT requests run one
at a time, and an end clears its bit. A served write of RIM_CTRL takes PILOT as written, and freezes the tracked
values where it goes to 0; one of RIM_PORT_RUN runs only enabled ports and chains. An unlock of the LO aborts every
lane, flags and reports, and a relock ends it. -/
def Obligations.CalibrationAndRunMasksTakeEffect : Prop :=
  (∀ (dt rxFail txFail : Nat) (loFail : Bool) (iso : List Nat) (calnf degrees : List Int) (s : State), let t := elapse dt s
    let rx := if loFail then t.get RIM_PORT_EN_RXEN else rxFail &&& t.get RIM_PORT_EN_RXEN
    let tx := txFail &&& t.get RIM_PORT_EN_TXEN
    let keys := (List.range 16).filter (fun p => bitAt (t.get RIM_PORT_EN_RXEN) p && !bitAt rx p)
      ++ ((List.range 8).filter (fun c => bitAt (t.get RIM_PORT_EN_TXEN) c && !bitAt tx c)).map (16 + ·)
    let a := (storeCoeffs keys (modRim (fun r => { r with
      calibrating := false, calnf := calnf, rampEnd := t.cycles,
      loLost := if loFail then some t.cycles else none }) t)).set RIM_STAT_LO_LOCK (flag (!loFail))
    let b := forEach ((List.range 8).filter (fun c => bitAt (a.get RIM_PORT_EN_TXEN) c)) (fun c v =>
      modChain c (fun x => { x with calTemp := (degrees[c]?).getD 0 }) (storeIso c (iso.drop (16 * c)) v)) a
    let c := forEach (List.range 16) (fun n v =>
      v.set (LNP_NFn_CALNF n) (twos 8 (clamp (-128) 127 ((calnf[n]?).getD 0)))) b
    t.rim.calibrating = true →
    exec (.calibrationEnd dt loFail rxFail txFail iso calnf degrees) s =
      .next (after dt s (calibrationEnded (rx != 0 || tx != 0) (calibrationFails rx tx (reseedFloors c))))) ∧
  (∀ (dt : Nat) (acc : Access) (w : Word) (s : State), let t := elapse dt s
    verdict acc 0x200E0040 true t = .serve →
    exec (.txchainRecalRequest dt (.write acc w)) s = .next (after dt s (nextRxCal (written 0x200E0040 w t)))) ∧
  (∀ (dt chain : Nat) (deg : Int) (s : State), let t := elapse dt s
    chain < 8 → t.get RIM_TXCFG_TEMPDELTA ≠ 0 → t.get RIM_TXCFG_TEMPDELTA ≤ (deg - (t.chain chain).calTemp).natAbs →
    exec (.txchainRecalRequest dt (.temperature chain deg)) s = .next (after dt s
      (t.set RIM_CAL_CMD_TXCHAIN (t.get RIM_CAL_CMD_TXCHAIN ||| 2 ^ chain)))) ∧
  (∀ (dt chain : Nat) (s : State), let t := elapse dt s
    chain < 8 → (t.chain chain).owes = true →
    exec (.txchainRecalRequest dt (.enabled chain)) s = .next (after dt s
      (modChain chain (fun c => { c with owes := false })
        (t.set RIM_CAL_CMD_TXCHAIN (t.get RIM_CAL_CMD_TXCHAIN ||| 2 ^ chain))))) ∧
  (∀ (dt chain : Nat) (s : State), let t := elapse dt s
    chain < 8 → bitAt (t.get RIM_CAL_CMD_TXCHAIN) chain = true →
    (t.bookingsOf chain []).all (fun b => b.step == 0 && decide (t.cycles + 1200 * usCycles ≤ t.step1 b.req.first)) = true →
    (List.range 8).all (fun c => (t.chain c).recal.isNone) = true →
    exec (.recalGrant dt chain) s = .next (after dt s
      (dropPort chain (modChain chain (fun c => { c with recal := some t.cycles, locked := 0, tuning := none }) t)))) ∧
  (∀ (dt chain : Nat) (ok : Bool) (iso : List Nat) (degrees : Int) (s : State), let t := elapse dt s
    let x := modChain chain (fun c => { c with recal := none, calTemp := degrees })
      (modRim (fun r => { r with rampEnd := t.cycles }) t)
    let a := if ok then storeCoeffs [16 + chain] x else x
    let n := a.get RIM_CAL_CMD_TXCHAIN
    let b := a.set RIM_CAL_CMD_TXCHAIN (if bitAt n chain then n - 2 ^ chain else n)
    chain < 8 → (t.chain chain).recal.isSome = true →
    exec (.recalDone dt chain ok iso degrees) s = .next (after dt s (tuneNext chain (calibrationEnded (!ok)
      (if ok then storeIso chain iso b else calibrationFails 0 (2 ^ chain) b))))) ∧
  (∀ (dt : Nat) (acc : Access) (w : Word) (s : State), let t := elapse dt s
    verdict acc 0x200E0040 true t = .serve →
    exec (.rxportCalRequest dt acc w) s = .next (after dt s (nextRxCal (written 0x200E0040 w t)))) ∧
  (∀ (dt p since : Nat) (ok : Bool) (s : State), let t := elapse dt s
    let a := modRim (fun r => { r with rxCal := none }) t
    let n := a.get RIM_CAL_CMD_RXPORT
    let b := a.set RIM_CAL_CMD_RXPORT (if bitAt n p then n - 2 ^ p else n)
    t.rim.rxCal = some (p, since) →
    exec (.rxportCalDone dt ok) s = .next (after dt s
      (nextRxCal (calibrationEnded (!ok) (if ok then storeCoeffs [p] b else calibrationFails (2 ^ p) 0 b))))) ∧
  (∀ (dt : Nat) (acc : Access) (w : Word) (s : State), let t := elapse dt s
    verdict acc 0x200E0018 true t = .serve →
    exec (.pilot dt acc w) s = .next (after dt s (pilotWrite (t.word 0x200E0018) (written 0x200E0018 w t)))) ∧
  (∀ (dt : Nat) (acc : Access) (w : Word) (s : State), let t := elapse dt s
    verdict acc 0x200E0004 true t = .serve →
    exec (.portRunWrite dt acc w) s = .next (after dt s (portRunWrite (t.word 0x200E0004) (written 0x200E0004 w t)))) ∧
  (∀ (dt : Nat) (s : State), let t := elapse dt s
    let u := abortLanes (fun _ => true) stLoUnlock LNP_CNT_LOUNLK t
    t.rim.loLost = none →
    exec (.loUnlock dt) s = .next (after dt s (emit 0x384 0 (raise RIM_INT_STAT_LOUNLOCK
      ((modRim (fun r => { r with loLost := some (disturb channels u).cycles }) (disturb channels u)).set
        RIM_STAT_LO_LOCK 0))))) ∧
  (∀ (dt : Nat) (s : State),
    exec (.loRelock dt) s = .next (after dt s
      ((modRim (fun r => { r with loLost := none }) (elapse dt s)).set RIM_STAT_LO_LOCK 1)))

/-- A served write of RIM_CAP_CTRL with START begins a capture of one to four ports into a buffer of some size, while none
runs; with STOP, and as the CAP_STOP task, the capture is to end at the next block boundary; with TRIG, and as the
CAP_TRIG task, an active ring capture is triggered once. The three bits read 0 afterwards. Each interval of an active
capture takes the selected ports in ascending order: a port's block is written or dropped, a port without one has
paused. The capture ends DONE when every port has its POST blocks, and STOPPED at a block boundary after STOP;
CAP_DONE carries the hop count of the trigger or the stop, whose task is then idle again. -/
def Obligations.CaptureRunsBlockByBlock : Prop :=
  (∀ (dt : Nat) (acc : Access) (w : Word) (s : State), let t := elapse dt s
    let a := written 0x200E00B0 w t
    let b := ((a.set RIM_CAP_CTRL_START 0).set RIM_CAP_CTRL_STOP 0).set RIM_CAP_CTRL_TRIG 0
    let c := (b.setWord 0x200E00C4 0).set RIM_CAP_WRPTR_OFFSET 0
    let gains := c.capPorts.map (fun p => (p, c.get (gainFld p)))
    verdict acc 0x200E00B0 true t = .serve → a.is RIM_CAP_STAT_ACTIVE = false → b.is RIM_CAP_STAT_ACTIVE = false →
    wrote w RIM_CAP_CTRL_START = true → wrote w RIM_CAP_CTRL_TRIG = false → wrote w RIM_CAP_CTRL_STOP = false →
    c.capPorts.length ≠ 0 → c.capPorts.length ≤ 4 → c.get RIM_CAP_SIZE_SIZE ≠ 0 →
    exec (.capStart dt acc w) s = .next (after dt s (raise RIM_CAP_STAT_ACTIVE
      (modRim (fun r => { r with
        cap := { counts := [], gapPorts := [], left := [], stopping := false, lastGain := gains, blanked := [], trigHop := 0 } }) c)))) ∧
  (∀ (dt : Nat) (acc : Access) (w : Word) (s : State), let t := elapse dt s
    verdict acc 0x200E00B0 true t = .serve →
    exec (.capStart dt acc w) s = .next (after dt s (capCtrlWrite (t.word 0x200E00B0) w (written 0x200E00B0 w t))) ∧
    exec (.capStop dt (.write acc w)) s = .next (after dt s (capCtrlWrite (t.word 0x200E00B0) w (written 0x200E00B0 w t))) ∧
    exec (.capTrig dt (.write acc w)) s = .next (after dt s (capCtrlWrite (t.word 0x200E00B0) w (written 0x200E00B0 w t)))) ∧
  (∀ (dt : Nat) (s : State), let t := elapse dt s
    t.taskQueued 0x381 = true → t.is RIM_CAP_STAT_ACTIVE = true →
    exec (.capStop dt .task) s = .next (after dt s (startTask 0x381
      (modRim (fun r => { r with cap := { r.cap with stopping := true } }) (takeTask 0x381 t))))) ∧
  (∀ t : State,
    let u := modRim (fun r => { r with cap := { r.cap with stopping := false } }) (t.set RIM_CAP_STAT_ACTIVE 0)
    captureEnd true t = emit 0x382 t.rim.cap.trigHop
      (raise RIM_INT_STAT_CAPDONE (endTask 0x381 (raise RIM_CAP_STAT_DONE u))) ∧
    captureEnd false t = emit 0x382 (t.taskHop 0x381)
      (raise RIM_INT_STAT_CAPDONE (endTask 0x381 (raise RIM_CAP_STAT_STOPPED u)))) ∧
  (∀ (dt : Nat) (s : State), let t := elapse dt s
    let u := raise RIM_CAP_STAT_TRIGGERED t
    t.taskQueued 0x380 = true → t.is RIM_CAP_STAT_ACTIVE = true → t.is RIM_CAP_CTRL_MODE = true →
    t.is RIM_CAP_STAT_TRIGGERED = false →
    exec (.capTrig dt .task) s = .next (after dt s (endTask 0x380
      (modRim (fun r => { r with cap := { r.cap with
        left := t.capPorts.map (fun p => (p, u.get RIM_CAP_POST_POST)), trigHop := t.taskHop 0x380 } }) u)))) ∧
  (∀ (dt : Nat) (blocks : List (Nat × List (Int × Int) × Bool)) (s : State), let t := elapse dt s
    let u := forEach t.capPorts (capturePort blocks) t
    t.is RIM_CAP_STAT_ACTIVE = true → u.is RIM_CAP_STAT_ACTIVE = true →
    exec (.captureBlock dt blocks) s = .next (after dt s
      (if u.is RIM_CAP_STAT_TRIGGERED && u.capPorts.all (fun p => portVal u.rim.cap.left p 0 == 0) then captureEnd true u
       else if u.rim.cap.stopping then captureEnd false u else u)))

/-- A noise window that ends takes an estimate of each quiet, undisturbed channel where the window is whole, and NFREADY
is raised when the last enabled channel becomes valid. A served write of LNP_NFCTL with RESEED, or the NF_RESEED task,
restarts every floor. A detection takes the lowest free lane; with four lanes on the channel, or none free, it
pre-empts the weakest unconfirmed one, and without one it is lost and counted CHFULL or LANEFULL. The end of the
estimate stores the signature, carrier offset and timing and takes the first checkpoint; an SFD stores its time and
mode and takes the second. A lane without an SFD for 160 µs is released and counted. The weights of an active lane
follow the lanes on its channel. -/
def Obligations.DetectionClaimsAndReleasesLanes : Prop :=
  (∀ (dt : Nat) (quiet : List (Nat × Int)) (s : State), let t := elapse dt s
    let whole := t.ts / 5120 == t.lnp.window + 1 && !t.lnp.stepped && t.domainOn domLnpc
    let good := quiet.filter (fun e =>
      whole && channels.elem e.1 && !t.lnp.disturbed.elem e.1 && !t.disturbedNow.elem e.1)
    let a := forEach good (fun e v => takeEstimate e.1 e.2 v) t
    let b := modLnp (fun p => { p with window := t.ts / 5120, stepped := false, disturbed := a.disturbedNow }) a
    t.ts / 5120 ≠ t.lnp.window →
    exec (.noiseWindowEnd dt quiet) s = .next (after dt s
      (if b.nfReady && !t.nfReady then emit 0x307 0 (raise LNP_INT_STAT_NFREADY b) else b))) ∧
  (∀ (dt : Nat) (acc : Access) (w : Word) (s : State), let t := elapse dt s
    verdict acc 0x200C0028 true t = .serve → wrote w LNP_NFCTL_RESEED = true →
    exec (.nfReseed dt (.write acc w)) s = .next (after dt s
      ((reseedFloors (written 0x200C0028 w t)).set LNP_NFCTL_RESEED 0))) ∧
  (∀ (dt : Nat) (s : State), let t := elapse dt s
    t.taskQueued 0x300 = true →
    exec (.nfReseed dt .task) s = .next (after dt s (endTask 0x300 (reseedFloors t)))) ∧
  (∀ (dt ch n : Nat) (timings : List Nat) (sigs : List Sig) (s : State), let t := elapse dt s
    let peaks := timings.zip sigs
    t.detects ch = true → t.metricHolds ch peaks = true → t.timingHidden ch peaks = false →
    (t.lanesOn ch).length < 4 → t.freeLaneNumber = some n →
    exec (.detection dt ch timings sigs) s = .next (after dt s (claim n ch (t.peakMetric ch peaks) (peakTiming peaks) t))) ∧
  (∀ (dt ch n : Nat) (timings : List Nat) (sigs : List Sig) (s : State), let t := elapse dt s
    let peaks := timings.zip sigs
    t.detects ch = true → t.metricHolds ch peaks = true → t.timingHidden ch peaks = false →
    ¬ (t.lanesOn ch).length < 4 → weakest (t.claimable (t.lanesOn ch)) = some n →
    exec (.detection dt ch timings sigs) s = .next (after dt s
      (claim n ch (t.peakMetric ch peaks) (peakTiming peaks) (preempt n t)))) ∧
  (∀ (dt ch : Nat) (timings : List Nat) (sigs : List Sig) (s : State), let t := elapse dt s
    let peaks := timings.zip sigs
    t.detects ch = true → t.metricHolds ch peaks = true → t.timingHidden ch peaks = false →
    ¬ (t.lanesOn ch).length < 4 → weakest (t.claimable (t.lanesOn ch)) = none →
    exec (.detection dt ch timings sigs) s = .next (after dt s
      (emit 0x302 0 (raise LNP_INT_STAT_CH_FULL (count LNP_CNT_CHFULL 1 t))))) ∧
  (∀ (dt ch n : Nat) (timings : List Nat) (sigs : List Sig) (s : State), let t := elapse dt s
    let peaks := timings.zip sigs
    t.detects ch = true → t.metricHolds ch peaks = true → t.timingHidden ch peaks = false →
    (t.lanesOn ch).length < 4 → t.freeLaneNumber = none → weakest (t.claimable t.lnp.lanes) = some n →
    exec (.detection dt ch timings sigs) s = .next (after dt s
      (claim n ch (t.peakMetric ch peaks) (peakTiming peaks) (preempt n t)))) ∧
  (∀ (dt ch : Nat) (timings : List Nat) (sigs : List Sig) (s : State), let t := elapse dt s
    let peaks := timings.zip sigs
    t.detects ch = true → t.metricHolds ch peaks = true → t.timingHidden ch peaks = false →
    (t.lanesOn ch).length < 4 → t.freeLaneNumber = none → weakest (t.claimable t.lnp.lanes) = none →
    exec (.detection dt ch timings sigs) s = .next (after dt s
      (emit 0x301 0 (raise LNP_INT_STAT_LANE_FULL (count LNP_CNT_LANEFULL 1 t))))) ∧
  (∀ (dt n timing : Nat) (h : Sig) (offset : Int) (s : State), let t := elapse dt s
    let u := takeCheckpoint n (modLane n (fun l => { l with
      h := maskSig l.ports h, power := framePower l.ports h, rssi := t.rssiOf l.ch l.ports h,
      offset := clamp (-4000) 4000 offset, timing := timing % symCycles }) t)
    (t.lane n).st = .est →
    exec (.estEnd dt n h offset timing) s = .next (after dt s
      (if (u.lane n).st = .est then modLane n (fun l => { l with st := .sfds }) u else u))) ∧
  (∀ (dt n sfd back : Nat) (snr : Int) (s : State), let t := elapse dt s
    let ended := t.lnp.desEnd.find? (fun e => e.1 == (t.lane n).ch)
    let hurt := ended.any (fun e => decide (t.cycles - back - 10 * symCycles ≤ e.2))
    let u := takeCheckpoint n (modLane n (fun l => { l with
      sfd := true, sfdts := t.tsBack back, sfdAt := t.cycles - back, lock := t.lock, mode := if sfd = 0xA7 then 0 else 1,
      snr := clamp (-128) 127 snr, desense := l.desense || hurt }) t)
    (t.lane n).st = .sfds → (t.lane n).sfd = false → (sfd = 0xA7 ∨ sfd = 0x5C) →
    t.cycles - back ≤ (t.lane n).detected + 10 * symCycles →
    exec (.sfdFound dt n sfd back snr) s = .next (after dt s
      (if (u.lane n).st = .sfds then modLane n (fun l => { l with st := .phr }) u else u))) ∧
  (∀ (dt n : Nat) (s : State), let t := elapse dt s
    (t.lane n).unconfirmed = true → (t.lane n).sfd = false → t.passed (t.lane n).detected (10 * symCycles) = true →
    exec (.sfdTimeout dt n) s = .next (after dt s (count LNP_CNT_SFDTO 1 (freeLane n t)))) ∧
  (∀ (dt n : Nat) (s : State), let t := elapse dt s
    (t.lane n).st ≠ .idle → (t.lane n).st ≠ .est → (t.lane n).st ≠ .lost →
    exec (.mmseWeightChange dt n) s = .next (after dt s
      (modLane n (fun l => { l with others := t.weightSet n }) t)))

/-- A PHR the mode accepts moves its lane to PSDU with its mode and length, and binds a decoder in the extended modes; any
other ends the lane PHR_BAD. A payload symbol is taken with its correlation; LOSSSYM weak ones in a row make the lane
LOST. Two symbols of the standard mode release an octet. The last chip moves the lane to FINAL; a LOST lane reports
TRUNC at the declared end; a lane in FINAL reports OK or FCS_BAD by its FCS, FCS_BAD without a decoder; a report taken
frees the lane. A block of 32 soft bits goes to the decoder's buffer of four blocks or is an overflow and a D1 miss.
The next provisional octet and the next final octet come out when served, and the trace from state 0 ends the frame. -/
def Obligations.PayloadReachesItsReport : Prop :=
  (∀ (dt n phr : Nat) (snr : Int) (corrs : List Nat) (s : State), let t := elapse dt s
    let l := { t.lane n with
      snr := clamp (-128) 127 snr, corrSum := (t.lane n).corrSum + (corrs.map (fun c => min c 65536)).sum,
      corrCount := (t.lane n).corrCount + corrs.length }
    (t.lane n).st = .phr →
    ((t.lane n).mode = 0 → phrStdOk phr = true →
      exec (.phrEnd dt n phr snr corrs) s = .next (after dt s
        (setLane n { l with st := .psdu, passed := true, mode := 0, len := phr % 128 } t))) ∧
    ((t.lane n).mode ≠ 0 → phrExtOk phr = true →
      exec (.phrEnd dt n phr snr corrs) s = .next (after dt s (bindDecoder n
        (setLane n { l with st := .psdu, passed := true, mode := phr % 4 + 1, len := phr / 4 % 2048 + 4 } t)))) ∧
    ((if (t.lane n).mode = 0 then phrStdOk phr else phrExtOk phr) = false →
      exec (.phrEnd dt n phr snr corrs) s = .next (after dt s (deliver n stPhrBad (setLane n l t))))) ∧
  (∀ (dt n sym corr : Nat) (soft : List Int) (best h : Sig) (s : State), let t := elapse dt s
    let l := t.lane n
    let low := if t.symbolMargin l best < 300 then l.low + 1 else 0
    let tracked := match l.stored with
      | some st => if l.blend then blendSig (maskSig l.ports h) st else maskSig l.ports h
      | none => maskSig l.ports h
    l.st = .psdu → l.count < payloadSymbols l.mode l.len → low < t.get LNP_LANE_LOSSSYM →
    exec (.payloadSymbol dt n sym soft corr best h) s = .next (after dt s
      (modLane n (fun l => { l with
        low := low, h := tracked, count := l.count + 1, corrSum := l.corrSum + min corr 65536,
        corrCount := l.corrCount + 1, syms := if l.mode = 0 then l.syms ++ [sym % 16] else [],
        soft := if l.mode = 0 then [] else l.soft ++ (soft ++ [0, 0, 0, 0]).take 4 }) t))) ∧
  (∀ (dt n sym corr : Nat) (soft : List Int) (best h : Sig) (s : State), let t := elapse dt s
    let l := t.lane n
    l.st = .psdu → l.count < payloadSymbols l.mode l.len → t.symbolMargin l best < 300 → t.get LNP_LANE_LOSSSYM ≤ l.low + 1 →
    exec (.payloadSymbol dt n sym soft corr best h) s = .next (after dt s
      (modLane n (fun x => { x with
        st := .lost, low := l.low + 1, syms := [], soft := [], prov := [], fin := [], octets := [], others := [] })
        (unbind n t)))) ∧
  (∀ (dt n a b : Nat) (rest : List Nat) (s : State), let t := elapse dt s
    let l := t.lane n
    let o := octet (a + 16 * b)
    l.noDecoder = false → l.st = .psdu → l.mode = 0 → l.syms = a :: b :: rest →
    exec (.octetRelease dt n) s = .next (after dt s (setLane n
      { l with syms := rest, octets := l.octets ++ [o], prov := l.prov ++ [o], fin := l.fin ++ [o] } t))) ∧
  (∀ (dt n : Nat) (s : State), let t := elapse dt s
    let l := t.lane n
    l.st = .psdu → l.count = payloadSymbols l.mode l.len →
    exec (.lastChip dt n) s = .next (after dt s (setLane n { l with st := .final, lastChip := t.cycles } t))) ∧
  (∀ (dt n : Nat) (s : State), let t := elapse dt s
    (t.lane n).st = .lost → (t.lane n).sfdAt + (t.lane n).lostSpan ≤ t.cycles →
    exec (.lostEnd dt n) s = .next (after dt s (deliver n stTrunc t))) ∧
  (∀ (dt n : Nat) (s : State), let t := elapse dt s
    let l := t.lane n
    l.st = .final → l.noDecoder = false → l.len ≤ l.fin.length →
    exec (.finalComplete dt n) s = .next (after dt s
      (deliver n (if fcsOk l.mode (l.fin.take l.len) then stOk else stFcsBad) t))) ∧
  (∀ (dt n : Nat) (s : State), let t := elapse dt s
    (t.lane n).st = .final → (t.lane n).noDecoder = true →
    exec (.finalComplete dt n) s = .next (after dt s (deliver n stFcsBad t))) ∧
  (∀ (dt n : Nat) (s : State), let t := elapse dt s
    (t.lane n).st = .report → exec (.reportAccepted dt n) s = .next (after dt s (freeLane n t))) ∧
  (∀ (dt n : Nat) (c : DecCtx) (s : State), let t := elapse dt s
    let l := t.lane n
    let u := setLane n { l with soft := l.soft.drop 32 } t
    32 ≤ l.soft.length → l.noDecoder = false → u.ctxOf n = some c →
    (c.blocks.length < 4 → exec (.decoderBlock dt n) s = .next (after dt s
      (setCtx { c with blocks := c.blocks ++ [(u.cycles, deinterleave (l.soft.take 32))] } u))) ∧
    (4 ≤ c.blocks.length → exec (.decoderBlock dt n) s = .next (after dt s
      (d1Miss (raise COD_INT_STAT_DECOVF (count COD_CNT_DECOVF 1
        (modLane n (fun l => { l with noDecoder := true }) u))))))) ∧
  (∀ (dt n : Nat) (c : DecCtx) (s : State), let u := serveLane n (elapse dt s)
    let l := u.lane n
    u.releasing n = some c → 8 * l.prov.length + 8 ≤ c.prov.length → l.prov.length < l.len →
    exec (.provisionalOctet dt n) s = .next (after dt s
      (setLane n { l with prov := l.prov ++ [bitOctet c.prov l.prov.length] } u))) ∧
  (∀ (dt n : Nat) (c : DecCtx) (s : State), let u := serveLane n (elapse dt s)
    let l := u.lane n
    u.releasing n = some c → 8 * l.fin.length + 8 ≤ c.fin.length → l.fin.length < l.len →
    exec (.finalOctet dt n) s = .next (after dt s (checkRevised n
      (setLane n { l with fin := l.fin ++ [bitOctet c.fin l.fin.length] } u)))) ∧
  (∀ (dt n : Nat) (c : DecCtx) (s : State), let u := serveLane n (elapse dt s)
    let l := u.lane n
    let bits := (traceBits 0 c.history).take (c.steps - c.fin.length) ++ c.fin
    let fin := l.fin ++ (List.range (l.len - l.fin.length)).map (fun i => bitOctet bits (l.fin.length + i))
    let traced := l.prov ++ (List.range (min l.len (c.prov.length / 8) - l.prov.length)).map
      (fun i => bitOctet c.prov (l.prov.length + i))
    u.releasing n = some c → l.st = .final → trellisLength l.len ≤ c.steps →
    exec (.finalTraceback dt n) s = .next (after dt s (checkRevised n
      (setLane n { l with fin := fin, prov := traced ++ fin.drop traced.length } u))))

/-- The transmit path first serves the cancels handed over, then the next booking, which it counts: it places it on a
chain, places it by displacing later classes, or refuses it with LATE or NOCHAIN. A cancel before the instant of step
1 ends the booking CANCELLED; from then on it has no effect. A synthesiser that has locked holds its channel. TX_HALT
writes 0 to COD_TXLIM.MAXCH. An outcome reaches what was booked: an acknowledgement that was sent is counted and
remembers a POLL, another outcome of a released one counts TXFAIL; a beacon is counted sent or missed; an attempt
waits for the acknowledgement it asked for or succeeds, an underrun is a failed transmission, and any other outcome a
busy channel. -/
def Obligations.TransmitPathServesItsRequests : Prop :=
  (∀ (dt : Nat) (r : BookReq) (s : State), let t := elapse dt s
    let u := count COD_CNT_TXREQ 1
      (modCod (fun p => { p with asked := p.asked.filter (fun q => q.id != r.id) }) (serveCancels t))
    (serveCancels t).nextRequest = some r →
    (u.step1 r.first ≤ u.cycles → exec (.booking dt) s = .next (after dt s (giveOutcome r.id .late u))) ∧
    (∀ k : Nat, u.cycles < u.step1 r.first → u.chooseChain r [] = some k →
      exec (.booking dt) s = .next (after dt s (place r k u))) ∧
    (∀ (ids : List Nat) (k : Nat), u.cycles < u.step1 r.first → u.chooseChain r [] = none →
      u.displacement r [] ((u.candidates r.cls).map (fun b => b.req.id)) = some (ids, k) →
      exec (.booking dt) s = .next (after dt s (placeOver r k ids u))) ∧
    (u.cycles < u.step1 r.first → u.chooseChain r [] = none →
      u.displacement r [] ((u.candidates r.cls).map (fun b => b.req.id)) = none →
      exec (.booking dt) s = .next (after dt s (giveOutcome r.id .nochain u)))) ∧
  (∀ (dt id : Nat) (ids : List Nat) (r : BookReq) (s : State), let t := elapse dt s
    let u := modCod (fun p => { p with cancels := ids }) t
    t.cod.cancels = id :: ids → t.cod.asked.find? (fun r => r.id == id) = some r → u.cycles < u.step1 r.first →
    exec (.cancel dt) s = .next (after dt s (giveOutcome id .cancelled (count COD_CNT_TXREQ 1
      (modCod (fun p => { p with asked := p.asked.filter (fun q => q.id != id) }) u))))) ∧
  (∀ (dt id : Nat) (ids : List Nat) (b : Booking) (s : State), let t := elapse dt s
    let u := modCod (fun p => { p with cancels := ids }) t
    t.cod.cancels = id :: ids → t.cod.asked.find? (fun r => r.id == id) = none →
    t.cod.placed.find? (fun b => b.req.id == id) = some b →
    (u.beforeStep1 b = true →
      exec (.cancel dt) s = .next (after dt s (tuneNext b.chain (endBooking id .cancelled u)))) ∧
    (u.beforeStep1 b = false → exec (.cancel dt) s = .next (after dt s u))) ∧
  (∀ (dt chain ch at_ : Nat) (s : State), let t := elapse dt s
    (t.chain chain).tuning = some (ch, at_) → at_ ≤ t.cycles →
    exec (.synthLock dt chain) s = .next (after dt s
      (modChain chain (fun c => { c with locked := ch, tuning := none }) t))) ∧
  (∀ (dt : Nat) (s : State), let t := elapse dt s
    t.taskQueued 0x340 = true →
    exec (.txHalt dt) s = .next (after dt s (endTask 0x340
      (changeMirrored 0x200D0014 (fun v => v.set COD_TXLIM_MAXCH 0) t)))) ∧
  (∀ (dt id : Nat) (o : TxOutcome) (a : AckBooking) (s : State), let t := elapse dt s
    let u := takeOutcome (id, o) t
    let v := modLnk (fun l => { l with acks := l.acks.filter (fun x => x.booking != a.booking) }) u
    t.nextOutcome = some (id, o) → u.lnk.acks.find? (fun x => x.booking == id) = some a →
    (o = .sent → a.poll = none → exec (.txOutcome dt) s = .next (after dt s (count LNK_CNT_ACKSENT 1 v))) ∧
    (∀ i : Nat, o = .sent → a.poll = some i → exec (.txOutcome dt) s = .next (after dt s
      (modLnk (fun l => { l with polls := l.polls ++ [(i, a.ackEnd, a.pan)] }) (count LNK_CNT_ACKSENT 1 v)))) ∧
    (o ≠ .sent → a.released = true → exec (.txOutcome dt) s = .next (after dt s (count LNK_CNT_ACKW_TXFAIL 1 v))) ∧
    (o ≠ .sent → a.released = false → exec (.txOutcome dt) s = .next (after dt s (modLnk (fun l => { l with
      acks := l.acks.map (fun x => if x.booking = a.booking then { x with failed := true } else x) }) u)))) ∧
  (∀ (dt id : Nat) (o : TxOutcome) (b : BeaconBooking) (s : State), let t := elapse dt s
    let u := takeOutcome (id, o) t
    t.nextOutcome = some (id, o) → u.lnk.acks.find? (fun x => x.booking == id) = none →
    u.lnk.bookings.find? (fun x => x.booking == id) = some b →
    let v := modLnk (fun l => { l with bookings := l.bookings.filter (fun x => x.booking != b.booking) }) u
    (o = .sent → exec (.txOutcome dt) s = .next (after dt s (count LNK_CNT_BCNSENT 1 v))) ∧
    (o ≠ .sent → exec (.txOutcome dt) s = .next (after dt s (beaconMissed b.pan v)))) ∧
  (∀ (dt id first : Nat) (o : TxOutcome) (a : Attempt) (s : State), let t := elapse dt s
    let u := takeOutcome (id, o) t
    t.nextOutcome = some (id, o) → u.lnk.acks.find? (fun x => x.booking == id) = none →
    u.lnk.bookings.find? (fun x => x.booking == id) = none → u.lnk.attempts.find? (Attempt.bookedAs id) = some a →
    a.phase = .booked id first →
    let last := first + airCycles a.mode a.mpdu
    let stop := last + (countTry a u).get (LNK_PANn_TIME_ACKWAIT a.pan) * symCycles
    (o = .sent → a.ar = true → exec (.txOutcome dt) s = .next (after dt s (linkSettle
      (modAttempt a (fun x => { x with phase := .ackWait last stop }) (countTry a u))))) ∧
    (o = .sent → a.ar = false → a.for_ = .beacon → exec (.txOutcome dt) s = .next (after dt s (linkSettle
      (attemptSucceeded a (count LNK_CNT_BCNSENT 1 (countTry a u)))))) ∧
    (o = .sent → a.ar = false → a.for_ ≠ .beacon → exec (.txOutcome dt) s = .next (after dt s (linkSettle
      (attemptSucceeded a (keepGap (u.get (LNK_PANn_CFG_CH a.pan)) (last + ifsCycles a.mpdu) (countTry a u)))))) ∧
    (o = .underrun → exec (.txOutcome dt) s = .next (after dt s (linkSettle (attemptUnderran a (countTry a u))))) ∧
    (o ≠ .sent → o ≠ .underrun → exec (.txOutcome dt) s = .next (after dt s (linkSettle (channelBusy a u)))))

/-- A delivered frame whose turn has come and whose lookup and Gorse have answered is decided by the device with
authority, heard by a standby, and dropped where nobody decides or it is a revised acknowledgement. At the cut-off,
180 µs after its last chip, a decided frame is released as a whole when its journal record stands and, where it waits
for the partner, its mirror record too, and is withheld as a whole otherwise. An acknowledgement that answers an
attempt ends its wait, a secured one raising its node's counter; one that answers none is dropped. A wait that has
passed without a match ends unacknowledged. A Gorse request of the link sequencer for a downstream frame takes the
next counter of its space, secures the frame and makes it ready; one for a received frame gives it its verdict; one
for an Enh-Ack secures it, or withholds it where its key has changed or is not usable. -/
def Obligations.FramesAreDecidedAndReleased : Prop :=
  (∀ (dt lane code : Nat) (queue pan node : Option Nat) (f : RxFrame) (s : State), let t := elapse dt s
    t.inbox.find? (fun x => x.lane == lane) = some f → t.earlierWaits f = false →
    t.decideFrame f = .decide code queue pan node →
    (t.decidesAs (t.tsBack (t.cycles - f.lastChip)) = some true →
      exec (.decision dt lane) s = .next (after dt s (decideNow f code queue pan node t))) ∧
    (t.decidesAs (t.tsBack (t.cycles - f.lastChip)) = some false →
      exec (.decision dt lane) s = .next (after dt s (standbyHears f code node t))) ∧
    (t.decidesAs (t.tsBack (t.cycles - f.lastChip)) = none →
      exec (.decision dt lane) s = .next (after dt s (dropInbox f t)))) ∧
  (∀ (dt lane : Nat) (f : RxFrame) (s : State), let t := elapse dt s
    t.inbox.find? (fun x => x.lane == lane) = some f → t.earlierWaits f = false → t.decideFrame f = .drop →
    exec (.decision dt lane) s = .next (after dt s (dropInbox f t))) ∧
  (∀ (dt : Nat) (d : Decided) (s : State), let t := elapse dt s
    let u := modLnk (fun l => { l with decided := l.decided.filter (fun e => e.id != d.id) }) t
    t.nextCutOff = some d → d.frame.lastChip + 180 * usCycles ≤ t.cycles →
    exec (.mirrorCutOff dt) s = .next (after dt s (gaspFollows (keepPinned d u
      (if u.journalHolds d = false then withholdAll true d u
       else if d.gated = true ∧ u.mirrorHolds d = false then withholdMirror d u else releaseFrame d u))))) ∧
  (∀ (dt lane : Nat) (f : RxFrame) (m : Mhr) (a : Attempt) (s : State), let t := elapse dt s
    let u := dropInbox f t
    t.inbox.find? (fun x => x.lane == lane) = some f → t.decideFrame f = .ack → parseMhr f.mpdu = some m →
    u.lnk.attempts.find? (u.ackAnswers f m) = some a →
    (a.node = none ∨ m.secured = false → exec (.ackMatch dt lane) s = .next (after dt s
      (linkSettle (attemptSucceeded a (keepGap f.ch (f.lastChip + ifsCycles a.mpdu) u))))) ∧
    (∀ i : Nat, a.node = some i → m.secured = true →
      let v := updateNode i (fun os => nrSetFlag fNoctr false (nrSet nrInctr m.counter os)) u
      let old := u.nodeRec i
      let x := awaitJournal i u.jnl.nextTicket (some (nr old nrInctr, nr old nrLastseq, nrFlag old fNoctr))
        (jnlOffer recCounter (payCounter i m.counter (nr old nrLastseq) true) v)
      exec (.ackMatch dt lane) s = .next (after dt s
        (linkSettle (attemptSucceeded a (keepGap f.ch (f.lastChip + ifsCycles a.mpdu) x)))))) ∧
  (∀ (dt lane : Nat) (f : RxFrame) (m : Mhr) (s : State), let t := elapse dt s
    let u := dropInbox f t
    t.inbox.find? (fun x => x.lane == lane) = some f → t.decideFrame f = .ack → parseMhr f.mpdu = some m →
    u.lnk.attempts.find? (u.ackAnswers f m) = none →
    exec (.ackMatch dt lane) s = .next (after dt s u)) ∧
  (∀ (dt start stop : Nat) (a : Attempt) (s : State), let t := elapse dt s
    t.lnk.attempts.find? t.ackWaitOver = some a → a.phase = .ackWait start stop →
    exec (.ackWaitEnd dt) s = .next (after dt s (linkSettle (attemptUnacked a
      (keepGap (t.get (LNK_PANn_CFG_CH a.pan)) (stop + ifsCycles a.mpdu) t))))) ∧
  (∀ (dt q : Nat) (space : Space) (d : Down) (key os : Octets) (s : State), let t := elapse dt s
    let c := takeCounter space (count SEC_CNT_TX 1 t)
    let plain := patch d.plain (d.hdrLen - (if descCtl d.desc ctlIep then 2 else 0)
      - (5 + keyIdLen (descKim d.desc)) + 1) (le 4 c.1)
    t.lnk.down.find? (fun x => x.queue == q && x.needsKey) = some d → t.is SEC_CTRL_RUN = true →
    t.hasContext (.tx q) = true → t.slotMoved d = false → t.sec.kwk.isSome = true →
    t.outKey (descKim d.desc) (descSlot d.desc) d.node = some (key, space) → t.spaceExhausted space = false →
    t.spaceReady space = true → c.2.seal { d with counter := c.1, plain := plain, key := key } = some os →
    exec (.secRequest dt (.tx q)) s = .next (after dt s (frameReady d.id
      (modDown d.id (fun x => { x with counter := c.1, plain := plain, key := key, mpdu := os }) c.2)))) ∧
  (∀ (dt q : Nat) (d : Down) (s : State), let t := elapse dt s
    t.lnk.down.find? (fun x => x.queue == q && x.needsKey) = some d → t.is SEC_CTRL_RUN = true →
    t.hasContext (.tx q) = true → t.slotMoved d = false → t.outKey (descKim d.desc) (descSlot d.desc) d.node = none →
    exec (.secRequest dt (.tx q)) s = .next (after dt s (linkSettle (complete d stAborted (nokey t))))) ∧
  (∀ (dt lane i : Nat) (f : RxFrame) (m : Mhr) (s : State), let t := elapse dt s
    let r := rxRequest i f.gens (f.readPan % 16) m f.mpdu t
    t.inbox.find? (fun x => x.lane == lane) = some f → parseMhr f.mpdu = some m → m.type ≠ tyAck → f.look = .hit i →
    m.secured = true → f.verdict = none →
    exec (.secRequest dt (.rx lane)) s = .next (after dt s
      { r.2 with inbox := r.2.inbox.map (fun g => if g = f then { g with verdict := some r.1 } else g) })) ∧
  (∀ (dt b n gen : Nat) (a : AckBooking) (r : BookReq) (m : Mhr) (s : State), let t := elapse dt s
    let os := secureOctets (t.slot n).key (ccmNonce (t.panEui a.pan) m.counter m.level) m.level
      (r.mpdu.take (r.mpdu.length - micLen m.level)) []
    let put (x : BookReq) : BookReq := if x.id = b then { x with mpdu := os } else x
    t.lnk.acks.find? (fun a => a.booking == b) = some a → a.secure.isSome = true → a.slot = some (n, gen) →
    t.cod.asked.find? (fun r => r.id == b) = some r → parseMhr r.mpdu = some m → t.hasContext (.eack b) = true →
    (t.genMoved [(n, gen)] n = false → t.keyUsable n = true →
      exec (.secRequest dt (.eack b)) s = .next (after dt s
        (modLnk (fun l => { l with acks := l.acks.map (fun x => if x.booking = b then { x with secure := none } else x) })
          (modCod (fun c => { c with
            asked := c.asked.map put, placed := c.placed.map (fun x => { x with req := put x.req }) }) t)))) ∧
    (t.genMoved [(n, gen)] n = true →
      exec (.secRequest dt (.eack b)) s = .next (after dt s (withholdAck b (keyChanged t)))) ∧
    (t.genMoved [(n, gen)] n = false → t.keyUsable n = false →
      exec (.secRequest dt (.eack b)) s = .next (after dt s (withholdAck b (nokey t)))))

/-- A device that may book serves the next eligible queue: the head frame starts, the queue's deficit is kept and it
becomes the last served. A lookup's fill returns, and where the lookup met an error the downstream heads that waited
for it complete NO_NODE. A served write of LNK_DQ_ABORT aborts the queues named up to their PI; DQ_HALT writes 0 to
LNK_DQ_RUN. After the acknowledgement of a POLL the first held frame of the node is sent with CSMA-CA, its pending bit
telling of more at the first send; while that frame or its queue is busy the POLL stands, until INDWAIT has passed; a
node without held frames gets the empty answer. Every held frame past PERSIST ends EXPIRED. -/
def Obligations.DownstreamQueuesAreServed : Prop :=
  (∀ (dt q : Nat) (ds : List (Nat × Nat)) (s : State), let t := linkSettle (elapse dt s)
    let u := startHead q t
    let v := forEach ds (fun e w => setDeficit e.1 e.2 w) u
    t.mayBook = true → t.nextQueue = some (q, ds) → u.lnk.nextId ≠ t.lnk.nextId →
    exec (.downstreamStart dt) s = .next (after dt s (linkSettle (modLnk (fun l => { l with
      lastServed := q, deficits := l.deficits.filter (fun e => !v.qEmpty e.1) }) v)))) ∧
  (∀ (dt : Nat) (bad1 bad2 badRecord : Bool) (f : Fill) (s : State), let t := elapse dt s
    let u := fillReturns f bad1 bad2 badRecord t
    t.nextFill = some f → u.ctx.fills.elem f = false →
    ((fillReads f bad1 bad2 badRecord t).fillFails f bad1 bad2 badRecord = false →
      exec (.lookupFill dt bad1 bad2 badRecord) s = .next (after dt s u)) ∧
    ((fillReads f bad1 bad2 badRecord t).fillFails f bad1 bad2 badRecord = true →
      exec (.lookupFill dt bad1 bad2 badRecord) s = .next (after dt s
        (forEach (f.queues.filter (fun q => !u.qEmpty q && f.serves (destKey (u.get (LNK_DQn_PAN q)) (u.qDesc q (u.qCi q)))))
          (fun q v => completeHead q stNoNode v) u)))) ∧
  (∀ (dt : Nat) (acc : Access) (w : Word) (s : State), let t := elapse dt s
    verdict acc 0x200B0018 true t = .serve →
    exec (.dqAbort dt acc w) s = .next (after dt s (Sys2Proof.Machine.dqAbort w (written 0x200B0018 w t)))) ∧
  (∀ (dt : Nat) (s : State), let t := elapse dt s
    t.taskQueued 0x2C0 = true →
    exec (.dqHalt dt) s = .next (after dt s (endTask 0x2C0
      (changeMirrored 0x200B0014 (fun v => v.set LNK_DQ_RUN_RUN 0) t)))) ∧
  (∀ (dt node stop pan : Nat) (d : Down) (more : List Down) (s : State), let t := elapse dt s
    let deadline := stop + t.get (LNK_PANn_TIME_INDWAIT pan) * 16 * symCycles
    let u := modLnk (fun l => { l with polls := l.polls.erase (node, stop, pan) }) t
    let e := u.heldSend d (!more.isEmpty)
    t.lnk.polls.find? (fun e => e.1 == node) = some (node, stop, pan) → stop ≤ t.cycles → u.heldFor node = d :: more →
    u.attemptOf d.id = none → u.inFlight d.queue = none → d.ciOwed = none →
    exec (.indirectSend dt node) s = .next (after dt s
      (startDown e (some deadline) 0 (modDown d.id (fun _ => e) u)))) ∧
  (∀ (dt node stop pan : Nat) (d : Down) (more : List Down) (s : State), let t := elapse dt s
    let deadline := stop + t.get (LNK_PANn_TIME_INDWAIT pan) * 16 * symCycles
    let u := modLnk (fun l => { l with polls := l.polls.erase (node, stop, pan) }) t
    t.lnk.polls.find? (fun e => e.1 == node) = some (node, stop, pan) → stop ≤ t.cycles → u.heldFor node = d :: more →
    ((u.attemptOf d.id).isSome = true ∨ (u.inFlight d.queue).isSome = true ∨ d.ciOwed.isSome = true) →
    (u.cycles < deadline → exec (.indirectSend dt node) s = .next (after dt s
      (modLnk (fun l => { l with polls := (node, stop, pan) :: l.polls }) u))) ∧
    (deadline ≤ u.cycles → exec (.indirectSend dt node) s = .next (after dt s u))) ∧
  (∀ (dt node stop pan : Nat) (s : State), let t := elapse dt s
    let deadline := stop + t.get (LNK_PANn_TIME_INDWAIT pan) * 16 * symCycles
    let u := modLnk (fun l => { l with polls := l.polls.erase (node, stop, pan) }) t
    t.lnk.polls.find? (fun e => e.1 == node) = some (node, stop, pan) → stop ≤ t.cycles → u.heldFor node = [] →
    nrUsed (u.nodeRec node) = true →
    exec (.indirectSend dt node) s = .next (after dt s (sendEmpty node pan deadline u))) ∧
  (∀ (dt : Nat) (s : State), let t := elapse dt s
    exec (.heldExpiry dt) s = .next (after dt s (linkSettle (forEach
      (t.lnk.down.filter (fun d => d.held && t.passed d.heldFrom (t.get (LNK_PANn_TIME_PERSIST d.pan) * 960 * symCycles)))
      (fun d u => endHeld d stExpired u) t))))

/-- The end of a back-off whose frame may start books the chain, as class BEACON for a beacon and DATA otherwise, and
opens the CCA window, in a slotted PAN only where the frame, its acknowledgement and its spacing fit in the CAP. An
attempt whose instant has passed its deadline ends. At the end of a CCA a busy channel or a lost booking cancels the
booking and backs off again; a clear channel repeats the CCA in a slotted PAN and otherwise lets the frame go. -/
def Obligations.ChannelAccessFollowsCsma : Prop :=
  (∀ (dt pan stop : Nat) (who : AttemptFor) (a : Attempt) (s : State), let t := elapse dt s
    let ch := t.get (LNK_PANn_CFG_CH pan)
    let t0 := t.boundary pan t.cycles
    let first := if t.panBeacons pan then t0 + 2 * backoffUnit else t0 + ccaCycles + turnaround
    let wait := if a.ar then t.get (LNK_PANn_TIME_ACKWAIT pan) * symCycles else 0
    t.attempt pan who = some a → a.phase = .backoff stop → stop ≤ t.cycles → t.panRuns pan = true → t.mayBook = true →
    t.startAcked a = true → (∀ d : Nat, a.deadline = some d → first ≤ d) →
    (t.panBeacons pan = true → t.capOpen pan = true ∧ ∃ b stop, t.activeBeacon pan = some (b, stop) ∧
      first + airCycles a.mode a.mpdu + wait + ifsCycles a.mpdu ≤ t.activeEnd pan b) →
    t.channelTaken ch a = false → (a.for_ = .beacon ∨ t.gapOf ch ≤ first) →
    exec (.backoffEnd dt pan who) s = .next (after dt s
      (modAttempt a (fun x => { x with phase := .cca (t0 + ccaCycles) t.cod.nextId first })
        (book (if a.for_ = .beacon then .beacon else .data) ch a.mode first (t.sigFor a.node) a.mpdu t)))) ∧
  (∀ (dt pan stop deadline : Nat) (who : AttemptFor) (a : Attempt) (s : State), let t := elapse dt s
    t.attempt pan who = some a → a.phase = .backoff stop → stop ≤ t.cycles → t.panRuns pan = true → t.mayBook = true →
    t.startAcked a = true → a.deadline = some deadline →
    deadline < t.boundary pan t.cycles + (if t.panBeacons pan then 2 * backoffUnit else ccaCycles + turnaround) →
    exec (.backoffEnd dt pan who) s = .next (after dt s (linkSettle (dropAttempt a t)))) ∧
  (∀ (dt pan stop b first : Nat) (who : AttemptFor) (a : Attempt) (p0 p1 p2 p3 : Nat) (s : State),
    let t := elapse dt s
    let energy := p0 + p1 + p2 + p3
    t.attempt pan who = some a → a.phase = .cca stop b first → stop ≤ t.cycles →
    (t.ccaBusy pan energy = true → t.bookingHolds b = true →
      exec (.ccaEnd dt pan who p0 p1 p2 p3) s = .next (after dt s
        (linkSettle (channelBusy a (Sys2Proof.Machine.cancel b t))))) ∧
    (t.bookingHolds b = false →
      exec (.ccaEnd dt pan who p0 p1 p2 p3) s = .next (after dt s (linkSettle (channelBusy a t)))) ∧
    (t.ccaBusy pan energy = false → t.bookingHolds b = true → t.panBeacons pan = true → 1 < a.cw →
      exec (.ccaEnd dt pan who p0 p1 p2 p3) s = .next (after dt s
        (modAttempt a (fun x => { x with cw := a.cw - 1, phase := .cca (stop + backoffUnit) b first }) t))) ∧
    (t.ccaBusy pan energy = false → t.bookingHolds b = true → (t.panBeacons pan = false ∨ a.cw ≤ 1) →
      exec (.ccaEnd dt pan who p0 p1 p2 p3) s = .next (after dt s
        (modAttempt a (fun x => { x with phase := .booked b first }) t))))

/-- 2 ms before the next instant of a beacon-enabled PAN that runs, its beacon is booked at that instant and the nodes it
lists move to the end of the pending ring; in STANDBY a chain is tuned to its channel instead. A non-beacon PAN that
was asked for a beacon starts its channel access. An active period ends at its time. Outside STANDBY a served write of
LNK_CTRL stops the PANs whose bit falls and is mirrored, and one of LNK_ADM limits M to 18, stops the pacer and is
mirrored; in STANDBY both are ignored. ADM_NEXT advances INDEX modulo 2^M. -/
def Obligations.BeaconsAndLinkRegistersTakeEffect : Prop :=
  (∀ (dt pan : Nat) (s : State), let t := elapse dt s
    let at_ := t.nextInstant pan
    let u := modLnk (fun l => { l with handled := (pan, at_) :: l.handled.filter (fun e => e.1 != pan) }) t
    let nodes := u.listed pan
    t.panRuns pan = true → t.panBeacons pan = true → at_ ≤ t.ts + 2 * msCycles → pan < 16 →
    (t.mode ≠ .standby → t.mayBook = true →
      (∀ c ∈ t.beaconTimes pan, c + u.beaconInterval pan ≤ u.cycles + (at_ - u.ts) + msCycles) →
      exec (.beaconBooking dt pan) s = .next (after dt s (rotateRing nodes
        (modLnk (fun l => { l with bookings := l.bookings ++
            [{ pan := pan, booking := u.cod.nextId, instant := at_, first := u.cycles + (at_ - u.ts) }] })
          (book .beacon (u.get (LNK_PANn_CFG_CH pan)) 0 (u.cycles + (at_ - u.ts)) none (u.beaconMpdu pan) u))))) ∧
    (t.mode = .standby → exec (.beaconBooking dt pan) s = .next (after dt s
      (holdChannel (t.get (LNK_PANn_CFG_CH pan)) t)))) ∧
  (∀ (dt pan : Nat) (s : State), let t := elapse dt s
    let u := modLnk (fun l => { l with bcnreqs := l.bcnreqs.filter (· != pan) }) t
    t.lnk.bcnreqs.elem pan = true → t.mayBook = true → u.panRuns pan = true → u.panBeacons pan = false →
    u.attempt pan .beacon = none →
    exec (.bcnreqBeacon dt pan) s = .next (after dt s
      (startAttempt .beacon pan 0 (u.beaconMpdu pan) ((u.get (LNK_PANn_STAT_BSN pan) + 1) % 256) false none none 0 u))) ∧
  (∀ (dt pan first stop : Nat) (s : State), let t := elapse dt s
    t.activeBeacon pan = some (first, stop) → t.activeEnd pan first ≤ t.cycles →
    exec (.activePeriodEnd dt pan) s = .next (after dt s
      (modLnk (fun l => { l with beacons := l.beacons.filter (fun e => e.1 != pan) }) t))) ∧
  (∀ (dt : Nat) (acc : Access) (w : Word) (s : State), let t := elapse dt s
    verdict acc 0x200B0000 true t = .serve →
    ((meetDomain domLnk t).mode ≠ .standby → exec (.panrunWrite dt acc w) s = .next (after dt s
      (panrunWrite ((meetDomain domLnk t).word 0x200B0000) (written 0x200B0000 w t)))) ∧
    ((meetDomain domLnk t).mode = .standby → exec (.panrunWrite dt acc w) s = .next (after dt s
      { meetDomain domLnk t with resp := .ok }))) ∧
  (∀ (dt : Nat) (acc : Access) (w : Word) (s : State), let t := elapse dt s
    verdict acc admAddr true t = .serve →
    ((meetDomain domLnk t).mode ≠ .standby → exec (.admWrite dt acc w) s = .next (after dt s
      (admWrite ((meetDomain domLnk t).word admAddr) (written admAddr w t)))) ∧
    ((meetDomain domLnk t).mode = .standby → exec (.admWrite dt acc w) s = .next (after dt s
      { meetDomain domLnk t with resp := .ok }))) ∧
  (∀ (dt : Nat) (s : State), let t := elapse dt s
    t.taskQueued 0x2C1 = true →
    exec (.admNext dt) s = .next (after dt s (endTask 0x2C1 (changeMirrored admAddr
      (fun v => v.set LNK_ADM_INDEX ((v.get LNK_ADM_INDEX + 1) % 2 ^ v.get LNK_ADM_M)) t))))

/-- For every page below 8 and every served write of its PGn_CTRL while no operation of the page runs: GO alone starts the
operation PGn_OP names, for each of the nine operations, where its arguments and rights hold: the page is BUSY, holds
the slot named and its generation, and the operation waits its turn. Without the right, or with a slot above 575, it
ends DENIED; with an operation code above 8 or lengths above 4,096 together it ends BADARG; neither has another
effect. CLEAR alone zeroises the page key, tag and nonce. ABORT of a running operation ends it ABORTED, or as it
completes with ABORT_LATE where the two meet. -/
def Obligations.PageOperationsStartAsWritten : Prop :=
  (∀ (dt page : Nat) (acc : Access) (w : Word) (s : State), let t := elapse dt s
    let a := pageCtrlAddr page
    let u := (written a w t).set (PGn_CTRL_CLEAR page) 0
    let done (v : State) : State := (v.set (PGn_CTRL_ABORT page) 0).set (PGn_CTRL_GO page) (flag (v.pageRun page).isSome)
    verdict acc a true t = .serve → (written a w t).pageRun page = none → wrote w (PGn_CTRL_GO page) = true →
    wrote w (PGn_CTRL_ABORT page) = false → wrote w (PGn_CTRL_CLEAR page) = false →
    (u.pageBad page = false → u.pageDenied page = false →
      let slot := u.pageSlot page
      let gen := match slot with
        | some k => (u.slot k).gen
        | none => 0
      let run : PageRun := { page := page, acc := acc, slot := slot, gen := gen, words := u.pageLatch page }
      let v := modSec (fun g => { g with pages := g.pages ++ [run] }) ((u.set (PGn_GEN page) gen).set (PGn_STAT_BUSY page) 1)
      (u.get (PGn_OP_OP page) = 0 → exec (.pageCcmSecure dt acc page w) s = .next (after dt s (done v))) ∧
      (u.get (PGn_OP_OP page) = 1 → exec (.pageCcmUnsecure dt acc page w) s = .next (after dt s (done v))) ∧
      (u.get (PGn_OP_OP page) = 2 → exec (.pageCmac dt acc page w) s = .next (after dt s (done v))) ∧
      (u.get (PGn_OP_OP page) = 3 → exec (.pageEcb dt acc page w) s = .next (after dt s (done v))) ∧
      (u.get (PGn_OP_OP page) = 4 → exec (.pageWrap dt acc page w) s = .next (after dt s (done v))) ∧
      (u.get (PGn_OP_OP page) = 5 → exec (.pageUnwrap dt acc page w) s = .next (after dt s (done v))) ∧
      (u.get (PGn_OP_OP page) = 6 → exec (.pageDerive dt acc page w) s = .next (after dt s (done v))) ∧
      (u.get (PGn_OP_OP page) = 7 → exec (.pageCopy dt acc page w) s = .next (after dt s (done v))) ∧
      (u.get (PGn_OP_OP page) = 8 → exec (.pageErase dt acc page w) s = .next (after dt s (done v)))) ∧
    (u.pageBad page = false → u.pageDenied page = true →
      exec (.pageErase dt acc page w) s = .next (after dt s (done (pageEnd page pgDenied u)))) ∧
    (u.pageBad page = true →
      exec (.pageBadarg dt acc page w) s = .next (after dt s (done (pageEnd page pgBadarg u))))) ∧
  (∀ (dt page : Nat) (acc : Access) (w : Word) (s : State), let t := elapse dt s
    let a := pageCtrlAddr page
    let u := written a w t
    let z := putPageWords (PGn_KEY0 page).addr (zeros 16)
      (putPageWords (PGn_TAG0 page).addr (zeros 16) (putPageWords (PGn_NONCE0 page).addr (zeros 16) u))
    verdict acc a true t = .serve → u.pageRun page = none → wrote w (PGn_CTRL_GO page) = false →
    wrote w (PGn_CTRL_CLEAR page) = true →
    exec (.pageClear dt acc page w) s = .next (after dt s
      (((z.set (PGn_CTRL_CLEAR page) 0).set (PGn_CTRL_ABORT page) 0).set (PGn_CTRL_GO page)
        (flag (z.pageRun page).isSome)))) ∧
  (∀ (dt page : Nat) (acc : Access) (w : Word) (finished : Bool) (r : PageRun) (s : State), let t := elapse dt s
    let a := pageCtrlAddr page
    let u := (written a w t).set (PGn_CTRL_CLEAR page) 0
    let v := if finished then (pageComplete r false false u).set (PGn_STAT_ABORT_LATE page) 1 else pageEnd page pgAborted u
    verdict acc a true t = .serve → (written a w t).pageRun page = some r → wrote w (PGn_CTRL_GO page) = false →
    wrote w (PGn_CTRL_ABORT page) = true → wrote w (PGn_CTRL_CLEAR page) = false →
    exec (.pageAbort dt acc page w finished) s = .next (after dt s
      (v.set (PGn_CTRL_GO page) (flag (v.pageRun page).isSome))))

/-- A reservation whose record is durable and acknowledged makes its block usable, and every reservation still wanted that
was refused 1 ms ago or more is tried again. The page served next completes; AES-ECB of a page key, with the page's
registers as GO found them, writes the encrypted block to DST and ends DONE. An armed alarm source that fires zeroises
Gorse, clears RUN, sets its bit in SEC_ALARM, counts it, flags it and raises the alarm event. ZEROISE fires the source
SW, by a served write of SEC_CTRL, whose bit then reads 0, and as the task. A write of SEC_CTRL that sets RUN after an
alarm rebuilds the keys and raises REBUILT. SEC_ALARM bits written 1 clear where their source is not active; with the
last one Gorse derives the KWK and runs its known-answer test. -/
def Obligations.GorseAlarmsAndReservationsTakeEffect : Prop :=
  (∀ (dt : Nat) (r : Resv) (s : State), let t := elapse dt s
    let u := modSec (fun g => { g with resvs := g.resvs.filter (fun x => !(x.group == r.group && x.id == r.id)) }) t
    t.sec.resvs.find? t.resvReady = some r →
    exec (.reservationDurable dt) s = .next (after dt s (reserve { group := r.group, id := r.id }
      (if r.group then modGroup r.id (fun g => { g with block := some r.block }) u
       else useFree (updateNodeIf (u.freeNow % 2 == 1) r.id (nrSet nrReserved (r.block % 2 ^ 20 + 2 ^ 20)) u))))) ∧
  (∀ (dt : Nat) (s : State), let t := elapse dt s
    exec (.reservationRetry dt) s = .next (after dt s
      (forEach (t.sec.resvs.filter (fun r => t.resvRefused r && t.passed r.since msCycles &&
        t.resvWanted { group := r.group, id := r.id }))
        (fun r u => reserveBlock { group := r.group, id := r.id } r.block u) t))) ∧
  (∀ (dt : Nat) (fault memErr : Bool) (r : PageRun) (s : State), let t := elapse dt s
    t.nextPage = some r →
    exec (.pageDone dt fault memErr) s = .next (after dt s
      (modSec (fun g => { g with served := r.page }) (pageComplete r fault memErr t)))) ∧
  (∀ (dt : Nat) (r : PageRun) (input : Octets) (a b : State) (s : State), let t := elapse dt s
    let n := r.page
    let v := t.pageView r
    let c := count SEC_CNT_FBOPS (v.pageBlocks n) a
    t.nextPage = some r → r.slot = none → v.get (PGn_OP_OP n) = 3 →
    engineRead r.acc (v.pageSrc n) 16 t = (some input, a) →
    (aes (v.pageKey n) input).isEmpty = false → engineWrite r.acc (v.pageDst n) (aes (v.pageKey n) input) c = (true, b) →
    exec (.pageDone dt false false) s = .next (after dt s
      (modSec (fun g => { g with served := n }) (pageEnd n pgDone b)))) ∧
  (∀ (dt source live : Nat) (s : State), let t := elapse dt s
    let u := modSec (fun g => { g with live := live % 32 }) { t with alarms := t.alarms.erase source }
    source < 4 → bitAt (t.get ⟨0x20090018, 0, 6⟩) source = true →
    exec (.faultAlarm dt source live) s = .next (after dt s
      (let z := raise SEC_INT_STAT_ALARM (count SEC_ALARM_CNT_COUNT 1
         (raise ⟨0x20090010, source, 1⟩ (Sys2Proof.Machine.zeroise u)))
       emit 0x240 0 z))) ∧
  (∀ (dt : Nat) (acc : Access) (w : Word) (s : State), let t := elapse dt s
    verdict acc 0x20090000 true t = .serve →
    exec (.zeroise dt (.write acc w)) s = .next (after dt s
      (secCtrlWrite (t.word 0x20090000) w (written 0x20090000 w t))) ∧
    exec (.rebuilt dt acc w) s = .next (after dt s
      (secCtrlWrite (t.word 0x20090000) w (written 0x20090000 w t))) ∧
    exec (.alock dt acc w) s = .next (after dt s
      (secCtrlWrite (t.word 0x20090000) w (written 0x20090000 w t)))) ∧
  (∀ (old w : Word) (u : State), wrote w SEC_CTRL_RUN = false → u.is SEC_CTRL_RUN = false →
    secCtrlWrite old w u = (if wrote w SEC_CTRL_ZEROISE then startTask 0x240 { u with alarms := u.alarms ++ [5] } else u).set
      SEC_CTRL_ZEROISE 0) ∧
  (∀ (old w : Word) (u : State), wrote w SEC_CTRL_ZEROISE = false → bitAt old.toNat 0 = true →
    u.is SEC_CTRL_RUN = true → u.sec.cleared = true →
    let n := u.imageKeys.length
    let v := (unwrapAll (u.openFlags n) u.imageKeys (modSec (fun g => { g with pmks := [] }) (useFrees n u))).2
    secCtrlWrite old w u = (emit 0x244 0 (modSec (fun g => { g with cleared := false })
      (forEach v.ctx.hot (fun h x => slotRebuild (x.freeNow % 2 == 1) h.1 h.2.os (useFree x)) v))).set SEC_CTRL_ZEROISE 0) ∧
  (∀ (dt : Nat) (s : State), let t := elapse dt s
    t.taskQueued 0x240 = true →
    exec (.zeroise dt .task) s = .next (after dt s (fireSw (takeTask 0x240 t)))) ∧
  (∀ (dt katFail : Nat) (acc : Access) (w : Word) (s : State), let t := elapse dt s
    let u := written 0x20090010 w t
    let v := modSec (fun g => { g with live := 0 }) (u.set ⟨0x20090010, 0, 6⟩ 0)
    verdict acc 0x20090010 true t = .serve → (t.word 0x20090010).toNat % 64 ≠ 0 → u.get ⟨0x20090010, 0, 6⟩ = 0 →
    exec (.alarmClear dt acc w 0 katFail) s = .next (after dt s
      (modSec (fun g => { g with cleared := true }) (knownAnswerTest katFail (deriveKwk v)))))

/-- A lane whose source address is parsed makes its one lookup: without an address, or with a short one in no PAN, it
misses, a hot context that answers is a hit and is counted and used, and otherwise a fill starts. A dirty record whose
interval has passed starts its write-back; a served write of CTX_CTRL.FLUSH and the task start those of every dirty
record. A write that ends stores the record with its checksum at the node's place in the table, counts CTX_CNT_WBACK
and leaves the buffer without it, or the record clean, where it shows all that the journal holds, and otherwise dirty;
a refused one leaves the record dirty and is an error of the store. The oldest address returns to free once it has
been in quarantine for CTX_QUAR seconds. -/
def Obligations.LookupsAndWriteBacksTakeEffect : Prop :=
  (∀ (dt lane : Nat) (s : State), let t := elapse dt s
    let k := t.sourceKey (t.lane lane).ch (t.lane lane).addressed
    let u := lookupIssued lane k t
    t.lookupWaits lane = true →
    (keyOfNoLookup k = true → exec (.lookup dt lane) s = .next (after dt s (lookupMisses lane k u))) ∧
    (∀ (n : Nat) (h : Hot), keyOfNoLookup k = false → u.hotHit k = some (n, h) →
      exec (.lookup dt lane) s = .next (after dt s (lookupHits lane k n h.node u))) ∧
    (keyOfNoLookup k = false → u.hotHit k = none →
      exec (.lookup dt lane) s = .next (after dt s (startFill k [lane] [] u)))) ∧
  (∀ (dt i : Nat) (s : State), let t := elapse dt s
    t.writeBackDue i = true → exec (.writeBack dt (.due i)) s = .next (after dt s (startWriteBack i t))) ∧
  (∀ (dt : Nat) (acc : Access) (w : Word) (s : State), let t := elapse dt s
    verdict acc 0x200A0000 true t = .serve → wrote w CTX_CTRL_FLUSH = true →
    exec (.writeBack dt (.write acc w)) s = .next (after dt s
      (contextFlush (startTask 0x280 (written 0x200A0000 w t))))) ∧
  (∀ (dt : Nat) (s : State), let t := elapse dt s
    t.taskQueued 0x280 = true →
    exec (.writeBack dt .task) s = .next (after dt s (contextFlush (takeTask 0x280 t)))) ∧
  (∀ (dt node at_ : Nat) (os : Octets) (ok : Bool) (s : State), let t := elapse dt s
    t.ctx.wb.find? (fun e => e.1 == node && e.2.2.1) = some (node, os, true, at_) →
    ((ok && (t.locate (t.nodeAddr node) 256).isSome) = true →
      exec (.writeBackDone dt node ok) s = .next (after dt s
        (flushEnds (modCtx (fun c => { c with wb := c.wb.filterMap (fun x =>
            if x.1 = node then (if t.shownOf node os != os then some (x.1, x.2.1, false, t.cycles) else none) else some x) })
          (enginePut 1 (t.nodeAddr node) (withCheck (t.shownOf node os)) (count CTX_CNT_WBACK 1 t)))))) ∧
    ((ok && (t.locate (t.nodeAddr node) 256).isSome) = false →
      exec (.writeBackDone dt node ok) s = .next (after dt s
        (flushEnds (contextError (modCtx (fun c => { c with wb := c.wb.map (fun x =>
          if x.1 = node then (x.1, x.2.1, false, t.cycles) else x) }) t)))))) ∧
  (∀ (dt node n : Nat) (h : Hot) (ok : Bool) (s : State), let t := elapse dt s
    t.ctx.wb.find? (fun e => e.1 == node && e.2.2.1) = none → t.hotOf node = some (n, h) → h.writing = true →
    let left := if t.shownOf node h.os = h.os then none else some t.cycles
    ((ok && (t.locate (t.nodeAddr node) 256).isSome) = true →
      exec (.writeBackDone dt node ok) s = .next (after dt s
        (flushEnds (modHot n (fun x => { x with os := withCheck x.os, dirty := left, writing := false })
          (enginePut 1 (t.nodeAddr node) (withCheck (t.shownOf node h.os)) (count CTX_CNT_WBACK 1 t)))))) ∧
    ((ok && (t.locate (t.nodeAddr node) 256).isSome) = false →
      exec (.writeBackDone dt node ok) s = .next (after dt s
        (flushEnds (contextError (modHot n (fun x => { x with dirty := some t.cycles, writing := false }) t)))))) ∧
  (∀ (dt pan a since : Nat) (rest : List (Nat × Nat × Nat)) (s : State), let t := elapse dt s
    t.ctx.quar = (pan, a, since) :: rest → t.passed since (t.get CTX_QUAR_SEC * secCycles) = true →
    exec (.quarantineExpiry dt) s = .next (after dt s (setMapEntry pan a 0 (modCtx (fun c => { c with quar := rest }) t))))

/-- For both channels and each operation 0 to 9 of CTX_CMDx: a served write that has GO while the channel is not BUSY
captures the command in the order of GO; an operation of 10 to 15 is captured with result BADARG. While BUSY is 1 the
write is ignored and counted in CTX_CNT_CMDREJ. When the first command that has a result ends, RESULT, REVIVED and
INDEX show it, BUSY and GO fall, CTX_CNT_CMD counts it and event 0x280 is produced. -/
def Obligations.ContextCommandsRunAsWritten : Prop :=
  (∀ (dt ch : Nat) (acc : Access) (w : Word) (ecc : Bool) (s : State), let t := elapse dt s
    let a := cmdAddr ch
    let u := cmdStart ch ecc (written a w t)
    let op := (written a w t).get (chanFld ch CTX_CMDA_OP)
    ch < 2 → verdict acc a true t = .serve → wrote w CTX_CMDA_GO = true →
    State.is { meetDomain (domainOfBlock (blockOf a)) t with resp := .ok } (chanFld ch CTX_RESA_BUSY) = false →
    (op = 0 → exec (.ctxRead dt acc ch w ecc) s = .next (after dt s u)) ∧
    (op = 1 → exec (.ctxCreate dt acc ch w ecc) s = .next (after dt s u)) ∧
    (op = 2 → exec (.ctxRestore dt acc ch w ecc) s = .next (after dt s u)) ∧
    (op = 3 → exec (.ctxUpdate dt acc ch w ecc) s = .next (after dt s u)) ∧
    (op = 4 → exec (.ctxRekey dt acc ch w ecc) s = .next (after dt s u)) ∧
    (op = 5 → exec (.ctxRetire dt acc ch w ecc) s = .next (after dt s u)) ∧
    (op = 6 → exec (.ctxPurge dt acc ch w ecc) s = .next (after dt s u)) ∧
    (op = 7 → exec (.ctxAlloc dt acc ch w ecc) s = .next (after dt s u)) ∧
    (op = 8 → exec (.ctxBind dt acc ch w ecc) s = .next (after dt s u)) ∧
    (op = 9 → exec (.ctxUnbind dt acc ch w ecc) s = .next (after dt s u)) ∧
    (9 < op → exec (.ctxBadop dt acc ch w ecc) s = .next (after dt s u))) ∧
  (∀ (dt ch : Nat) (acc : Access) (w : Word) (ecc : Bool) (s : State), let t := elapse dt s
    let a := cmdAddr ch
    let u : State := { meetDomain (domainOfBlock (blockOf a)) t with resp := .ok }
    ch < 2 → verdict acc a true t = .serve → u.is (chanFld ch CTX_RESA_BUSY) = true →
    exec (.ctxRead dt acc ch w ecc) s = .next (after dt s (count CTX_CNT_CMDREJ 1 u))) ∧
  (∀ (dt r : Nat) (c : CtxCmd) (s : State), let t := cmdAdvance (elapse dt s)
    t.ctx.cmds.find? (fun c => c.result.isSome) = some c → c.result = some r →
    exec (.cmdDone dt) s = .next (after dt s (cmdReport c r t))) ∧
  (∀ (c : CtxCmd) (s : State),
    s.ctx.cmds.find? (fun c => c.result.isNone) = some c → s.ackedM c.gate = true → c.ticket = none →
    (s.cmdVerdict c ≠ ctxOk → cmdStep s = cmdResult c (s.cmdVerdict c) s) ∧
    (s.cmdVerdict c = ctxOk → s.cmdResets c = false → cmdStep s = cmdApply c s) ∧
    (s.cmdVerdict c = ctxOk → s.cmdResets c = true →
      cmdStep s = jnlOffer recIreset c.node (modCmd c.chan (fun x => { x with ticket := some s.jnl.nextTicket }) s)))

/-- Outside STANDBY the head of the input buffer is counted and routed: to a flow, to a raw queue with room, or it waits
as the head where that queue is full; a waiting head is written once the queue has room. A class's open batch closes
with cause WAIT at its first append plus WAIT, and a served write of SHF_CTRL.FLUSH or the task closes every open
batch. A flush ends when no batch it closed still waits: FLUSH falls, FLUSHDONE is set and event 0x3C5 carries the
task's hop count. Windows are emitted 0.2 s after their end. A waiting batch is written when its queue has room. In
LOAD, after journal recovery, the table is rebuilt. -/
def Obligations.SheafProcessesFramesAndBatches : Prop :=
  (∀ (dt : Nat) (err : Bool) (lost : Bool × Bool) (f : ShfFrame) (raw : Option Nat) (u s : State), let t := elapse dt s
    t.shadowSheaf = false → t.shf.input.head? = some f → t.shf.rawWait = none →
    routeFrame f err lost (count SHF_CNT_IN 1 t) = (raw, u) →
    (raw = none → exec (.sheafProcess dt err lost) s = .next (after dt s (frameDone f u))) ∧
    (∀ q : Nat, raw = some q → u.qFull (48 + q) = false →
      exec (.sheafProcess dt err lost) s = .next (after dt s (frameDone f (writeRaw f (48 + q) u)))) ∧
    (∀ q : Nat, raw = some q → u.qFull (48 + q) = true →
      exec (.sheafProcess dt err lost) s = .next (after dt s (modShf (fun h => { h with rawWait := some (48 + q) }) u)))) ∧
  (∀ (dt q : Nat) (f : ShfFrame) (s : State), let t := elapse dt s
    t.shf.rawWait = some q → t.shf.input.head? = some f → t.qFull q = false →
    exec (.rawQueueRoom dt) s = .next (after dt s (frameDone f (writeRaw f q t)))) ∧
  (∀ (dt cls : Nat) (s : State), let t := elapse dt s
    let b := (t.batchClass cls).cur
    t.shadowSheaf = false → cls < 16 → b.firstAt + b.wait * 320000 ≤ t.ts →
    exec (.batchAgeClose dt cls) s = .next (after dt s (closeBatch cls closeWait t))) ∧
  (∀ (dt : Nat) (acc : Access) (w : Word) (s : State), let t := elapse dt s
    verdict acc 0x200F0000 true t = .serve → wrote w SHF_CTRL_FLUSH = true →
    exec (.flush dt (.write acc w)) s = .next (after dt s (sheafFlush (startTask 0x3C0 (written 0x200F0000 w t))))) ∧
  (∀ (dt : Nat) (s : State), let t := elapse dt s
    t.taskQueued 0x3C0 = true → exec (.flush dt .task) s = .next (after dt s (sheafFlush (takeTask 0x3C0 t)))) ∧
  (∀ (dt : Nat) (s : State), let t := elapse dt s
    t.is SHF_CTRL_FLUSH = true → t.flushWaits = false →
    exec (.flushDone dt) s = .next (after dt s
      (emit 0x3C5 (t.taskHop 0x3C0) (raise SHF_INT_STAT_FLUSHDONE (endTask 0x3C0 (t.set SHF_CTRL_FLUSH 0)))))) ∧
  (∀ (dt stop : Nat) (s : State), let t := elapse dt s
    t.nextWindow = some stop → t.shadowSheaf = false → stop + ticksPerSecond / 5 ≤ t.ts →
    exec (.window dt) s = .next (after dt s (emitWindows stop t))) ∧
  (∀ (dt cls bseq : Nat) (os : Octets) (flushed : Bool) (s : State), let t := elapse dt s
    cls < 16 → (t.batchClass cls).waiting = some (os, bseq, flushed) → t.qFull (32 + cls) = false →
    exec (.waitingBatchWrite dt cls) s = .next (after dt s
      (writeBatch cls bseq os (setClass cls { t.batchClass cls with waiting := none } t)))) ∧
  (∀ (dt : Nat) (badHeader : Bool) (bad : List Nat) (s : State), let t := elapse dt s
    let r := readTableHeader badHeader t
    t.mode = .load → t.get JNL_STAT_STATE = jnlReady → t.get DMC_STAT_STATE = dmcReady → t.get CTX_STAT_TABLE = tableNone →
    exec (.tableRebuild dt badHeader bad) s = .next (after dt s (loadEnds (rebuildEnds r.1 (rebuildTable r.1 bad r.2)))))

/-- A link that may come up in full duplex produces event 0x400, shows its speed and makes its port active where the other
port is down. A lost link produces 0x401 and, on the active port with the other one up, fails over. With REVERT the
port named by PREF becomes active again 1 s after its link came up. A GO of UPL_MDIOp_CMD that no transaction is under
way for starts one, for each of the four operations; its end stores what a read got, 0xFFFF where nothing was driven,
clears GO and raises the port's flag. Every ARPREF seconds the next hop is resolved; a try unanswered for 1 s is
followed by another up to three, then NHFAIL is raised. -/
def Obligations.UpstreamPortsFollowTheirLinks : Prop :=
  (∀ (dt p signalled : Nat) (s : State), let t := elapse dt s
    let u := emit 0x400 0 (setLink p true t)
    let n := u.linkSpeed p signalled
    let v := watchPtp (fun x => if p = 0 then x.set UPL_STAT_SPEED0 n else x.set UPL_STAT_SPEED1 n) u
    p < 2 → t.ethRuns p = true → t.portUp p = false →
    (v.portUp (1 - p) = true → exec (.linkUp dt p signalled true) s = .next (after dt s v)) ∧
    (v.portUp (1 - p) = false → exec (.linkUp dt p signalled true) s = .next (after dt s (becomeActive p v)))) ∧
  (∀ (dt p : Nat) (s : State), let t := elapse dt s
    let u := cutShort p (emit 0x401 0 (setLink p false t))
    p < 2 → t.portUp p = true →
    (u.portUp (1 - p) = false →
      exec (.linkDown dt p) s = .next (after dt s (raise UPL_INT_STAT_NOPORT u))) ∧
    (u.portUp (1 - p) = true → u.get UPL_STAT_ACTIVE = p →
      exec (.linkDown dt p) s = .next (after dt s (becomeActive (1 - p)
        (modUpl (fun x => { x with replies := x.replies.map (fun r => if r.1 = p then (1 - p, r.2) else r) })
          (emit 0x402 0 (raise UPL_INT_STAT_FAILOVER (count UPL_CNT_FAILOVER 1 u))))))) ∧
    (u.portUp (1 - p) = true → u.get UPL_STAT_ACTIVE ≠ p → exec (.linkDown dt p) s = .next (after dt s u))) ∧
  (∀ (dt p : Nat) (s : State), let t := elapse dt s
    t.get UPL_CFG_PREF = p → t.is UPL_CFG_REVERT = true → t.portUp p = true → t.get UPL_STAT_ACTIVE ≠ p →
    t.passed (if p = 0 then t.upl.upFrom0 else t.upl.upFrom1) secCycles = true →
    exec (.revert dt) s = .next (after dt s (becomeActive p t))) ∧
  (∀ (dt p : Nat) (acc : Access) (w : Word) (s : State), let t := elapse dt s
    let u := written (mdioAddr p) w t
    let v := modUpl (fun x => { x with mdio := x.mdio ++ [(p, (u.word (mdioAddr p)).toNat, u.get (UPL_MDIOp_DATA_DATA p))] }) u
    p < 2 → verdict acc (mdioAddr p) true t = .serve → t.is (UPL_MDIOp_CMD_GO p) = false →
    wrote w (UPL_MDIOp_CMD_GO 0) = true →
    (u.get (UPL_MDIOp_CMD_C45 p) = 1 → u.get (UPL_MDIOp_CMD_OP p) = 0 →
      exec (.mdioAddress dt acc p w) s = .next (after dt s v)) ∧
    (u.get (UPL_MDIOp_CMD_OP p) = 1 → exec (.mdioWrite dt acc p w) s = .next (after dt s v)) ∧
    (u.get (UPL_MDIOp_CMD_OP p) = 3 - (1 - u.get (UPL_MDIOp_CMD_C45 p)) →
      exec (.mdioRead dt acc p w) s = .next (after dt s v)) ∧
    (u.get (UPL_MDIOp_CMD_C45 p) = 1 → u.get (UPL_MDIOp_CMD_OP p) = 2 →
      exec (.mdioReadIncrement dt acc p w) s = .next (after dt s v))) ∧
  (∀ (dt p cmd data : Nat) (value : Option Nat) (s : State), let t := elapse dt s
    let u := modUpl (fun x => { x with mdio := x.mdio.filter (fun e => e.1 != p) }) t
    let v := if mdioReads cmd = true then u.set (UPL_MDIOp_DATA_DATA p) (value.getD 0xFFFF) else u
    p < 2 → t.upl.mdio.find? (fun e => e.1 == p) = some (p, cmd, data) →
    exec (.mdioDone dt p value) s = .next (after dt s
      (raise (if p = 0 then UPL_INT_STAT_MDIO0DONE else UPL_INT_STAT_MDIO1DONE) (v.set (UPL_MDIOp_CMD_GO p) 0)))) ∧
  (∀ (dt : Nat) (s : State), let t := elapse dt s
    t.portUp (t.get UPL_STAT_ACTIVE) = true → t.passed t.upl.resolvedAt (t.get UPL_TIME_ARPREF * secCycles) = true →
    exec (.nextHopResolve dt) s = .next (after dt s (startResolve t))) ∧
  (∀ (dt : Nat) (s : State), let t := elapse dt s
    t.passed t.upl.triedAt secCycles = true →
    (t.upl.tries = 1 ∨ t.upl.tries = 2 → exec (.resolveTryTimeout dt) s = .next (after dt s (resolveTry t))) ∧
    (3 ≤ t.upl.tries → exec (.resolveTryTimeout dt) s = .next (after dt s
      (raise UPL_INT_STAT_NHFAIL (modUpl (fun x => { x with tries := 0 }) t)))))

/-- A frame with a code error, a bad length or a bad FCS is counted in UPL_CNT_RXERR and has no other effect; a PAUSE
frame pauses the port; one whose tag, destination or type the filter rejects is counted there; ARP, IP and PTP frames
go to their receivers. A DOWN segment with a bad header, in a mode that does not accept it, 64 or more behind its
queue's window, or of a sequence already marked, is counted; another joins its message. A reassembly open for SEGTO
ends and is counted. A port that sends nothing starts the next message outside RESET and LOAD; when its last octet has
left, its frames are on the wire and its queue's CI, or STATUS, goes on. Every STATINT x 10 ms a STATUS is queued; so
does UPL_CTRL.STATUS or the task. PI of queue 62 and CI of the queues software consumes are written, PI of a
downstream queue with SRC 1 once its entries are mirrored; an index the ring cannot hold is a ring error and has no
other effect. -/
def Obligations.UpstreamMessagesMoveAsTheRulesSay : Prop :=
  (∀ (dt p : Nat) (frame : Octets) (code : Bool) (s : State), let t := elapse dt s
    let body := frame.take (frame.length - 4)
    let pause := beAt body 12 2 = 0x8808 ∧ beAt body 14 2 = 1 ∧ (body.take 6 = [0x01, 0x80, 0xC2, 0, 0, 1] ∨ body.take 6 = t.mac)
    p < 2 → t.portUp p = true →
    ((code = true ∨ frame.length < 64 ∨ 1522 < frame.length ∨ leAt frame (frame.length - 4) 4 ≠ crc32 body) →
      exec (.ethernetReceive dt p frame code) s = .next (after dt s (count UPL_CNT_RXERR 1 t))) ∧
    (code = false → 64 ≤ frame.length → frame.length ≤ 1522 → leAt frame (frame.length - 4) 4 = crc32 body →
      (pause → exec (.ethernetReceive dt p frame code) s = .next (after dt s (pauseReceive p (body.drop 14) t))) ∧
      (¬ pause → t.untag body = none → exec (.ethernetReceive dt p frame code) s = .next (after dt s (count UPL_CNT_FILTER 1 t))) ∧
      (∀ (dst src os : Octets) (type : Nat), ¬ pause → t.untag body = some (dst, src, type, os) →
        let ptp := type = 0x88F7 ∧ t.get UPL_PTP_CFG_TRANSPORT = 0 ∧ t.ptpRuns = true ∧ p = t.get UPL_STAT_ACTIVE
        (t.macTaken dst type = false →
          exec (.ethernetReceive dt p frame code) s = .next (after dt s (count UPL_CNT_FILTER 1 t))) ∧
        (t.macTaken dst type = true → type = 0x0806 →
          exec (.ethernetReceive dt p frame code) s = .next (after dt s (arpReceive p os t))) ∧
        (t.macTaken dst type = true → type ≠ 0x0806 → type = t.ipType →
          exec (.ethernetReceive dt p frame code) s = .next (after dt s (ipReceive p src os t))) ∧
        (t.macTaken dst type = true → type ≠ 0x0806 → type ≠ t.ipType → ptp →
          exec (.ethernetReceive dt p frame code) s = .next (after dt s (ptpReceive os (accepted p t)))) ∧
        (t.macTaken dst type = true → type ≠ 0x0806 → type ≠ t.ipType → ¬ ptp →
          exec (.ethernetReceive dt p frame code) s = .next (after dt s (count UPL_CNT_FILTER 1 t)))))) ∧
  (∀ (dt : Nat) (m : Octets) (s : State), let t := elapse dt s
    (t.headerOk m = false → exec (.downSegment dt m) s = .next (after dt s (badHeader t))) ∧
    (t.headerOk m = true → t.acceptsDown (octAt m 2) = false →
      exec (.downSegment dt m) s = .next (after dt s (count UPL_CNT_MODEDROP 1 t))) ∧
    (t.headerOk m = true → t.acceptsDown (octAt m 2) = true → t.windowFor (octAt m 2) = none →
      exec (.downSegment dt m) s = .next (after dt s (joinSegment (octAt m 2) (beAt m 4 4) m
        (setWindow { queue := octAt m 2, high := beAt m 4 4, marks := [] } t))))) ∧
  (∀ (dt : Nat) (m : Octets) (w : SeqWindow) (s : State), let t := elapse dt s
    let d := diff32 (beAt m 4 4) w.high
    let mark := w.marks.find? (fun e => e.1 == beAt m 4 4)
    t.headerOk m = true → t.acceptsDown (octAt m 2) = true → t.windowFor (octAt m 2) = some w →
    (d ≤ -64 → exec (.downSegment dt m) s = .next (after dt s (count UPL_CNT_STALE 1 t))) ∧
    (∀ e : Nat × Bool, -64 < d → mark = some e → exec (.downSegment dt m) s = .next (after dt s
      (if e.2 then raise UPL_INT_STAT_ORPHAN (count UPL_CNT_ORPHAN 1 t) else count UPL_CNT_DUPSEG 1 t))) ∧
    (-64 < d → mark = none → exec (.downSegment dt m) s = .next (after dt s
      (joinSegment (octAt m 2) (beAt m 4 4) m
        (if 0 < d then setWindow { w with high := beAt m 4 4 } t else t))))) ∧
  (∀ (dt : Nat) (r : Reasm) (s : State), let t := elapse dt s
    t.upl.reasm.find? (fun r => t.passed r.since (t.get UPL_TIME_SEGTO * msCycles)) = some r →
    exec (.reassemblyTimeout dt) s = .next (after dt s
      (emit 0x404 0 (raise UPL_INT_STAT_SEG_TIMEOUT (count UPL_CNT_SEGTO 1
        (markSeq r.queue r.seq true (modUpl (fun u => { u with reasm := u.reasm.erase r }) t))))))) ∧
  (∀ (dt : Nat) (s : State), let t := elapse dt s
    t.upl.sending = none → t.mode ≠ .reset → t.mode ≠ .load →
    exec (.upstreamSend dt) s = .next (after dt s (sendNext t))) ∧
  (∀ (dt port : Nat) (frames : List Octets) (msg : UplMsg) (s : State), let t := elapse dt s
    let u := putWire port frames (modUpl (fun x => { x with sending := none }) t)
    t.upl.sending = some { port := port, msg := msg, frames := frames } →
    (∀ q : Nat, msg = .queue q → exec (.messageSent dt) s = .next (after dt s (lastgaspEnds (queueSent q u)))) ∧
    (∀ (ts : Nat) (lock : Bool), msg = .status ts lock →
      exec (.messageSent dt) s = .next (after dt s (lastgaspEnds (statusSent u)))) ∧
    (∀ c : UplCompl, msg = .compl c → exec (.messageSent dt) s = .next (after dt s (lastgaspEnds u))) ∧
    (∀ r : Octets, msg = .reply r → exec (.messageSent dt) s = .next (after dt s (lastgaspEnds u)))) ∧
  (∀ (dt : Nat) (s : State), let t := elapse dt s
    let span := t.get UPL_TIME_STATINT * 10 * msCycles
    t.get UPL_TIME_STATINT ≠ 0 → t.passed t.upl.statusFrom span = true →
    exec (.statusTimer dt) s = .next (after dt s
      (queueStatus (modUpl (fun u => { u with statusFrom := u.statusFrom + span }) t)))) ∧
  (∀ (dt : Nat) (acc : Access) (w : Word) (s : State), let t := elapse dt s
    verdict acc 0x20100000 true t = .serve →
    exec (.statusSend dt (.write acc w)) s = .next (after dt s (uplCtrlWrite w (written 0x20100000 w t)))) ∧
  (∀ (dt : Nat) (s : State), let t := elapse dt s
    t.taskQueued 0x400 = true → exec (.statusSend dt .task) s = .next (after dt s (queueStatus (takeTask 0x400 t)))) ∧
  (∀ (dt : Nat) (acc : Access) (w : Word) (s : State), let t := elapse dt s
    let u : State := { meetDomain (domainOfBlock (blockOf (piAddr 62))) t with resp := .ok }
    let used := ringDistance w.toNat (u.qCi 62)
    verdict acc (piAddr 62) true t = .serve →
    (u.qLimit 62 < used → exec (.piWrite dt acc 62 w) s = .next (after dt s (ringError u))) ∧
    (used ≤ u.qLimit 62 → exec (.piWrite dt acc 62 w) s = .next (after dt s (u.set (UPL_Qn_PI_PI 62) w.toNat)))) ∧
  (∀ (dt q : Nat) (acc : Access) (w : Word) (s : State), let t := elapse dt s
    let u : State := { meetDomain (domainOfBlock (blockOf (piAddr q))) t with resp := .ok }
    let n := ringDistance w.toNat (u.nextPi q)
    let grows := decide (n ≤ u.qLimit q)
    let v := if grows then mirrorEntries q (u.nextPi q) n u else u
    let gate := if grows && v.mirrors then some (v.stl.mseq - 1) else none
    q < 32 → u.piIsSoftwares q = true → verdict acc (piAddr q) true t = .serve →
    (u.qLimit q < ringDistance w.toNat (u.qCi q) →
      exec (.piWrite dt acc q w) s = .next (after dt s (ringError u))) ∧
    (ringDistance w.toNat (u.qCi q) ≤ u.qLimit q →
      exec (.piWrite dt acc q w) s = .next (after dt s (ringSettle (modUpl (fun x => { x with
        entering := x.entering ++ [{ queue := q, pi := w.toNat, down := none, gate := gate }] }) v))))) ∧
  (∀ (dt q : Nat) (acc : Access) (w : Word) (s : State), let t := elapse dt s
    let u : State := { meetDomain (domainOfBlock (blockOf (ciAddr q))) t with resp := .ok }
    let used := ringDistance (u.qPi q) w.toNat
    (56 ≤ q ∧ q ≤ 61) ∨ q = 63 → verdict acc (ciAddr q) true t = .serve →
    (u.qLimit q < used → exec (.ciWrite dt acc q w) s = .next (after dt s (ringError u))) ∧
    (used ≤ u.qLimit q →
      exec (.ciWrite dt acc q w) s = .next (after dt s (gatesSettle (u.set (UPL_Qn_CI_CI q) w.toNat)))))

/-- An Announce that PTP takes places its foreign master and selects the master, unless four others are held already; one
that is refused has no effect. Three intervals without an Announce of the master drop it, raise PTPTO and leave the
port LISTENING. A one-step Sync of the master measures at once; a two-step one waits for the Follow_Up with its
sequenceId within 1 s. A Delay_Req is sent with the next sequenceId and its egress time. A Delay_Resp to it gives the
delay ((t2 - t1 - cs) + (t4 - t3 - cd)) / 2 to the mean path delay, and the first one also gives the offset of the
last Sync; an outlier is counted and discarded. -/
def Obligations.PtpMeasuresAgainstTheMaster : Prop :=
  (∀ (dt : Nat) (m : Octets) (s : State), let t := elapse dt s
    t.ptpTakes m ptpAnnounce 64 = true →
    (t.announceRefused m = true → exec (.announce dt m) s = .next (after dt s t)) ∧
    (t.announceRefused m = false → (t.foreignOf m = none → (t.foreignRest m).length < 4) →
      exec (.announce dt m) s = .next (after dt s
        (selectMaster (modPtp (fun p => { p with foreign := t.foreignRest m ++ [t.foreignFrom m] }) t)))) ∧
    (t.announceRefused m = false → t.foreignOf m = none → 4 ≤ (t.foreignRest m).length →
      exec (.announce dt m) s = .next (after dt s t))) ∧
  (∀ (dt : Nat) (port : Octets) (f : Foreign) (s : State), let t := elapse dt s
    t.upl.ptp.master = some port → t.upl.ptp.foreign.find? (fun f => f.port == port) = some f →
    t.passed f.last (3 * pow2Seconds f.interval) = true →
    exec (.announceTimeout dt) s = .next (after dt s (enterPtp ptpListening (raise UPL_INT_STAT_PTPTO
      (modPtp (fun p => { p with
        foreign := p.foreign.filter (fun g => g.port != port), master := none, sync := none, meas := none, req := none,
        dm := none }) t))))) ∧
  (∀ (dt : Nat) (m : Octets) (s : State), let t := elapse dt s
    let t2 := tickTime ((t.ts : Int) - t.getInt UPL_PTP_ASYM_INGRESS)
    t.ptpTakes m ptpSync 44 = true → t.fromMaster m = true → t.ptpSynchronises = true →
    (ptpTwoStep m = true → exec (.sync dt m) s = .next (after dt s
      (modPtp (fun p => { p with sync := some (ptpSeq m, t2, ptpCorrection m, t.cycles) }) (t.set UPL_PTP_STAT_TWOSTEP 1)))) ∧
    (ptpTwoStep m = false → exec (.sync dt m) s = .next (after dt s
      (syncMeasured (ptpStamp m) t2 (ptpCorrection m) (t.set UPL_PTP_STAT_TWOSTEP 0))))) ∧
  (∀ (dt seq when_ : Nat) (t2 cs : Int) (m : Octets) (s : State), let t := elapse dt s
    t.ptpTakes m ptpFollowUp 44 = true → t.fromMaster m = true → t.ptpSynchronises = true →
    t.upl.ptp.sync = some (seq, t2, cs, when_) → seq = ptpSeq m → t.cycles ≤ when_ + secCycles →
    exec (.followUp dt m) s = .next (after dt s
      (syncMeasured (ptpStamp m) t2 (cs + ptpCorrection m) (modPtp (fun p => { p with sync := none }) t)))) ∧
  (∀ (dt : Nat) (s : State), let t := elapse dt s
    let ticks := ((t.ts : Int) + t.getInt UPL_PTP_ASYM_EGRESS).toNat
    let seq := t.upl.ptp.seqId
    let u := modPtp (fun p => { p with req := some (seq, tickTime ticks), seqId := (seq + 1) % 65536 }) t
    t.ptpSynchronises = true → t.portFree (t.get UPL_STAT_ACTIVE) = true →
    exec (.delayReq dt) s = .next (after dt s (putWire (u.get UPL_STAT_ACTIVE) [u.ptpFrame (u.delayReq seq ticks)] u))) ∧
  (∀ (dt seq : Nat) (t1 t2 t3 cs : Int) (m : Octets) (s : State), let t := elapse dt s
    let d := ((t2 - t1 - cs) + (ptpStamp m - t3 - ptpCorrection m)) / 2
    let u := modPtp (fun p => { p with req := none, logReq := ptpInterval m }) t
    let mean := meanDelay t.upl.ptp.dm d (u.get UPL_PTP_SERVO_DLYOUT) (u.get UPL_PTP_CFG_DLYSHIFT)
    t.ptpTakes m ptpDelayResp 54 = true → t.fromMaster m = true → t.ptpSynchronises = true →
    t.upl.ptp.req = some (seq, t3) → t.upl.ptp.meas = some (t1, t2, cs) → seq = ptpSeq m → slice m 44 10 = t.portIdentity →
    (mean = none → exec (.delayResp dt m) s = .next (after dt s (count UPL_CNT_DLYOUT 1 u))) ∧
    (∀ dm : Int, mean = some dm →
      (t.upl.ptp.dm = none → exec (.delayResp dt m) s = .next (after dt s
        (formOffset ((modPtp (fun p => { p with dm := some dm }) u).set UPL_PTP_MPD_DM (offsetNs dm))))) ∧
      (t.upl.ptp.dm ≠ none → exec (.delayResp dt m) s = .next (after dt s
        ((modPtp (fun p => { p with dm := some dm }) u).set UPL_PTP_MPD_DM (offsetNs dm))))))

/-- Outside RESET and LOAD, on a device with a Stile, a frame of either lane that fails its CRC, LEN or TYPE check is
counted in STL_CNT_CRCERR and ends the lane's run of valid HEART frames, and has no other effect. A valid HEART is
taken on its lane; a valid ACK acknowledges; a valid ELECT is judged while the link is up and no election has ended;
CMD REQUEST starts a handover where the primary can hand over and otherwise does nothing; YIELD takes a standby in
SYNC into TAKEOVER with instant H; YIELD_DONE gives the taker the old primary's last MSEQ; RESIGN takes both lanes
down and the link counts as lost. -/
def Obligations.StileControlFramesAreTaken : Prop :=
  (∀ (dt lane : Nat) (f : Octets) (s : State), let t := elapse dt s
    let p := framePayload f
    t.stlRuns = true → lane < 2 →
    (frameValid f = false → exec (.heart dt lane f) s = .next (after dt s
      (count STL_CNT_CRCERR 1 (modStlLane lane (fun l => { l with run := 0 }) t)))) ∧
    (frameValid f = true → octAt f 0 = tyHeart → exec (.heart dt lane f) s = .next (after dt s (takeHeart lane p t))) ∧
    (frameValid f = true → octAt f 0 = tyStileAck → exec (.ack dt lane f) s = .next (after dt s (takeAck p t))) ∧
    (frameValid f = true → octAt f 0 = tyElect → t.stl.link = true → t.stl.elected = false → t.stl.mismatch = false →
      let u := (t.set STL_PEER_EUI_LO_EUI (leAt p 20 4)).set STL_PEER_EUI_HI_EUI (leAt p 24 4)
      (u.pairs p = true →
        exec (.elect dt lane f) s = .next (after dt s (judgeSelftest (Sys2Proof.Machine.elect p u)))) ∧
      (u.pairs p = false → exec (.elect dt lane f) s = .next (after dt s (mismatched u)))) ∧
    (frameValid f = true → octAt f 0 = tyCmd →
      (octAt f 8 = cmdRequest → t.canHandOver = true →
        exec (.request dt lane f) s = .next (after dt s (startHandover t))) ∧
      (octAt f 8 = cmdRequest → t.canHandOver = false → exec (.request dt lane f) s = .next (after dt s t)) ∧
      (octAt f 8 = cmdYield → t.mode = .standby → t.stl.sync = syncSync → t.stl.link = true →
        exec (.yield dt lane f) s = .next (after dt s (enterTakeover (modStl (fun x => { x with
          handover := some { h := leAt p 4 8, giving := false, moved := false, lastMseq := none }, asked := none }) t)))) ∧
      (∀ h : StlHandover, octAt f 8 = cmdYieldDone → t.stl.handover = some h → h.giving = false →
        exec (.yieldDone dt lane f) s = .next (after dt s
          (modStl (fun x => { x with handover := some { h with lastMseq := some (leAt p 12 4) } }) t))) ∧
      (octAt f 8 = cmdResign →
        exec (.resign dt lane f) s = .next (after dt s (linkLost true
          (modStlLane 1 (fun l => { l with up := false, run := 0 })
            (modStlLane 0 (fun l => { l with up := false, run := 0 }) t)))))))

/-- Outside RESET and LOAD, over a link whose election has ended, a valid COMMIT frame whose first record is of one of the
14 kinds is split into its records, and a valid BULK frame of one of the six items is one piece: both are taken in
sequence, a SNAP with the pieces of the snapshot it ends. The bulk piece next in order takes effect: a SNAP copies its
region; a JSUM is merged and answered with the snapshot, SNAPEND ends the copying, and a FRAME, QMSG or CTXBUF item is
kept for its record. With the link down, or before the election has ended, they have no effect. The record next in
order whose item has come is applied: STL_CNT_COMMIT counts it and STL_MSEQ shows it; each kind of record has its
effect, and a REG record gives a mirrored register its value. The end of a join's step 5 makes the standby SYNC,
restates the journal and raises SYNC. -/
def Obligations.MirroredRecordsAreTakenInOrder : Prop :=
  (∀ (dt lane : Nat) (f : Octets) (s : State), let t := elapse dt s
    let p := framePayload f
    let u := takeSequenced (recordsOf (leAt f 4 4) (p.length / 32) p) t
    t.stlRuns = true → lane < 2 → frameValid f = true → octAt f 0 = tyCommit → t.stl.link = true → t.stl.elected = true →
    (octAt f 8 = 1 → exec (.decide dt lane f) s = .next (after dt s u)) ∧
    (octAt f 8 = 2 → exec (.withhold dt lane f) s = .next (after dt s u)) ∧
    (octAt f 8 = 3 → exec (.release dt lane f) s = .next (after dt s u)) ∧
    (octAt f 8 = 4 → exec (.resv dt lane f) s = .next (after dt s u)) ∧
    (octAt f 8 = 5 → exec (.dstart dt lane f) s = .next (after dt s u)) ∧
    (octAt f 8 = 6 → exec (.dhold dt lane f) s = .next (after dt s u)) ∧
    (octAt f 8 = 7 → exec (.ddone dt lane f) s = .next (after dt s u)) ∧
    (octAt f 8 = 8 → exec (.qin dt lane f) s = .next (after dt s u)) ∧
    (octAt f 8 = 9 → exec (.ctxcmd dt lane f) s = .next (after dt s u)) ∧
    (octAt f 8 = 10 → exec (.shfclose dt lane f) s = .next (after dt s u)) ∧
    (octAt f 8 = 11 → exec (.shfwin dt lane f) s = .next (after dt s u)) ∧
    (octAt f 8 = 12 → exec (.usent dt lane f) s = .next (after dt s u)) ∧
    (octAt f 8 = 13 → exec (.beacon dt lane f) s = .next (after dt s u)) ∧
    (octAt f 8 = 14 → exec (.reg dt lane f) s = .next (after dt s u))) ∧
  (∀ (dt lane : Nat) (f : Octets) (content : List SnapItem) (s : State), let t := elapse dt s
    let u (c : List SnapItem) := takeSequenced
      [{ bulk := true, seq := leAt f 4 4, payload := framePayload f, last := bitAt (octAt f 1) 0, content := c }] t
    t.stlRuns = true → lane < 2 → frameValid f = true → octAt f 0 = tyBulk → t.stl.link = true → t.stl.elected = true →
    (octAt f 8 = itemFrame → exec (.frame dt lane f) s = .next (after dt s (u []))) ∧
    (octAt f 8 = itemQmsg → exec (.qmsg dt lane f) s = .next (after dt s (u []))) ∧
    (octAt f 8 = itemCtxbuf → exec (.ctxbuf dt lane f) s = .next (after dt s (u []))) ∧
    (octAt f 8 = itemSnap → exec (.snap dt lane f content) s = .next (after dt s (u content))) ∧
    (octAt f 8 = itemJsum → exec (.jsum dt lane f) s = .next (after dt s (u []))) ∧
    (octAt f 8 = itemSnapend → exec (.snapend dt lane f) s = .next (after dt s (u [])))) ∧
  (∀ (dt lane : Nat) (f : Octets) (s : State), let t := elapse dt s
    t.stlRuns = true → lane < 2 → frameValid f = true → t.stl.elected = false →
    exec (.reg dt lane f) s = .next (after dt s t) ∧ exec (.jsum dt lane f) s = .next (after dt s t)) ∧
  (∀ (n : Nat) (h : StlHeld) (s : State),
    s.stl.held.find? (fun h => !h.bulk && h.seq == s.stl.applied) = some h →
    (s.recordReady h.payload = false → applyReady (n + 1) s = s) ∧
    (s.recordReady h.payload = true → applyReady (n + 1) s = applyReady n
      (count STL_CNT_COMMIT 1 ((quietly (applyKind (h.seq % 2 ^ 32) h.payload)
        (modStl (fun p => { p with held := p.held.erase h, applied := p.applied + 1 }) s)).set STL_MSEQ_MSEQ h.seq)))) ∧
  (∀ (m : Nat) (r : Octets) (s : State), octAt r 0 = 14 → mirroredRegister (leAt r 4 4) = true →
    s.newer regOther (leAt r 4 4) m = true →
    applyKind m r s = s.setWord (leAt r 4 4) (BitVec.ofNat 32 (leAt r 8 4))) ∧
  (∀ (m : Nat) (r : Octets) (s : State),
    (octAt r 0 = 1 → applyKind m r s = applyDecide m r s) ∧ (octAt r 0 = 2 → applyKind m r s = applyWithhold m r s) ∧
    (octAt r 0 = 3 → ∀ d, s.pendingDecide r = some d → applyKind m r s = releaseDecide d m s) ∧
    (octAt r 0 = 4 → applyKind m r s = applyResv m r s) ∧ (octAt r 0 = 5 → applyKind m r s = applyStart m r s) ∧
    (octAt r 0 = 6 → applyKind m r s = applyHold m r s) ∧ (octAt r 0 = 7 → applyKind m r s = applyDone m r s) ∧
    (octAt r 0 = 8 → applyKind m r s = applyEntry m r s) ∧ (octAt r 0 = 9 → applyKind m r s = applyCtxcmd m r s) ∧
    (octAt r 0 = 10 → applyKind m r s = applyClose m r s) ∧ (octAt r 0 = 11 → applyKind m r s = applyWindow m r s) ∧
    (octAt r 0 = 12 → applyKind m r s = applyUsent m r s) ∧ (octAt r 0 = 13 → applyKind m r s = applyBeacon m r s) ∧
    (octAt r 0 = 14 → applyKind m r s = applyReg m r s)) ∧
  (∀ (h : StlHeld) (s : State), let data := h.payload.drop 16
    let u := modStl (fun p => { p with partial_ := none }) s
    (octAt h.payload 0 = itemSnap → bulkIn h s = takeSnap h.payload h.content s) ∧
    (octAt h.payload 0 ≠ itemSnap → s.stl.partial_ = none →
      (h.last = false → bulkIn h s = modStl (fun p => { p with partial_ := some (h.seq % 2 ^ 32, data) }) s) ∧
      (h.last = true →
        (octAt h.payload 0 = itemJsum → bulkIn h s = mergeSummary data u) ∧
        (octAt h.payload 0 = itemSnapend → bulkIn h s = endSnap u) ∧
        (octAt h.payload 0 = itemFrame ∨ octAt h.payload 0 = itemQmsg ∨ octAt h.payload 0 = itemCtxbuf →
          bulkIn h s = modStl (fun p => { p with
            items := p.items ++ [{ kind := octAt h.payload 0, first := h.seq % 2 ^ 32, data := data }] }) u)))) ∧
  (∀ (dt : Nat) (s : State), let t := elapse dt s
    t.mode = .standby → t.stl.sync = syncJoining → t.stl.joinStep = 2 →
    exec (.joinApplied dt) s = .next (after dt s (mainsAct (emit 0x442 0 (raise STL_INT_STAT_SYNC (count STL_CNT_JOIN 1
      (modStl (fun p => { p with sync := syncSync, joinStep := 0, snapStamps := [] })
        (modJnl (fun j => { j with restate := some 0 }) t))))))))

/-- Every 10 us a HEART leaves on each lane and every 1 ms an ELECT until the election ends. A lane silent for 30 us, or
without block lock, goes down: its sent frames go again on the other lane and its waiting ones move there, or the link
is lost. Frames unacknowledged for 20 us are sent again on the other lane where it is up. A standby makes one
discipline measurement of the mean offset every 10 ms, and judges each beacon and supervision instant, in time order;
the device with authority answers a supervision instant with its beacon. A handover starts by the register or the
task; at H the old primary drops the accesses that have not started; 200 us later, with nothing under way, it closes
its batches, says YIELD_DONE and enters STANDBY. TAKEOVER becomes PRIMARY with the partner in STANDBY, else SOLO; a
planned one waits for every record. -/
def Obligations.StileTimersAndHandoversTakeEffect : Prop :=
  (∀ (dt : Nat) (s : State), let t := elapse dt s
    t.stlRuns = true → t.passed t.stl.heartFrom (10 * usCycles) = true →
    exec (.heartSend dt) s = .next (after dt s
      (sendHeart 1 (sendHeart 0 (modStl (fun p => { p with heartFrom := t.cycles }) t))))) ∧
  (∀ (dt : Nat) (s : State), let t := elapse dt s
    t.stlRuns = true → t.stl.link = true → t.stl.elected = false → t.stl.mismatch = false →
    t.passed t.stl.electSent msCycles = true →
    exec (.electSend dt) s = .next (after dt s (sendElect (modStl (fun p => { p with electSent := t.cycles }) t)))) ∧
  (∀ (dt : Nat) (s : State), let t := elapse dt s
    exec (.electionTimeout dt) s = .next (after dt s (judgeSelftest t))) ∧
  (∀ (dt lane : Nat) (block : Bool) (s : State), let t := elapse dt s
    let u := raise STL_INT_STAT_LANELOSS (count STL_CNT_LANELOSS 1 (modStlLane lane (fun x => { x with up := false, run := 0 }) t))
    t.stlRuns = true → lane < 2 → (t.stlLane lane).up = true →
    (block = true ∨ t.passed (t.stlLane lane).last (30 * usCycles) = true) →
    ((u.stlLane (1 - lane)).up = true →
      exec (.laneLoss dt lane block) s = .next (after dt s (resendOn (1 - lane)
        (fun f => f.lane == lane && !u.stillWaits f) (moveWaiting lane u)))) ∧
    ((u.stlLane (1 - lane)).up = false →
      exec (.laneLoss dt lane block) s = .next (after dt s (linkLost false u)))) ∧
  (∀ (dt : Nat) (s : State), let t := elapse dt s
    let first := t.stl.unacked.filter (fun f => f.lane == 0 && t.passed f.at_ (20 * usCycles) && !t.stillWaits f)
    t.stl.link = true →
    exec (.resendTimeout dt) s = .next (after dt s
      (resendOn (if (t.stlLane 1).up then 1 else 0) (fun f => first.elem f)
        (resendOn (if (t.stlLane 0).up then 0 else 1) 
          (fun f => f.lane == 1 && t.passed f.at_ (20 * usCycles) && !t.stillWaits f) t)))) ∧
  (∀ (dt : Nat) (s : State), let t := elapse dt s
    let n := t.stl.ttCount
    let u := modStl (fun p => { p with ttSum := 0, ttCount := 0, ttFrom := t.cycles }) t
    t.mode = .standby → t.passed t.stl.ttFrom (10 * msCycles) = true →
    (n = 0 → exec (.timeTransfer dt) s = .next (after dt s u)) ∧
    (0 < n → exec (.timeTransfer dt) s = .next (after dt s
      (measurement .stile (roundDiv (t.stl.ttSum * 25 * (offsetUnit : Nat)) (16 * n)) (u.get STL_TT_KP) (u.get STL_TT_KI)
        (10 * msCycles) u)))) ∧
  (∀ (dt pan at_ : Nat) (s : State), let t := elapse dt s
    let u := judgeBefore 32 (at_ + 3 * msCycles) t
    let found := (u.beaconFor pan at_).map (fun b => b.2.1)
    t.mode = .standby → pan < 16 → t.panRuns pan = true → t.panBeacons pan = true → t.instantDue pan = some at_ →
    (u.mode = .standby → exec (.beaconInstantJudged dt pan) s =
      .next (after dt s (judgeInstant at_ found.isSome (instantJudged pan at_ found u)))) ∧
    (u.mode ≠ .standby → exec (.beaconInstantJudged dt pan) s = .next (after dt s u))) ∧
  (∀ (dt : Nat) (s : State), let t := elapse dt s
    let pan := t.get STL_SUP_SUPPAN
    let span := t.get STL_SUP_SUPINT * msCycles
    let now := t.ts / span * span
    let u := modStl (fun p => { p with lastSup := t.ts }) t
    t.is STL_SUP_SUPEN = true → 0 < span → t.stl.lastSup < now → t.stlRuns = true →
    (∀ x : Nat, t.mode = .standby → (judgeBefore 32 now t).supervisionDue = some x →
      let v := judgeBefore 32 now t
      let width := v.get STL_SUP_SUPINT * msCycles
      exec (.supervisionInstant dt) s = .next (after dt s (judgeInstant (x - width)
        (v.stl.beaconsHeard.any (fun b => b.1 == v.get STL_SUP_SUPPAN && decide (x - width ≤ b.2.2 ∧ b.2.2 < x)))
        (modStl (fun p => { p with lastSup := v.ts }) v)))) ∧
    (t.mode = .standby → (judgeBefore 32 now t).supervisionDue = none →
      exec (.supervisionInstant dt) s = .next (after dt s
        (modStl (fun p => { p with lastSup := t.ts }) (judgeBefore 32 now t)))) ∧
    (t.mode ≠ .standby → u.mayBook = true → u.panRuns pan = true → u.panBeacons pan = false →
      exec (.supervisionInstant dt) s = .next (after dt s (answerBeacon pan u)))) ∧
  (∀ (dt : Nat) (acc : Access) (w : Word) (s : State), let t := elapse dt s
    verdict acc 0x20110000 true t = .serve → wrote w STL_CTRL_HANDOVER = true →
    exec (.handover dt (.write acc w)) s = .next (after dt s (askHandover (startTask 0x440 (written 0x20110000 w t))))) ∧
  (∀ (dt : Nat) (s : State), let t := elapse dt s
    t.taskQueued 0x440 = true →
    exec (.handover dt .task) s = .next (after dt s (askHandover ((takeTask 0x440 t).set STL_CTRL_HANDOVER 1)))) ∧
  (∀ (dt : Nat) (h : StlHandover) (s : State), let t := elapse dt s
    let u := modStl (fun p => { p with handover := some { h with moved := true } }) t
    t.stl.handover = some h → h.h ≤ t.ts → h.moved = false →
    (h.giving = true → exec (.handoverInstant dt) s = .next (after dt s
      (forEach (u.lnk.attempts.filter u.stoppable) dropAttempt u))) ∧
    (h.giving = false → exec (.handoverInstant dt) s = .next (after dt s u))) ∧
  (∀ (dt : Nat) (h : StlHandover) (s : State), let t := elapse dt s
    let u := closeForTakeover (forEach (t.lnk.attempts.filter t.stoppable) dropAttempt t)
    let v := sendCmd cmdYieldDone 0 ((u.stl.mseq + 2 ^ 32 - 1) % 2 ^ 32) u
    let x := clearGates (modStl (fun p => { p with handover := none, sync := syncSync, lastSup := v.ts, yielded := true }) v)
    t.stl.handover = some h → h.giving = true → h.h + 200 * usCycles ≤ t.ts → t.yieldReady = true →
    exec (.oldPrimaryYield dt) s = .next (after dt s (applyDue (settleAll (enterMode 12 .standby
      (raise STL_INT_STAT_HANDOVER (count STL_CNT_HANDOVER 1 (handoverEnds x)))))))) ∧
  (∀ (dt : Nat) (s : State), let t := elapse dt s
    t.mode = .takeover →
    (t.stl.handover = none → t.stl.link = true → t.stl.peerMode = Mode.standby.code →
      exec (.takeoverComplete dt) s = .next (after dt s (settleAll (enterMode 15 .primary t)))) ∧
    (t.stl.handover = none → t.stl.link = false →
      exec (.takeoverComplete dt) s = .next (after dt s (settleAll (enterMode 16 .solo t)))) ∧
    (∀ (h : StlHandover) (m : Nat), t.stl.handover = some h → h.lastMseq = some m → diff32 m (t.stl.applied % 2 ^ 32) < 0 →
      exec (.takeoverComplete dt) s = .next (after dt s (handoverTakes t))))

/-- The oldest event produced reaches every enabled channel whose SRC names it, and none other; a channel with 8 pending
events counts a drop instead and sets HDG_INT_STAT.DROP. A delivery takes the oldest pending event of its channel with
one hop more: at 8 hops it is a loop drop, otherwise its legs go to the channel's destinations. A trigger within 3
cycles of one that started a run coalesces with it, at the larger hop count; any other starts a run of an idle task
input with its hop count, and overruns a busy one. A served write of HDG_FIRE_LO or _HI whose every channel the writer
may fire arrives at those that are enabled; otherwise the whole write is denied with an error response. -/
def Obligations.HedgerowCarriesEventsToTasks : Prop :=
  (∀ (dt : Nat) (e : HdgEvent) (rest : List HdgEvent) (s : State), let t := elapse dt s
    t.hdg.emitted = e :: rest →
    exec (.eventArrival dt) s = .next (after dt s
      (forEach ((List.range 256).filter (fun n => t.channelOn n && t.get (HDG_CHn_CFG_SRC n) == e.id)) (arrive e false)
        (modHdg (fun x => { x with emitted := rest }) t)))) ∧
  (∀ (e : HdgEvent) (sw : Bool) (n : Nat) (s : State), 8 ≤ (s.hdg.held.filter (fun h => h.ch == n)).length →
    arrive e sw n s = dropFlag (countDrop n s)) ∧
  (∀ (dt ch : Nat) (h : HdgHeld) (s : State), let t := elapse dt s
    let u := raiseTo (HDG_CHn_STAT_HOPMAX h.ch) (h.hop + 1)
      (followPend h.ch (modHdg (fun x => { x with held := x.held.erase h }) t))
    let v := modHdg (fun x => { x with legs := x.legs ++ h.dests.map (fun d =>
      { task := d, ch := h.ch, producer := h.producer, seq := h.seq, hop := h.hop + 1 }) }) u
    t.hdg.held.find? (fun h => h.ch == ch) = some h →
    (h.hop + 1 < 8 → exec (.eventDelivery dt ch) s = .next (after dt s (deliverLegs v.hdg.legs.length v))) ∧
    (8 ≤ h.hop + 1 → exec (.eventDelivery dt ch) s = .next (after dt s
      (deliverLegs (loopDrop h.ch u).hdg.legs.length (loopDrop h.ch u))))) ∧
  (∀ (task hop : Nat) (s : State),
    ((s.task task).busy = false → (∀ c : Nat, (s.task task).start = some c → c + 3 < s.cycles) →
      trigger task hop s = setTask { s.task task with busy := true, queued := true, hop := hop, start := some s.cycles } s) ∧
    (∀ c : Nat, (s.task task).start = some c → s.cycles ≤ c + 3 →
      trigger task hop s = setTask { s.task task with
        coalesce := true, ccount := min ((s.task task).ccount + 1) 255,
        hop := if (s.task task).busy then max (s.task task).hop hop else (s.task task).hop } s) ∧
    ((s.task task).busy = true → (∀ c : Nat, (s.task task).start = some c → c + 3 < s.cycles) →
      trigger task hop s = raise HDG_INT_STAT_OVERRUN (setTask { s.task task with
        overrun := true, ocount := min ((s.task task).ocount + 1) 255 } s))) ∧
  (∀ (dt : Nat) (acc : Access) (hi : Bool) (w : Word) (s : State), let t := elapse dt s
    let u : State := { meetDomain (domainOfBlock (blockOf (fireAddr hi))) t with resp := .ok }
    let chans := (List.range 32).filterMap (fun b => if bitAt w.toNat b then some (b + if hi then 32 else 0) else none)
    verdict acc (fireAddr hi) true t = .serve →
    (chans.all (u.mayFire acc) = true →
      exec (.fire dt acc hi w) s = .next (after dt s (forEach (chans.filter u.channelOn) (fun n v =>
        arrive { id := 0, hop := 0, producer := 256 + acc.init, seq := v.hdg.seq } true n
          (modHdg (fun x => { x with seq := x.seq + 1 }) v)) u))) ∧
    (chans.all (u.mayFire acc) = false →
      exec (.fire dt acc hi w) s = .next (after dt s (errorResponse (raise HDG_INT_STAT_DENIED u)))))

/-- An engine's request inside visible DRAM waits on its port; one beyond it sets ADDRERR and gets an error outcome; a bus
access passes the firewall and the domain lock before it waits on port 7. A controller that works issues its choice: a
request, a forced refresh, or an idle channel's early refresh. A request of ports 1 to 7 that has waited half its
TARGET is urgent; one that has waited TARGET is late and is counted once. With nothing waiting the scrubber reads the
next word of visible DRAM, and an error it finds is corrected or reported. -/
def Obligations.DramRequestsAreServedInOrder : Prop :=
  (∀ (dt port a o len : Nat) (data : Option Octets) (s : State), let t := elapse dt s
    let n := requestLength len data
    port ≤ 7 → n ≠ 0 → (port = 0 → data = none) → t.dramOffset a = some o →
    (o + n ≤ t.visible →
      exec (.dramRequest dt (.engine port a) len data) s = .next (after dt s (arriveRequest port o len data none t))) ∧
    (t.visible < o + n →
      exec (.dramRequest dt (.engine port a) len data) s = .next (after dt s
        (refuseRequest false (raise DMC_INT_STAT_ADDRERR t))))) ∧
  (∀ (dt a o len : Nat) (acc : Access) (data : Option Octets) (s : State), let t := elapse dt s
    let n := requestLength len data
    t.route a n = .dram o → n ≠ 0 →
    (t.visible < o + n →
      exec (.dramRequest dt (.bus acc a) len data) s = .next (after dt s (refuseRequest true (raise DMC_INT_STAT_ADDRERR t)))) ∧
    (o + n ≤ t.visible →
      (∀ w : Nat, t.firewall acc data.isSome (dramBase + o) n = some w →
        exec (.dramRequest dt (.bus acc a) len data) s = .next (after dt s
          (errorResponse (firewallRefusal acc data.isSome (dramBase + o) w t)))) ∧
      (t.firewall acc data.isSome (dramBase + o) n = none → t.domainLocked domDmc = true →
        exec (.dramRequest dt (.bus acc a) len data) s = .next (after dt s (errorResponse (domainError 0 domDmc acc.init t)))) ∧
      (t.firewall acc data.isSome (dramBase + o) n = none → t.domainLocked domDmc = false →
        exec (.dramRequest dt (.bus acc a) len data) s = .next (after dt s (arriveRequest 7 o len data (some acc) t))))) ∧
  (∀ (dt : Nat) (errors : List EccError) (s : State), let t := elapse dt s
    t.dramWorks = true →
    (∀ r : DmcReq, t.dramChoice = .serve r →
      exec (.dramCommandIssue dt errors) s = .next (after dt s (serveRequest errors r t))) ∧
    (∀ k : Nat, t.dramChoice = .refresh k →
      exec (.dramCommandIssue dt errors) s = .next (after dt s (forcedRefresh k t))) ∧
    (t.dramChoice = .idle → t.dmc.mr4Due = false →
      exec (.dramCommandIssue dt errors) s = .next (after dt s (idleRefresh t)))) ∧
  (∀ (dt id : Nat) (r : DmcReq) (s : State), let t := elapse dt s
    t.dmc.queue.find? (fun r => r.id == id) = some r → r.port ≠ 0 →
    (t.passed r.since (r.target * tenthCycles / 2) = true →
      exec (.requestUrgent dt id) s = .next (after dt s (modReq id (fun q => { q with urgent := true }) t))) ∧
    (t.passed r.since (r.target * tenthCycles) = true → r.late = false →
      exec (.requestLate dt id) s = .next (after dt s (raiseLate DMC_INT_STAT_LATE (count DMC_CNT_LATE 1
        (modReq r.id (fun q => { q with late := true, urgent := true }) t)))))) ∧
  (∀ (dt : Nat) (s : State), let t := elapse dt s
    let u := modDmc (fun d => { d with scrub := if t.dmc.scrub + 8 < t.visible then t.dmc.scrub + 8 else 0 }) t
    t.dramWorks = true → t.get DMC_SCRUB_HOURS ≠ 0 → t.dmc.queue = [] → t.dmc.forced = [] →
    exec (.scrub dt none) s = .next (after dt s u) ∧
    (∀ b : Option Nat, exec (.scrub dt (some b)) s = .next (after dt s
      (eccError scrubPort { word := t.dmc.scrub, bit := b } u))))

/-- Training that failed in step k leaves PASS with the steps before it, FAILSTEP and FAILCH, state FAILED and TRAINFAIL
raised; training that passed reads MR4 and goes to READY where the array was retained, else to ZEROFILL, whose end
leaves every byte zero, no word uncorrectable, and READY. A refresh due is counted by one issued early, postponed
while a port 0 read waits at the rank, the eighth being forced, or issued. MR4 is read in READY and ZEROFILL. SR in a
mode that needs DRAM is refused; else entry waits for an empty queue, then the state is SELFREF; SRX leaves it, after
which the waiting accesses proceed and an MR4 read is due. AUTOSR enters after IDLESR x 10 us of idleness. -/
def Obligations.DramUpkeepAndSelfRefreshTakeEffect : Prop :=
  (∀ (dt k : Nat) (ch : Bool) (mr4 : Word) (s : State), let t := elapse dt s
    1 ≤ k → k ≤ 7 → t.get DMC_STAT_STATE = dmcTrain →
    exec (.training dt (some (k, ch)) mr4) s = .next (after dt s (loadEnds (refuseAll (raise DMC_INT_STAT_TRAINFAIL
      (((((t.set DMC_TRAIN_PASS (2 ^ (k - 1) - 1)).set DMC_TRAIN_FAILSTEP k).set DMC_TRAIN_FAILCH (flag ch))).set
        DMC_STAT_STATE dmcFailed)))))) ∧
  (∀ (dt : Nat) (mr4 : Word) (s : State), let t := elapse dt s
    let u := readMr4 mr4 (t.set DMC_TRAIN_PASS 0x7F)
    let v := u.set DMC_STAT_STATE (if u.is DMC_STAT_RETAINED then dmcReady else dmcZerofill)
    t.get DMC_STAT_STATE = dmcTrain →
    exec (.training dt none mr4) s = .next (after dt s
      (loadEnds (modDmc (fun d => { d with idleFrom := v.cycles, since := v.cycles }) v)))) ∧
  (∀ (dt : Nat) (s : State), let t := elapse dt s
    t.get DMC_STAT_STATE = dmcZerofill →
    exec (.zerofillDone dt) s = .next (after dt s
      (modDmc (fun d => { d with idleFrom := t.cycles, bad := [] }) (State.set DMC_STAT_STATE dmcReady { t with dram := [] })))) ∧
  (∀ (dt rank : Nat) (s : State), let t := elapse dt s
    let n := min 8 (t.get (postField rank) + 1)
    t.refreshes = true → rank < t.dramRanks →
    (t.earlyOf rank ≠ 0 → exec (.refreshDue dt rank) s = .next (after dt s (setEarly rank (t.earlyOf rank - 1) t))) ∧
    (t.earlyOf rank = 0 → t.dmc.queue.any (fun r => r.port == 0 && t.rankOf r == rank) = true →
      (n < 8 → exec (.refreshDue dt rank) s = .next (after dt s (t.set (postField rank) n))) ∧
      (n = 8 → (t.set (postField rank) n).dmc.forced.all (fun f => f.1 != rank) = true →
        exec (.refreshDue dt rank) s = .next (after dt s
          (modDmc (fun d => { d with forced := d.forced ++ [(rank, d.nextId)] }) (t.set (postField rank) n))))) ∧
    (t.earlyOf rank = 0 → t.dmc.queue.any (fun r => r.port == 0 && t.rankOf r == rank) = false →
      exec (.refreshDue dt rank) s = .next (after dt s (closeRows rank t)))) ∧
  (∀ (dt : Nat) (w : Word) (s : State), let t := elapse dt s
    (t.get DMC_STAT_STATE = dmcReady ∨ t.get DMC_STAT_STATE = dmcZerofill) →
    exec (.mr4Poll dt w) s = .next (after dt s (readMr4 w t))) ∧
  (∀ (dt : Nat) (reading : Int) (s : State), let t := elapse dt s
    t.mayMaintain = true →
    exec (.zqCalibration dt) s = .next (after dt s (useDomain domDmc t)) ∧
    ((reading - t.dmc.oscAt).natAbs ≤ 3 → exec (.dqsOscillatorRead dt reading) s = .next (after dt s t)) ∧
    (3 < (reading - t.dmc.oscAt).natAbs →
      exec (.dqsOscillatorRead dt reading) s = .next (after dt s (modDmc (fun d => { d with oscAt := reading }) t)))) ∧
  (∀ (dt : Nat) (acc : Access) (w : Word) (s : State), let t := elapse dt s
    let u := written dmcCtrlAddr w t
    verdict acc dmcCtrlAddr true t = .serve →
    (wrote w DMC_CTRL_SR = true → wrote w DMC_CTRL_SRX = false →
      (u.mode.needsDram = true → exec (.selfRefresh dt acc w) s = .next (after dt s (refuseSelfRefresh u))) ∧
      (u.mode.needsDram = false → u.get DMC_STAT_STATE ≠ dmcSelfref →
        exec (.selfRefresh dt acc w) s = .next (after dt s (modDmc (fun d => { d with entering := true }) u)))) ∧
    (wrote w DMC_CTRL_SR = false → wrote w DMC_CTRL_SRX = true → u.get DMC_STAT_STATE = dmcSelfref →
      exec (.selfRefreshExit dt acc w) s = .next (after dt s (exitSelfRefresh u)))) ∧
  (∀ (dt : Nat) (s : State), let t := elapse dt s
    t.is DMC_CFG_AUTOSR = true → t.get DMC_STAT_STATE = dmcReady → t.mode.needsDram = false → t.dmc.queue = [] →
    t.passed t.dmc.idleFrom (t.get DMC_CFG_IDLESR * 10 * usCycles) = true →
    exec (.autoSelfRefresh dt) s = .next (after dt s (modDmc (fun d => { d with entering := true }) t))) ∧
  (∀ (dt : Nat) (s : State), let t := elapse dt s
    t.dmc.entering = true → t.get DMC_STAT_STATE = dmcReady → t.dmc.queue = [] →
    exec (.selfRefreshEntryDone dt) s = .next (after dt s (modDmc (fun d => { d with entering := false, rows := [] })
      (count DMC_CNT_SRENTRY 1 ((t.set DMC_STAT_STATE dmcSelfref).set DMC_CTRL_SR 0))))) ∧
  (∀ (dt : Nat) (s : State), let t := elapse dt s
    t.dmc.exiting = true → t.get DMC_STAT_STATE = dmcSelfref →
    exec (.selfRefreshExitDone dt) s = .next (after dt s
      (modDmc (fun d => { d with exiting := false, mr4Due := true, idleFrom := t.cycles })
        ((t.set DMC_STAT_STATE dmcReady).set DMC_CTRL_SRX 0))))

/-- A served write of FLS_CMD with GO takes the operation its OP names: while another runs, or an UNLOCK or SETREGION,
PROGRAM, ERASE, UNLOCK, LOCK and SETREGION are ignored and CMDREJ is raised; an undefined OP ends BADARG. PROGRAM of a
block the writer may not change ends PROTECTED. ERASE is BUSY with an erase suspended, PROTECTED without the right,
and otherwise offers its intent record and waits for it. SUSPEND parks a running erase and RESUME continues it. ABORT
of an operation that has not finished ends it ABORTED. UNLOCK after 8 failures ends LOCKOUT; LOCK locks at once;
SETREGION by another initiator than Lapwing ends PROTECTED, one whose end precedes its start BADARG; one of Lapwing
for a region it may set, with its start at or before its end and apart from every other valid region, takes the
region's new setting and runs. -/
def Obligations.FlashCommandsActByTheirOp : Prop :=
  (∀ (dt : Nat) (acc : Access) (w : Word) (srcErr : Bool) (s : State), let t := elapse dt s
    let u := written 0x20050000 w t
    let op := u.get FLS_CMD_OP
    verdict acc 0x20050000 true t = .serve → wrote w FLS_CMD_GO = true →
    (u.fls.op.isSome = true ∨ u.fls.prot.isSome = true →
      (op = 1 → exec (.program dt acc w srcErr) s = .next (after dt s (raise FLS_INT_STAT_CMDREJ (flsStatus u)))) ∧
      (op = 2 → exec (.erase dt acc w) s = .next (after dt s (raise FLS_INT_STAT_CMDREJ (flsStatus u)))) ∧
      (op = 6 → exec (.unlockRegion dt acc w) s = .next (after dt s (raise FLS_INT_STAT_CMDREJ (flsStatus u)))) ∧
      (op = 7 → exec (.lockRegion dt acc w) s = .next (after dt s (raise FLS_INT_STAT_CMDREJ (flsStatus u)))) ∧
      (op = 8 → exec (.setregion dt acc w) s = .next (after dt s (raise FLS_INT_STAT_CMDREJ (flsStatus u))))) ∧
    (u.fls.op = none → u.fls.prot = none →
      (op = 1 → u.flsMayChange acc (u.get FLS_CMD_BLOCK) = false →
        exec (.program dt acc w srcErr) s = .next (after dt s (flsEnd flsProtected u))) ∧
      (op = 1 → exec (.program dt acc w srcErr) s = .next (after dt s (flsProgram acc srcErr u))) ∧
      (op = 2 → u.fls.susp.isSome = true → exec (.erase dt acc w) s = .next (after dt s (flsEnd flsBusy u))) ∧
      (op = 2 → u.fls.susp = none → u.flsMayChange acc (u.get FLS_CMD_BLOCK) = false →
        exec (.erase dt acc w) s = .next (after dt s (flsEnd flsProtected u))) ∧
      (op = 2 → u.fls.susp = none → u.flsMayChange acc (u.get FLS_CMD_BLOCK) = true →
        exec (.erase dt acc w) s = .next (after dt s (flsRun (.erase (u.get FLS_CMD_BLOCK) u.jnl.nextTicket false)
          (jnlOffer recErase (payIntent (u.get FLS_CMD_BLOCK) 0 false) u)))) ∧
      (op = 6 → 8 ≤ u.get FLS_STAT_FAILS →
        exec (.unlockRegion dt acc w) s = .next (after dt s (raise FLS_INT_STAT_LOCKOUT (flsEnd flsLockout u)))) ∧
      (op = 6 → u.get FLS_STAT_FAILS < 8 → u.flsMayUnlock acc (u.get FLS_CMD_REGION) = true →
        exec (.unlockRegion dt acc w) s = .next (after dt s
          (clearPassword (flsProtRun (.unlock (u.get FLS_CMD_REGION) u.flsPassword) u)))) ∧
      (op = 7 → u.flsMayUnlock acc (u.get FLS_CMD_REGION) = true →
        exec (.lockRegion dt acc w) s = .next (after dt s
          (flsEnd flsDone (modFls (fun f => { f with unlocked := f.unlocked.filter (· != u.get FLS_CMD_REGION) }) u)))) ∧
      (op = 8 → acc.init ≠ initLapwing →
        exec (.setregion dt acc w) s = .next (after dt s (flsEnd flsProtected u))) ∧
      (op = 8 → acc.init = initLapwing → (u.flsRegion (u.get FLS_CMD_REGION)).valid = false →
        u.get FLS_REGWR_END < u.get FLS_REGWR_START →
        exec (.setregion dt acc w) s = .next (after dt s (flsEnd flsBadarg u))) ∧
      (op = 8 → acc.init = initLapwing →
        (u.flsRegion (u.get FLS_CMD_REGION)).valid = false ∨ u.flsLocked (u.get FLS_CMD_REGION) = false →
        u.get FLS_REGWR_START ≤ u.get FLS_REGWR_END →
        (∀ q : Nat, q < 4 → q ≠ u.get FLS_CMD_REGION → (u.flsRegion q).valid = true →
          (u.flsRegion q).stop < u.get FLS_REGWR_START ∨ u.get FLS_REGWR_END < (u.flsRegion q).start) →
        exec (.setregion dt acc w) s = .next (after dt s (clearPassword (flsProtRun (.setRegion (u.get FLS_CMD_REGION)
          { start := u.get FLS_REGWR_START, stop := u.get FLS_REGWR_END, wp := u.is FLS_REGWR_WP, rp := u.is FLS_REGWR_RP,
            core := u.is FLS_REGWR_CORE, valid := u.is FLS_REGWR_VALID, password := u.flsPassword }) u))))) ∧
    (∀ (b ticket : Nat), op = 3 → u.fls.op = some (.erase b ticket true) →
      exec (.suspend dt acc w) s = .next (after dt s (clearPassword (flsStatus
        (modFls (fun f => { f with op := none, susp := some (.erase b ticket true) }) u))))) ∧
    (∀ e : FlsOp, op = 4 → u.fls.op = none → u.fls.susp = some e →
      exec (.resume dt acc w) s = .next (after dt s (clearPassword (staleVerified e.block (flsStatus
        (modFls (fun f => { f with op := some e, susp := none, since := u.cycles }) u)))))) ∧
    (∀ (b ticket : Nat) (started : Bool), op = 5 → u.fls.op = some (.erase b ticket started) →
      exec (.abortFlash dt acc w false) s = .next (after dt s (clearPassword
        (abortOp (.erase b ticket started) 0x140 (modFls (fun f => { f with op := none }) u))))) ∧
    (op = 0 ∨ 8 < op → exec (.flashBadarg dt acc w) s = .next (after dt s (flsEnd flsBadarg u))))

/-- A waiting program or erase starts once word 0 of its intent record is durable. A program that ends has written its
page and clears its undefined state; an erase that ends leaves every byte of its block 0xFF; each closes its intent
record, ends DONE and produces its event. An UNLOCK ends after 1 ms: with the right password the region is unlocked,
otherwise FAILS counts up to 8 and PWDFAIL is raised. SETREGION's end stores the region. A read of the flash window is
refused outside the window, for a locked domain and by the firewall, and otherwise gives the octets or an error. A GO
of OTP_CMD starts a programming while none runs; its end reports 1 for a word written, 4 for a failed read-back, or
the refusal's code with the word unchanged. -/
def Obligations.FlashOperationsAndOtpEndAsWritten : Prop :=
  (∀ (dt b p k : Nat) (data : Octets) (s : State), let t := elapse dt s
    t.intentOpen k = true →
    (t.fls.op = some (.program b p data (some k) false) → exec (.flashOperationStart dt) s = .next (after dt s
      (modFls (fun f => { f with op := some (.program b p data (some k) true), since := t.cycles }) t))) ∧
    (t.fls.op = some (.erase b k false) → exec (.flashOperationStart dt) s = .next (after dt s
      (modFls (fun f => { f with op := some (.erase b k true), since := t.cycles }) t)))) ∧
  (∀ (dt b p : Nat) (data : Octets) (s : State), let t := elapse dt s
    t.fls.op = some (.program b p data none true) →
    exec (.progDone dt) s = .next (after dt s (emit 0x141 0 (flsEnd flsDone (staleVerified b (modFls (fun f => { f with
      cells := Sparse.putRun erasedByte f.cells (pageOffset b p) data,
      undef := f.undef.filter (· != pageNumber b p), op := none }) t)))))) ∧
  (∀ (dt b k : Nat) (s : State), let t := elapse dt s
    t.fls.op = some (.erase b k true) →
    exec (.eraseDone dt) s = .next (after dt s (emit 0x140 0 (flsEnd flsDone (closeIntent k true (staleVerified b (modFls (fun f => { f with
      cells := Sparse.erase f.cells (fun a => decide (a / blockSize = b)),
      undef := f.undef.filter (fun p => decide (p / 64 ≠ b)), op := none }) t))))))) ∧
  (∀ (dt r pwd : Nat) (s : State), let t := elapse dt s
    let u := modFls (fun f => { f with prot := none }) t
    t.fls.prot = some (.unlock r pwd) → t.passed t.fls.protFrom msCycles = true →
    ((u.flsRegion r).password = pwd → exec (.passwordCompareEnd dt) s = .next (after dt s
      (flsEnd flsDone (modFls (fun f => { f with unlocked := r :: f.unlocked.filter (· != r) }) u)))) ∧
    ((u.flsRegion r).password ≠ pwd → exec (.passwordCompareEnd dt) s = .next (after dt s
      (raise FLS_INT_STAT_PWDFAIL (flsEnd flsPwdfail (u.set FLS_STAT_FAILS (min 8 (u.get FLS_STAT_FAILS + 1)))))))) ∧
  (∀ (dt r : Nat) (g : FlsRegion) (s : State), let t := elapse dt s
    t.fls.prot = some (.setRegion r g) →
    exec (.setregionDone dt) s = .next (after dt s (flsEnd flsDone (modFls (fun f => { f with
      prot := none, regions := Sparse.put (fun _ => FlsRegion.blank) f.regions r g }) t)))) ∧
  (∀ (dt o n : Nat) (acc : Access) (bad corrected : Bool) (s : State), let t := elapse dt s
    (0x800000 < o + n ∨ t.domainLocked domFls = true →
      exec (.flashRead dt acc o n bad corrected) s = .next (after dt s (errorResponse t))) ∧
    (o + n ≤ 0x800000 → t.domainLocked domFls = false →
      (∀ w : Nat, t.firewall acc false (0x08000000 + o) n = some w →
        exec (.flashRead dt acc o n bad corrected) s = .next (after dt s
          (errorResponse (firewallRefusal acc false (0x08000000 + o) w t)))) ∧
      (t.firewall acc false (0x08000000 + o) n = none →
        exec (.flashRead dt acc o n bad corrected) s = .next (after dt s
          (Sys2Proof.Machine.answer (Sys2Proof.Machine.flashRead acc o n bad corrected t)))))) ∧
  (∀ (dt mv : Nat) (acc : Access) (w : Word) (s : State), let t := elapse dt s
    let u := written 0x20058000 w t
    verdict acc 0x20058000 true t = .serve → wrote w OTP_CMD_GO = true → u.otp.op = none →
    exec (.otpProgram dt acc w mv) s = .next (after dt s (raise OTP_STAT_BUSY (modOtp (fun o => { o with
      op := some (u.get OTP_CMD_WORD, u.get OTP_WDATA_DATA), lowSupply := decide (mv < 1700) }) u)))) ∧
  (∀ (dt w v : Nat) (ok : Bool) (s : State), let t := elapse dt s
    let fin (r : Nat) (u : State) : State :=
      (((modOtp (fun o => { o with op := none, lowSupply := false }) u).set OTP_STAT_RESULT r).set OTP_STAT_BUSY 0).set OTP_CMD_GO 0
    t.otp.op = some (w, v) →
    (t.otpRefusal w = none → ok = true →
      exec (.otpProgramDone dt ok) s = .next (after dt s (raise FLS_INT_STAT_OTPDONE (fin 1 (otpPut w v t))))) ∧
    (t.otpRefusal w = none → ok = false →
      exec (.otpProgramDone dt ok) s = .next (after dt s (raise FLS_INT_STAT_OTPERR (fin 4 (otpSpoil w t))))) ∧
    (∀ r : Nat, t.otpRefusal w = some r → r ≠ 1 →
      exec (.otpProgramDone dt ok) s = .next (after dt s (raise FLS_INT_STAT_OTPERR (fin r t)))))

/-- The next record is accepted at the next position, a carry record before it where one is due; while the journal is not
READY it is refused with REFUSED raised, and a refused reservation with RESVFAIL; 512 records behind, none is accepted
and LAG is raised; a carry record that reaches the bound goes alone. The oldest accepted record's words are written in
order; the second word of an intent waits; slot 0 raises WRAP. In LOAD recovery runs once DRAM is READY. A GO of
RESTATE starts the STATE records; FORMAT starts in BLANK, MAKER and RETURN and is otherwise cleared. Formatting ends
with a blank journal that is READY and FMTDONE; restating ends with every STATE record written. JNL_SLOTCMD writes a
SLOT record, SLOT 2 and 3 getting an error response. -/
def Obligations.JournalRecordsReachTheirWords : Prop :=
  (∀ (dt : Nat) (r : JRec) (s : State), let t := elapse dt s
    t.jnlNextRecord = some (r, false) →
    (t.jnlIsReady = true → t.sweepLag < 512 → (jnlCarry t).sweepLag < 512 →
      exec (.journalRecord dt) s = .next (after dt s
        (jnlTake r (jnlCarry (modJnl (fun j => { j with offered := j.offered.drop 1 }) t))))) ∧
    (t.jnlIsReady = true → 512 ≤ t.sweepLag →
      exec (.journalRecord dt) s = .next (after dt s (sweep (raise JNL_INT_STAT_LAG t)))) ∧
    (t.jnlIsReady = true → t.sweepLag < 512 → 512 ≤ (jnlCarry t).sweepLag →
      exec (.journalRecord dt) s = .next (after dt s (raise JNL_INT_STAT_LAG (jnlCarry t)))) ∧
    (t.jnlIsReady = false →
      (r.type = recResv → exec (.journalRecord dt) s = .next (after dt s (raise SEC_INT_STAT_RESVFAIL
        (raise JNL_INT_STAT_REFUSED (modJnl (fun j => { j with
          offered := j.offered.drop 1, refused := r.ticket :: j.refused }) t))))) ∧
      (r.type ≠ recResv → exec (.journalRecord dt) s = .next (after dt s
        (raise JNL_INT_STAT_REFUSED (modJnl (fun j => { j with
          offered := j.offered.drop 1, refused := r.ticket :: j.refused }) t)))))) ∧
  (∀ (dt p : Nat) (r : JRec) (rest : List (Nat × JRec)) (s : State), let t := elapse dt s
    let u := jnlPut (2 * (p % logSlots)) (recWord0 p r) (modJnl (fun j => { j with accepted := rest }) t)
    let v := if r.whole = true then jnlPut (2 * (p % logSlots) + 1) (recWord1 p r) u
      else modJnl (fun j => { j with intents := (r.ticket, p, r) :: j.intents }) u
    t.jnl.accepted = (p, r) :: rest →
    (p % logSlots ≠ 0 → exec (.recordDurable dt) s = .next (after dt s (sweep (durableEffect r v)))) ∧
    (p % logSlots = 0 → exec (.recordDurable dt) s = .next (after dt s
      (sweep (durableEffect r (emit 0x181 0 (raise JNL_INT_STAT_WRAP v))))))) ∧
  (∀ (dt time : Nat) (err : Bool) (s : State), let t := elapse dt s
    t.mode = .load → t.get JNL_STAT_STATE = jnlRecovering → t.get DMC_STAT_STATE = dmcReady →
    exec (.journalRecovery dt err time) s = .next (after dt s (loadEnds (Sys2Proof.Machine.journalRecovery err time t))) ∧
    (err = true → Sys2Proof.Machine.journalRecovery err time t = raise JNL_INT_STAT_RECDONE (t.set JNL_STAT_STATE jnlFailed))) ∧
  (∀ (dt : Nat) (acc : Access) (w : Word) (s : State), let t := elapse dt s
    let u := written 0x20060000 w t
    verdict acc 0x20060000 true t = .serve →
    (wrote w JNL_CTRL_RESTATE = true → wrote w JNL_CTRL_FORMAT = false → u.jnl.restate = none →
      exec (.restate dt acc w) s = .next (after dt s (modJnl (fun j => { j with restate := some 0 }) u))) ∧
    (wrote w JNL_CTRL_RESTATE = false → wrote w JNL_CTRL_FORMAT = true → u.jnl.formatting = false →
      (u.lifeCycle = lcBlank ∨ u.lifeCycle = lcMaker ∨ u.lifeCycle = lcReturn →
        exec (.formatJournal dt acc w) s = .next (after dt s
          (modJnl (fun j => { j with formatting := true }) (u.set JNL_STAT_STATE jnlFormatting)))) ∧
      (u.lifeCycle ≠ lcBlank → u.lifeCycle ≠ lcMaker → u.lifeCycle ≠ lcReturn →
        exec (.formatJournal dt acc w) s = .next (after dt s (u.set JNL_CTRL_FORMAT 0))))) ∧
  (∀ (dt : Nat) (s : State), let t := elapse dt s
    t.jnl.formatting = true →
    exec (.fmtdone dt) s = .next (after dt s (raise JNL_INT_STAT_FMTDONE
      (((blankJournal t).set JNL_STAT_STATE jnlReady).set JNL_CTRL_FORMAT 0)))) ∧
  (∀ (dt : Nat) (s : State), let t := elapse dt s
    t.jnl.restate = some (nodeCount + 64) → t.jnl.accepted = [] →
    exec (.restated dt) s = .next (after dt s (raise JNL_INT_STAT_RESTATED
      ((modJnl (fun j => { j with restate := none }) t).set JNL_CTRL_RESTATE 0)))) ∧
  (∀ (dt : Nat) (acc : Access) (w : Word) (s : State), let t := elapse dt s
    let u := written 0x20060018 w t
    verdict acc 0x20060018 true t = .serve →
    (2 ≤ extractBits w 0 2 →
      exec (.slotRecord dt acc w) s = .next (after dt s (errorResponse (u.setWord 0x20060018 (t.word 0x20060018))))) ∧
    (extractBits w 0 2 < 2 → wrote w JNL_SLOTCMD_GO = true → u.jnl.slotTicket = none →
      exec (.slotRecord dt acc w) s = .next (after dt s (modJnl (fun j => { j with slotTicket := some u.jnl.nextTicket })
        (jnlOffer recSlot (paySlot (u.get JNL_SLOTCMD_SLOT) (u.get JNL_ISEQ_ISEQ)) u)))))

/-- A GO of an idle check unit starts a run with its current registers, LEN 0 ending BADARG; during LOAD only the loader's
takes effect. The task starts an idle unit with the check initiator, non-secure. ABORT ends a run ABORTED, or lets it
complete with ABORT_LATE where the two meet. A run that completes holds the CRC of its octets in VAL and ends OK,
MISMATCH where CMPEN is set and it differs from EXP, or BUSERR where the octets cannot be read. A pacer step whose
time has come advances INDEX, and at the last one clears M and ENFORCE, raises PACEDONE and ends; STOP of an active
pacer ends it with PACESTOP; a step at the same instant is undone, and what it wrote to LNK_ADM too. -/
def Obligations.CheckUnitsAndThePacerTakeEffect : Prop :=
  (∀ (dt u : Nat) (acc : Access) (w : Word) (s : State), let t := elapse dt s
    let v := (written (chkCtrlAddr u) w t).set (CHKu_CTRL_ABORT u) 0
    u < 4 → verdict acc (chkCtrlAddr u) true t = .serve → wrote w (CHKu_CTRL_GO u) = true → wrote w (CHKu_CTRL_ABORT u) = false →
    v.chkRun u = none →
    (v.mode ≠ .load → exec (.chkStart dt u (.write acc w)) s = .next (after dt s
      (Sys2Proof.Machine.chkStart u acc (startTask (chkTask u) v)))) ∧
    (v.mode = .load → acc.init ≠ initLoader →
      exec (.chkStart dt u (.write acc w)) s = .next (after dt s (v.set (CHKu_CTRL_GO u) 0)))) ∧
  (∀ (dt u : Nat) (s : State), let t := elapse dt s
    u < 4 → t.taskQueued (chkTask u) = true → t.chkRun u = none →
    exec (.chkStart dt u .task) s = .next (after dt s (Sys2Proof.Machine.chkStart u
      { init := initCheck, secure := false, bytes := 4 } (raise (CHKu_CTRL_GO u) (takeTask (chkTask u) t))))) ∧
  (∀ (dt u : Nat) (acc : Access) (w : Word) (fin : Bool) (r : ChkRun) (s : State), let t := elapse dt s
    let v := (written (chkCtrlAddr u) w t).set (CHKu_CTRL_ABORT u) 0
    let x := if fin = true then raise (CHKu_STAT_ABORT_LATE u) (chkComplete r v) else chkEnd u chkAborted v
    u < 4 → verdict acc (chkCtrlAddr u) true t = .serve → wrote w (CHKu_CTRL_GO u) = false → wrote w (CHKu_CTRL_ABORT u) = true →
    v.chkRun u = some r →
    exec (.chkAbort dt acc u w fin) s = .next (after dt s (x.set (CHKu_CTRL_GO u) (flag (x.chkRun u).isSome)))) ∧
  (∀ (dt u : Nat) (r : ChkRun) (s : State), let t := elapse dt s
    t.chkRun u = some r → exec (.chkDone dt u) s = .next (after dt s (chkComplete r t))) ∧
  (∀ (r : ChkRun) (os : Octets) (s v : State),
    (engineRead r.acc r.addr r.len s = (none, v) → chkComplete r s = chkEnd r.unit chkBuserr v) ∧
    (engineRead r.acc r.addr r.len s = (some os, v) → (r.cmp = false ∨ checkValue r.poly os = r.exp % 2 ^ checkWidth r.poly) →
      chkComplete r s = chkEnd r.unit chkOk ((v.set (CHKu_VAL_LO_VAL r.unit) (checkValue r.poly os)).set
        (CHKu_VAL_HI_VAL r.unit) (checkValue r.poly os / 2 ^ 32))) ∧
    (engineRead r.acc r.addr r.len s = (some os, v) → r.cmp = true → checkValue r.poly os ≠ r.exp % 2 ^ checkWidth r.poly →
      chkComplete r s = chkEnd r.unit chkMismatch ((v.set (CHKu_VAL_LO_VAL r.unit) (checkValue r.poly os)).set
        (CHKu_VAL_HI_VAL r.unit) (checkValue r.poly os / 2 ^ 32)))) ∧
  (∀ (dt : Nat) (s : State), let t := elapse dt s
    let u := modCfg (fun c => { c with
      pacerFrom := c.pacerFrom + t.get CFG_PACE_STEP * msCycles,
      paced := some (t.cycles, t.word admAddr, t.is CFG_INT_STAT_PACEDONE) }) t
    t.is CFG_PACECTL_ACTIVE = true → t.passed t.cfg.pacerFrom (t.get CFG_PACE_STEP * msCycles) = true →
    (u.get LNK_ADM_INDEX + 1 ≠ 2 ^ u.get LNK_ADM_M → exec (.pacerStep dt) s = .next (after dt s (admAdvance u))) ∧
    (u.get LNK_ADM_INDEX + 1 = 2 ^ u.get LNK_ADM_M → exec (.pacerStep dt) s = .next (after dt s
      (raise CFG_INT_STAT_PACEDONE ((changeMirrored admAddr (fun x => (x.set LNK_ADM_M 0).set LNK_ADM_ENFORCE 0) u).set
        CFG_PACECTL_ACTIVE 0))))) ∧
  (∀ (dt : Nat) (acc : Access) (w : Word) (s : State), let t := elapse dt s
    let u := (written 0x2004001C w t).set CFG_PACECTL_STOP 0
    verdict acc 0x2004001C true t = .serve → wrote w CFG_PACECTL_STOP = true →
    (u.cfg.paced = none → u.is CFG_PACECTL_ACTIVE = true →
      exec (.pacerStop dt acc w) s = .next (after dt s (raise CFG_INT_STAT_PACESTOP (u.set CFG_PACECTL_ACTIVE 0)))) ∧
    (∀ (c : Nat) (adm : Word) (d : Bool), u.cfg.paced = some (c, adm, d) → c ≠ u.cycles → u.is CFG_PACECTL_ACTIVE = true →
      exec (.pacerStop dt acc w) s = .next (after dt s (raise CFG_INT_STAT_PACESTOP (u.set CFG_PACECTL_ACTIVE 0)))) ∧
    (∀ (adm : Word) (d : Bool), u.cfg.paced = some (u.cycles, adm, d) →
      exec (.pacerStop dt acc w) s = .next (after dt s (Sys2Proof.Machine.pacerStop
        (changeMirrored admAddr (State.setWord admAddr adm) u))))) ∧
  (∀ (adm : Word) (d : Bool) (x : State), x.cfg.paced = some (x.cycles, adm, d) →
    Sys2Proof.Machine.pacerStop x = raise CFG_INT_STAT_PACESTOP
      ((((modCfg (fun c => { c with paced := none }) x).set CFG_PACECTL_ACTIVE 1).set CFG_INT_STAT_PACEDONE (flag d)).set
        CFG_PACECTL_ACTIVE 0))

/-- A served write of LPW_RSTCMD with KEY 0xA5 resets the device with cause CMD, MAKER latching a maker request in
life-cycle MAKER only; another key does nothing. A kick with its key before the expiry restarts the watchdog, or the
supervisor of the core that makes it; another initiator's gets an error response. Outside RESET and LOAD the watchdog
warns once and then resets with cause WDOG at its expiry; a supervisor with a TIMEOUT resets its core, or holds it
after MAXRST resets, and a write of HELD releases a held core. A sensor sample shows the temperatures and supplies, a
site out of range fires the armed alarm source TEMP, and its newly set threshold bits are logged. The task LOG writes
entry 0x0380 with the run's hop count. -/
def Obligations.LapwingWatchesAndResets : Prop :=
  (∀ (dt : Nat) (acc : Access) (w : Word) (s : State), let t := elapse dt s
    let u := (written 0x20030008 w t).setWord 0x20030008 0
    verdict acc 0x20030008 true t = .serve →
    (extractBits w 0 8 = 0xA5 → exec (.resetCommand dt acc w) s = .next (after dt s
      (deviceReset causeCmd (bitAt w.toNat 8 && u.lifeCycle == lcMaker) u))) ∧
    (extractBits w 0 8 ≠ 0xA5 → exec (.resetCommand dt acc w) s = .next (after dt s u))) ∧
  (∀ (dt : Nat) (acc : Access) (w : Word) (s : State), let t := elapse dt s
    let x := w ||| 0x100
    let u := (written 0x20030008 x t).setWord 0x20030008 0
    verdict acc 0x20030008 true t = .serve → extractBits x 0 8 = 0xA5 →
    exec (.makerRequest dt acc w) s = .next (after dt s
      (deviceReset causeCmd (bitAt x.toNat 8 && u.lifeCycle == lcMaker) u))) ∧
  (∀ (dt : Nat) (acc : Access) (w : Word) (s : State), let t := elapse dt s
    let u := (written 0x20030024 w t).setWord 0x20030024 0
    verdict acc 0x20030024 true t = .serve → extractBits w 0 8 = 0x4B →
    (u.cycles < u.wdtEnd → exec (.watchdogKick dt acc w) s = .next (after dt s
      (modLpw (fun l => { l with wdtFrom := u.cycles, warned := false }) u))) ∧
    (u.wdtEnd ≤ u.cycles → exec (.watchdogKick dt acc w) s = .next (after dt s u))) ∧
  (∀ (dt : Nat) (s : State), let t := elapse dt s
    t.lpw.powerGood = true → t.mode.romKicks = false →
    (t.lpw.warned = false → t.wdtEnd - t.get LPW_WDT_CFG_WARN * msCycles ≤ t.cycles → t.cycles < t.wdtEnd →
      exec (.wdogWarn dt) s = .next (after dt s (logEntry 0x0302 (modLpw (fun l => { l with warned := true }) t).wdtLeft
        (emit 0x0C2 0 (raise LPW_INT_STAT_WDWARN (modLpw (fun l => { l with warned := true }) t)))))) ∧
    (t.wdtEnd ≤ t.cycles → exec (.watchdogExpiry dt) s = .next (after dt s (deviceReset causeWdog false t)))) ∧
  (∀ (dt c : Nat) (acc : Access) (w : Word) (s : State), let t := elapse dt s
    let u := (written (supKickAddr c) w t).setWord (supKickAddr c) 0
    c < 2 → verdict acc (supKickAddr c) true t = .serve →
    (extractBits w 0 8 = 0x4B → acc.init = (if c = 0 then initHart0 else initHart1) → u.cycles < u.supEnd c →
      exec (.supervisorKick dt c acc w) s = .next (after dt s
        (modLpw (fun l => { l with supFrom := (c, u.cycles) :: l.supFrom.filter (fun e => e.1 != c) }) u))) ∧
    (extractBits w 0 8 = 0x4B → acc.init ≠ (if c = 0 then initHart0 else initHart1) →
      exec (.supervisorKick dt c acc w) s = .next (after dt s { u with resp := .error })) ∧
    (extractBits w 0 8 ≠ 0x4B → exec (.supervisorKick dt c acc w) s = .next (after dt s u))) ∧
  (∀ (dt c : Nat) (s : State), let t := elapse dt s
    c < 2 → t.get (LPW_SUPc_CFG_TIMEOUT c) ≠ 0 → t.supEnd c ≤ t.cycles →
    exec (.supervisorExpiry dt c) s = .next (after dt s (superviseReset c t))) ∧
  (∀ (dt c : Nat) (acc : Access) (w : Word) (s : State), let t := elapse dt s
    let u := written (supStatAddr c) w t
    c < 2 → verdict acc (supStatAddr c) true t = .serve → bitAt w.toNat 4 = true → (u.hart c).state = .held →
    exec (.heldRelease dt c acc w) s = .next (after dt s (restartHart c (setHart c ((u.hart c).toReset .reset) u)))) ∧
  (∀ (dt : Nat) (s : State), let t := elapse dt s
    t.taskQueued 0x0C0 = true →
    exec (.logMark dt) s = .next (after dt s (endTask 0x0C0 (logEntryHop 0x0380 0 (t.taskHop 0x0C0) (takeTask 0x0C0 t))))) ∧
  (∀ (dt : Nat) (temps : List Int) (mv : List Nat) (s : State), let t := elapse dt s
    let v := forEach ((List.range 6).zip mv) (fun e x =>
      lowerTo (LPW_VMONn_MIN e.1) (min 0xFFF e.2) (x.set (LPW_VMONn_MV e.1) (min 0xFFF e.2)))
      (forEach ((List.range 8).zip temps) (fun e x => x.set (LPW_TEMPn_T e.1) (twos 12 (clamp (-2048) 2047 e.2))) t)
    let hot := temps.any (fun x => decide (x < -200 ∨ 560 < x))
    let x := { v with sec := { v.sec with live := v.sec.live / 4 * 4 + 2 * flag hot + v.sec.live % 2 } }
    let u := if hot && x.is SEC_ALARM_EN_TEMP && !x.alarms.elem 1 then fireAlarm 1 x else x
    let old := (u.word 0x20030144).toNat
    let new := u.sensorBits temps mv &&& (0x3FFFFF - old)
    t.lpw.powerGood = true →
    (new = 0 → exec (.sensorSample dt temps mv) s = .next (after dt s u)) ∧
    (new ≠ 0 → exec (.sensorSample dt temps mv) s = .next (after dt s (logEntry 0x0303 (new % 2 ^ 16)
      (emit 0x0C3 0 (raise LPW_INT_STAT_SENSOR (u.setWord 0x20030144 (BitVec.ofNat 32 (old ||| new)))))))))

/-- A GO of LPW_UPD_CMD while none is busy and no transition runs starts VERIFY, activates, or ends BADARG; a VERIFY ends
with its result. A drained activation, or one 20 ms old, writes its SLOT record where VERIFIED stands and resets the
device with cause UPDATE. A GO of LPW_SPIX_CMD starts a pass-through, a write sending the octets at the buffer and
clearing VERIFIED; it is refused in RESET and LOAD and with ALEN 1; its end clears BUSY and GO and raises SPIXDONE. A
GO of LPW_LC_CMD begins a transition that the table allows and whose conditions hold, or ends it BUSY, NOTALLOWED or
PRECOND; with three copies programmed it ends DONE and resets the device, with fewer FUSE. Tokens of each type reach
the check the same way, by LPW_TOK_CMD or queue 63; the check's end renews the challenge and applies an OK token. A
debug window ends at its time. -/
def Obligations.UpdatesTokensAndTheLifeCycleTakeEffect : Prop :=
  (∀ (dt : Nat) (acc : Access) (w : Word) (s : State), let t := elapse dt s
    let u := written 0x200300B0 w t
    verdict acc 0x200300B0 true t = .serve → wrote w LPW_UPD_CMD_GO = true → u.is LPW_UPD_STAT_BUSY = false →
    u.lpw.lc = none →
    (u.get LPW_UPD_CMD_OP = 1 → exec (.verify dt acc w) s = .next (after dt s
      (modLpw (fun l => { l with verifying := true }) (raise LPW_UPD_STAT_BUSY u)))) ∧
    (u.get LPW_UPD_CMD_OP = 2 → exec (.activate dt acc w) s = .next (after dt s (Sys2Proof.Machine.activate u))) ∧
    (u.get LPW_UPD_CMD_OP = 0 ∨ u.get LPW_UPD_CMD_OP = 3 →
      exec (.updateBadarg dt acc w) s = .next (after dt s (endUpdate updBadarg u)))) ∧
  (∀ (dt : Nat) (nvm : List (Nat × Octets)) (bad : Bool) (s : State), let t := elapse dt s
    t.lpw.verifying = true → exec (.verifyDone dt nvm bad) s = .next (after dt s (verifyEnds nvm bad t))) ∧
  (∀ (dt since : Nat) (s : State), let t := elapse dt s
    let u := writeSlotRecord t
    t.lpw.updFrom = some since → t.updateDrained = true ∨ t.passed since (20 * msCycles) = true →
    (t.is LPW_UPD_STAT_VERIFIED = true →
      exec (.updateDrained dt) s = .next (after dt s (deviceReset causeUpdate false (endUpdate u.1 u.2)))) ∧
    (t.is LPW_UPD_STAT_VERIFIED = false →
      exec (.updateDrained dt) s = .next (after dt s (deviceReset causeUpdate false (endUpdate updStale t))))) ∧
  (∀ (dt : Nat) (acc : Access) (w : Word) (s : State), let t := elapse dt s
    let u := written 0x200300C0 w t
    let v := if u.is LPW_SPIX_CMD_DIR = true then u.set LPW_UPD_STAT_VERIFIED 0 else u
    verdict acc 0x200300C0 true t = .serve → u.lpw.spix = none → wrote w LPW_SPIX_CMD_GO = true →
    (u.mode.romKicks = true ∨ u.get LPW_SPIX_CMD_ALEN = 1 →
      exec (.spixCommand dt acc w) s = .next (after dt s (raise LPW_INT_STAT_REFUSED (u.set LPW_SPIX_CMD_GO 0)))) ∧
    (u.mode.romKicks = false → u.get LPW_SPIX_CMD_ALEN ≠ 1 →
      exec (.spixCommand dt acc w) s = .next (after dt s (raise LPW_SPIX_CMD_BUSY (modLpw (fun l => { l with
        spix := some ((v.word 0x200300C0).toNat, v.get LPW_SPIX_ADDR_ADDR, v.get LPW_SPIX_BUF_OFFSET),
        spixOut := if v.is LPW_SPIX_CMD_DIR = true then Sparse.getRun blankByte v.lpwSram (v.get LPW_SPIX_BUF_OFFSET)
          (min (min 256 ((v.word 0x200300C0).toNat / 2 ^ 18 % 512)) (0x40000 - v.get LPW_SPIX_BUF_OFFSET)) else [] }) v))))) ∧
  (∀ (dt cmd addr buf : Nat) (data : Octets) (s : State), let t := elapse dt s
    let n := min (min 256 (cmd / 2 ^ 18 % 512)) (0x40000 - buf)
    let u : State := if bitAt cmd 17 then t.set LPW_UPD_STAT_VERIFIED 0
      else { t with lpwSram := Sparse.putRun blankByte t.lpwSram buf (padTo n (data.take n)) }
    t.lpw.spix = some (cmd, addr, buf) →
    exec (.spixdone dt data) s = .next (after dt s (raise LPW_INT_STAT_SPIXDONE
      (((modLpw (fun l => { l with spix := none }) u).set LPW_SPIX_CMD_BUSY 0).set LPW_SPIX_CMD_GO 0)))) ∧
  (∀ (dt : Nat) (acc : Access) (w : Word) (target : Nat) (u v s : State), let t := elapse dt s
    u = written 0x20030080 w t → target = u.get LPW_LC_CMD_TARGET →
    v = (if u.is LPW_LC_STAT_BUSY = true then lcEnds lcBusy u
      else if lcAllowed u.lifeCycle target = false then lcEnds lcNotallowed u
      else if u.lcReady target = false then lcEnds lcPrecond u else beginTransition target u) →
    verdict acc 0x20030080 true t = .serve → wrote w LPW_LC_CMD_GO = true →
    (target = lcMaker → exec (.lcMaker dt acc w) s = .next (after dt s v)) ∧
    (target = lcField → exec (.lcField dt acc w) s = .next (after dt s v)) ∧
    (target = lcScrapped → exec (.lcScrapped dt acc w) s = .next (after dt s v))) ∧
  (∀ (dt copies : Nat) (run : LcRun) (s : State), let t := elapse dt s
    let u := (modLpw (fun l => { l with lc := none }) (programLifeCycle run.bit copies t)).set LPW_LC_STAT_BUSY 0
    t.lpw.lc = some run →
    (copies < 3 → exec (.lcTransitionDone dt copies) s = .next (after dt s (lcEnds lcFuse u))) ∧
    (3 ≤ copies → exec (.lcTransitionDone dt copies) s = .next (after dt s
      (deviceReset causeLctrans false (logEntry 0x0382 (run.old + 8 * run.new) (lcEnds lcDone u)))))) ∧
  (∀ (dt : Nat) (via : TokenVia) (v s : State), let t := elapse dt s
    (∀ (acc : Access) (w : Word), via = .write acc w → verdict acc 0x200300A8 true t = .serve →
      v = tokCmdWrite w (written 0x200300A8 w t) →
      exec (.cdebug dt via) s = .next (after dt s v) ∧ exec (.returnToken dt via) s = .next (after dt s v) ∧
      exec (.scrap dt via) s = .next (after dt s v) ∧ exec (.mdebug dt via) s = .next (after dt s v) ∧
      exec (.remake dt via) s = .next (after dt s v)) ∧
    (via = .queue → t.qEmpty 63 = false → t.message63.take 4 = tokenMagic →
      v = tokenArrives (some t.message63) (qAdvanceCi 63 t) →
      exec (.cdebug dt via) s = .next (after dt s v) ∧ exec (.returnToken dt via) s = .next (after dt s v) ∧
      exec (.scrap dt via) s = .next (after dt s v) ∧ exec (.mdebug dt via) s = .next (after dt s v) ∧
      exec (.remake dt via) s = .next (after dt s v))) ∧
  (∀ (dt : Nat) (s : State), let t := elapse dt s
    let u := renewChallenge (modLpw (fun l => { l with tok := none })
      (((t.set LPW_TOK_STAT_BUSY 0).set LPW_TOK_CMD_GO 0).set LPW_LC_STAT_BUSY 0))
    (t.lpw.tok = some none →
      exec (.tokdone dt) s = .next (after dt s (tokenEnds (tokType []) tokRead u))) ∧
    (∀ os : Octets, t.lpw.tok = some (some os) →
      (t.tokenResult os = tokOk →
        exec (.tokdone dt) s = .next (after dt s (applyToken os (tokenEnds (tokType os) tokOk u)))) ∧
      (t.tokenResult os ≠ tokOk →
        exec (.tokdone dt) s = .next (after dt s (tokenEnds (tokType os) (t.tokenResult os) u))))) ∧
  (∀ (dt what stop : Nat) (s : State), let t := elapse dt s
    t.lpw.debug = some (what, stop) → stop ≤ t.cycles →
    exec (.debugWindowEnd dt) s = .next (after dt s (closeWindow t)))

/-- A served write of PWR_DOMn, and one with RELEASE, act by the register's rules. An idle domain that may enter begins
its entry to REQ, whose end leaves it in that state, off losing its contents and a transmit chain its lock, and starts
the wake that waited. A cause that holds begins the wake of a domain that is not absent, locked off or about to be
restarted by its group; of the latter two only the group is refused. A cause that does not hold does nothing. A member
of a group that stops or wakes lets its group go on. A wake that ends turns the domain on and serves the accesses that
wait for it. The oldest access stalled for 200 us gets an error response, logged against the domain it waits for;
where none is, a bus request stalled at the DRAM controller does. -/
def Obligations.PowerDomainsMoveAsAsked : Prop :=
  (∀ (dt n : Nat) (acc : Access) (w : Word) (s : State), let t := elapse dt s
    n < domainCount → verdict acc (domAddr n) true t = .serve →
    exec (.domainReqWrite dt acc n w) s = .next (after dt s
      (domSet acc n (t.word (domAddr n)) w (written (domAddr n) w t))) ∧
    exec (.domainRelease dt acc n w) s = .next (after dt s
      (domSet acc n (t.word (domAddr n)) (w ||| 0x80000) (written (domAddr n) (w ||| 0x80000) t)))) ∧
  (∀ (dt n : Nat) (s : State), let t := elapse dt s
    t.mayEnter n = true → exec (.domainIdle dt n) s = .next (after dt s (beginEntry n (t.get (PWR_DOMn_REQ n)) t))) ∧
  (∀ (dt n : Nat) (x : DomTrans) (s : State), let t := elapse dt s
    let u := ((dropTrans n t).set (PWR_DOMn_STATE n) x.target).set (PWR_DOMn_TRANS n) 0
    let y := if x.target = 0 then domainLose n u else u
    let v := groupEntered n (if 34 ≤ n then unlockChain (n - 34) y else y)
    t.transOf n = some x → x.target ≠ 2 →
    (x.again = none → exec (.domainEntryDone dt n) s = .next (after dt s v)) ∧
    (∀ c : Nat × Nat, x.again = some c → exec (.domainEntryDone dt n) s = .next (after dt s (beginWake n c v)))) ∧
  (∀ (dt n : Nat) (cause : WakeCause) (s : State), let t := elapse dt s
    let u := groupAccess n t
    (t.causeHolds n cause = true → domainAbsent t.variant n = false →
      (u.groupRestarts n = false → u.domainLocked n = false →
        exec (.domainWake dt n cause) s = .next (after dt s (beginWake n (wakeCode cause) u))) ∧
      (u.groupRestarts n = true ∨ u.domainLocked n = true →
        exec (.domainWake dt n cause) s = .next (after dt s u))) ∧
    (t.causeHolds n cause = false → exec (.domainWake dt n cause) s = .next (after dt s t))) ∧
  (∀ (dt n : Nat) (x : DomTrans) (s : State), let t := elapse dt s
    let u := groupWoken n (domainOnNow n x.cause x.init t)
    t.transOf n = some x → x.target = 2 →
    (u.domainOn n = true → exec (.wake dt n) s = .next (after dt s (serveDomain n u))) ∧
    (u.domainOn n = false → exec (.wake dt n) s = .next (after dt s u))) ∧
  (∀ (dt : Nat) (s : State), let t := elapse dt s
    (∀ x : Stalled, t.stalled.find? (fun x => t.passed x.since 64000) = some x →
      exec (.busTimeout dt) s = .next (after dt s (errorResponse (domainError 1 x.on x.acc.init
        { t with stalled := t.stalled.erase x })))) ∧
    (∀ (r : DmcReq) (a : Access), t.stalled.find? (fun x => t.passed x.since 64000) = none →
      t.dmc.queue.find? (fun r => r.acc.isSome && t.passed r.since 64000) = some r → r.acc = some a →
      exec (.busTimeout dt) s = .next (after dt s (errorResponse (domainError 1 domDmc a.init
        (modDmc (fun m => { m with queue := m.queue.filter (fun q => q.id != r.id) }) t))))))

/-- GO of an idle group whose TARGET is legal and that has members prepares it: its members not in another group are
marked, and LATE, ABORT_LATE, REFUSER and REASON are cleared; TARGET 3 or no member is an error. When the last member
has voted the group goes to COMMIT, at once for target on, or is refused with the first refuser and its reason. A
commit stops its members one after the other, or wakes them for target on; with none left it gives them their REQ and
ends DONE with GROUPDONE and event 0x041. After a late refusal the stopped members restart, the last stopped first,
and the group ends REFUSED with LATE. ABORT refuses a group in PREPARE, refuses one in COMMIT late, and sets
ABORT_LATE of one DONE at that instant; of one done before it has no effect. -/
def Obligations.SleepGroupsVoteAndCommit : Prop :=
  (∀ (dt g : Nat) (acc : Access) (w : Word) (s : State), let t := elapse dt s
    let a := grpCtrlAddr g
    let u := written a w t
    verdict acc a true t = .serve → bitAt (t.word a).toNat 31 = false → wrote w (PWR_GRPg_CTRL_GO g) = true →
    wrote w (PWR_GRPg_CTRL_ABORT g) = false →
    (u.get (PWR_GRPg_CTRL_TARGET g) = 3 ∨ u.members g = [] →
      exec (.groupGo dt acc g w) s = .next (after dt s (domainError 3 0 acc.init (u.set (PWR_GRPg_CTRL_GO g) 0)))) ∧
    (u.get (PWR_GRPg_CTRL_TARGET g) ≠ 3 → u.members g ≠ [] →
      let v := ((((u.set (PWR_GRPg_STAT_STATE g) grpPrepare).set (PWR_GRPg_STAT_LATE g) 0).set
        (PWR_GRPg_STAT_ABORT_LATE g) 0).set (PWR_GRPg_STAT_REFUSER g) 0).set (PWR_GRPg_STAT_REASON g) 0
      exec (.groupGo dt acc g w) s = .next (after dt s (forEach (v.members g) (fun d x =>
        if (x.groupOf d).isSome then x else (x.set (PWR_DOMn_INGRP d) 1).set (PWR_DOMn_GROUP d) g) v)))) ∧
  (∀ (dt g : Nat) (busy : List Nat) (s : State), let t := elapse dt s
    let votes := (t.members g).filterMap (fun d => (t.vote g d (busy.elem d)).map (fun r => (d, r)))
    t.get (PWR_GRPg_STAT_STATE g) = grpPrepare →
    (t.get (PWR_GRPg_CTRL_TARGET g) = 2 →
      exec (.groupVoteEnd dt g busy) s = .next (after dt s (groupNext g (t.set (PWR_GRPg_STAT_STATE g) grpCommit)))) ∧
    (t.get (PWR_GRPg_CTRL_TARGET g) ≠ 2 → votes = [] →
      exec (.groupVoteEnd dt g busy) s = .next (after dt s (groupNext g (t.set (PWR_GRPg_STAT_STATE g) grpCommit)))) ∧
    (∀ d r : Nat, t.get (PWR_GRPg_CTRL_TARGET g) ≠ 2 → votes.find? (fun v => v.2 != 1) = some (d, r) →
      exec (.groupVoteEnd dt g busy) s = .next (after dt s (refuseGroup g d r false t)))) ∧
  (∀ (n g : Nat) (u : State), let target := u.get (PWR_GRPg_CTRL_TARGET g)
    let done : State :=
      let v := forEach (u.members g) (fun d x => x.set (PWR_DOMn_REQ d) target) u
      emit 0x041 0 (raise PWR_DOM_INT_STAT_GROUPDONE (freeMembers g
        (((modPwr (fun p => { p with
            stopped := p.stopped.filter (fun e => e.1 != g), doneAt := (g, v.cycles) :: p.doneAt.filter (fun e => e.1 != g) }) v).set
          (PWR_GRPg_STAT_STATE g) grpDone).set (PWR_GRPg_CTRL_GO g) 0)))
    (u.nextMember g = none → groupNext g u = done) ∧
    (∀ d : Nat, u.nextMember g = some d →
      (target = 2 → groupNext g u = beginWake d (wakeCode .group) u) ∧ (target ≠ 2 → groupNext g u = beginEntry d target u)) ∧
    (u.get (PWR_GRPg_STAT_STATE g) = grpCommit → u.nextMember g = none → commitRest (n + 1) g u = done) ∧
    (∀ d : Nat, u.get (PWR_GRPg_STAT_STATE g) = grpCommit → u.nextMember g = some d →
      (target = 2 → commitRest (n + 1) g u = commitRest n g (groupWoken d (domainOnNow d 5 0 u))) ∧
      (target ≠ 2 → commitRest (n + 1) g u = commitRest n g (groupEntered d (enterState d target u)))) ∧
    (∀ d : Nat, u.groupOf d = some g → u.get (PWR_GRPg_STAT_STATE g) = grpCommit → target ≠ 2 →
      u.get (PWR_GRPg_STAT_REFUSER g) = 0 →
      groupEntered d u = groupNext g (modPwr (fun p => { p with stopped := (g, d) :: p.stopped }) u))) ∧
  (∀ (dt g : Nat) (s : State), let t := elapse dt s
    t.get (PWR_GRPg_STAT_STATE g) = grpCommit → t.get (PWR_GRPg_STAT_REFUSER g) = 0 →
    exec (.groupCommit dt g) s = .next (after dt s (commitRest (domainCount + 1) g t))) ∧
  (∀ (dt g : Nat) (s : State), let t := elapse dt s
    t.get (PWR_GRPg_STAT_STATE g) = grpRestoring →
    exec (.groupRefused dt g none) s = .next (after dt s (restoreRest (domainCount + 1) g t))) ∧
  (∀ (n g : Nat) (u : State), u.get (PWR_GRPg_STAT_STATE g) = grpRestoring →
    (u.pwr.stopped.find? (fun e => e.1 == g) = none → restoreRest (n + 1) g u =
      refuseGroup g (u.get (PWR_GRPg_STAT_REFUSER g)) (u.get (PWR_GRPg_STAT_REASON g)) true u) ∧
    (∀ e : Nat × Nat, u.pwr.stopped.find? (fun e => e.1 == g) = some e →
      restoreRest (n + 1) g u = restoreRest n g (groupWoken e.2 (domainOnNow e.2 5 0 u)))) ∧
  (∀ (dt g : Nat) (acc : Access) (w : Word) (s : State), let t := elapse dt s
    let a := grpCtrlAddr g
    let u := (written a w t).set (PWR_GRPg_CTRL_TARGET g) (extractBits (t.word a) 0 2)
    let v := u.set (PWR_GRPg_CTRL_ABORT g) 0
    verdict acc a true t = .serve → bitAt (t.word a).toNat 31 = true → wrote w (PWR_GRPg_CTRL_ABORT g) = true →
    (v.get (PWR_GRPg_STAT_STATE g) = grpPrepare →
      exec (.groupAbort dt acc g w) s = .next (after dt s (refuseGroup g 0x3E 7 false v))) ∧
    (v.get (PWR_GRPg_STAT_STATE g) = grpCommit →
      exec (.groupAbort dt acc g w) s = .next (after dt s (lateRefusal g 0x3E 7 v))) ∧
    (v.get (PWR_GRPg_STAT_STATE g) = grpDone → v.pwr.doneAt.elem (g, v.cycles) = true →
      exec (.groupAbort dt acc g w) s = .next (after dt s (raise (PWR_GRPg_STAT_ABORT_LATE g) v))) ∧
    (v.get (PWR_GRPg_STAT_STATE g) = grpDone → v.pwr.doneAt.elem (g, v.cycles) = false →
      exec (.groupAbort dt acc g w) s = .next (after dt s v)))

/-- With mains sense enabled a half-cycle value at the input, scaled by GAIN sixteenths, is shown in 0.1 V, with its
minimum, and steps the sag, swell and mains states; a crossing is stamped and ends LOST; a frequency beyond FTOL of
nominal raises FREQDEV once and one within clears it; an open or shorted input, or two nominal cycles without a
crossing, is counted and raised as LOST and interrupts a state GOOD or RESTORING. RESTORE x 100 ms of stability enter
GOOD, and HOLDOVER then ends in SOLO unless a trigger of LASTGASP is present. HOLDOVER past HOLDMAX goes to LASTGASP;
in LASTGASP the domains are locked off once no decided frame waits and no chain is on the air, or after 5 ms; each of
STATN messages is queued in its turn; LGTIME ends LASTGASP in a reset. -/
def Obligations.MainsSenseActsOnItsValues : Prop :=
  (∀ (dt uv : Nat) (s : State), let t := elapse dt s
    let m := min ((uv * t.get PWR_MS_CFG_GAIN + 800000) / 1600000) 65535
    let u := t.set PWR_MS_RMS_URMS m
    let v := u.set PWR_MS_RMS_MIN (if u.mains.minSeen then min m (u.get PWR_MS_RMS_MIN) else m)
    t.is PWR_MS_CFG_EN = true →
    exec (.halfCycle dt uv) s = .next (after dt s
      (mainsStep m (sagSwell m (modMains (fun x => { x with minSeen := true }) v))))) ∧
  (∀ (dt ago : Nat) (s : State), let t := elapse dt s
    t.is PWR_MS_CFG_EN = true →
    exec (.zeroCrossing dt ago) s = .next (after dt s
      (modMains (fun m => { m with zcAt := t.cycles - ago }) ((t.set PWR_MS_ZC_TS32 (t.ts - ago)).set PWR_MS_STAT_LOST 0)))) ∧
  (∀ (dt mhz : Nat) (s : State), let t := elapse dt s
    let u := t.set PWR_MS_FREQ_MHZ (min mhz 1048575)
    let dev := max (mhz - u.nominalMhz) (u.nominalMhz - mhz)
    t.is PWR_MS_CFG_EN = true →
    (u.get PWR_MS_TIME_FTOL * u.nominalMhz < dev * 1000 → u.is PWR_MS_STAT_FREQDEV = false →
      exec (.frequencyUpdate dt mhz) s = .next (after dt s (raise PWR_MH_INT_STAT_FREQDEV (raise PWR_MS_STAT_FREQDEV u)))) ∧
    (u.get PWR_MS_TIME_FTOL * u.nominalMhz < dev * 1000 → u.is PWR_MS_STAT_FREQDEV = true →
      exec (.frequencyUpdate dt mhz) s = .next (after dt s u)) ∧
    (dev * 1000 ≤ u.get PWR_MS_TIME_FTOL * u.nominalMhz →
      exec (.frequencyUpdate dt mhz) s = .next (after dt s (u.set PWR_MS_STAT_FREQDEV 0)))) ∧
  (∀ (dt : Nat) (shut : Bool) (s : State), let t := elapse dt s
    let u := raise PWR_MH_INT_STAT_LOST (count PWR_MS_CNT_LOSTS 1 (raise PWR_MS_STAT_LOST t))
    t.is PWR_MS_CFG_EN = true → t.is PWR_MS_STAT_LOST = false →
    shut = true ∨ t.passed t.mains.zcAt t.twoCycles = true →
    (u.get PWR_MS_STAT_STATE = msGood ∨ u.get PWR_MS_STAT_STATE = msRestoring →
      exec (.signalLoss dt shut) s = .next (after dt s (interruption u))) ∧
    (u.get PWR_MS_STAT_STATE ≠ msGood → u.get PWR_MS_STAT_STATE ≠ msRestoring →
      exec (.signalLoss dt shut) s = .next (after dt s u))) ∧
  (∀ (dt : Nat) (s : State), let t := elapse dt s
    let u := mainsGood t
    t.get PWR_MS_STAT_STATE = msRestoring → t.is PWR_MS_STAT_LOST = false →
    t.passed t.mains.stableFrom (t.get PWR_MS_TIME_RESTORE * 100 * msCycles) = true →
    (u.mode = .solo → exec (.restoreTimer dt) s = .next (after dt s u)) ∧
    (u.mode = .holdover → u.storeLow = true → exec (.restoreTimer dt) s = .next (after dt s
      (toLastgasp (emit 0x047 0 (raise PWR_MH_INT_STAT_STORELOW u))))) ∧
    (u.mode = .holdover → u.storeLow = false → u.holdLimit = true →
      exec (.restoreTimer dt) s = .next (after dt s (toLastgasp u))) ∧
    (u.mode = .holdover → u.storeLow = false → u.holdLimit = false →
      exec (.restoreTimer dt) s = .next (after dt s (enterMode 20 .solo u)))) ∧
  (∀ (dt : Nat) (s : State), let t := elapse dt s
    t.mode = .holdover → t.holdLimit = true → exec (.holdoverLimit dt) s = .next (after dt s (toLastgasp t))) ∧
  (∀ (dt : Nat) (s : State), let t := elapse dt s
    let u := gaspFollows t
    u.mode = .lastgasp →
    (u.hold.gasps < u.get PWR_LG_CFG_STATN →
      u.passed u.hold.gaspFrom (u.hold.gasps * u.get PWR_LG_CFG_STATGAP * 10 * msCycles) = true →
      exec (.lastgaspStatus dt) s = .next (after dt s (queueStatus u))) ∧
    (u.passed u.hold.gaspFrom (u.get PWR_LG_CFG_LGTIME * msCycles) = true →
      exec (.lastgaspTimeLimit dt) s = .next (after dt s (deviceReset causeLastgasp false u)))) ∧
  (∀ t : State,
    (t.mode ≠ .lastgasp ∨ t.hold.gaspDrain = false → gaspFollows t = t) ∧
    (t.mode = .lastgasp → t.hold.gaspDrain = true → t.gaspBusy = true → t.passed t.hold.gaspFrom (5 * msCycles) = false →
      gaspFollows t = t) ∧
    (t.mode = .lastgasp → t.hold.gaspDrain = true → t.gaspBusy = false ∨ t.passed t.hold.gaspFrom (5 * msCycles) = true →
      gaspFollows t = chainsChanged (forEach t.lastgaspOff lockOff (modHold (fun h => { h with gaspDrain := false }) t))))

/-- A store sample shows voltage (by VDIV), current (by RSHUNT), energy and available energy and steps the store
controller and HOLDOVER. The input FETs open 20 mV below the bus and close 10 mV above it; CHGDLY after they closed,
WAIT goes to CHARGE; a current above 1.5 ICHG while charging restarts the ramp, the third in 1 s being a fault. The
service switch, BLEED and CLRFAULT act by the register's rules; a bleed past BLEEDT is a fault. The backup node
changes supply by its thresholds; below 1,350 mV it is reset. A second ticks the calendar unless a set is at its
instant; a stopped oscillator raises OSF; a legal calendar set is BUSY until it is applied as one, an illegal one
INVALID. -/
def Obligations.StoreAndBackupActAtTheirInstants : Prop :=
  (∀ (dt uv : Nat) (shunt : Int) (below : Bool) (s : State), let t := elapse dt s
    let u := huStep (modHold (fun h => { h with inRange := t.senseOk uv && !below })
      ((t.set PWR_HU_VI_MV (min (t.storeMv uv) 65535)).set PWR_HU_VI_MA (twos 16 (clamp (-32768) 32767 (t.shuntMa shunt)))))
    let v := u.set PWR_HU_E_E (min 65535 (u.storeEnergy / centiJoule))
    exec (.storeSample dt uv shunt below) s = .next (after dt s
      (holdStep (v.set PWR_HU_E_EA (min 65535 (u.storeAvailable / centiJoule)))))) ∧
  (∀ (dt vin bus : Nat) (s : State), let t := elapse dt s
    let u := t.set PWR_HU_STAT_IDC 0
    t.lpw.powerGood = true → t.is PWR_HU_STAT_IDC = true → vin + 20 ≤ bus →
    (u.huState = huCharge ∨ u.huState = huReady →
      exec (.inputFetOpen dt vin bus) s = .next (after dt s (huEnter huSupply u))) ∧
    (u.huState ≠ huCharge → u.huState ≠ huReady →
      exec (.inputFetOpen dt vin bus) s = .next (after dt s (huOutputs u)))) ∧
  (∀ (dt vin bus : Nat) (s : State), let t := elapse dt s
    let u := modHold (fun h => { h with closedFrom := t.cycles }) (raise PWR_HU_STAT_IDC t)
    t.lpw.powerGood = true → t.is PWR_HU_STAT_IDC = false → bus + 10 ≤ vin →
    (u.huState = huSupply → exec (.inputFetClose dt vin bus) s = .next (after dt s (huEnter huWait u))) ∧
    (u.huState ≠ huSupply → exec (.inputFetClose dt vin bus) s = .next (after dt s (huOutputs u)))) ∧
  (∀ (dt : Nat) (s : State), let t := elapse dt s
    t.huState = huWait → t.is PWR_HU_STAT_IDC = true →
    t.passed t.hold.closedFrom (t.get PWR_HU_CHG_CHGDLY * 10 * msCycles) = true →
    exec (.chargeDelayEnd dt) s = .next (after dt s (huEnter huCharge t))) ∧
  (∀ (dt : Nat) (shunt : Int) (s : State), let t := elapse dt s
    let ma := t.shuntMa shunt
    let u := t.set PWR_HU_VI_MA (twos 16 (clamp (-32768) 32767 ma))
    let v := huOutputs (modHold (fun h => { h with chargeFrom := u.cycles, trips := u.recentTrips ++ [u.cycles] }) u)
    t.huState = huCharge → t.is PWR_HU_STAT_CHG = true → 15 * (t.get PWR_HU_CHG_ICHG : Int) < ma →
    (v.recentTrips.length < 3 → exec (.chargeTrip dt shunt) s = .next (after dt s v)) ∧
    (3 ≤ v.recentTrips.length → exec (.chargeTrip dt shunt) s = .next (after dt s (huFaultBy 3 v)))) ∧
  (∀ (dt : Nat) (low : Bool) (s : State), let t := elapse dt s
    let u := t.set PWR_HU_STAT_SVC (flag low)
    (low = true → u.huState ≠ huOff → exec (.serviceSwitch dt low) s = .next (after dt s (huEnter huBleed u))) ∧
    (low = false → exec (.serviceSwitch dt low) s = .next (after dt s u))) ∧
  (∀ (dt : Nat) (acc : Access) (w : Word) (s : State), let t := elapse dt s
    let u := written huCtrlAddr w t
    let v := u.set PWR_HU_CTRL_CLRFAULT 0
    verdict acc huCtrlAddr true t = .serve →
    (wrote w PWR_HU_CTRL_CLRFAULT = false → wrote w PWR_HU_CTRL_BLEED = true → u.huState ≠ huOff →
      exec (.bleed dt acc w) s = .next (after dt s (huOutputs (huEnter huBleed u)))) ∧
    (wrote w PWR_HU_CTRL_CLRFAULT = true → wrote w PWR_HU_CTRL_BLEED = false →
      v.huState = huFault → v.huCause = none → v.bledDown = true →
      exec (.clrfault dt acc w) s = .next (after dt s (huOutputs (huEnter huWait v))))) ∧
  (∀ (dt : Nat) (s : State), let t := elapse dt s
    (t.huState = huBleed ∨ t.huState = huFault) → t.hold.bled = false → t.hold.bleedFailed = false →
    t.passed t.hold.bleedFrom (t.get PWR_HU_BLEED_BLEEDT * secCycles) = true →
    exec (.bleedfail dt) s = .next (after dt s
      (huFaultBy 4 (raise PWR_MH_INT_STAT_BLEEDFAIL (modHold (fun h => { h with bleedFailed := true }) t))))) ∧
  (∀ (dt aon vbat : Nat) (s : State), let t := elapse dt s
    (t.is BKP_STAT_ONVBAT = true → 1700 < aon → vbat + 50 < aon →
      exec (.supplySwitch dt aon vbat) s = .next (after dt s (bkpFlag bkpVbatOff (t.set BKP_STAT_ONVBAT 0)))) ∧
    (t.is BKP_STAT_ONVBAT = false → aon + 50 < vbat ∨ aon < 1600 →
      exec (.supplySwitch dt aon vbat) s = .next (after dt s (bkpFlag bkpVbatOn (raise BKP_STAT_ONVBAT t)))) ∧
    (t.is BKP_STAT_ONVBAT = false → vbat ≤ aon + 50 → 1600 ≤ aon →
      exec (.supplySwitch dt aon vbat) s = .next (after dt s t))) ∧
  (∀ (dt mv : Nat) (s : State), let t := elapse dt s
    (mv < 1350 → exec (.backupPor dt mv) s = .next (after dt s (Sys2Proof.Machine.backupPor t))) ∧
    (1350 ≤ mv → exec (.backupPor dt mv) s = .next (after dt s t))) ∧
  (∀ (dt : Nat) (s : State), let t := elapse dt s
    let u := bkpFlag bkpSecond (raise BKP_STAT_OSCRUN { t with bkp :=
      { t.bkp.tick.1 with ticked := some (t.cycles, t.bkp.timeWord, t.bkp.dateWord) } })
    t.bkp.tickFrom ≠ t.cycles →
    (t.bkp.tick.2 = false → exec (.rtcSecond dt) s = .next (after dt s u)) ∧
    (t.bkp.tick.2 = true → exec (.rtcSecond dt) s = .next (after dt s (bkpFlag bkpWrapped (raise BKP_STAT_WRAPPED u))))) ∧
  (∀ (dt : Nat) (s : State), let t := elapse dt s
    exec (.osf dt) s = .next (after dt s (bkpFlag bkpOsf (raise BKP_STAT_OSF (t.set BKP_STAT_OSCRUN 0))))) ∧
  (∀ (dt : Nat) (acc : Access) (w : Word) (s : State), let t := elapse dt s
    let u := written setCmdAddr w t
    let time := (u.word 0x20020008).toNat
    let date := (u.word 0x2002000C).toNat
    verdict acc setCmdAddr true t = .serve → wrote w BKP_SET_CMD_GO = true → u.is BKP_SET_CMD_BUSY = false →
    wrote w BKP_SET_CMD_TIME = true → wrote w BKP_SET_CMD_DATE = true →
    (timeLegal time = true → dateLegal date = true →
      exec (.calendarSet dt acc w) s = .next (after dt s (raise BKP_SET_CMD_BUSY
        (modBkp (fun b => { b with setFrom := some u.cycles, setTime := some time, setDate := some date }) u)))) ∧
    (timeLegal time = false ∨ dateLegal date = false →
      exec (.calendarSet dt acc w) s = .next (after dt s
        (bkpFlag bkpInvalid (raise BKP_STAT_DATE_INVALID (u.set BKP_SET_CMD_GO 0)))))) ∧
  (∀ (dt since : Nat) (s : State), let t := elapse dt s
    t.bkp.setFrom = some since →
    exec (.calendarSetApplied dt) s = .next (after dt s
      (((modBkp (Bkp.applySet t.cycles) t).set BKP_SET_CMD_BUSY 0).set BKP_SET_CMD_GO 0)))

/-- Where power was not good, power good starts the timebase, renews the challenge and raises what the backup domain owes.
While power is good, a rail below its falling threshold resets with cause POR, stops the timebase and leaves the TAP
at BYPASS; RESET_N held low resets with cause RESETN, and its release is remembered. A lost sample PLL or stopped
TCXO_IN is logged, resets with cause PLL and leaves PLL_FAULT raised. A receive LO still unlocked 1 ms after it was
lost is logged and resets with cause RXLO. -/
def Obligations.ResetsComeFromTheirCauses : Prop :=
  (∀ (dt : Nat) (s : State), let t := elapse dt s
    t.lpw.powerGood = false →
    exec (.powerGood dt) s = .next (after dt s (bkpReturn (renewChallenge
      { t with lpw := { t.lpw with powerGood := true, wdtFrom := t.cycles },
               tim := { t.tim with running := true, pllLock := true } })))) ∧
  (∀ (dt mv : Nat) (rail : Rail) (s : State), let t := elapse dt s
    let u := deviceReset causePor false t
    t.lpw.powerGood = true → mv < railFalling rail →
    exec (.supplyMonitorReset dt rail mv) s = .next (after dt s
      { u with tap := State.reset.tap, lpw := { u.lpw with powerGood := false },
               tim := { u.tim with running := false, pllLock := false } })) ∧
  (∀ (dt : Nat) (s : State), let t := elapse dt s
    (t.lpw.powerGood = true → exec (.resetN dt true) s = .next (after dt s
      (deviceReset causeResetn false { t with lpw := { t.lpw with resetLow := true } }))) ∧
    exec (.resetN dt false) s = .next (after dt s { t with lpw := { t.lpw with resetLow := false } })) ∧
  (∀ (dt : Nat) (tcxo : Bool) (s : State), let t := elapse dt s
    let v := modRim (fun r => { r with fading := (List.range 8).filterMap t.fadeOf }) t
    let u := raise TIM_INT_STAT_PLL_FAULT (deviceReset causePll false (logEntry 0x1280 0 v))
    t.lpw.powerGood = true →
    exec (.pllFault dt tcxo) s = .next (after dt s
      { u with tim := { u.tim with pllLock := false, tcxoOk := !tcxo } })) ∧
  (∀ (dt lost : Nat) (s : State), let t := elapse dt s
    t.rim.loLost = some lost → t.passed lost msCycles = true →
    exec (.rxloTimeout dt) s = .next (after dt s (deviceReset causeRxlo false (logEntry 0x0E80 0 t))))

/-- A RESET that may end does its work and, unless SCRAPPED, enters LOAD, recovers open flash records and reads the
header, or goes to MAKER when BLANK. The signature check records its time and goes on to the sections where the
signature is good, else fails SIG. A section not yet loaded, whose earlier sections of its location are loaded, is
loaded. A LOAD of 2,000 ms fails TIMEOUT. In SELFTEST, with calibration ended, the failing decoders are recorded and
stopped, DECFAIL is raised where there are any, and the items are judged. -/
def Obligations.TheLoaderStepsInOrder : Prop :=
  (∀ (dt : Nat) (backupBad vdd : Bool) (faults : BootFaults) (s : State), let t := elapse dt s
    let u := modSec (fun g => { g with katFail := faults.cores })
      (resetWork backupBad { t with tim := { t.tim with pllLock := true, tcxoOk := true } })
    let v := openRecordRecovery (changeMode 2 .load u)
    t.resetEnds = true →
    (u.lifeCycle = lcScrapped → exec (.resetEnd dt backupBad vdd faults) s = .next (after dt s u)) ∧
    (u.lifeCycle ≠ lcScrapped → v.lifeCycle = lcBlank →
      exec (.resetEnd dt backupBad vdd faults) s = .next (after dt s (changeMode 5 .maker (bootGorse v)))) ∧
    (u.lifeCycle ≠ lcScrapped → v.lifeCycle ≠ lcBlank →
      exec (.resetEnd dt backupBad vdd faults) s = .next (after dt s (loadHeader vdd faults.flashBad v)))) ∧
  (∀ (dt : Nat) (s : State), let t := elapse dt s
    let u := t.set CFG_TIMES_SIGUS (min 65535 ((t.cycles - t.cfg.sigFrom) / usCycles))
    t.mode = .load → t.get CFG_STAT_STATE = cfgSignature →
    exec (.signatureVerified dt) s = .next (after dt s
      (if t.signatureGood = true then u.set CFG_STAT_STATE cfgSections else loadFail failSig noSection u))) ∧
  (∀ (dt i : Nat) (nvm : Option Octets) (flashBad : Bool) (engine : EngineFaults) (s : State), let t := elapse dt s
    t.mode = .load → t.get CFG_STAT_STATE = cfgSections → i < t.nsec → i ∉ t.cfg.done →
    (∀ k < i, t.secLoc k = t.secLoc i → k ∈ t.cfg.done) →
    exec (.sectionLoaded dt i nvm flashBad engine) s = .next (after dt s (loadSection i nvm flashBad engine t))) ∧
  (∀ (dt : Nat) (s : State), let t := elapse dt s
    t.mode = .load → t.passed t.cfg.since (2000 * msCycles) = true →
    exec (.loadTimeout dt) s = .next (after dt s (loadFail failTimeout noSection t))) ∧
  (∀ (dt decFail : Nat) (s : State), let t := elapse dt s
    let f := t.set COD_DEC_RUN_FAIL (t.get COD_DEC_RUN_FAIL ||| decFail)
    let u := if decFail % 2 ^ 16 = 0 then f else raise COD_INT_STAT_DECFAIL f
    let v := u.set COD_DEC_RUN_RUN (u.get COD_DEC_RUN_RUN &&& (0xFFFF - u.get COD_DEC_RUN_FAIL))
    t.mode = .selftest → t.rim.calibrating = false → t.cfg.tested = none →
    exec (.selftestJudge dt decFail) s = .next (after dt s
      (judgeSelftest (modCfg (fun c => { c with tested := some v.selftestWord }) v))))

/-- A 4-byte access of a context by an initiator that may use it (context 2 by Lapwing alone) claims the best pending ID,
which leaves the pending set and is answered, or answers 0 where none is ready; a core whose last pending interrupt
goes has its domain's idle time start, and nothing else changes with it; a complete takes the ID out of those claimed.
A served write of MTIMECMPc_HI commits the low half that was held and MTIP follows. Task IRQk sets bit k of
APP_INT_STAT; a served write of APP_SWIRQ sets the bits written. A compare value reached sets MTIP and wakes the
core's domain unless it is locked off. -/
def Obligations.InterruptsAreClaimedAndTimed : Prop :=
  (∀ (dt ctx : Nat) (acc : Access) (s : State), let t := elapse dt s
    acc.bytes = 4 → ctx < 3 → (ctx = 2 → acc.init = 4) →
    (t.plicBest ctx = 0 →
      exec (.plicClaim dt acc ctx) s = .next (after dt s { t with resp := .data 0 })) ∧
    (t.plicBest ctx ≠ 0 →
      exec (.plicClaim dt acc ctx) s = .next (after dt s {
        keepPending (fun x => { x with app := { x.app with
          pendingIds := x.app.pendingIds.filter (fun i => i != t.plicBest ctx),
          claimed := x.app.claimed ++ [(t.plicBest ctx, ctx)] } }) t with
        resp := .data (BitVec.ofNat 32 (t.plicBest ctx)) }))) ∧
  (∀ (f : State → State) (x : State),
    ∃ uses : List (Nat × Nat), keepPending f x = modPwr (fun p => { p with lastUse := uses }) (f x)) ∧
  (∀ (dt ctx : Nat) (acc : Access) (w : Word) (s : State), let t := elapse dt s
    acc.bytes = 4 → ctx < 3 → (ctx = 2 → acc.init = 4) →
    exec (.plicComplete dt acc ctx w) s = .next (after dt s { t with
      resp := .ok, app := { t.app with claimed := t.app.claimed.filter (fun e => e != (w.toNat, ctx)) } })) ∧
  (∀ (dt core : Nat) (acc : Access) (w : Word) (s : State), let t := elapse dt s
    let u := written (mtimecmpLo core + 4) w t
    let v := match (u.hart core).cmpLo with
      | some low => u.setWord (mtimecmpLo core) low
      | none => u
    let h := { v.hart core with cmpLo := none }
    core < 2 → verdict acc (mtimecmpLo core + 4) true t = .serve →
    exec (.mtimecmpWrite dt acc core w) s = .next (after dt s
      (keepPending (fun x => setHart core { x.hart core with mtip := decide (x.mtimecmp core ≤ x.ts) } x) (setHart core h v)))) ∧
  (∀ (dt k : Nat) (s : State), let t := elapse dt s
    k < 8 → t.taskQueued (0x4C0 + k) = true →
    exec (.irq dt k .task) s = .next (after dt s
      (endTask (0x4C0 + k) (raise ⟨0x20130014, k, 1⟩ (takeTask (0x4C0 + k) t))))) ∧
  (∀ (dt k : Nat) (acc : Access) (w : Word) (s : State), let t := elapse dt s
    let u := (written 0x20130010 w t).setWord 0x20130010 0
    verdict acc 0x20130010 true t = .serve →
    exec (.irq dt k (.write acc w)) s = .next (after dt s (u.setWord 0x20130014 (u.word 0x20130014 ||| (w &&& 0xFF))))) ∧
  (∀ (dt core : Nat) (s : State), let t := elapse dt s
    let u := keepPending (fun x => setHart core { x.hart core with mtip := decide (x.mtimecmp core ≤ x.ts) } x) t
    core < 2 → t.mtimecmp core ≤ t.ts →
    (u.domainLocked (8 + core) = true → exec (.mtip dt core) s = .next (after dt s u)) ∧
    (u.domainLocked (8 + core) = false →
      exec (.mtip dt core) s = .next (after dt s (workFor (8 + core) .interrupt u))))

/-- An access of an allowed form to an SRAM bank whose domain is on and has no access waiting, that the map admits and the
firewall does not refuse, is served. A clean read answers the bytes; a clean load-reserve answers them and sets the
hart's reservation to the 64-byte block; a store-conditional stores and answers 0 where the reservation is that block,
else answers 1 and stores nothing, and clears the reservation in both cases; a clean AMO answers the old word and
stores its result; a word write stores and is acknowledged. A read of a word with an uncorrectable error is logged and
answered with an error. -/
def Obligations.TheApplicationSramServesItsOperations : Prop :=
  ∀ (dt a : Nat) (acc : Access) (s : State), let t := elapse dt s
    let d := 10 + (a - 0x10000000) / 0x40000
    let u := meetDomain d t
    let old : Word := BitVec.ofNat 32 (leNat (Sparse.getRun blankByte u.sram (a - 0x10000000) acc.bytes))
    let h := u.hart (hartOf acc)
    0x10000000 ≤ a → a < 0x10200000 → t.domainLocked d = false → t.domainReady d = true →
    (∀ ecc : SramEcc, sramForm acc a .read = true → targetAdmits (.sram (a - 0x10000000)) acc false t.mode = true →
      t.firewall acc false a acc.bytes = none →
      (ecc = .clean → exec (.appSramAccess dt acc a .read ecc) s = .next (after dt s (answerWord old u))) ∧
      (ecc = .double → exec (.appSramAccess dt acc a .read ecc) s = .next (after dt s
        (errorResponse (logDouble ((a - 0x10000000) / 4) u))))) ∧
    (∀ v : Word, sramForm acc a (.write v) = true → acc.bytes = 4 →
      targetAdmits (.sram (a - 0x10000000)) acc true t.mode = true → t.firewall acc true a acc.bytes = none →
      exec (.appSramAccess dt acc a (.write v) .clean) s = .next (after dt s
        { memPut a (le 4 v.toNat) u with resp := .ok })) ∧
    (sramForm acc a .lr = true → targetAdmits (.sram (a - 0x10000000)) acc false t.mode = true →
      t.firewall acc false a acc.bytes = none →
      exec (.appSramAccess dt acc a .lr .clean) s = .next (after dt s
        (answerWord old (setHart (hartOf acc) { h with reservation := some (a / 64) } u)))) ∧
    (∀ (v : Word) (ecc : SramEcc), sramForm acc a (.sc v) = true →
      targetAdmits (.sram (a - 0x10000000)) acc true t.mode = true → t.firewall acc true a acc.bytes = none →
      (h.reservation = some (a / 64) →
        exec (.appSramAccess dt acc a (.sc v) ecc) s = .next (after dt s
          (let w := memPut a (le acc.bytes v.toNat) u
           answerWord 0 (setHart (hartOf acc) { w.hart (hartOf acc) with reservation := none } w)))) ∧
      (h.reservation ≠ some (a / 64) →
        exec (.appSramAccess dt acc a (.sc v) ecc) s = .next (after dt s
          (answerWord 1 (setHart (hartOf acc) { h with reservation := none } u))))) ∧
    (∀ (f : AmoOp) (v : Word), sramForm acc a (.amo f v) = true →
      targetAdmits (.sram (a - 0x10000000)) acc true t.mode = true → t.firewall acc true a acc.bytes = none →
      exec (.appSramAccess dt acc a (.amo f v) .clean) s = .next (after dt s
        (answerWord old (memPut a (le acc.bytes (amoResult f old v).toNat) u))))

/-- EXTEST and SAMPLE/PRELOAD capture the cells, shift TDI through them and update the latches; CLAMP, HIGHZ and BYPASS
scan the one-bit bypass register, which captures 0, and leave the latches; an opcode that is not listed selects
BYPASS. DTMCS scans its word, and dmireset or dmihardreset clears the kept result. A DMI access does nothing while a
result 2 is kept; a closed debug module keeps result 2; an open one takes up what the system bus answered, then reads
or writes the register addressed, or does nothing for another operation. -/
def Obligations.TheTapScansTheSelectedRegister : Prop :=
  (∀ (dt : Nat) (capture tdi : List Bool) (s : State), let t := elapse dt s
    let e := ({ t with tap := { t.tap with ir := 0x00 } }).captured capture
    let p := ({ t with tap := { t.tap with ir := 0x02 } }).captured capture
    exec (.extest dt capture tdi) s = .next (after dt s { t with tap := { t.tap with
      ir := 0x00, cells := (tdi.reverse ++ e).take e.length, out := (e.reverse ++ tdi).take tdi.length } }) ∧
    exec (.samplePreload dt capture tdi) s = .next (after dt s { t with tap := { t.tap with
      ir := 0x02, cells := (tdi.reverse ++ p).take p.length, out := (p.reverse ++ tdi).take tdi.length } })) ∧
  (∀ (dt opcode : Nat) (tdi : List Bool) (s : State), let t := elapse dt s
    exec (.clamp dt tdi) s = .next (after dt s { t with tap := { t.tap with
      ir := 0x03, out := (false :: tdi).take tdi.length } }) ∧
    exec (.highz dt tdi) s = .next (after dt s { t with tap := { t.tap with
      ir := 0x04, out := (false :: tdi).take tdi.length } }) ∧
    (opcode < 32 → opcode ≠ 0x00 → opcode ≠ 0x02 → opcode ≠ 0x03 → opcode ≠ 0x04 → opcode ≠ 0x10 → opcode ≠ 0x11 →
      exec (.bypass dt opcode tdi) s = .next (after dt s { t with tap := { t.tap with
        ir := 0x1F, out := (false :: tdi).take tdi.length } }))) ∧
  (∀ (dt : Nat) (w : Word) (s : State), let t := elapse dt s
    let u := { t with tap := { t.tap with ir := 0x10 } }
    let v := { u with tap := { u.tap with out := wordBits u.dtmcs } }
    (bitAt w.toNat 16 = false → bitAt w.toNat 17 = false → exec (.dtmcs dt w) s = .next (after dt s v)) ∧
    (bitAt w.toNat 16 = true ∨ bitAt w.toNat 17 = true →
      exec (.dtmcs dt w) s = .next (after dt s { v with tap := { v.tap with dmiOp := 0 } }))) ∧
  (∀ (dt op addr : Nat) (data : Word) (s : State), let t := elapse dt s
    let u := { t with tap := { t.tap with ir := 0x11 } }
    (u.tap.dmiOp = 2 → exec (.dmi dt op addr data) s = .next (after dt s u)) ∧
    (u.tap.dmiOp ≠ 2 → u.debugModuleOpen = false →
      exec (.dmi dt op addr data) s = .next (after dt s { u with tap := { u.tap with dmiOp := 2 } })) ∧
    (u.tap.dmiOp ≠ 2 → u.debugModuleOpen = true →
      (op % 4 = 1 → exec (.dmi dt op addr data) s = .next (after dt s (dmiRead addr (sbSettle u)))) ∧
      (op % 4 = 2 → exec (.dmi dt op addr data) s = .next (after dt s (dmiWrite addr data (sbSettle u)))) ∧
      (op % 4 ≠ 1 → op % 4 ≠ 2 → exec (.dmi dt op addr data) s = .next (after dt s (sbSettle u)))))

/-- An access on the bus that falls in the register windows is decided by its verdict. A read that is served answers its
register and leaves what reading leaves. A write that is served is written by the access codes of its fields, settled
to what the register stores and followed by the register's own effect; one of a mirrored register does nothing in
STANDBY. An access in error changes nothing but its response; one that the firewall refuses is recorded and errored;
one of a locked-off domain records the domain error and is errored; one of a domain that is not on waits and wakes it.
The registers with a row of their own that act before their fields are written (fires, the flag banks, task status,
context commands, producer and consumer indices) are stated with those rows. -/
def Obligations.RegisterAccessesActByTheirVerdict : Prop :=
  ∀ (dt a : Nat) (acc : Access) (w : Word) (s : State), let t := elapse dt s
    let d := domainOfBlock (blockOf a)
    let u := { meetDomain d t with resp := .ok }
    0x20000000 ≤ a → a + acc.bytes ≤ 0x20140000 →
    (verdict acc a false t = .serve →
      exec (.registerRead dt acc a) s = .next (after dt s (readServe acc a u))) ∧
    (verdict acc a false t = .error →
      exec (.registerRead dt acc a) s = .next (after dt s { t with resp := .error })) ∧
    (∀ n, verdict acc a false t = .refused n →
      exec (.registerRead dt acc a) s = .next (after dt s (errorResponse (firewallRefusal acc false a n t)))) ∧
    (verdict acc a false t = .locked →
      exec (.registerRead dt acc a) s = .next (after dt s (errorResponse (domainError 0 d acc.init t)))) ∧
    (verdict acc a false t = .stall →
      exec (.registerRead dt acc a) s = .next (after dt s (stallAccess d
        { acc := acc, addr := a, write := none, sram := none, since := t.cycles } t))) ∧
    (verdict acc a true t = .serve → mirroredRegister a = false → a ≠ 0x20070000 → a ≠ 0x20070004 →
      ¬(0x20070100 ≤ a ∧ a < 0x20070160) → a ≠ 0x2007001C → a ≠ 0x200A0100 → a ≠ 0x200A0120 →
      ¬(0x20101000 ≤ a ∧ a < 0x20101800 ∧ (a % 0x20 = 0x14 ∨ a % 0x20 = 0x18)) →
      exec (.registerWrite dt acc a w) s = .next (after dt s
        (writeEffect acc a (u.word a) w u (settleWord a (u.word a) (plainWrite a w u))))) ∧
    (verdict acc a true t = .serve → mirroredRegister a = true →
      (u.mode = .standby → exec (.registerWrite dt acc a w) s = .next (after dt s u)) ∧
      (u.mode ≠ .standby → exec (.registerWrite dt acc a w) s = .next (after dt s
        (mirroredEffect a (u.word a) (settleWord a (u.word a) (plainWrite a w u)))))) ∧
    (verdict acc a true t = .error →
      exec (.registerWrite dt acc a w) s = .next (after dt s { t with resp := .error })) ∧
    (∀ n, verdict acc a true t = .refused n →
      exec (.registerWrite dt acc a w) s = .next (after dt s (errorResponse (firewallRefusal acc true a n t)))) ∧
    (verdict acc a true t = .locked →
      exec (.registerWrite dt acc a w) s = .next (after dt s (errorResponse (domainError 0 d acc.init t)))) ∧
    (verdict acc a true t = .stall → ¬(0x20070100 ≤ a ∧ a < 0x20070160) →
      exec (.registerWrite dt acc a w) s = .next (after dt s (stallAccess d
        { acc := acc, addr := a, write := some w, sram := none, since := t.cycles } t)))

/-- A read or a write at an address of an assigned block window where no register is assigned, or in the window of an
unassigned block number, gets an error response, and a write there has no effect. -/
def Obligations.UnassignedRegistersAnswerErrors : Prop :=
  ∀ (dt a : Nat) (acc : Access) (w : Word) (s : State), let t := elapse dt s
    0x20000000 ≤ a → a + acc.bytes ≤ 0x20400000 → (a + acc.bytes ≤ 0x20140000 → regRow a = none) →
    (a + acc.bytes ≤ 0x20140000 ∨ 0x20140000 ≤ a) →
    exec (.registerRead dt acc a) s = .next (after dt s { t with resp := .error }) ∧
    exec (.registerWrite dt acc a w) s = .next (after dt s { t with resp := .error })

/-- A served read of TIM_TS_LO answers the low 32 bits of TS64 and latches the upper 32 bits of that instant, and a served
read of TIM_TS_HI that follows at any later time answers those latched bits, so that the two halves are of one
instant. -/
def Obligations.TimeIsReadInTwoHalves : Prop :=
  ∀ (dt later : Nat) (acc : Access) (s : State), let t := elapse dt s
    verdict acc 0x20120010 false t = .serve →
    ∃ u, exec (.tsLoRead dt acc) s = .next u ∧ u.resp = .data (BitVec.ofNat 32 t.ts) ∧
      (verdict acc 0x20120014 false (elapse later u) = .serve →
        ∃ v, exec (.registerRead later acc 0x20120014) u = .next v ∧
          v.resp = .data (BitVec.ofNat 32 (t.ts / 2 ^ 32)))

/-- The interrupt sources of the time rim, the radio rim, the lane pool, the coding, Gorse, the context store, Sheaf,
Stile, Hedgerow, the DRAM controller, the configuration and Lapwing are raised exactly while one of the flags that
their rule names is 1 together with its enable bit. -/
def Obligations.InterruptSourcesAreMapped : Prop :=
  ∀ s : State, let on (x y : Fld) : Bool := s.is x && s.is y
    s.sourceRaised 116 = (on TIM_INT_STAT_LOCKED TIM_INT_EN_LOCKED || on TIM_INT_STAT_UNLOCKED TIM_INT_EN_UNLOCKED) ∧
    s.sourceRaised 117 = (on TIM_INT_STAT_STEPPED TIM_INT_EN_STEPPED) ∧
    s.sourceRaised 118 = (on TIM_INT_STAT_SRC_LOST TIM_INT_EN_SRC_LOST) ∧
    s.sourceRaised 119 = (on TIM_INT_STAT_PLL_FAULT TIM_INT_EN_PLL_FAULT) ∧
    s.sourceRaised 84 = (on RIM_INT_STAT_OVF RIM_INT_EN_OVF || on RIM_INT_STAT_UNDR RIM_INT_EN_UNDR) ∧
    s.sourceRaised 85 = (on RIM_INT_STAT_CALDONE RIM_INT_EN_CALDONE || on RIM_INT_STAT_CALFAIL RIM_INT_EN_CALFAIL) ∧
    s.sourceRaised 86 = (on RIM_INT_STAT_CAPDONE RIM_INT_EN_CAPDONE) ∧
    s.sourceRaised 87 = (on RIM_INT_STAT_TXPWR RIM_INT_EN_TXPWR || on RIM_INT_STAT_ISOLOW RIM_INT_EN_ISOLOW || on RIM_INT_STAT_LOUNLOCK RIM_INT_EN_LOUNLOCK) ∧
    s.sourceRaised 72 = (on LNP_INT_STAT_LANE_FULL LNP_INT_EN_LANE_FULL) ∧
    s.sourceRaised 73 = (on LNP_INT_STAT_PREEMPT LNP_INT_EN_PREEMPT) ∧
    s.sourceRaised 74 = (on LNP_INT_STAT_CH_FULL LNP_INT_EN_CH_FULL) ∧
    s.sourceRaised 75 = (on LNP_INT_STAT_NOSEP LNP_INT_EN_NOSEP) ∧
    s.sourceRaised 76 = (on LNP_INT_STAT_CAPTURE LNP_INT_EN_CAPTURE) ∧
    s.sourceRaised 77 = (on LNP_INT_STAT_TRUNC LNP_INT_EN_TRUNC) ∧
    s.sourceRaised 78 = (on LNP_INT_STAT_OVF LNP_INT_EN_OVF) ∧
    s.sourceRaised 79 = (on LNP_INT_STAT_NFREADY LNP_INT_EN_NFREADY) ∧
    s.sourceRaised 80 = (on COD_INT_STAT_NODEC COD_INT_EN_NODEC || on COD_INT_STAT_DECOVF COD_INT_EN_DECOVF || on COD_INT_STAT_DECFAIL COD_INT_EN_DECFAIL) ∧
    s.sourceRaised 81 = (on COD_INT_STAT_NOCHAIN COD_INT_EN_NOCHAIN || on COD_INT_STAT_DISPLACED COD_INT_EN_DISPLACED) ∧
    s.sourceRaised 82 = (on COD_INT_STAT_SYNTH COD_INT_EN_SYNTH || on COD_INT_STAT_CHOUT COD_INT_EN_CHOUT) ∧
    s.sourceRaised 83 = (on COD_INT_STAT_LATE COD_INT_EN_LATE) ∧
    s.sourceRaised 44 = (on SEC_INT_STAT_ALARM SEC_INT_EN_ALARM) ∧
    s.sourceRaised 45 = (on SEC_INT_STAT_WARN SEC_INT_EN_WARN) ∧
    s.sourceRaised 46 = (on SEC_INT_STAT_EXHAUSTED SEC_INT_EN_EXHAUSTED) ∧
    s.sourceRaised 47 = (on SEC_INT_STAT_KEYCHG SEC_INT_EN_KEYCHG) ∧
    s.sourceRaised 48 = (on SEC_INT_STAT_FBFAULT SEC_INT_EN_FBFAULT) ∧
    s.sourceRaised 49 = (on SEC_INT_STAT_KATFAIL SEC_INT_EN_KATFAIL) ∧
    s.sourceRaised 50 = (on SEC_INT_STAT_RESVFAIL SEC_INT_EN_RESVFAIL) ∧
    s.sourceRaised 52 = (on CTX_INT_STAT_CMDA CTX_INT_EN_CMDA || on CTX_INT_STAT_CMDB CTX_INT_EN_CMDB) ∧
    s.sourceRaised 53 = (on CTX_INT_STAT_CTXERR CTX_INT_EN_CTXERR) ∧
    s.sourceRaised 54 = (on CTX_INT_STAT_REBUILT CTX_INT_EN_REBUILT || on CTX_INT_STAT_BADREC CTX_INT_EN_BADREC) ∧
    s.sourceRaised 55 = (on CTX_INT_STAT_QUARFULL CTX_INT_EN_QUARFULL || on CTX_INT_STAT_EUIFULL CTX_INT_EN_EUIFULL) ∧
    s.sourceRaised 112 = (on STL_INT_STAT_LANELOSS STL_INT_EN_LANELOSS || on STL_INT_STAT_LINKLOSS STL_INT_EN_LINKLOSS || on STL_INT_STAT_LINKUP STL_INT_EN_LINKUP) ∧
    s.sourceRaised 113 = (on STL_INT_STAT_SYNC STL_INT_EN_SYNC || on STL_INT_STAT_TAKEOVER STL_INT_EN_TAKEOVER || on STL_INT_STAT_HANDOVER STL_INT_EN_HANDOVER || on STL_INT_STAT_DETACHED STL_INT_EN_DETACHED) ∧
    s.sourceRaised 114 = (on STL_INT_STAT_SPLITGUARD STL_INT_EN_SPLITGUARD || on STL_INT_STAT_SUPMISS STL_INT_EN_SUPMISS || on STL_INT_STAT_DEAF STL_INT_EN_DEAF) ∧
    s.sourceRaised 115 = (on STL_INT_STAT_MISMATCH STL_INT_EN_MISMATCH || on STL_INT_STAT_DIVERGE STL_INT_EN_DIVERGE || on STL_INT_STAT_SPLIT STL_INT_EN_SPLIT || on STL_INT_STAT_JOINFAIL STL_INT_EN_JOINFAIL) ∧
    s.sourceRaised 40 = (on DMC_INT_STAT_CE DMC_INT_EN_CE) ∧
    s.sourceRaised 41 = (on DMC_INT_STAT_UE DMC_INT_EN_UE || on DMC_INT_STAT_ADDRERR DMC_INT_EN_ADDRERR) ∧
    s.sourceRaised 42 = (on DMC_INT_STAT_LATE DMC_INT_EN_LATE || on DMC_INT_STAT_P0LATE DMC_INT_EN_P0LATE) ∧
    s.sourceRaised 43 = (on DMC_INT_STAT_THERM DMC_INT_EN_THERM || on DMC_INT_STAT_TRAINFAIL DMC_INT_EN_TRAINFAIL || on DMC_INT_STAT_SRREFUSED DMC_INT_EN_SRREFUSED) ∧
    s.sourceRaised 12 = (on LPW_INT_STAT_MODECHG LPW_INT_EN_MODECHG) ∧
    s.sourceRaised 13 = (on LPW_INT_STAT_LOGWRAP LPW_INT_EN_LOGWRAP) ∧
    s.sourceRaised 14 = (on LPW_INT_STAT_WDWARN LPW_INT_EN_WDWARN) ∧
    s.sourceRaised 15 = (on LPW_INT_STAT_SUPRST LPW_INT_EN_SUPRST) ∧
    s.sourceRaised 16 = (on LPW_INT_STAT_SENSOR LPW_INT_EN_SENSOR) ∧
    s.sourceRaised 17 = (on LPW_INT_STAT_UPDDONE LPW_INT_EN_UPDDONE || on LPW_INT_STAT_REFUSED LPW_INT_EN_REFUSED) ∧
    s.sourceRaised 18 = (on LPW_INT_STAT_TOKDONE LPW_INT_EN_TOKDONE || on LPW_INT_STAT_LCDONE LPW_INT_EN_LCDONE) ∧
    s.sourceRaised 19 = (on LPW_INT_STAT_SPIXDONE LPW_INT_EN_SPIXDONE) ∧
    s.sourceRaised 20 = (on CFG_INT_STAT_CHKDONE0 CFG_INT_EN_CHKDONE0 || on CFG_INT_STAT_CHKDONE1 CFG_INT_EN_CHKDONE1 ||
      on CFG_INT_STAT_CHKMIS0 CFG_INT_EN_CHKMIS0 || on CFG_INT_STAT_CHKMIS1 CFG_INT_EN_CHKMIS1) ∧
    s.sourceRaised 21 = (on CFG_INT_STAT_CHKDONE2 CFG_INT_EN_CHKDONE2 || on CFG_INT_STAT_CHKDONE3 CFG_INT_EN_CHKDONE3 ||
      on CFG_INT_STAT_CHKMIS2 CFG_INT_EN_CHKMIS2 || on CFG_INT_STAT_CHKMIS3 CFG_INT_EN_CHKMIS3) ∧
    s.sourceRaised 22 = (on CFG_INT_STAT_STDONE CFG_INT_EN_STDONE) ∧
    s.sourceRaised 23 = (on CFG_INT_STAT_PACEDONE CFG_INT_EN_PACEDONE || on CFG_INT_STAT_PACESTOP CFG_INT_EN_PACESTOP) ∧
    (s.sourceRaised 51 = true ↔ s.get SEC_INT_STAT_PAGEDONE &&& s.get SEC_INT_EN_PAGEDONE ≠ 0) ∧
    (∀ b, b < 8 → s.sourceRaised (88 + b) = (on ⟨0x200F0030, b, 1⟩ ⟨0x200F0034, b, 1⟩)) ∧
    (∀ b, b < 8 → s.sourceRaised (32 + b) = (on ⟨0x20070010, b, 1⟩ ⟨0x20070014, b, 1⟩))

/-- The interrupt sources of the flash, the OTP row, the journal, the backup domain, upstream, the link sequencer, the
power domains and the mains are raised exactly while one of the flags named is 1 together with its enable bit; source
6 is raised while PWR_VL_ERR.FROZEN is 1, sources 120 to 127 while their bit of APP_INT_STAT is 1, and 127 also while
SRAMCE, SRAMUE or FWVIOL is 1 with its enable bit. -/
def Obligations.MoreInterruptSourcesAreMapped : Prop :=
  ∀ s : State, let on (x y : Fld) : Bool := s.is x && s.is y
    s.sourceRaised 24 = (on FLS_INT_STAT_DONE FLS_INT_EN_DONE) ∧
    s.sourceRaised 25 = (on FLS_INT_STAT_SUSPREAD FLS_INT_EN_SUSPREAD || on FLS_INT_STAT_BUSYREAD FLS_INT_EN_BUSYREAD || on FLS_INT_STAT_ECCERR FLS_INT_EN_ECCERR) ∧
    s.sourceRaised 26 = (on FLS_INT_STAT_PWDFAIL FLS_INT_EN_PWDFAIL || on FLS_INT_STAT_LOCKOUT FLS_INT_EN_LOCKOUT || on FLS_INT_STAT_CMDREJ FLS_INT_EN_CMDREJ) ∧
    s.sourceRaised 27 = (on FLS_INT_STAT_RECOV FLS_INT_EN_RECOV) ∧
    s.sourceRaised 28 = (on FLS_INT_STAT_OTPDONE FLS_INT_EN_OTPDONE || on FLS_INT_STAT_OTPERR FLS_INT_EN_OTPERR) ∧
    s.sourceRaised 29 = (on JNL_INT_STAT_RECDONE JNL_INT_EN_RECDONE || on JNL_INT_STAT_FMTDONE JNL_INT_EN_FMTDONE || on JNL_INT_STAT_RESTATED JNL_INT_EN_RESTATED) ∧
    s.sourceRaised 30 = (on JNL_INT_STAT_UEWORD JNL_INT_EN_UEWORD || on JNL_INT_STAT_REFUSED JNL_INT_EN_REFUSED || on JNL_INT_STAT_LAG JNL_INT_EN_LAG) ∧
    s.sourceRaised 31 = (on JNL_INT_STAT_WRAP JNL_INT_EN_WRAP) ∧
    s.sourceRaised 8 = (on BKP_INT_STAT_SECOND BKP_INT_EN_SECOND) ∧
    s.sourceRaised 9 = (on BKP_INT_STAT_VBATON BKP_INT_EN_VBATON || on BKP_INT_STAT_VBATOFF BKP_INT_EN_VBATOFF) ∧
    s.sourceRaised 10 = (on BKP_INT_STAT_OSF BKP_INT_EN_OSF || on BKP_INT_STAT_CLEARED BKP_INT_EN_CLEARED) ∧
    s.sourceRaised 11 = (on BKP_INT_STAT_DATE_INVALID BKP_INT_EN_DATE_INVALID || on BKP_INT_STAT_WRAPPED BKP_INT_EN_WRAPPED) ∧
    s.sourceRaised 96 = (on UPL_INT_STAT_LINK0 UPL_INT_EN_LINK0) ∧
    s.sourceRaised 97 = (on UPL_INT_STAT_LINK1 UPL_INT_EN_LINK1) ∧
    s.sourceRaised 98 = (on UPL_INT_STAT_FAILOVER UPL_INT_EN_FAILOVER) ∧
    s.sourceRaised 99 = (on UPL_INT_STAT_NOPORT UPL_INT_EN_NOPORT) ∧
    s.sourceRaised 100 = (on UPL_INT_STAT_DQFULL UPL_INT_EN_DQFULL) ∧
    s.sourceRaised 101 = (on UPL_INT_STAT_SEG_TIMEOUT UPL_INT_EN_SEG_TIMEOUT) ∧
    s.sourceRaised 102 = (on UPL_INT_STAT_ORPHAN UPL_INT_EN_ORPHAN) ∧
    s.sourceRaised 103 = (on UPL_INT_STAT_BADHDR UPL_INT_EN_BADHDR) ∧
    s.sourceRaised 104 = (on UPL_INT_STAT_EVDROP UPL_INT_EN_EVDROP) ∧
    s.sourceRaised 105 = (on UPL_INT_STAT_NHFAIL UPL_INT_EN_NHFAIL) ∧
    s.sourceRaised 106 = (on UPL_INT_STAT_MDIO0DONE UPL_INT_EN_MDIO0DONE) ∧
    s.sourceRaised 107 = (on UPL_INT_STAT_MDIO1DONE UPL_INT_EN_MDIO1DONE) ∧
    s.sourceRaised 108 = (on UPL_INT_STAT_PTPSTATE UPL_INT_EN_PTPSTATE) ∧
    s.sourceRaised 109 = (on UPL_INT_STAT_GMCHANGE UPL_INT_EN_GMCHANGE) ∧
    s.sourceRaised 110 = (on UPL_INT_STAT_PTPTO UPL_INT_EN_PTPTO) ∧
    s.sourceRaised 111 = (on UPL_INT_STAT_RINGERR UPL_INT_EN_RINGERR) ∧
    (∀ b, b < 16 → s.sourceRaised (56 + b) = (on ⟨0x200B0020, b, 1⟩ ⟨0x200B0024, b, 1⟩)) ∧
    s.sourceRaised 0 = (on PWR_DOM_INT_STAT_DOMERR PWR_DOM_INT_EN_DOMERR) ∧
    s.sourceRaised 1 = (on PWR_DOM_INT_STAT_GROUPDONE PWR_DOM_INT_EN_GROUPDONE || on PWR_DOM_INT_STAT_GROUPREF PWR_DOM_INT_EN_GROUPREF || on PWR_DOM_INT_STAT_WAKE PWR_DOM_INT_EN_WAKE) ∧
    s.sourceRaised 2 = (on PWR_MH_INT_STAT_SAG PWR_MH_INT_EN_SAG || on PWR_MH_INT_STAT_SWELL PWR_MH_INT_EN_SWELL) ∧
    s.sourceRaised 3 = (on PWR_MH_INT_STAT_INT PWR_MH_INT_EN_INT || on PWR_MH_INT_STAT_RESTORED PWR_MH_INT_EN_RESTORED || on PWR_MH_INT_STAT_LOST PWR_MH_INT_EN_LOST) ∧
    s.sourceRaised 4 = (on PWR_MH_INT_STAT_FREQDEV PWR_MH_INT_EN_FREQDEV) ∧
    s.sourceRaised 5 = (on PWR_MH_INT_STAT_READY PWR_MH_INT_EN_READY || on PWR_MH_INT_STAT_STORELOW PWR_MH_INT_EN_STORELOW) ∧
    s.sourceRaised 7 = (on PWR_MH_INT_STAT_HUFAULT PWR_MH_INT_EN_HUFAULT || on PWR_MH_INT_STAT_BLEEDDONE PWR_MH_INT_EN_BLEEDDONE || on PWR_MH_INT_STAT_BLEEDFAIL PWR_MH_INT_EN_BLEEDFAIL) ∧
    s.sourceRaised 6 = s.is PWR_VL_ERR_FROZEN ∧
    (∀ k, k < 7 → s.sourceRaised (120 + k) = s.is ⟨0x20130014, k, 1⟩) ∧
    s.sourceRaised 127 = (s.is APP_INT_STAT_IRQ7 || (on APP_INT_STAT_SRAMCE APP_INT_EN_SRAMCE ||
      on APP_INT_STAT_SRAMUE APP_INT_EN_SRAMUE || on APP_INT_STAT_FWVIOL APP_INT_EN_FWVIOL))

/-- For every command c, every rest of the queue and every state, the step of the state with c in front of that rest is
exec of c on the state with the rest as its queue; with no command waiting a step leaves the state as it is. The queue
and the idling are the model's own choices (logs 2 and 11), not rules of the manual. -/
def Obligations.StepRunsTheFrontCommand : Prop :=
  (∀ (c : Instr) (rest : List Instr) (s : State),
    step { s with pending := c :: rest } = exec c { s with pending := rest }) ∧
  (∀ s : State, s.pending = [] → step s = .next s)

/-- Every command answers a next state in every state, with every operand; that state has the queue, and the variant, that
it had, and its instant is not earlier. -/
def Obligations.EveryCommandTakesEffect : Prop :=
  ∀ (c : Instr) (s : State), ∃ t, exec c s = .next t ∧ t.pending = s.pending ∧ t.variant = s.variant ∧ s.cycles ≤ t.cycles

/-- From every state there is a run of steps none of which stops; after n of them, for n up to the number of commands that
waited at the start, what waits is the queue of the start without its first n commands, so that after as many steps as
commands waited the queue is empty, and it stays empty. The queue is the model's own (log 11). -/
def Obligations.QueuesDrain : Prop :=
  ∀ s : State, ∃ run : Nat → State, run 0 = s ∧ (∀ n, step (run n) = .next (run (n + 1))) ∧
    (∀ n, (run n).pending = s.pending.drop n) ∧ (∀ n, s.pending.length ≤ n → run n = run s.pending.length)

/-- For every state in which every source that is raised has its ID pending or claimed, and only IDs from 1 to 128 are
pending, the same holds of the state that any step answers, whatever command it takes and whatever flags that command
raises, clears, claims or completes. -/
def Obligations.StepKeepsTheGateways : Prop :=
  ∀ s t : State, s.gatewaysFollow → s.idsExist → step s = .next t → t.gatewaysFollow ∧ t.idsExist

/-- In the state after reset every source that is raised has its ID pending or claimed, no pending ID is outside 1 to 128,
and every memory is in its canonical form. -/
def Obligations.ResetHasTheGateways : Prop :=
  State.reset.gatewaysFollow ∧ State.reset.idsExist ∧ State.reset.canonical = true

/-- After reset the mode is RESET; every register of the field tables but the date and the flags of the backup block holds
the value of its Reset column; TS64 does not run; no lane, context, booking, queue entry, claim, pending interrupt,
stalled access or log entry exists; both harts are held in reset; the TAP holds BYPASS; and the command queue is
empty. That the memories hold zeros is the model's choice (log 4), and so are the variant (log 5) and the values the
tables do not give (log 3). -/
def Obligations.ResetLeavesStatedValues : Prop :=
  State.reset.mode = .reset ∧ (∀ a, a ≠ 0x20020004 → a ≠ 0x20020018 → State.reset.word a = resetWord a) ∧
    State.reset.tim.running = false ∧ State.reset.lock = false ∧ State.reset.word 0x20000000 = 0x52805756 ∧
    State.reset.word 0x20000004 = 0xA1 ∧ State.reset.lnp.lanes = [] ∧ State.reset.lnk.decided = [] ∧
    State.reset.dmc.queue = [] ∧ State.reset.jnl.words = [] ∧ State.reset.app.hart0.state = .reset ∧
    State.reset.app.hart1.state = .reset ∧ State.reset.app.pendingIds = [] ∧ State.reset.app.claimed = [] ∧
    State.reset.stalled = [] ∧ State.reset.log = [] ∧ State.reset.tap.ir = 0x1F ∧ State.reset.pending = []

/-- Counting n events on a field leaves it at its value plus n, or at its all-ones value where that is less: it never
wraps and never falls. Every field apart from it keeps its value, and nothing but the registers changes. -/
def Obligations.CountersSaturate : Prop :=
  ∀ (f : Fld) (n : Nat) (s : State), f.lo + f.width ≤ 32 →
    (count f n s).get f = min (s.get f + n) (2 ^ f.width - 1) ∧ s.get f ≤ (count f n s).get f ∧
    (∀ g : Fld, f.addr ≠ g.addr ∨ f.lo + f.width ≤ g.lo ∨ g.lo + g.width ≤ f.lo → (count f n s).get g = s.get g) ∧
    ∃ r, count f n s = { s with regs := r }

/-- Of two acknowledgements that differ, the one with the higher ACKPRI has priority; with equal ACKPRI a command frame's
before a data frame's; then the earlier last chip; then the lower lane number. So of any two that differ in one of
these exactly one has priority over the other, and priority passes along. -/
def Obligations.AckPriorityIsTheOrderOfItsRule : Prop :=
  ∀ a b c : AckBooking,
    (b.pri < a.pri → a.over b = true) ∧
    (a.pri = b.pri → a.command = true → b.command = false → a.over b = true) ∧
    (a.pri = b.pri → a.command = b.command → a.lastChip < b.lastChip → a.over b = true) ∧
    (a.pri = b.pri → a.command = b.command → a.lastChip = b.lastChip → a.lane < b.lane → a.over b = true) ∧
    ((a.pri, a.command, a.lastChip, a.lane) ≠ (b.pri, b.command, b.lastChip, b.lane) → a.over b = !b.over a) ∧
    (a.over b = true → b.over c = true → a.over c = true) ∧ a.over a = false

/-- Where only IDs from 1 to 128 are pending (which every step keeps), the ID a claim by a context gives is 0 exactly
where no pending ID is enabled and above the context's threshold; else it is such an ID, no such ID has a higher
priority, and one of the same priority is not lower. -/
def Obligations.ClaimTakesTheBest : Prop :=
  ∀ (s : State) (ctx : Nat), s.idsExist →
    let ready (i : Nat) : Prop :=
      i ∈ s.app.pendingIds ∧ s.plicEnabled ctx i = true ∧ s.plicThreshold ctx < s.plicPriority i
    (s.plicBest ctx = 0 ↔ ∀ i, ¬ ready i) ∧
    (s.plicBest ctx ≠ 0 → ready (s.plicBest ctx) ∧ ∀ i, ready i →
      s.plicPriority i < s.plicPriority (s.plicBest ctx) ∨
        (s.plicPriority i = s.plicPriority (s.plicBest ctx) ∧ s.plicBest ctx ≤ i))

/-- Bytes 0 to 127 of block b = offset / 256 lie on channel 0 and bytes 128 to 255 on channel 1; slot, bank, row and rank
follow from b by DMC_CFG.ORDER as the rule's table says for BANK, ROW and HASH. The place of a visible offset exists
on the part, and two offsets in different halves of blocks never share a place. -/
def Obligations.DramPlacesFollowTheirOrder : Prop :=
  ∀ (s : State) (o p : Nat), let b := o / 256
    let x := s.dramPlace o
    x.channel = o % 256 / 128 ∧ x.row = b / 112 % s.dramRows ∧ x.rank = b / (112 * s.dramRows) ∧
    (s.get DMC_CFG_ORDER = 0 → x.slot = b / 8 % 14 ∧ x.bank = b % 8) ∧
    (s.get DMC_CFG_ORDER = 1 → x.slot = b % 14 ∧ x.bank = b / 14 % 8) ∧
    (s.get DMC_CFG_ORDER = 2 → x.slot = b / 8 % 14 ∧ x.bank = (b % 8) ^^^ (x.row % 8)) ∧
    x.channel < 2 ∧ x.slot < 14 ∧ x.bank < 8 ∧ x.row < s.dramRows ∧ (o < s.visible → x.rank < s.dramRanks) ∧
    (s.dramPlace p = x → p / 128 = o / 128)

/-- In EXACT mode the coded difference lies in the signed range of the field's width, is the sample less the previous
value modulo 2^(8w), and the sample is the next prediction. In BOUNDED mode with step q = 2 eps + 1 the coded number
is floor((r + eps) / q), the reconstruction is the prediction plus that number of steps, or the sample itself after an
escape, and it always lies within eps of the sample; with an eps of 0 it is the sample. -/
def Obligations.FieldsAreCodedWithinTheirBound : Prop :=
  ∀ (r : Octets) (j st : Nat) (x xr : Int), let w := fieldBytes (ruleField r j)
    let c := codeField r j x xr st
    let eps : Int := (ruleEps r j : Nat)
    let q := 2 * eps + 1
    let i := (x - xr + eps) / q
    (ruleMode r = modeExact → c.2.1 = x ∧ ∃ d : Int, -(2 ^ (8 * w - 1) : Int) ≤ d ∧ d < 2 ^ (8 * w - 1) ∧
      (x - xr - d) % (2 ^ (8 * w) : Int) = 0 ∧ c.1 = (riceCode w st (zigzag d) x).1) ∧
    (ruleMode r ≠ modeExact → c.1 = (riceCode w st (zigzag i) x).1 ∧ x - c.2.1 ≤ eps ∧ c.2.1 - x ≤ eps ∧
      (c.2.2.2 = true → c.2.1 = x) ∧ (c.2.2.2 = false → c.2.1 = xr + i * q) ∧ (eps = 0 → c.2.1 = x))

/-- An address that names memory for the bytes to be written writes exactly those bytes: read back they are the bytes
written, every byte outside them reads as before in all three memories, and the memories keep their canonical form. An
address that names none writes nothing, and sets ADDRERR unless it names visible DRAM that answers nothing. -/
def Obligations.MemoryWritesKeepTheRest : Prop :=
  ∀ (a : Nat) (os : Octets) (s : State), s.canonical = true →
    (memPut a os s).canonical = true ∧
    (∀ o, s.locate a os.length = some (.dram, o) →
      (∀ k, k < os.length → Sparse.get blankByte (memPut a os s).dram (o + k) = os.getD k 0) ∧
      (∀ b, b < o ∨ o + os.length ≤ b → Sparse.get blankByte (memPut a os s).dram b = Sparse.get blankByte s.dram b) ∧
      (memPut a os s).sram = s.sram ∧ (memPut a os s).lpwSram = s.lpwSram ∧ (memPut a os s).regs = s.regs) ∧
    (∀ o, s.locate a os.length = some (.sram, o) →
      (∀ k, k < os.length → Sparse.get blankByte (memPut a os s).sram (o + k) = os.getD k 0) ∧
      (∀ b, b < o ∨ o + os.length ≤ b → Sparse.get blankByte (memPut a os s).sram b = Sparse.get blankByte s.sram b) ∧
      (memPut a os s).dram = s.dram ∧ (memPut a os s).lpwSram = s.lpwSram ∧ (memPut a os s).regs = s.regs) ∧
    (∀ o, s.locate a os.length = some (.lpwSram, o) →
      (∀ k, k < os.length → Sparse.get blankByte (memPut a os s).lpwSram (o + k) = os.getD k 0) ∧
      (∀ b, b < o ∨ o + os.length ≤ b → Sparse.get blankByte (memPut a os s).lpwSram b = Sparse.get blankByte s.lpwSram b) ∧
      (memPut a os s).dram = s.dram ∧ (memPut a os s).sram = s.sram ∧ (memPut a os s).regs = s.regs) ∧
    (s.locate a os.length = none →
      (s.namesMemory a os.length = true → memPut a os s = s) ∧
      (s.namesMemory a os.length = false → memPut a os s = raise DMC_INT_STAT_ADDRERR s))

/-- For every register of the field tables: a write of it gives each bit of an RW or WO field the bit written, also of an
RWL field unless its lock is set, clears a W1C bit and sets a W1S bit where 1 is written, and leaves the bits of RO,
RC and CL fields and all reserved bits; a read answers 0 for a WO bit, and leaves an RC bit at its reset value and
every other bit as it was. Bits and instances the variant lacks cannot be written. No other register changes. What the
hardware does besides, and where a written value is limited, is stated with the register's own action. -/
def Obligations.FieldsFollowTheirAccessCodes : Prop :=
  ∀ (a b : Nat) (r : RegRow) (f : FieldRow) (w : Word) (s : State), regRow a = some r →
    let x := w &&& presentMask s.variant a
    let old := (s.word a).getLsbD b
    let new := ((plainWrite a w s).word a).getLsbD b
    (absentRegister s.variant a = true → plainWrite a w s = s ∧ s.readWord a = 0) ∧
    (absentRegister s.variant a = false → f ∈ r.fields → f.lo ≤ b → b ≤ f.hi →
      (f.acc = .rw ∨ f.acc = .wo → new = x.getLsbD b) ∧
      (f.acc = .rwl → new = if s.lockedAt a then old else x.getLsbD b) ∧
      (f.acc = .w1c → new = (old && !x.getLsbD b)) ∧ (f.acc = .w1s → new = (old || x.getLsbD b)) ∧
      (f.acc = .ro ∨ f.acc = .rc ∨ f.acc = .cl → new = old)) ∧
    (absentRegister s.variant a = false → (∀ g ∈ r.fields, b < g.lo ∨ g.hi < b) → new = old) ∧
    (f ∈ r.fields → f.lo ≤ b → b ≤ f.hi → (f.acc = .wo → (s.readWord a).getLsbD b = false) ∧
      ((readClear a s).word a).getLsbD b = if f.acc = .rc then (resetWord a).getLsbD b else old) ∧
    (∀ c, c ≠ a → (plainWrite a w s).word c = s.word c ∧ (readClear a s).word c = s.word c)

end
end

