-- ==== Sys2Proof/Laws/Sparse.lean ====
section
/-!
SUPPORT. The laws of sparse maps: a read after a write to the same key, to another key, and the canonical
form kept by every write.
-/

namespace Sys2Proof.Sparse

variable {α : Type} (d : Nat → α)

theorem find_place_same (a : Nat) (v : α) :
    ∀ m : List (Nat × α), (∀ e ∈ m, e.1 ≠ a) →
      (place a v m).find? (fun e => e.1 == a) = some (a, v)
  | [], _ => by simp [place]
  | e :: t, h => by
    unfold place
    split
    · simp
    · have he : e.1 ≠ a := h e (by simp)
      have := find_place_same a v t (fun x hx => h x (by simp [hx]))
      simp [List.find?_cons, he, this]

theorem find_place_other (a b : Nat) (v : α) (hab : b ≠ a) :
    ∀ m : List (Nat × α),
      (place a v m).find? (fun e => e.1 == b) = m.find? (fun e => e.1 == b)
  | [] => by simp [place, Ne.symm hab]
  | e :: t => by
    unfold place
    split
    · simp [Ne.symm hab]
    · have := find_place_other a b v hab t
      simp only [List.find?_cons, this]

theorem find_filter_same (a : Nat) (m : List (Nat × α)) :
    (m.filter (fun e => e.1 != a)).find? (fun e => e.1 == a) = none := by
  simp [List.find?_eq_none]

theorem find_filter_other (a b : Nat) (hab : b ≠ a) (m : List (Nat × α)) :
    (m.filter (fun e => e.1 != a)).find? (fun e => e.1 == b) = m.find? (fun e => e.1 == b) := by
  induction m with
  | nil => rfl
  | cons e t ih =>
    by_cases h : e.1 = a
    · have hb : (e.1 == b) = false := by simp [h, Ne.symm hab]
      simp [h, ih, hb, Ne.symm hab]
    · simp only [List.filter_cons, bne_iff_ne, ne_eq, h, not_false_eq_true, decide_true, if_true,
        List.find?_cons, ih]

/-- A read after a write to the same key gives the value written. -/
@[simp] theorem get_put_same [DecidableEq α] (m : List (Nat × α)) (a : Nat) (v : α) :
    get d (put d m a v) a = v := by
  unfold get put
  by_cases h : v = d a
  · simp only [h, if_true, find_filter_same]
  · have : ∀ e ∈ m.filter (fun e => e.1 != a), e.1 ≠ a := by
      intro e he; simp at he; exact he.2
    simp only [h, if_false, find_place_same a v _ this]

/-- A write leaves every other key alone. -/
theorem get_put_other [DecidableEq α] (m : List (Nat × α)) (a b : Nat) (v : α) (hab : b ≠ a) :
    get d (put d m a v) b = get d m b := by
  unfold get put
  by_cases h : v = d a
  · simp only [h, if_true, find_filter_other a b hab]
  · simp only [h, if_false, find_place_other a b v hab, find_filter_other a b hab]

theorem get_put [DecidableEq α] (m : List (Nat × α)) (a b : Nat) (v : α) :
    get d (put d m a v) b = if b = a then v else get d m b := by
  by_cases h : b = a
  · subst h; simp
  · simp [h, get_put_other d m a b v h]

theorem wf_cons_iff [DecidableEq α] (e : Nat × α) (t : List (Nat × α)) :
    wf d (e :: t) = true ↔ (∀ f ∈ t, e.1 < f.1) ∧ e.2 ≠ d e.1 ∧ wf d t = true := by
  induction t generalizing e with
  | nil => simp [wf]
  | cons f t ih =>
    simp only [wf, Bool.and_eq_true, decide_eq_true_eq]
    constructor
    · rintro ⟨⟨h1, h2⟩, h3⟩
      refine ⟨?_, h2, h3⟩
      intro g hg
      rcases List.mem_cons.1 hg with rfl | hg
      · exact h1
      · exact lt_trans h1 ((ih f).1 h3 |>.1 g hg)
    · rintro ⟨h1, h2, h3⟩
      exact ⟨⟨h1 f (by simp), h2⟩, h3⟩

theorem wf_filter [DecidableEq α] (p : Nat × α → Bool) :
    ∀ m : List (Nat × α), wf d m = true → wf d (m.filter p) = true
  | [], _ => by simp [wf]
  | e :: t, h => by
    obtain ⟨h1, h2, h3⟩ := (wf_cons_iff d e t).1 h
    have ih := wf_filter p t h3
    by_cases hp : p e
    · simp only [List.filter_cons, hp, if_true]
      refine (wf_cons_iff d _ _).2 ⟨?_, h2, ih⟩
      intro f hf
      exact h1 f (List.mem_of_mem_filter hf)
    · simpa [List.filter_cons, hp] using ih

theorem mem_place (a : Nat) (v : α) :
    ∀ (m : List (Nat × α)) (f : Nat × α), f ∈ place a v m → f = (a, v) ∨ f ∈ m
  | [], f, h => by simp [place] at h; exact .inl h
  | e :: t, f, h => by
    unfold place at h
    split at h
    · simpa using h
    · rcases List.mem_cons.1 h with rfl | h
      · simp
      · rcases mem_place a v t f h with h | h
        · exact .inl h
        · exact .inr (by simp [h])

theorem wf_place [DecidableEq α] (a : Nat) (v : α) (hv : v ≠ d a) :
    ∀ m : List (Nat × α), (∀ e ∈ m, e.1 ≠ a) → wf d m = true → wf d (place a v m) = true
  | [], _, _ => by simp [place, wf, hv]
  | e :: t, hn, h => by
    obtain ⟨h1, h2, h3⟩ := (wf_cons_iff d e t).1 h
    unfold place
    split
    · rename_i hlt
      refine (wf_cons_iff d _ _).2 ⟨?_, hv, h⟩
      intro f hf
      rcases List.mem_cons.1 hf with rfl | hf
      · exact hlt
      · exact lt_trans hlt (h1 f hf)
    · rename_i hlt
      have hne : e.1 ≠ a := hn e (by simp)
      have hgt : e.1 < a := by omega
      refine (wf_cons_iff d _ _).2 ⟨?_, h2, wf_place a v hv t (fun x hx => hn x (by simp [hx])) h3⟩
      intro f hf
      rcases mem_place a v t f hf with rfl | hf
      · exact hgt
      · exact h1 f hf

/-- Every write keeps the canonical form. -/
theorem wf_put [DecidableEq α] (m : List (Nat × α)) (a : Nat) (v : α) (h : wf d m = true) :
    wf d (put d m a v) = true := by
  unfold put
  have hf := wf_filter d (fun e => e.1 != a) m h
  by_cases hv : v = d a
  · simpa [hv] using hf
  · simp only [hv, if_false]
    exact wf_place d a v hv _ (by intro e he; simp at he; exact he.2) hf

theorem wf_erase [DecidableEq α] (m : List (Nat × α)) (p : Nat → Bool) (h : wf d m = true) :
    wf d (erase m p) = true := wf_filter d _ m h

theorem wf_putRun [DecidableEq α] (vs : List α) :
    ∀ (m : List (Nat × α)) (a : Nat), wf d m = true → wf d (putRun d m a vs) = true := by
  induction vs with
  | nil => intro m a h; exact h
  | cons v vs ih => intro m a h; exact ih _ _ (wf_put d m a v h)

/-- A run written outside a key leaves the key alone. -/
theorem get_putRun_other [DecidableEq α] (vs : List α) :
    ∀ (m : List (Nat × α)) (a b : Nat), (b < a ∨ a + vs.length ≤ b) →
      get d (putRun d m a vs) b = get d m b := by
  induction vs with
  | nil => intro m a b _; rfl
  | cons v vs ih =>
    intro m a b h
    simp only [List.length_cons] at h
    rw [putRun, ih _ _ _ (by omega), get_put_other d m a b v (by omega)]

theorem putRun_append [DecidableEq α] (vs : List α) (v : α) :
    ∀ (m : List (Nat × α)) (a : Nat),
      putRun d m a (vs ++ [v]) = put d (putRun d m a vs) (a + vs.length) v := by
  induction vs with
  | nil => intro m a; rfl
  | cons w vs ih =>
    intro m a
    simp only [List.cons_append, putRun, ih, List.length_cons]
    congr 1
    omega

end Sys2Proof.Sparse
end

