-- ==== Sys2Proof/Laws/State.lean ====
section
/-!
SUPPORT. What the shared operations over `State` change and what they leave alone: one lemma per field per update, each true
by the definition of the update, so that no proof about a command unfolds a record.
-/

namespace Sys2Proof.Machine

/-! ### Writing a register -/

@[simp] theorem State.setWord_variant (a : Nat) (w : Word) (s : State) : (s.setWord a w).variant = s.variant := rfl
@[simp] theorem State.setWord_mode (a : Nat) (w : Word) (s : State) : (s.setWord a w).mode = s.mode := rfl
@[simp] theorem State.setWord_cycles (a : Nat) (w : Word) (s : State) : (s.setWord a w).cycles = s.cycles := rfl
@[simp] theorem State.setWord_tim (a : Nat) (w : Word) (s : State) : (s.setWord a w).tim = s.tim := rfl
@[simp] theorem State.setWord_volt (a : Nat) (w : Word) (s : State) : (s.setWord a w).volt = s.volt := rfl
@[simp] theorem State.setWord_hdg (a : Nat) (w : Word) (s : State) : (s.setWord a w).hdg = s.hdg := rfl
@[simp] theorem State.setWord_app (a : Nat) (w : Word) (s : State) : (s.setWord a w).app = s.app := rfl
@[simp] theorem State.setWord_stalled (a : Nat) (w : Word) (s : State) : (s.setWord a w).stalled = s.stalled := rfl
@[simp] theorem State.setWord_resp (a : Nat) (w : Word) (s : State) : (s.setWord a w).resp = s.resp := rfl
@[simp] theorem State.setWord_sram (a : Nat) (w : Word) (s : State) : (s.setWord a w).sram = s.sram := rfl
@[simp] theorem State.setWord_lpwSram (a : Nat) (w : Word) (s : State) : (s.setWord a w).lpwSram = s.lpwSram := rfl
@[simp] theorem State.setWord_dram (a : Nat) (w : Word) (s : State) : (s.setWord a w).dram = s.dram := rfl
@[simp] theorem State.setWord_log (a : Nat) (w : Word) (s : State) : (s.setWord a w).log = s.log := rfl
@[simp] theorem State.setWord_logCount (a : Nat) (w : Word) (s : State) : (s.setWord a w).logCount = s.logCount := rfl
@[simp] theorem State.setWord_pwr (a : Nat) (w : Word) (s : State) : (s.setWord a w).pwr = s.pwr := rfl
@[simp] theorem State.setWord_alarms (a : Nat) (w : Word) (s : State) : (s.setWord a w).alarms = s.alarms := rfl
@[simp] theorem State.setWord_rim (a : Nat) (w : Word) (s : State) : (s.setWord a w).rim = s.rim := rfl
@[simp] theorem State.setWord_lnp (a : Nat) (w : Word) (s : State) : (s.setWord a w).lnp = s.lnp := rfl
@[simp] theorem State.setWord_cod (a : Nat) (w : Word) (s : State) : (s.setWord a w).cod = s.cod := rfl
@[simp] theorem State.setWord_inbox (a : Nat) (w : Word) (s : State) : (s.setWord a w).inbox = s.inbox := rfl
@[simp] theorem State.setWord_free (a : Nat) (w : Word) (s : State) : (s.setWord a w).free = s.free := rfl
@[simp] theorem State.setWord_lnk (a : Nat) (w : Word) (s : State) : (s.setWord a w).lnk = s.lnk := rfl
@[simp] theorem State.setWord_sec (a : Nat) (w : Word) (s : State) : (s.setWord a w).sec = s.sec := rfl
@[simp] theorem State.setWord_ctx (a : Nat) (w : Word) (s : State) : (s.setWord a w).ctx = s.ctx := rfl
@[simp] theorem State.setWord_shf (a : Nat) (w : Word) (s : State) : (s.setWord a w).shf = s.shf := rfl
@[simp] theorem State.setWord_upl (a : Nat) (w : Word) (s : State) : (s.setWord a w).upl = s.upl := rfl
@[simp] theorem State.setWord_stl (a : Nat) (w : Word) (s : State) : (s.setWord a w).stl = s.stl := rfl
@[simp] theorem State.setWord_dmc (a : Nat) (w : Word) (s : State) : (s.setWord a w).dmc = s.dmc := rfl
@[simp] theorem State.setWord_fls (a : Nat) (w : Word) (s : State) : (s.setWord a w).fls = s.fls := rfl
@[simp] theorem State.setWord_otp (a : Nat) (w : Word) (s : State) : (s.setWord a w).otp = s.otp := rfl
@[simp] theorem State.setWord_jnl (a : Nat) (w : Word) (s : State) : (s.setWord a w).jnl = s.jnl := rfl
@[simp] theorem State.setWord_cfg (a : Nat) (w : Word) (s : State) : (s.setWord a w).cfg = s.cfg := rfl
@[simp] theorem State.setWord_lpw (a : Nat) (w : Word) (s : State) : (s.setWord a w).lpw = s.lpw := rfl
@[simp] theorem State.setWord_mains (a : Nat) (w : Word) (s : State) : (s.setWord a w).mains = s.mains := rfl
@[simp] theorem State.setWord_hold (a : Nat) (w : Word) (s : State) : (s.setWord a w).hold = s.hold := rfl
@[simp] theorem State.setWord_bkp (a : Nat) (w : Word) (s : State) : (s.setWord a w).bkp = s.bkp := rfl
@[simp] theorem State.setWord_tap (a : Nat) (w : Word) (s : State) : (s.setWord a w).tap = s.tap := rfl
@[simp] theorem State.setWord_pending (a : Nat) (w : Word) (s : State) : (s.setWord a w).pending = s.pending := rfl
@[simp] theorem State.setWord_regs (a : Nat) (w : Word) (s : State) : (s.setWord a w).regs = Sparse.put resetWord s.regs a w := rfl

/-! ### `State.set` -/

@[simp] theorem State.set_variant (f : Fld) (v : Nat) (s : State) : (s.set f v).variant = s.variant := rfl
@[simp] theorem State.set_mode (f : Fld) (v : Nat) (s : State) : (s.set f v).mode = s.mode := rfl
@[simp] theorem State.set_cycles (f : Fld) (v : Nat) (s : State) : (s.set f v).cycles = s.cycles := rfl
@[simp] theorem State.set_tim (f : Fld) (v : Nat) (s : State) : (s.set f v).tim = s.tim := rfl
@[simp] theorem State.set_volt (f : Fld) (v : Nat) (s : State) : (s.set f v).volt = s.volt := rfl
@[simp] theorem State.set_hdg (f : Fld) (v : Nat) (s : State) : (s.set f v).hdg = s.hdg := rfl
@[simp] theorem State.set_app (f : Fld) (v : Nat) (s : State) : (s.set f v).app = s.app := rfl
@[simp] theorem State.set_stalled (f : Fld) (v : Nat) (s : State) : (s.set f v).stalled = s.stalled := rfl
@[simp] theorem State.set_resp (f : Fld) (v : Nat) (s : State) : (s.set f v).resp = s.resp := rfl
@[simp] theorem State.set_sram (f : Fld) (v : Nat) (s : State) : (s.set f v).sram = s.sram := rfl
@[simp] theorem State.set_lpwSram (f : Fld) (v : Nat) (s : State) : (s.set f v).lpwSram = s.lpwSram := rfl
@[simp] theorem State.set_dram (f : Fld) (v : Nat) (s : State) : (s.set f v).dram = s.dram := rfl
@[simp] theorem State.set_log (f : Fld) (v : Nat) (s : State) : (s.set f v).log = s.log := rfl
@[simp] theorem State.set_logCount (f : Fld) (v : Nat) (s : State) : (s.set f v).logCount = s.logCount := rfl
@[simp] theorem State.set_pwr (f : Fld) (v : Nat) (s : State) : (s.set f v).pwr = s.pwr := rfl
@[simp] theorem State.set_alarms (f : Fld) (v : Nat) (s : State) : (s.set f v).alarms = s.alarms := rfl
@[simp] theorem State.set_rim (f : Fld) (v : Nat) (s : State) : (s.set f v).rim = s.rim := rfl
@[simp] theorem State.set_lnp (f : Fld) (v : Nat) (s : State) : (s.set f v).lnp = s.lnp := rfl
@[simp] theorem State.set_cod (f : Fld) (v : Nat) (s : State) : (s.set f v).cod = s.cod := rfl
@[simp] theorem State.set_inbox (f : Fld) (v : Nat) (s : State) : (s.set f v).inbox = s.inbox := rfl
@[simp] theorem State.set_free (f : Fld) (v : Nat) (s : State) : (s.set f v).free = s.free := rfl
@[simp] theorem State.set_lnk (f : Fld) (v : Nat) (s : State) : (s.set f v).lnk = s.lnk := rfl
@[simp] theorem State.set_sec (f : Fld) (v : Nat) (s : State) : (s.set f v).sec = s.sec := rfl
@[simp] theorem State.set_ctx (f : Fld) (v : Nat) (s : State) : (s.set f v).ctx = s.ctx := rfl
@[simp] theorem State.set_shf (f : Fld) (v : Nat) (s : State) : (s.set f v).shf = s.shf := rfl
@[simp] theorem State.set_upl (f : Fld) (v : Nat) (s : State) : (s.set f v).upl = s.upl := rfl
@[simp] theorem State.set_stl (f : Fld) (v : Nat) (s : State) : (s.set f v).stl = s.stl := rfl
@[simp] theorem State.set_dmc (f : Fld) (v : Nat) (s : State) : (s.set f v).dmc = s.dmc := rfl
@[simp] theorem State.set_fls (f : Fld) (v : Nat) (s : State) : (s.set f v).fls = s.fls := rfl
@[simp] theorem State.set_otp (f : Fld) (v : Nat) (s : State) : (s.set f v).otp = s.otp := rfl
@[simp] theorem State.set_jnl (f : Fld) (v : Nat) (s : State) : (s.set f v).jnl = s.jnl := rfl
@[simp] theorem State.set_cfg (f : Fld) (v : Nat) (s : State) : (s.set f v).cfg = s.cfg := rfl
@[simp] theorem State.set_lpw (f : Fld) (v : Nat) (s : State) : (s.set f v).lpw = s.lpw := rfl
@[simp] theorem State.set_mains (f : Fld) (v : Nat) (s : State) : (s.set f v).mains = s.mains := rfl
@[simp] theorem State.set_hold (f : Fld) (v : Nat) (s : State) : (s.set f v).hold = s.hold := rfl
@[simp] theorem State.set_bkp (f : Fld) (v : Nat) (s : State) : (s.set f v).bkp = s.bkp := rfl
@[simp] theorem State.set_tap (f : Fld) (v : Nat) (s : State) : (s.set f v).tap = s.tap := rfl
@[simp] theorem State.set_pending (f : Fld) (v : Nat) (s : State) : (s.set f v).pending = s.pending := rfl

/-! ### `raise` -/

@[simp] theorem raise_variant (f : Fld) (s : State) : (raise f s).variant = s.variant := rfl
@[simp] theorem raise_mode (f : Fld) (s : State) : (raise f s).mode = s.mode := rfl
@[simp] theorem raise_cycles (f : Fld) (s : State) : (raise f s).cycles = s.cycles := rfl
@[simp] theorem raise_tim (f : Fld) (s : State) : (raise f s).tim = s.tim := rfl
@[simp] theorem raise_volt (f : Fld) (s : State) : (raise f s).volt = s.volt := rfl
@[simp] theorem raise_hdg (f : Fld) (s : State) : (raise f s).hdg = s.hdg := rfl
@[simp] theorem raise_app (f : Fld) (s : State) : (raise f s).app = s.app := rfl
@[simp] theorem raise_stalled (f : Fld) (s : State) : (raise f s).stalled = s.stalled := rfl
@[simp] theorem raise_resp (f : Fld) (s : State) : (raise f s).resp = s.resp := rfl
@[simp] theorem raise_sram (f : Fld) (s : State) : (raise f s).sram = s.sram := rfl
@[simp] theorem raise_lpwSram (f : Fld) (s : State) : (raise f s).lpwSram = s.lpwSram := rfl
@[simp] theorem raise_dram (f : Fld) (s : State) : (raise f s).dram = s.dram := rfl
@[simp] theorem raise_log (f : Fld) (s : State) : (raise f s).log = s.log := rfl
@[simp] theorem raise_logCount (f : Fld) (s : State) : (raise f s).logCount = s.logCount := rfl
@[simp] theorem raise_pwr (f : Fld) (s : State) : (raise f s).pwr = s.pwr := rfl
@[simp] theorem raise_alarms (f : Fld) (s : State) : (raise f s).alarms = s.alarms := rfl
@[simp] theorem raise_rim (f : Fld) (s : State) : (raise f s).rim = s.rim := rfl
@[simp] theorem raise_lnp (f : Fld) (s : State) : (raise f s).lnp = s.lnp := rfl
@[simp] theorem raise_cod (f : Fld) (s : State) : (raise f s).cod = s.cod := rfl
@[simp] theorem raise_inbox (f : Fld) (s : State) : (raise f s).inbox = s.inbox := rfl
@[simp] theorem raise_free (f : Fld) (s : State) : (raise f s).free = s.free := rfl
@[simp] theorem raise_lnk (f : Fld) (s : State) : (raise f s).lnk = s.lnk := rfl
@[simp] theorem raise_sec (f : Fld) (s : State) : (raise f s).sec = s.sec := rfl
@[simp] theorem raise_ctx (f : Fld) (s : State) : (raise f s).ctx = s.ctx := rfl
@[simp] theorem raise_shf (f : Fld) (s : State) : (raise f s).shf = s.shf := rfl
@[simp] theorem raise_upl (f : Fld) (s : State) : (raise f s).upl = s.upl := rfl
@[simp] theorem raise_stl (f : Fld) (s : State) : (raise f s).stl = s.stl := rfl
@[simp] theorem raise_dmc (f : Fld) (s : State) : (raise f s).dmc = s.dmc := rfl
@[simp] theorem raise_fls (f : Fld) (s : State) : (raise f s).fls = s.fls := rfl
@[simp] theorem raise_otp (f : Fld) (s : State) : (raise f s).otp = s.otp := rfl
@[simp] theorem raise_jnl (f : Fld) (s : State) : (raise f s).jnl = s.jnl := rfl
@[simp] theorem raise_cfg (f : Fld) (s : State) : (raise f s).cfg = s.cfg := rfl
@[simp] theorem raise_lpw (f : Fld) (s : State) : (raise f s).lpw = s.lpw := rfl
@[simp] theorem raise_mains (f : Fld) (s : State) : (raise f s).mains = s.mains := rfl
@[simp] theorem raise_hold (f : Fld) (s : State) : (raise f s).hold = s.hold := rfl
@[simp] theorem raise_bkp (f : Fld) (s : State) : (raise f s).bkp = s.bkp := rfl
@[simp] theorem raise_tap (f : Fld) (s : State) : (raise f s).tap = s.tap := rfl
@[simp] theorem raise_pending (f : Fld) (s : State) : (raise f s).pending = s.pending := rfl

/-! ### `count` -/

@[simp] theorem count_variant (f : Fld) (n : Nat) (s : State) : (count f n s).variant = s.variant := rfl
@[simp] theorem count_mode (f : Fld) (n : Nat) (s : State) : (count f n s).mode = s.mode := rfl
@[simp] theorem count_cycles (f : Fld) (n : Nat) (s : State) : (count f n s).cycles = s.cycles := rfl
@[simp] theorem count_tim (f : Fld) (n : Nat) (s : State) : (count f n s).tim = s.tim := rfl
@[simp] theorem count_volt (f : Fld) (n : Nat) (s : State) : (count f n s).volt = s.volt := rfl
@[simp] theorem count_hdg (f : Fld) (n : Nat) (s : State) : (count f n s).hdg = s.hdg := rfl
@[simp] theorem count_app (f : Fld) (n : Nat) (s : State) : (count f n s).app = s.app := rfl
@[simp] theorem count_stalled (f : Fld) (n : Nat) (s : State) : (count f n s).stalled = s.stalled := rfl
@[simp] theorem count_resp (f : Fld) (n : Nat) (s : State) : (count f n s).resp = s.resp := rfl
@[simp] theorem count_sram (f : Fld) (n : Nat) (s : State) : (count f n s).sram = s.sram := rfl
@[simp] theorem count_lpwSram (f : Fld) (n : Nat) (s : State) : (count f n s).lpwSram = s.lpwSram := rfl
@[simp] theorem count_dram (f : Fld) (n : Nat) (s : State) : (count f n s).dram = s.dram := rfl
@[simp] theorem count_log (f : Fld) (n : Nat) (s : State) : (count f n s).log = s.log := rfl
@[simp] theorem count_logCount (f : Fld) (n : Nat) (s : State) : (count f n s).logCount = s.logCount := rfl
@[simp] theorem count_pwr (f : Fld) (n : Nat) (s : State) : (count f n s).pwr = s.pwr := rfl
@[simp] theorem count_alarms (f : Fld) (n : Nat) (s : State) : (count f n s).alarms = s.alarms := rfl
@[simp] theorem count_rim (f : Fld) (n : Nat) (s : State) : (count f n s).rim = s.rim := rfl
@[simp] theorem count_lnp (f : Fld) (n : Nat) (s : State) : (count f n s).lnp = s.lnp := rfl
@[simp] theorem count_cod (f : Fld) (n : Nat) (s : State) : (count f n s).cod = s.cod := rfl
@[simp] theorem count_inbox (f : Fld) (n : Nat) (s : State) : (count f n s).inbox = s.inbox := rfl
@[simp] theorem count_free (f : Fld) (n : Nat) (s : State) : (count f n s).free = s.free := rfl
@[simp] theorem count_lnk (f : Fld) (n : Nat) (s : State) : (count f n s).lnk = s.lnk := rfl
@[simp] theorem count_sec (f : Fld) (n : Nat) (s : State) : (count f n s).sec = s.sec := rfl
@[simp] theorem count_ctx (f : Fld) (n : Nat) (s : State) : (count f n s).ctx = s.ctx := rfl
@[simp] theorem count_shf (f : Fld) (n : Nat) (s : State) : (count f n s).shf = s.shf := rfl
@[simp] theorem count_upl (f : Fld) (n : Nat) (s : State) : (count f n s).upl = s.upl := rfl
@[simp] theorem count_stl (f : Fld) (n : Nat) (s : State) : (count f n s).stl = s.stl := rfl
@[simp] theorem count_dmc (f : Fld) (n : Nat) (s : State) : (count f n s).dmc = s.dmc := rfl
@[simp] theorem count_fls (f : Fld) (n : Nat) (s : State) : (count f n s).fls = s.fls := rfl
@[simp] theorem count_otp (f : Fld) (n : Nat) (s : State) : (count f n s).otp = s.otp := rfl
@[simp] theorem count_jnl (f : Fld) (n : Nat) (s : State) : (count f n s).jnl = s.jnl := rfl
@[simp] theorem count_cfg (f : Fld) (n : Nat) (s : State) : (count f n s).cfg = s.cfg := rfl
@[simp] theorem count_lpw (f : Fld) (n : Nat) (s : State) : (count f n s).lpw = s.lpw := rfl
@[simp] theorem count_mains (f : Fld) (n : Nat) (s : State) : (count f n s).mains = s.mains := rfl
@[simp] theorem count_hold (f : Fld) (n : Nat) (s : State) : (count f n s).hold = s.hold := rfl
@[simp] theorem count_bkp (f : Fld) (n : Nat) (s : State) : (count f n s).bkp = s.bkp := rfl
@[simp] theorem count_tap (f : Fld) (n : Nat) (s : State) : (count f n s).tap = s.tap := rfl
@[simp] theorem count_pending (f : Fld) (n : Nat) (s : State) : (count f n s).pending = s.pending := rfl

/-! ### `lowerTo` -/

@[simp] theorem lowerTo_variant (f : Fld) (v : Nat) (s : State) : (lowerTo f v s).variant = s.variant := rfl
@[simp] theorem lowerTo_mode (f : Fld) (v : Nat) (s : State) : (lowerTo f v s).mode = s.mode := rfl
@[simp] theorem lowerTo_cycles (f : Fld) (v : Nat) (s : State) : (lowerTo f v s).cycles = s.cycles := rfl
@[simp] theorem lowerTo_tim (f : Fld) (v : Nat) (s : State) : (lowerTo f v s).tim = s.tim := rfl
@[simp] theorem lowerTo_volt (f : Fld) (v : Nat) (s : State) : (lowerTo f v s).volt = s.volt := rfl
@[simp] theorem lowerTo_hdg (f : Fld) (v : Nat) (s : State) : (lowerTo f v s).hdg = s.hdg := rfl
@[simp] theorem lowerTo_app (f : Fld) (v : Nat) (s : State) : (lowerTo f v s).app = s.app := rfl
@[simp] theorem lowerTo_stalled (f : Fld) (v : Nat) (s : State) : (lowerTo f v s).stalled = s.stalled := rfl
@[simp] theorem lowerTo_resp (f : Fld) (v : Nat) (s : State) : (lowerTo f v s).resp = s.resp := rfl
@[simp] theorem lowerTo_sram (f : Fld) (v : Nat) (s : State) : (lowerTo f v s).sram = s.sram := rfl
@[simp] theorem lowerTo_lpwSram (f : Fld) (v : Nat) (s : State) : (lowerTo f v s).lpwSram = s.lpwSram := rfl
@[simp] theorem lowerTo_dram (f : Fld) (v : Nat) (s : State) : (lowerTo f v s).dram = s.dram := rfl
@[simp] theorem lowerTo_log (f : Fld) (v : Nat) (s : State) : (lowerTo f v s).log = s.log := rfl
@[simp] theorem lowerTo_logCount (f : Fld) (v : Nat) (s : State) : (lowerTo f v s).logCount = s.logCount := rfl
@[simp] theorem lowerTo_pwr (f : Fld) (v : Nat) (s : State) : (lowerTo f v s).pwr = s.pwr := rfl
@[simp] theorem lowerTo_alarms (f : Fld) (v : Nat) (s : State) : (lowerTo f v s).alarms = s.alarms := rfl
@[simp] theorem lowerTo_rim (f : Fld) (v : Nat) (s : State) : (lowerTo f v s).rim = s.rim := rfl
@[simp] theorem lowerTo_lnp (f : Fld) (v : Nat) (s : State) : (lowerTo f v s).lnp = s.lnp := rfl
@[simp] theorem lowerTo_cod (f : Fld) (v : Nat) (s : State) : (lowerTo f v s).cod = s.cod := rfl
@[simp] theorem lowerTo_inbox (f : Fld) (v : Nat) (s : State) : (lowerTo f v s).inbox = s.inbox := rfl
@[simp] theorem lowerTo_free (f : Fld) (v : Nat) (s : State) : (lowerTo f v s).free = s.free := rfl
@[simp] theorem lowerTo_lnk (f : Fld) (v : Nat) (s : State) : (lowerTo f v s).lnk = s.lnk := rfl
@[simp] theorem lowerTo_sec (f : Fld) (v : Nat) (s : State) : (lowerTo f v s).sec = s.sec := rfl
@[simp] theorem lowerTo_ctx (f : Fld) (v : Nat) (s : State) : (lowerTo f v s).ctx = s.ctx := rfl
@[simp] theorem lowerTo_shf (f : Fld) (v : Nat) (s : State) : (lowerTo f v s).shf = s.shf := rfl
@[simp] theorem lowerTo_upl (f : Fld) (v : Nat) (s : State) : (lowerTo f v s).upl = s.upl := rfl
@[simp] theorem lowerTo_stl (f : Fld) (v : Nat) (s : State) : (lowerTo f v s).stl = s.stl := rfl
@[simp] theorem lowerTo_dmc (f : Fld) (v : Nat) (s : State) : (lowerTo f v s).dmc = s.dmc := rfl
@[simp] theorem lowerTo_fls (f : Fld) (v : Nat) (s : State) : (lowerTo f v s).fls = s.fls := rfl
@[simp] theorem lowerTo_otp (f : Fld) (v : Nat) (s : State) : (lowerTo f v s).otp = s.otp := rfl
@[simp] theorem lowerTo_jnl (f : Fld) (v : Nat) (s : State) : (lowerTo f v s).jnl = s.jnl := rfl
@[simp] theorem lowerTo_cfg (f : Fld) (v : Nat) (s : State) : (lowerTo f v s).cfg = s.cfg := rfl
@[simp] theorem lowerTo_lpw (f : Fld) (v : Nat) (s : State) : (lowerTo f v s).lpw = s.lpw := rfl
@[simp] theorem lowerTo_mains (f : Fld) (v : Nat) (s : State) : (lowerTo f v s).mains = s.mains := rfl
@[simp] theorem lowerTo_hold (f : Fld) (v : Nat) (s : State) : (lowerTo f v s).hold = s.hold := rfl
@[simp] theorem lowerTo_bkp (f : Fld) (v : Nat) (s : State) : (lowerTo f v s).bkp = s.bkp := rfl
@[simp] theorem lowerTo_tap (f : Fld) (v : Nat) (s : State) : (lowerTo f v s).tap = s.tap := rfl
@[simp] theorem lowerTo_pending (f : Fld) (v : Nat) (s : State) : (lowerTo f v s).pending = s.pending := rfl

/-! ### `raiseTo` -/

@[simp] theorem raiseTo_variant (f : Fld) (v : Nat) (s : State) : (raiseTo f v s).variant = s.variant := rfl
@[simp] theorem raiseTo_mode (f : Fld) (v : Nat) (s : State) : (raiseTo f v s).mode = s.mode := rfl
@[simp] theorem raiseTo_cycles (f : Fld) (v : Nat) (s : State) : (raiseTo f v s).cycles = s.cycles := rfl
@[simp] theorem raiseTo_tim (f : Fld) (v : Nat) (s : State) : (raiseTo f v s).tim = s.tim := rfl
@[simp] theorem raiseTo_volt (f : Fld) (v : Nat) (s : State) : (raiseTo f v s).volt = s.volt := rfl
@[simp] theorem raiseTo_hdg (f : Fld) (v : Nat) (s : State) : (raiseTo f v s).hdg = s.hdg := rfl
@[simp] theorem raiseTo_app (f : Fld) (v : Nat) (s : State) : (raiseTo f v s).app = s.app := rfl
@[simp] theorem raiseTo_stalled (f : Fld) (v : Nat) (s : State) : (raiseTo f v s).stalled = s.stalled := rfl
@[simp] theorem raiseTo_resp (f : Fld) (v : Nat) (s : State) : (raiseTo f v s).resp = s.resp := rfl
@[simp] theorem raiseTo_sram (f : Fld) (v : Nat) (s : State) : (raiseTo f v s).sram = s.sram := rfl
@[simp] theorem raiseTo_lpwSram (f : Fld) (v : Nat) (s : State) : (raiseTo f v s).lpwSram = s.lpwSram := rfl
@[simp] theorem raiseTo_dram (f : Fld) (v : Nat) (s : State) : (raiseTo f v s).dram = s.dram := rfl
@[simp] theorem raiseTo_log (f : Fld) (v : Nat) (s : State) : (raiseTo f v s).log = s.log := rfl
@[simp] theorem raiseTo_logCount (f : Fld) (v : Nat) (s : State) : (raiseTo f v s).logCount = s.logCount := rfl
@[simp] theorem raiseTo_pwr (f : Fld) (v : Nat) (s : State) : (raiseTo f v s).pwr = s.pwr := rfl
@[simp] theorem raiseTo_alarms (f : Fld) (v : Nat) (s : State) : (raiseTo f v s).alarms = s.alarms := rfl
@[simp] theorem raiseTo_rim (f : Fld) (v : Nat) (s : State) : (raiseTo f v s).rim = s.rim := rfl
@[simp] theorem raiseTo_lnp (f : Fld) (v : Nat) (s : State) : (raiseTo f v s).lnp = s.lnp := rfl
@[simp] theorem raiseTo_cod (f : Fld) (v : Nat) (s : State) : (raiseTo f v s).cod = s.cod := rfl
@[simp] theorem raiseTo_inbox (f : Fld) (v : Nat) (s : State) : (raiseTo f v s).inbox = s.inbox := rfl
@[simp] theorem raiseTo_free (f : Fld) (v : Nat) (s : State) : (raiseTo f v s).free = s.free := rfl
@[simp] theorem raiseTo_lnk (f : Fld) (v : Nat) (s : State) : (raiseTo f v s).lnk = s.lnk := rfl
@[simp] theorem raiseTo_sec (f : Fld) (v : Nat) (s : State) : (raiseTo f v s).sec = s.sec := rfl
@[simp] theorem raiseTo_ctx (f : Fld) (v : Nat) (s : State) : (raiseTo f v s).ctx = s.ctx := rfl
@[simp] theorem raiseTo_shf (f : Fld) (v : Nat) (s : State) : (raiseTo f v s).shf = s.shf := rfl
@[simp] theorem raiseTo_upl (f : Fld) (v : Nat) (s : State) : (raiseTo f v s).upl = s.upl := rfl
@[simp] theorem raiseTo_stl (f : Fld) (v : Nat) (s : State) : (raiseTo f v s).stl = s.stl := rfl
@[simp] theorem raiseTo_dmc (f : Fld) (v : Nat) (s : State) : (raiseTo f v s).dmc = s.dmc := rfl
@[simp] theorem raiseTo_fls (f : Fld) (v : Nat) (s : State) : (raiseTo f v s).fls = s.fls := rfl
@[simp] theorem raiseTo_otp (f : Fld) (v : Nat) (s : State) : (raiseTo f v s).otp = s.otp := rfl
@[simp] theorem raiseTo_jnl (f : Fld) (v : Nat) (s : State) : (raiseTo f v s).jnl = s.jnl := rfl
@[simp] theorem raiseTo_cfg (f : Fld) (v : Nat) (s : State) : (raiseTo f v s).cfg = s.cfg := rfl
@[simp] theorem raiseTo_lpw (f : Fld) (v : Nat) (s : State) : (raiseTo f v s).lpw = s.lpw := rfl
@[simp] theorem raiseTo_mains (f : Fld) (v : Nat) (s : State) : (raiseTo f v s).mains = s.mains := rfl
@[simp] theorem raiseTo_hold (f : Fld) (v : Nat) (s : State) : (raiseTo f v s).hold = s.hold := rfl
@[simp] theorem raiseTo_bkp (f : Fld) (v : Nat) (s : State) : (raiseTo f v s).bkp = s.bkp := rfl
@[simp] theorem raiseTo_tap (f : Fld) (v : Nat) (s : State) : (raiseTo f v s).tap = s.tap := rfl
@[simp] theorem raiseTo_pending (f : Fld) (v : Nat) (s : State) : (raiseTo f v s).pending = s.pending := rfl

/-! ### `useFree` -/

@[simp] theorem useFree_variant (s : State) : (useFree s).variant = s.variant := rfl
@[simp] theorem useFree_mode (s : State) : (useFree s).mode = s.mode := rfl
@[simp] theorem useFree_cycles (s : State) : (useFree s).cycles = s.cycles := rfl
@[simp] theorem useFree_regs (s : State) : (useFree s).regs = s.regs := rfl
@[simp] theorem useFree_tim (s : State) : (useFree s).tim = s.tim := rfl
@[simp] theorem useFree_volt (s : State) : (useFree s).volt = s.volt := rfl
@[simp] theorem useFree_hdg (s : State) : (useFree s).hdg = s.hdg := rfl
@[simp] theorem useFree_app (s : State) : (useFree s).app = s.app := rfl
@[simp] theorem useFree_stalled (s : State) : (useFree s).stalled = s.stalled := rfl
@[simp] theorem useFree_resp (s : State) : (useFree s).resp = s.resp := rfl
@[simp] theorem useFree_sram (s : State) : (useFree s).sram = s.sram := rfl
@[simp] theorem useFree_lpwSram (s : State) : (useFree s).lpwSram = s.lpwSram := rfl
@[simp] theorem useFree_dram (s : State) : (useFree s).dram = s.dram := rfl
@[simp] theorem useFree_log (s : State) : (useFree s).log = s.log := rfl
@[simp] theorem useFree_logCount (s : State) : (useFree s).logCount = s.logCount := rfl
@[simp] theorem useFree_pwr (s : State) : (useFree s).pwr = s.pwr := rfl
@[simp] theorem useFree_alarms (s : State) : (useFree s).alarms = s.alarms := rfl
@[simp] theorem useFree_rim (s : State) : (useFree s).rim = s.rim := rfl
@[simp] theorem useFree_lnp (s : State) : (useFree s).lnp = s.lnp := rfl
@[simp] theorem useFree_cod (s : State) : (useFree s).cod = s.cod := rfl
@[simp] theorem useFree_inbox (s : State) : (useFree s).inbox = s.inbox := rfl
@[simp] theorem useFree_lnk (s : State) : (useFree s).lnk = s.lnk := rfl
@[simp] theorem useFree_sec (s : State) : (useFree s).sec = s.sec := rfl
@[simp] theorem useFree_ctx (s : State) : (useFree s).ctx = s.ctx := rfl
@[simp] theorem useFree_shf (s : State) : (useFree s).shf = s.shf := rfl
@[simp] theorem useFree_upl (s : State) : (useFree s).upl = s.upl := rfl
@[simp] theorem useFree_stl (s : State) : (useFree s).stl = s.stl := rfl
@[simp] theorem useFree_dmc (s : State) : (useFree s).dmc = s.dmc := rfl
@[simp] theorem useFree_fls (s : State) : (useFree s).fls = s.fls := rfl
@[simp] theorem useFree_otp (s : State) : (useFree s).otp = s.otp := rfl
@[simp] theorem useFree_jnl (s : State) : (useFree s).jnl = s.jnl := rfl
@[simp] theorem useFree_cfg (s : State) : (useFree s).cfg = s.cfg := rfl
@[simp] theorem useFree_lpw (s : State) : (useFree s).lpw = s.lpw := rfl
@[simp] theorem useFree_mains (s : State) : (useFree s).mains = s.mains := rfl
@[simp] theorem useFree_hold (s : State) : (useFree s).hold = s.hold := rfl
@[simp] theorem useFree_bkp (s : State) : (useFree s).bkp = s.bkp := rfl
@[simp] theorem useFree_tap (s : State) : (useFree s).tap = s.tap := rfl
@[simp] theorem useFree_pending (s : State) : (useFree s).pending = s.pending := rfl
@[simp] theorem useFree_word (s : State) (r : Nat) : (useFree s).word r = s.word r := rfl
@[simp] theorem useFree_get (s : State) (r : Fld) : (useFree s).get r = s.get r := rfl
@[simp] theorem useFree_is (s : State) (r : Fld) : (useFree s).is r = s.is r := rfl

/-! ### `emitAs` -/

@[simp] theorem emitAs_variant (p i h : Nat) (s : State) : (emitAs p i h s).variant = s.variant := rfl
@[simp] theorem emitAs_mode (p i h : Nat) (s : State) : (emitAs p i h s).mode = s.mode := rfl
@[simp] theorem emitAs_cycles (p i h : Nat) (s : State) : (emitAs p i h s).cycles = s.cycles := rfl
@[simp] theorem emitAs_regs (p i h : Nat) (s : State) : (emitAs p i h s).regs = s.regs := rfl
@[simp] theorem emitAs_tim (p i h : Nat) (s : State) : (emitAs p i h s).tim = s.tim := rfl
@[simp] theorem emitAs_volt (p i h : Nat) (s : State) : (emitAs p i h s).volt = s.volt := rfl
@[simp] theorem emitAs_app (p i h : Nat) (s : State) : (emitAs p i h s).app = s.app := rfl
@[simp] theorem emitAs_stalled (p i h : Nat) (s : State) : (emitAs p i h s).stalled = s.stalled := rfl
@[simp] theorem emitAs_resp (p i h : Nat) (s : State) : (emitAs p i h s).resp = s.resp := rfl
@[simp] theorem emitAs_sram (p i h : Nat) (s : State) : (emitAs p i h s).sram = s.sram := rfl
@[simp] theorem emitAs_lpwSram (p i h : Nat) (s : State) : (emitAs p i h s).lpwSram = s.lpwSram := rfl
@[simp] theorem emitAs_dram (p i h : Nat) (s : State) : (emitAs p i h s).dram = s.dram := rfl
@[simp] theorem emitAs_log (p i h : Nat) (s : State) : (emitAs p i h s).log = s.log := rfl
@[simp] theorem emitAs_logCount (p i h : Nat) (s : State) : (emitAs p i h s).logCount = s.logCount := rfl
@[simp] theorem emitAs_pwr (p i h : Nat) (s : State) : (emitAs p i h s).pwr = s.pwr := rfl
@[simp] theorem emitAs_alarms (p i h : Nat) (s : State) : (emitAs p i h s).alarms = s.alarms := rfl
@[simp] theorem emitAs_rim (p i h : Nat) (s : State) : (emitAs p i h s).rim = s.rim := rfl
@[simp] theorem emitAs_lnp (p i h : Nat) (s : State) : (emitAs p i h s).lnp = s.lnp := rfl
@[simp] theorem emitAs_cod (p i h : Nat) (s : State) : (emitAs p i h s).cod = s.cod := rfl
@[simp] theorem emitAs_inbox (p i h : Nat) (s : State) : (emitAs p i h s).inbox = s.inbox := rfl
@[simp] theorem emitAs_free (p i h : Nat) (s : State) : (emitAs p i h s).free = s.free := rfl
@[simp] theorem emitAs_lnk (p i h : Nat) (s : State) : (emitAs p i h s).lnk = s.lnk := rfl
@[simp] theorem emitAs_sec (p i h : Nat) (s : State) : (emitAs p i h s).sec = s.sec := rfl
@[simp] theorem emitAs_ctx (p i h : Nat) (s : State) : (emitAs p i h s).ctx = s.ctx := rfl
@[simp] theorem emitAs_shf (p i h : Nat) (s : State) : (emitAs p i h s).shf = s.shf := rfl
@[simp] theorem emitAs_upl (p i h : Nat) (s : State) : (emitAs p i h s).upl = s.upl := rfl
@[simp] theorem emitAs_stl (p i h : Nat) (s : State) : (emitAs p i h s).stl = s.stl := rfl
@[simp] theorem emitAs_dmc (p i h : Nat) (s : State) : (emitAs p i h s).dmc = s.dmc := rfl
@[simp] theorem emitAs_fls (p i h : Nat) (s : State) : (emitAs p i h s).fls = s.fls := rfl
@[simp] theorem emitAs_otp (p i h : Nat) (s : State) : (emitAs p i h s).otp = s.otp := rfl
@[simp] theorem emitAs_jnl (p i h : Nat) (s : State) : (emitAs p i h s).jnl = s.jnl := rfl
@[simp] theorem emitAs_cfg (p i h : Nat) (s : State) : (emitAs p i h s).cfg = s.cfg := rfl
@[simp] theorem emitAs_lpw (p i h : Nat) (s : State) : (emitAs p i h s).lpw = s.lpw := rfl
@[simp] theorem emitAs_mains (p i h : Nat) (s : State) : (emitAs p i h s).mains = s.mains := rfl
@[simp] theorem emitAs_hold (p i h : Nat) (s : State) : (emitAs p i h s).hold = s.hold := rfl
@[simp] theorem emitAs_bkp (p i h : Nat) (s : State) : (emitAs p i h s).bkp = s.bkp := rfl
@[simp] theorem emitAs_tap (p i h : Nat) (s : State) : (emitAs p i h s).tap = s.tap := rfl
@[simp] theorem emitAs_pending (p i h : Nat) (s : State) : (emitAs p i h s).pending = s.pending := rfl
@[simp] theorem emitAs_word (p i h : Nat) (s : State) (r : Nat) : (emitAs p i h s).word r = s.word r := rfl
@[simp] theorem emitAs_get (p i h : Nat) (s : State) (r : Fld) : (emitAs p i h s).get r = s.get r := rfl
@[simp] theorem emitAs_is (p i h : Nat) (s : State) (r : Fld) : (emitAs p i h s).is r = s.is r := rfl

/-! ### `emit` -/

@[simp] theorem emit_variant (i h : Nat) (s : State) : (emit i h s).variant = s.variant := rfl
@[simp] theorem emit_mode (i h : Nat) (s : State) : (emit i h s).mode = s.mode := rfl
@[simp] theorem emit_cycles (i h : Nat) (s : State) : (emit i h s).cycles = s.cycles := rfl
@[simp] theorem emit_regs (i h : Nat) (s : State) : (emit i h s).regs = s.regs := rfl
@[simp] theorem emit_tim (i h : Nat) (s : State) : (emit i h s).tim = s.tim := rfl
@[simp] theorem emit_volt (i h : Nat) (s : State) : (emit i h s).volt = s.volt := rfl
@[simp] theorem emit_app (i h : Nat) (s : State) : (emit i h s).app = s.app := rfl
@[simp] theorem emit_stalled (i h : Nat) (s : State) : (emit i h s).stalled = s.stalled := rfl
@[simp] theorem emit_resp (i h : Nat) (s : State) : (emit i h s).resp = s.resp := rfl
@[simp] theorem emit_sram (i h : Nat) (s : State) : (emit i h s).sram = s.sram := rfl
@[simp] theorem emit_lpwSram (i h : Nat) (s : State) : (emit i h s).lpwSram = s.lpwSram := rfl
@[simp] theorem emit_dram (i h : Nat) (s : State) : (emit i h s).dram = s.dram := rfl
@[simp] theorem emit_log (i h : Nat) (s : State) : (emit i h s).log = s.log := rfl
@[simp] theorem emit_logCount (i h : Nat) (s : State) : (emit i h s).logCount = s.logCount := rfl
@[simp] theorem emit_pwr (i h : Nat) (s : State) : (emit i h s).pwr = s.pwr := rfl
@[simp] theorem emit_alarms (i h : Nat) (s : State) : (emit i h s).alarms = s.alarms := rfl
@[simp] theorem emit_rim (i h : Nat) (s : State) : (emit i h s).rim = s.rim := rfl
@[simp] theorem emit_lnp (i h : Nat) (s : State) : (emit i h s).lnp = s.lnp := rfl
@[simp] theorem emit_cod (i h : Nat) (s : State) : (emit i h s).cod = s.cod := rfl
@[simp] theorem emit_inbox (i h : Nat) (s : State) : (emit i h s).inbox = s.inbox := rfl
@[simp] theorem emit_free (i h : Nat) (s : State) : (emit i h s).free = s.free := rfl
@[simp] theorem emit_lnk (i h : Nat) (s : State) : (emit i h s).lnk = s.lnk := rfl
@[simp] theorem emit_sec (i h : Nat) (s : State) : (emit i h s).sec = s.sec := rfl
@[simp] theorem emit_ctx (i h : Nat) (s : State) : (emit i h s).ctx = s.ctx := rfl
@[simp] theorem emit_shf (i h : Nat) (s : State) : (emit i h s).shf = s.shf := rfl
@[simp] theorem emit_upl (i h : Nat) (s : State) : (emit i h s).upl = s.upl := rfl
@[simp] theorem emit_stl (i h : Nat) (s : State) : (emit i h s).stl = s.stl := rfl
@[simp] theorem emit_dmc (i h : Nat) (s : State) : (emit i h s).dmc = s.dmc := rfl
@[simp] theorem emit_fls (i h : Nat) (s : State) : (emit i h s).fls = s.fls := rfl
@[simp] theorem emit_otp (i h : Nat) (s : State) : (emit i h s).otp = s.otp := rfl
@[simp] theorem emit_jnl (i h : Nat) (s : State) : (emit i h s).jnl = s.jnl := rfl
@[simp] theorem emit_cfg (i h : Nat) (s : State) : (emit i h s).cfg = s.cfg := rfl
@[simp] theorem emit_lpw (i h : Nat) (s : State) : (emit i h s).lpw = s.lpw := rfl
@[simp] theorem emit_mains (i h : Nat) (s : State) : (emit i h s).mains = s.mains := rfl
@[simp] theorem emit_hold (i h : Nat) (s : State) : (emit i h s).hold = s.hold := rfl
@[simp] theorem emit_bkp (i h : Nat) (s : State) : (emit i h s).bkp = s.bkp := rfl
@[simp] theorem emit_tap (i h : Nat) (s : State) : (emit i h s).tap = s.tap := rfl
@[simp] theorem emit_pending (i h : Nat) (s : State) : (emit i h s).pending = s.pending := rfl
@[simp] theorem emit_word (i h : Nat) (s : State) (r : Nat) : (emit i h s).word r = s.word r := rfl
@[simp] theorem emit_get (i h : Nat) (s : State) (r : Fld) : (emit i h s).get r = s.get r := rfl
@[simp] theorem emit_is (i h : Nat) (s : State) (r : Fld) : (emit i h s).is r = s.is r := rfl

/-! ### `setTask` -/

@[simp] theorem setTask_variant (t : TaskInput) (s : State) : (setTask t s).variant = s.variant := rfl
@[simp] theorem setTask_mode (t : TaskInput) (s : State) : (setTask t s).mode = s.mode := rfl
@[simp] theorem setTask_cycles (t : TaskInput) (s : State) : (setTask t s).cycles = s.cycles := rfl
@[simp] theorem setTask_regs (t : TaskInput) (s : State) : (setTask t s).regs = s.regs := rfl
@[simp] theorem setTask_tim (t : TaskInput) (s : State) : (setTask t s).tim = s.tim := rfl
@[simp] theorem setTask_volt (t : TaskInput) (s : State) : (setTask t s).volt = s.volt := rfl
@[simp] theorem setTask_app (t : TaskInput) (s : State) : (setTask t s).app = s.app := rfl
@[simp] theorem setTask_stalled (t : TaskInput) (s : State) : (setTask t s).stalled = s.stalled := rfl
@[simp] theorem setTask_resp (t : TaskInput) (s : State) : (setTask t s).resp = s.resp := rfl
@[simp] theorem setTask_sram (t : TaskInput) (s : State) : (setTask t s).sram = s.sram := rfl
@[simp] theorem setTask_lpwSram (t : TaskInput) (s : State) : (setTask t s).lpwSram = s.lpwSram := rfl
@[simp] theorem setTask_dram (t : TaskInput) (s : State) : (setTask t s).dram = s.dram := rfl
@[simp] theorem setTask_log (t : TaskInput) (s : State) : (setTask t s).log = s.log := rfl
@[simp] theorem setTask_logCount (t : TaskInput) (s : State) : (setTask t s).logCount = s.logCount := rfl
@[simp] theorem setTask_pwr (t : TaskInput) (s : State) : (setTask t s).pwr = s.pwr := rfl
@[simp] theorem setTask_alarms (t : TaskInput) (s : State) : (setTask t s).alarms = s.alarms := rfl
@[simp] theorem setTask_rim (t : TaskInput) (s : State) : (setTask t s).rim = s.rim := rfl
@[simp] theorem setTask_lnp (t : TaskInput) (s : State) : (setTask t s).lnp = s.lnp := rfl
@[simp] theorem setTask_cod (t : TaskInput) (s : State) : (setTask t s).cod = s.cod := rfl
@[simp] theorem setTask_inbox (t : TaskInput) (s : State) : (setTask t s).inbox = s.inbox := rfl
@[simp] theorem setTask_free (t : TaskInput) (s : State) : (setTask t s).free = s.free := rfl
@[simp] theorem setTask_lnk (t : TaskInput) (s : State) : (setTask t s).lnk = s.lnk := rfl
@[simp] theorem setTask_sec (t : TaskInput) (s : State) : (setTask t s).sec = s.sec := rfl
@[simp] theorem setTask_ctx (t : TaskInput) (s : State) : (setTask t s).ctx = s.ctx := rfl
@[simp] theorem setTask_shf (t : TaskInput) (s : State) : (setTask t s).shf = s.shf := rfl
@[simp] theorem setTask_upl (t : TaskInput) (s : State) : (setTask t s).upl = s.upl := rfl
@[simp] theorem setTask_stl (t : TaskInput) (s : State) : (setTask t s).stl = s.stl := rfl
@[simp] theorem setTask_dmc (t : TaskInput) (s : State) : (setTask t s).dmc = s.dmc := rfl
@[simp] theorem setTask_fls (t : TaskInput) (s : State) : (setTask t s).fls = s.fls := rfl
@[simp] theorem setTask_otp (t : TaskInput) (s : State) : (setTask t s).otp = s.otp := rfl
@[simp] theorem setTask_jnl (t : TaskInput) (s : State) : (setTask t s).jnl = s.jnl := rfl
@[simp] theorem setTask_cfg (t : TaskInput) (s : State) : (setTask t s).cfg = s.cfg := rfl
@[simp] theorem setTask_lpw (t : TaskInput) (s : State) : (setTask t s).lpw = s.lpw := rfl
@[simp] theorem setTask_mains (t : TaskInput) (s : State) : (setTask t s).mains = s.mains := rfl
@[simp] theorem setTask_hold (t : TaskInput) (s : State) : (setTask t s).hold = s.hold := rfl
@[simp] theorem setTask_bkp (t : TaskInput) (s : State) : (setTask t s).bkp = s.bkp := rfl
@[simp] theorem setTask_tap (t : TaskInput) (s : State) : (setTask t s).tap = s.tap := rfl
@[simp] theorem setTask_pending (t : TaskInput) (s : State) : (setTask t s).pending = s.pending := rfl
@[simp] theorem setTask_word (t : TaskInput) (s : State) (r : Nat) : (setTask t s).word r = s.word r := rfl
@[simp] theorem setTask_get (t : TaskInput) (s : State) (r : Fld) : (setTask t s).get r = s.get r := rfl
@[simp] theorem setTask_is (t : TaskInput) (s : State) (r : Fld) : (setTask t s).is r = s.is r := rfl

/-! ### `takeTask` -/

@[simp] theorem takeTask_variant (i : Nat) (s : State) : (takeTask i s).variant = s.variant := rfl
@[simp] theorem takeTask_mode (i : Nat) (s : State) : (takeTask i s).mode = s.mode := rfl
@[simp] theorem takeTask_cycles (i : Nat) (s : State) : (takeTask i s).cycles = s.cycles := rfl
@[simp] theorem takeTask_regs (i : Nat) (s : State) : (takeTask i s).regs = s.regs := rfl
@[simp] theorem takeTask_tim (i : Nat) (s : State) : (takeTask i s).tim = s.tim := rfl
@[simp] theorem takeTask_volt (i : Nat) (s : State) : (takeTask i s).volt = s.volt := rfl
@[simp] theorem takeTask_app (i : Nat) (s : State) : (takeTask i s).app = s.app := rfl
@[simp] theorem takeTask_stalled (i : Nat) (s : State) : (takeTask i s).stalled = s.stalled := rfl
@[simp] theorem takeTask_resp (i : Nat) (s : State) : (takeTask i s).resp = s.resp := rfl
@[simp] theorem takeTask_sram (i : Nat) (s : State) : (takeTask i s).sram = s.sram := rfl
@[simp] theorem takeTask_lpwSram (i : Nat) (s : State) : (takeTask i s).lpwSram = s.lpwSram := rfl
@[simp] theorem takeTask_dram (i : Nat) (s : State) : (takeTask i s).dram = s.dram := rfl
@[simp] theorem takeTask_log (i : Nat) (s : State) : (takeTask i s).log = s.log := rfl
@[simp] theorem takeTask_logCount (i : Nat) (s : State) : (takeTask i s).logCount = s.logCount := rfl
@[simp] theorem takeTask_pwr (i : Nat) (s : State) : (takeTask i s).pwr = s.pwr := rfl
@[simp] theorem takeTask_alarms (i : Nat) (s : State) : (takeTask i s).alarms = s.alarms := rfl
@[simp] theorem takeTask_rim (i : Nat) (s : State) : (takeTask i s).rim = s.rim := rfl
@[simp] theorem takeTask_lnp (i : Nat) (s : State) : (takeTask i s).lnp = s.lnp := rfl
@[simp] theorem takeTask_cod (i : Nat) (s : State) : (takeTask i s).cod = s.cod := rfl
@[simp] theorem takeTask_inbox (i : Nat) (s : State) : (takeTask i s).inbox = s.inbox := rfl
@[simp] theorem takeTask_free (i : Nat) (s : State) : (takeTask i s).free = s.free := rfl
@[simp] theorem takeTask_lnk (i : Nat) (s : State) : (takeTask i s).lnk = s.lnk := rfl
@[simp] theorem takeTask_sec (i : Nat) (s : State) : (takeTask i s).sec = s.sec := rfl
@[simp] theorem takeTask_ctx (i : Nat) (s : State) : (takeTask i s).ctx = s.ctx := rfl
@[simp] theorem takeTask_shf (i : Nat) (s : State) : (takeTask i s).shf = s.shf := rfl
@[simp] theorem takeTask_upl (i : Nat) (s : State) : (takeTask i s).upl = s.upl := rfl
@[simp] theorem takeTask_stl (i : Nat) (s : State) : (takeTask i s).stl = s.stl := rfl
@[simp] theorem takeTask_dmc (i : Nat) (s : State) : (takeTask i s).dmc = s.dmc := rfl
@[simp] theorem takeTask_fls (i : Nat) (s : State) : (takeTask i s).fls = s.fls := rfl
@[simp] theorem takeTask_otp (i : Nat) (s : State) : (takeTask i s).otp = s.otp := rfl
@[simp] theorem takeTask_jnl (i : Nat) (s : State) : (takeTask i s).jnl = s.jnl := rfl
@[simp] theorem takeTask_cfg (i : Nat) (s : State) : (takeTask i s).cfg = s.cfg := rfl
@[simp] theorem takeTask_lpw (i : Nat) (s : State) : (takeTask i s).lpw = s.lpw := rfl
@[simp] theorem takeTask_mains (i : Nat) (s : State) : (takeTask i s).mains = s.mains := rfl
@[simp] theorem takeTask_hold (i : Nat) (s : State) : (takeTask i s).hold = s.hold := rfl
@[simp] theorem takeTask_bkp (i : Nat) (s : State) : (takeTask i s).bkp = s.bkp := rfl
@[simp] theorem takeTask_tap (i : Nat) (s : State) : (takeTask i s).tap = s.tap := rfl
@[simp] theorem takeTask_pending (i : Nat) (s : State) : (takeTask i s).pending = s.pending := rfl
@[simp] theorem takeTask_word (i : Nat) (s : State) (r : Nat) : (takeTask i s).word r = s.word r := rfl
@[simp] theorem takeTask_get (i : Nat) (s : State) (r : Fld) : (takeTask i s).get r = s.get r := rfl
@[simp] theorem takeTask_is (i : Nat) (s : State) (r : Fld) : (takeTask i s).is r = s.is r := rfl

/-! ### `endTask` -/

@[simp] theorem endTask_variant (i : Nat) (s : State) : (endTask i s).variant = s.variant := rfl
@[simp] theorem endTask_mode (i : Nat) (s : State) : (endTask i s).mode = s.mode := rfl
@[simp] theorem endTask_cycles (i : Nat) (s : State) : (endTask i s).cycles = s.cycles := rfl
@[simp] theorem endTask_regs (i : Nat) (s : State) : (endTask i s).regs = s.regs := rfl
@[simp] theorem endTask_tim (i : Nat) (s : State) : (endTask i s).tim = s.tim := rfl
@[simp] theorem endTask_volt (i : Nat) (s : State) : (endTask i s).volt = s.volt := rfl
@[simp] theorem endTask_app (i : Nat) (s : State) : (endTask i s).app = s.app := rfl
@[simp] theorem endTask_stalled (i : Nat) (s : State) : (endTask i s).stalled = s.stalled := rfl
@[simp] theorem endTask_resp (i : Nat) (s : State) : (endTask i s).resp = s.resp := rfl
@[simp] theorem endTask_sram (i : Nat) (s : State) : (endTask i s).sram = s.sram := rfl
@[simp] theorem endTask_lpwSram (i : Nat) (s : State) : (endTask i s).lpwSram = s.lpwSram := rfl
@[simp] theorem endTask_dram (i : Nat) (s : State) : (endTask i s).dram = s.dram := rfl
@[simp] theorem endTask_log (i : Nat) (s : State) : (endTask i s).log = s.log := rfl
@[simp] theorem endTask_logCount (i : Nat) (s : State) : (endTask i s).logCount = s.logCount := rfl
@[simp] theorem endTask_pwr (i : Nat) (s : State) : (endTask i s).pwr = s.pwr := rfl
@[simp] theorem endTask_alarms (i : Nat) (s : State) : (endTask i s).alarms = s.alarms := rfl
@[simp] theorem endTask_rim (i : Nat) (s : State) : (endTask i s).rim = s.rim := rfl
@[simp] theorem endTask_lnp (i : Nat) (s : State) : (endTask i s).lnp = s.lnp := rfl
@[simp] theorem endTask_cod (i : Nat) (s : State) : (endTask i s).cod = s.cod := rfl
@[simp] theorem endTask_inbox (i : Nat) (s : State) : (endTask i s).inbox = s.inbox := rfl
@[simp] theorem endTask_free (i : Nat) (s : State) : (endTask i s).free = s.free := rfl
@[simp] theorem endTask_lnk (i : Nat) (s : State) : (endTask i s).lnk = s.lnk := rfl
@[simp] theorem endTask_sec (i : Nat) (s : State) : (endTask i s).sec = s.sec := rfl
@[simp] theorem endTask_ctx (i : Nat) (s : State) : (endTask i s).ctx = s.ctx := rfl
@[simp] theorem endTask_shf (i : Nat) (s : State) : (endTask i s).shf = s.shf := rfl
@[simp] theorem endTask_upl (i : Nat) (s : State) : (endTask i s).upl = s.upl := rfl
@[simp] theorem endTask_stl (i : Nat) (s : State) : (endTask i s).stl = s.stl := rfl
@[simp] theorem endTask_dmc (i : Nat) (s : State) : (endTask i s).dmc = s.dmc := rfl
@[simp] theorem endTask_fls (i : Nat) (s : State) : (endTask i s).fls = s.fls := rfl
@[simp] theorem endTask_otp (i : Nat) (s : State) : (endTask i s).otp = s.otp := rfl
@[simp] theorem endTask_jnl (i : Nat) (s : State) : (endTask i s).jnl = s.jnl := rfl
@[simp] theorem endTask_cfg (i : Nat) (s : State) : (endTask i s).cfg = s.cfg := rfl
@[simp] theorem endTask_lpw (i : Nat) (s : State) : (endTask i s).lpw = s.lpw := rfl
@[simp] theorem endTask_mains (i : Nat) (s : State) : (endTask i s).mains = s.mains := rfl
@[simp] theorem endTask_hold (i : Nat) (s : State) : (endTask i s).hold = s.hold := rfl
@[simp] theorem endTask_bkp (i : Nat) (s : State) : (endTask i s).bkp = s.bkp := rfl
@[simp] theorem endTask_tap (i : Nat) (s : State) : (endTask i s).tap = s.tap := rfl
@[simp] theorem endTask_pending (i : Nat) (s : State) : (endTask i s).pending = s.pending := rfl
@[simp] theorem endTask_word (i : Nat) (s : State) (r : Nat) : (endTask i s).word r = s.word r := rfl
@[simp] theorem endTask_get (i : Nat) (s : State) (r : Fld) : (endTask i s).get r = s.get r := rfl
@[simp] theorem endTask_is (i : Nat) (s : State) (r : Fld) : (endTask i s).is r = s.is r := rfl

/-! ### `elapse` -/

@[simp] theorem elapse_variant (dt : Nat) (s : State) : (elapse dt s).variant = s.variant := rfl
@[simp] theorem elapse_mode (dt : Nat) (s : State) : (elapse dt s).mode = s.mode := rfl
@[simp] theorem elapse_regs (dt : Nat) (s : State) : (elapse dt s).regs = s.regs := rfl
@[simp] theorem elapse_volt (dt : Nat) (s : State) : (elapse dt s).volt = s.volt := rfl
@[simp] theorem elapse_hdg (dt : Nat) (s : State) : (elapse dt s).hdg = s.hdg := rfl
@[simp] theorem elapse_app (dt : Nat) (s : State) : (elapse dt s).app = s.app := rfl
@[simp] theorem elapse_stalled (dt : Nat) (s : State) : (elapse dt s).stalled = s.stalled := rfl
@[simp] theorem elapse_resp (dt : Nat) (s : State) : (elapse dt s).resp = s.resp := rfl
@[simp] theorem elapse_sram (dt : Nat) (s : State) : (elapse dt s).sram = s.sram := rfl
@[simp] theorem elapse_lpwSram (dt : Nat) (s : State) : (elapse dt s).lpwSram = s.lpwSram := rfl
@[simp] theorem elapse_dram (dt : Nat) (s : State) : (elapse dt s).dram = s.dram := rfl
@[simp] theorem elapse_log (dt : Nat) (s : State) : (elapse dt s).log = s.log := rfl
@[simp] theorem elapse_logCount (dt : Nat) (s : State) : (elapse dt s).logCount = s.logCount := rfl
@[simp] theorem elapse_pwr (dt : Nat) (s : State) : (elapse dt s).pwr = s.pwr := rfl
@[simp] theorem elapse_alarms (dt : Nat) (s : State) : (elapse dt s).alarms = s.alarms := rfl
@[simp] theorem elapse_rim (dt : Nat) (s : State) : (elapse dt s).rim = s.rim := rfl
@[simp] theorem elapse_lnp (dt : Nat) (s : State) : (elapse dt s).lnp = s.lnp := rfl
@[simp] theorem elapse_cod (dt : Nat) (s : State) : (elapse dt s).cod = s.cod := rfl
@[simp] theorem elapse_inbox (dt : Nat) (s : State) : (elapse dt s).inbox = s.inbox := rfl
@[simp] theorem elapse_free (dt : Nat) (s : State) : (elapse dt s).free = s.free := rfl
@[simp] theorem elapse_lnk (dt : Nat) (s : State) : (elapse dt s).lnk = s.lnk := rfl
@[simp] theorem elapse_sec (dt : Nat) (s : State) : (elapse dt s).sec = s.sec := rfl
@[simp] theorem elapse_ctx (dt : Nat) (s : State) : (elapse dt s).ctx = s.ctx := rfl
@[simp] theorem elapse_shf (dt : Nat) (s : State) : (elapse dt s).shf = s.shf := rfl
@[simp] theorem elapse_upl (dt : Nat) (s : State) : (elapse dt s).upl = s.upl := rfl
@[simp] theorem elapse_stl (dt : Nat) (s : State) : (elapse dt s).stl = s.stl := rfl
@[simp] theorem elapse_dmc (dt : Nat) (s : State) : (elapse dt s).dmc = s.dmc := rfl
@[simp] theorem elapse_fls (dt : Nat) (s : State) : (elapse dt s).fls = s.fls := rfl
@[simp] theorem elapse_otp (dt : Nat) (s : State) : (elapse dt s).otp = s.otp := rfl
@[simp] theorem elapse_jnl (dt : Nat) (s : State) : (elapse dt s).jnl = s.jnl := rfl
@[simp] theorem elapse_cfg (dt : Nat) (s : State) : (elapse dt s).cfg = s.cfg := rfl
@[simp] theorem elapse_lpw (dt : Nat) (s : State) : (elapse dt s).lpw = s.lpw := rfl
@[simp] theorem elapse_mains (dt : Nat) (s : State) : (elapse dt s).mains = s.mains := rfl
@[simp] theorem elapse_hold (dt : Nat) (s : State) : (elapse dt s).hold = s.hold := rfl
@[simp] theorem elapse_bkp (dt : Nat) (s : State) : (elapse dt s).bkp = s.bkp := rfl
@[simp] theorem elapse_tap (dt : Nat) (s : State) : (elapse dt s).tap = s.tap := rfl
@[simp] theorem elapse_pending (dt : Nat) (s : State) : (elapse dt s).pending = s.pending := rfl
@[simp] theorem elapse_word (dt : Nat) (s : State) (r : Nat) : (elapse dt s).word r = s.word r := rfl
@[simp] theorem elapse_get (dt : Nat) (s : State) (r : Fld) : (elapse dt s).get r = s.get r := rfl
@[simp] theorem elapse_is (dt : Nat) (s : State) (r : Fld) : (elapse dt s).is r = s.is r := rfl

/-! ### `settle` -/

@[simp] theorem settle_variant (s : State) : (settle s).variant = s.variant := rfl
@[simp] theorem settle_mode (s : State) : (settle s).mode = s.mode := rfl
@[simp] theorem settle_cycles (s : State) : (settle s).cycles = s.cycles := rfl
@[simp] theorem settle_regs (s : State) : (settle s).regs = s.regs := rfl
@[simp] theorem settle_tim (s : State) : (settle s).tim = s.tim := rfl
@[simp] theorem settle_volt (s : State) : (settle s).volt = s.volt := rfl
@[simp] theorem settle_hdg (s : State) : (settle s).hdg = s.hdg := rfl
@[simp] theorem settle_stalled (s : State) : (settle s).stalled = s.stalled := rfl
@[simp] theorem settle_resp (s : State) : (settle s).resp = s.resp := rfl
@[simp] theorem settle_sram (s : State) : (settle s).sram = s.sram := rfl
@[simp] theorem settle_lpwSram (s : State) : (settle s).lpwSram = s.lpwSram := rfl
@[simp] theorem settle_dram (s : State) : (settle s).dram = s.dram := rfl
@[simp] theorem settle_log (s : State) : (settle s).log = s.log := rfl
@[simp] theorem settle_logCount (s : State) : (settle s).logCount = s.logCount := rfl
@[simp] theorem settle_pwr (s : State) : (settle s).pwr = s.pwr := rfl
@[simp] theorem settle_alarms (s : State) : (settle s).alarms = s.alarms := rfl
@[simp] theorem settle_rim (s : State) : (settle s).rim = s.rim := rfl
@[simp] theorem settle_lnp (s : State) : (settle s).lnp = s.lnp := rfl
@[simp] theorem settle_cod (s : State) : (settle s).cod = s.cod := rfl
@[simp] theorem settle_inbox (s : State) : (settle s).inbox = s.inbox := rfl
@[simp] theorem settle_free (s : State) : (settle s).free = s.free := rfl
@[simp] theorem settle_lnk (s : State) : (settle s).lnk = s.lnk := rfl
@[simp] theorem settle_sec (s : State) : (settle s).sec = s.sec := rfl
@[simp] theorem settle_ctx (s : State) : (settle s).ctx = s.ctx := rfl
@[simp] theorem settle_shf (s : State) : (settle s).shf = s.shf := rfl
@[simp] theorem settle_upl (s : State) : (settle s).upl = s.upl := rfl
@[simp] theorem settle_stl (s : State) : (settle s).stl = s.stl := rfl
@[simp] theorem settle_dmc (s : State) : (settle s).dmc = s.dmc := rfl
@[simp] theorem settle_fls (s : State) : (settle s).fls = s.fls := rfl
@[simp] theorem settle_otp (s : State) : (settle s).otp = s.otp := rfl
@[simp] theorem settle_jnl (s : State) : (settle s).jnl = s.jnl := rfl
@[simp] theorem settle_cfg (s : State) : (settle s).cfg = s.cfg := rfl
@[simp] theorem settle_lpw (s : State) : (settle s).lpw = s.lpw := rfl
@[simp] theorem settle_mains (s : State) : (settle s).mains = s.mains := rfl
@[simp] theorem settle_hold (s : State) : (settle s).hold = s.hold := rfl
@[simp] theorem settle_bkp (s : State) : (settle s).bkp = s.bkp := rfl
@[simp] theorem settle_tap (s : State) : (settle s).tap = s.tap := rfl
@[simp] theorem settle_pending (s : State) : (settle s).pending = s.pending := rfl
@[simp] theorem settle_word (s : State) (r : Nat) : (settle s).word r = s.word r := rfl
@[simp] theorem settle_get (s : State) (r : Fld) : (settle s).get r = s.get r := rfl
@[simp] theorem settle_is (s : State) (r : Fld) : (settle s).is r = s.is r := rfl

/-! ### `after`: what a command leaves -/

@[simp] theorem after_mode (dt : Nat) (s u : State) : (after dt s u).mode = u.mode := rfl
@[simp] theorem after_regs (dt : Nat) (s u : State) : (after dt s u).regs = u.regs := rfl
@[simp] theorem after_tim (dt : Nat) (s u : State) : (after dt s u).tim = u.tim := rfl
@[simp] theorem after_volt (dt : Nat) (s u : State) : (after dt s u).volt = u.volt := rfl
@[simp] theorem after_hdg (dt : Nat) (s u : State) : (after dt s u).hdg = u.hdg := rfl
@[simp] theorem after_stalled (dt : Nat) (s u : State) : (after dt s u).stalled = u.stalled := rfl
@[simp] theorem after_resp (dt : Nat) (s u : State) : (after dt s u).resp = u.resp := rfl
@[simp] theorem after_sram (dt : Nat) (s u : State) : (after dt s u).sram = u.sram := rfl
@[simp] theorem after_lpwSram (dt : Nat) (s u : State) : (after dt s u).lpwSram = u.lpwSram := rfl
@[simp] theorem after_dram (dt : Nat) (s u : State) : (after dt s u).dram = u.dram := rfl
@[simp] theorem after_log (dt : Nat) (s u : State) : (after dt s u).log = u.log := rfl
@[simp] theorem after_logCount (dt : Nat) (s u : State) : (after dt s u).logCount = u.logCount := rfl
@[simp] theorem after_pwr (dt : Nat) (s u : State) : (after dt s u).pwr = u.pwr := rfl
@[simp] theorem after_alarms (dt : Nat) (s u : State) : (after dt s u).alarms = u.alarms := rfl
@[simp] theorem after_rim (dt : Nat) (s u : State) : (after dt s u).rim = u.rim := rfl
@[simp] theorem after_lnp (dt : Nat) (s u : State) : (after dt s u).lnp = u.lnp := rfl
@[simp] theorem after_cod (dt : Nat) (s u : State) : (after dt s u).cod = u.cod := rfl
@[simp] theorem after_inbox (dt : Nat) (s u : State) : (after dt s u).inbox = u.inbox := rfl
@[simp] theorem after_free (dt : Nat) (s u : State) : (after dt s u).free = u.free := rfl
@[simp] theorem after_lnk (dt : Nat) (s u : State) : (after dt s u).lnk = u.lnk := rfl
@[simp] theorem after_sec (dt : Nat) (s u : State) : (after dt s u).sec = u.sec := rfl
@[simp] theorem after_ctx (dt : Nat) (s u : State) : (after dt s u).ctx = u.ctx := rfl
@[simp] theorem after_shf (dt : Nat) (s u : State) : (after dt s u).shf = u.shf := rfl
@[simp] theorem after_upl (dt : Nat) (s u : State) : (after dt s u).upl = u.upl := rfl
@[simp] theorem after_stl (dt : Nat) (s u : State) : (after dt s u).stl = u.stl := rfl
@[simp] theorem after_dmc (dt : Nat) (s u : State) : (after dt s u).dmc = u.dmc := rfl
@[simp] theorem after_fls (dt : Nat) (s u : State) : (after dt s u).fls = u.fls := rfl
@[simp] theorem after_otp (dt : Nat) (s u : State) : (after dt s u).otp = u.otp := rfl
@[simp] theorem after_jnl (dt : Nat) (s u : State) : (after dt s u).jnl = u.jnl := rfl
@[simp] theorem after_cfg (dt : Nat) (s u : State) : (after dt s u).cfg = u.cfg := rfl
@[simp] theorem after_lpw (dt : Nat) (s u : State) : (after dt s u).lpw = u.lpw := rfl
@[simp] theorem after_mains (dt : Nat) (s u : State) : (after dt s u).mains = u.mains := rfl
@[simp] theorem after_hold (dt : Nat) (s u : State) : (after dt s u).hold = u.hold := rfl
@[simp] theorem after_bkp (dt : Nat) (s u : State) : (after dt s u).bkp = u.bkp := rfl
@[simp] theorem after_tap (dt : Nat) (s u : State) : (after dt s u).tap = u.tap := rfl
@[simp] theorem after_variant (dt : Nat) (s u : State) : (after dt s u).variant = s.variant := rfl
@[simp] theorem after_cycles (dt : Nat) (s u : State) : (after dt s u).cycles = s.cycles + dt := rfl
@[simp] theorem after_pending (dt : Nat) (s u : State) : (after dt s u).pending = s.pending := rfl
@[simp] theorem after_app (dt : Nat) (s u : State) : (after dt s u).app = (settle u).app := rfl
@[simp] theorem after_word (dt : Nat) (s u : State) (r : Nat) : (after dt s u).word r = u.word r := rfl
@[simp] theorem after_get (dt : Nat) (s u : State) (r : Fld) : (after dt s u).get r = u.get r := rfl
@[simp] theorem after_is (dt : Nat) (s u : State) (r : Fld) : (after dt s u).is r = u.is r := rfl

/-! ### What the remaining fields become -/

@[simp] theorem useFree_free (s : State) : (useFree s).free = s.free + 1 := rfl
@[simp] theorem elapse_cycles (dt : Nat) (s : State) : (elapse dt s).cycles = s.cycles + dt := rfl
@[simp] theorem elapse_tim_st (dt : Nat) (s : State) : (elapse dt s).tim.st = s.tim.st := by
  unfold elapse; dsimp only; split <;> rfl
@[simp] theorem elapse_lock (dt : Nat) (s : State) : (elapse dt s).lock = s.lock := by
  simp [State.lock]
theorem elapse_stopped (dt : Nat) (s : State) (h : s.tim.running = false) : (elapse dt s).tim = s.tim := by
  simp [elapse, h]
theorem elapse_acc (dt : Nat) (s : State) (h : s.tim.running = true) :
    (elapse dt s).tim.acc = s.tim.acc + dt * (((2 ^ 40 : Nat) : Int) + s.getInt TIM_RATE_RATE).toNat := by
  simp [elapse, h]
@[simp] theorem settle_hart0 (s : State) : (settle s).app.hart0 = s.app.hart0 := rfl
@[simp] theorem settle_hart1 (s : State) : (settle s).app.hart1 = s.app.hart1 := rfl
@[simp] theorem settle_claimed (s : State) : (settle s).app.claimed = s.app.claimed := rfl
@[simp] theorem settle_appfw (s : State) : (settle s).app.appfw = s.app.appfw := rfl
@[simp] theorem settle_throttled (s : State) : (settle s).app.throttled = s.app.throttled := rfl
@[simp] theorem settle_sourceRaised (s : State) (k : Nat) : (settle s).sourceRaised k = s.sourceRaised k := rfl
@[simp] theorem settle_idClaimed (s : State) (k : Nat) : (settle s).idClaimed k = s.idClaimed k := rfl
theorem mem_settle_pendingIds (s : State) (i : Nat) :
    i ∈ (settle s).app.pendingIds ↔
      0 < i ∧ i < 129 ∧ (i ∈ s.app.pendingIds ∨ ∃ k, k < 128 ∧ s.sourceRaised k = true ∧ s.idClaimed (k + 1) = false ∧ k + 1 = i) := by
  simp only [settle, List.mem_filter, List.mem_range, Bool.and_eq_true, decide_eq_true_eq, Bool.or_eq_true, List.elem_eq_mem,
    List.mem_map, Bool.not_eq_true', and_assoc]
  exact ⟨fun h => ⟨h.2.1, h.1, h.2.2⟩, fun h => ⟨h.2.1, h.1, h.2.2⟩⟩
@[simp] theorem emit_emitted (i h : Nat) (s : State) :
    (emit i h s).hdg.emitted = s.hdg.emitted ++ [{ id := i, hop := h, producer := i / 64, seq := s.hdg.seq }] := rfl
@[simp] theorem emitAs_emitted (p i h : Nat) (s : State) :
    (emitAs p i h s).hdg.emitted = s.hdg.emitted ++ [{ id := i, hop := h, producer := p, seq := s.hdg.seq }] := rfl
@[simp] theorem onlyIf_true (f : State → State) (s : State) : onlyIf true f s = f s := rfl
@[simp] theorem onlyIf_false (f : State → State) (s : State) : onlyIf false f s = s := rfl
@[simp] theorem forEach_nil {α : Type} (f : α → State → State) (s : State) : forEach [] f s = s := rfl
@[simp] theorem forEach_cons {α : Type} (x : α) (l : List α) (f : α → State → State) (s : State) :
    forEach (x :: l) f s = forEach l f (f x s) := rfl

end Sys2Proof.Machine
end

