-- ==== Sys2Proof/Laws/Access.lean ====
section
/-!
SUPPORT. What a register access can come to, one lemma for each verdict, and what a command leaves.
-/

namespace Sys2Proof.Machine

/-- A command never stops, and leaves the queue, the variant and the instant to the step. -/
theorem command_next (dt : Nat) (body : State → State) (s : State) :
    command dt body s = .next (after dt s (body (elapse dt s))) := rfl

section
variable (acc : Access) (a : Nat) (s : State)

theorem access_serve (w : Option Word) (serve : State → State) (h : verdict acc a w.isSome s = .serve) :
    access acc a w serve s = serve { meetDomain (domainOfBlock (blockOf a)) s with resp := .ok } := by
  simp only [access, h]

theorem access_error (w : Option Word) (serve : State → State) (h : verdict acc a w.isSome s = .error) :
    access acc a w serve s = errorResponse s := by
  simp only [access, h]

theorem access_refused (w : Option Word) (serve : State → State) (n : Nat) (h : verdict acc a w.isSome s = .refused n) :
    access acc a w serve s = errorResponse (firewallRefusal acc w.isSome a n s) := by
  simp only [access, h]

theorem access_locked (w : Option Word) (serve : State → State) (h : verdict acc a w.isSome s = .locked) :
    access acc a w serve s = errorResponse (domainError 0 (domainOfBlock (blockOf a)) acc.init s) := by
  simp only [access, h]

theorem access_stall (w : Option Word) (serve : State → State) (h : verdict acc a w.isSome s = .stall) :
    access acc a w serve s = stallAccess (domainOfBlock (blockOf a))
      { acc := acc, addr := a, write := w, sram := none, since := s.cycles } s := by
  simp only [access, h]

/-- A served write of a register row: the write by access codes, then the register's own action. -/
theorem writeRow_serve (w : Word) (action : State → State) (h : verdict acc a true s = .serve) :
    writeRow acc a w action s = action (written a w s) := by
  simp only [writeRow, written]
  exact access_serve acc a s (some w) _ h

/-- A write that gets the error response of R3, R8, R256, R394 or R478 does nothing else. -/
theorem writeRow_error (w : Word) (action : State → State) (h : verdict acc a true s = .error) :
    writeRow acc a w action s = errorResponse s := access_error acc a s (some w) _ h

end

end Sys2Proof.Machine
end

