-- ==== Sys2Proof/Laws/Blocks.lean ====
section
/-!
SUPPORT. The same laws for the updates of one block's own record: the record becomes what the update makes of it, every
other field stays.
-/

namespace Sys2Proof.Machine

/-! ### `modBkp` -/

@[simp] theorem modBkp_bkp (f : Bkp → Bkp) (s : State) : (modBkp f s).bkp = f s.bkp := rfl
@[simp] theorem modBkp_variant (f : Bkp → Bkp) (s : State) : (modBkp f s).variant = s.variant := rfl
@[simp] theorem modBkp_mode (f : Bkp → Bkp) (s : State) : (modBkp f s).mode = s.mode := rfl
@[simp] theorem modBkp_cycles (f : Bkp → Bkp) (s : State) : (modBkp f s).cycles = s.cycles := rfl
@[simp] theorem modBkp_regs (f : Bkp → Bkp) (s : State) : (modBkp f s).regs = s.regs := rfl
@[simp] theorem modBkp_tim (f : Bkp → Bkp) (s : State) : (modBkp f s).tim = s.tim := rfl
@[simp] theorem modBkp_volt (f : Bkp → Bkp) (s : State) : (modBkp f s).volt = s.volt := rfl
@[simp] theorem modBkp_hdg (f : Bkp → Bkp) (s : State) : (modBkp f s).hdg = s.hdg := rfl
@[simp] theorem modBkp_app (f : Bkp → Bkp) (s : State) : (modBkp f s).app = s.app := rfl
@[simp] theorem modBkp_stalled (f : Bkp → Bkp) (s : State) : (modBkp f s).stalled = s.stalled := rfl
@[simp] theorem modBkp_resp (f : Bkp → Bkp) (s : State) : (modBkp f s).resp = s.resp := rfl
@[simp] theorem modBkp_sram (f : Bkp → Bkp) (s : State) : (modBkp f s).sram = s.sram := rfl
@[simp] theorem modBkp_lpwSram (f : Bkp → Bkp) (s : State) : (modBkp f s).lpwSram = s.lpwSram := rfl
@[simp] theorem modBkp_dram (f : Bkp → Bkp) (s : State) : (modBkp f s).dram = s.dram := rfl
@[simp] theorem modBkp_log (f : Bkp → Bkp) (s : State) : (modBkp f s).log = s.log := rfl
@[simp] theorem modBkp_logCount (f : Bkp → Bkp) (s : State) : (modBkp f s).logCount = s.logCount := rfl
@[simp] theorem modBkp_pwr (f : Bkp → Bkp) (s : State) : (modBkp f s).pwr = s.pwr := rfl
@[simp] theorem modBkp_alarms (f : Bkp → Bkp) (s : State) : (modBkp f s).alarms = s.alarms := rfl
@[simp] theorem modBkp_rim (f : Bkp → Bkp) (s : State) : (modBkp f s).rim = s.rim := rfl
@[simp] theorem modBkp_lnp (f : Bkp → Bkp) (s : State) : (modBkp f s).lnp = s.lnp := rfl
@[simp] theorem modBkp_cod (f : Bkp → Bkp) (s : State) : (modBkp f s).cod = s.cod := rfl
@[simp] theorem modBkp_inbox (f : Bkp → Bkp) (s : State) : (modBkp f s).inbox = s.inbox := rfl
@[simp] theorem modBkp_free (f : Bkp → Bkp) (s : State) : (modBkp f s).free = s.free := rfl
@[simp] theorem modBkp_lnk (f : Bkp → Bkp) (s : State) : (modBkp f s).lnk = s.lnk := rfl
@[simp] theorem modBkp_sec (f : Bkp → Bkp) (s : State) : (modBkp f s).sec = s.sec := rfl
@[simp] theorem modBkp_ctx (f : Bkp → Bkp) (s : State) : (modBkp f s).ctx = s.ctx := rfl
@[simp] theorem modBkp_shf (f : Bkp → Bkp) (s : State) : (modBkp f s).shf = s.shf := rfl
@[simp] theorem modBkp_upl (f : Bkp → Bkp) (s : State) : (modBkp f s).upl = s.upl := rfl
@[simp] theorem modBkp_stl (f : Bkp → Bkp) (s : State) : (modBkp f s).stl = s.stl := rfl
@[simp] theorem modBkp_dmc (f : Bkp → Bkp) (s : State) : (modBkp f s).dmc = s.dmc := rfl
@[simp] theorem modBkp_fls (f : Bkp → Bkp) (s : State) : (modBkp f s).fls = s.fls := rfl
@[simp] theorem modBkp_otp (f : Bkp → Bkp) (s : State) : (modBkp f s).otp = s.otp := rfl
@[simp] theorem modBkp_jnl (f : Bkp → Bkp) (s : State) : (modBkp f s).jnl = s.jnl := rfl
@[simp] theorem modBkp_cfg (f : Bkp → Bkp) (s : State) : (modBkp f s).cfg = s.cfg := rfl
@[simp] theorem modBkp_lpw (f : Bkp → Bkp) (s : State) : (modBkp f s).lpw = s.lpw := rfl
@[simp] theorem modBkp_mains (f : Bkp → Bkp) (s : State) : (modBkp f s).mains = s.mains := rfl
@[simp] theorem modBkp_hold (f : Bkp → Bkp) (s : State) : (modBkp f s).hold = s.hold := rfl
@[simp] theorem modBkp_tap (f : Bkp → Bkp) (s : State) : (modBkp f s).tap = s.tap := rfl
@[simp] theorem modBkp_pending (f : Bkp → Bkp) (s : State) : (modBkp f s).pending = s.pending := rfl
@[simp] theorem modBkp_word (f : Bkp → Bkp) (s : State) (r : Nat) : (modBkp f s).word r = s.word r := rfl
@[simp] theorem modBkp_get (f : Bkp → Bkp) (s : State) (r : Fld) : (modBkp f s).get r = s.get r := rfl
@[simp] theorem modBkp_is (f : Bkp → Bkp) (s : State) (r : Fld) : (modBkp f s).is r = s.is r := rfl

/-! ### `modSec` -/

@[simp] theorem modSec_sec (f : Sec → Sec) (s : State) : (modSec f s).sec = f s.sec := rfl
@[simp] theorem modSec_variant (f : Sec → Sec) (s : State) : (modSec f s).variant = s.variant := rfl
@[simp] theorem modSec_mode (f : Sec → Sec) (s : State) : (modSec f s).mode = s.mode := rfl
@[simp] theorem modSec_cycles (f : Sec → Sec) (s : State) : (modSec f s).cycles = s.cycles := rfl
@[simp] theorem modSec_regs (f : Sec → Sec) (s : State) : (modSec f s).regs = s.regs := rfl
@[simp] theorem modSec_tim (f : Sec → Sec) (s : State) : (modSec f s).tim = s.tim := rfl
@[simp] theorem modSec_volt (f : Sec → Sec) (s : State) : (modSec f s).volt = s.volt := rfl
@[simp] theorem modSec_hdg (f : Sec → Sec) (s : State) : (modSec f s).hdg = s.hdg := rfl
@[simp] theorem modSec_app (f : Sec → Sec) (s : State) : (modSec f s).app = s.app := rfl
@[simp] theorem modSec_stalled (f : Sec → Sec) (s : State) : (modSec f s).stalled = s.stalled := rfl
@[simp] theorem modSec_resp (f : Sec → Sec) (s : State) : (modSec f s).resp = s.resp := rfl
@[simp] theorem modSec_sram (f : Sec → Sec) (s : State) : (modSec f s).sram = s.sram := rfl
@[simp] theorem modSec_lpwSram (f : Sec → Sec) (s : State) : (modSec f s).lpwSram = s.lpwSram := rfl
@[simp] theorem modSec_dram (f : Sec → Sec) (s : State) : (modSec f s).dram = s.dram := rfl
@[simp] theorem modSec_log (f : Sec → Sec) (s : State) : (modSec f s).log = s.log := rfl
@[simp] theorem modSec_logCount (f : Sec → Sec) (s : State) : (modSec f s).logCount = s.logCount := rfl
@[simp] theorem modSec_pwr (f : Sec → Sec) (s : State) : (modSec f s).pwr = s.pwr := rfl
@[simp] theorem modSec_alarms (f : Sec → Sec) (s : State) : (modSec f s).alarms = s.alarms := rfl
@[simp] theorem modSec_rim (f : Sec → Sec) (s : State) : (modSec f s).rim = s.rim := rfl
@[simp] theorem modSec_lnp (f : Sec → Sec) (s : State) : (modSec f s).lnp = s.lnp := rfl
@[simp] theorem modSec_cod (f : Sec → Sec) (s : State) : (modSec f s).cod = s.cod := rfl
@[simp] theorem modSec_inbox (f : Sec → Sec) (s : State) : (modSec f s).inbox = s.inbox := rfl
@[simp] theorem modSec_free (f : Sec → Sec) (s : State) : (modSec f s).free = s.free := rfl
@[simp] theorem modSec_lnk (f : Sec → Sec) (s : State) : (modSec f s).lnk = s.lnk := rfl
@[simp] theorem modSec_ctx (f : Sec → Sec) (s : State) : (modSec f s).ctx = s.ctx := rfl
@[simp] theorem modSec_shf (f : Sec → Sec) (s : State) : (modSec f s).shf = s.shf := rfl
@[simp] theorem modSec_upl (f : Sec → Sec) (s : State) : (modSec f s).upl = s.upl := rfl
@[simp] theorem modSec_stl (f : Sec → Sec) (s : State) : (modSec f s).stl = s.stl := rfl
@[simp] theorem modSec_dmc (f : Sec → Sec) (s : State) : (modSec f s).dmc = s.dmc := rfl
@[simp] theorem modSec_fls (f : Sec → Sec) (s : State) : (modSec f s).fls = s.fls := rfl
@[simp] theorem modSec_otp (f : Sec → Sec) (s : State) : (modSec f s).otp = s.otp := rfl
@[simp] theorem modSec_jnl (f : Sec → Sec) (s : State) : (modSec f s).jnl = s.jnl := rfl
@[simp] theorem modSec_cfg (f : Sec → Sec) (s : State) : (modSec f s).cfg = s.cfg := rfl
@[simp] theorem modSec_lpw (f : Sec → Sec) (s : State) : (modSec f s).lpw = s.lpw := rfl
@[simp] theorem modSec_mains (f : Sec → Sec) (s : State) : (modSec f s).mains = s.mains := rfl
@[simp] theorem modSec_hold (f : Sec → Sec) (s : State) : (modSec f s).hold = s.hold := rfl
@[simp] theorem modSec_bkp (f : Sec → Sec) (s : State) : (modSec f s).bkp = s.bkp := rfl
@[simp] theorem modSec_tap (f : Sec → Sec) (s : State) : (modSec f s).tap = s.tap := rfl
@[simp] theorem modSec_pending (f : Sec → Sec) (s : State) : (modSec f s).pending = s.pending := rfl
@[simp] theorem modSec_word (f : Sec → Sec) (s : State) (r : Nat) : (modSec f s).word r = s.word r := rfl
@[simp] theorem modSec_get (f : Sec → Sec) (s : State) (r : Fld) : (modSec f s).get r = s.get r := rfl
@[simp] theorem modSec_is (f : Sec → Sec) (s : State) (r : Fld) : (modSec f s).is r = s.is r := rfl

/-! ### `modHdg` -/

@[simp] theorem modHdg_hdg (f : Hdg → Hdg) (s : State) : (modHdg f s).hdg = f s.hdg := rfl
@[simp] theorem modHdg_variant (f : Hdg → Hdg) (s : State) : (modHdg f s).variant = s.variant := rfl
@[simp] theorem modHdg_mode (f : Hdg → Hdg) (s : State) : (modHdg f s).mode = s.mode := rfl
@[simp] theorem modHdg_cycles (f : Hdg → Hdg) (s : State) : (modHdg f s).cycles = s.cycles := rfl
@[simp] theorem modHdg_regs (f : Hdg → Hdg) (s : State) : (modHdg f s).regs = s.regs := rfl
@[simp] theorem modHdg_tim (f : Hdg → Hdg) (s : State) : (modHdg f s).tim = s.tim := rfl
@[simp] theorem modHdg_volt (f : Hdg → Hdg) (s : State) : (modHdg f s).volt = s.volt := rfl
@[simp] theorem modHdg_app (f : Hdg → Hdg) (s : State) : (modHdg f s).app = s.app := rfl
@[simp] theorem modHdg_stalled (f : Hdg → Hdg) (s : State) : (modHdg f s).stalled = s.stalled := rfl
@[simp] theorem modHdg_resp (f : Hdg → Hdg) (s : State) : (modHdg f s).resp = s.resp := rfl
@[simp] theorem modHdg_sram (f : Hdg → Hdg) (s : State) : (modHdg f s).sram = s.sram := rfl
@[simp] theorem modHdg_lpwSram (f : Hdg → Hdg) (s : State) : (modHdg f s).lpwSram = s.lpwSram := rfl
@[simp] theorem modHdg_dram (f : Hdg → Hdg) (s : State) : (modHdg f s).dram = s.dram := rfl
@[simp] theorem modHdg_log (f : Hdg → Hdg) (s : State) : (modHdg f s).log = s.log := rfl
@[simp] theorem modHdg_logCount (f : Hdg → Hdg) (s : State) : (modHdg f s).logCount = s.logCount := rfl
@[simp] theorem modHdg_pwr (f : Hdg → Hdg) (s : State) : (modHdg f s).pwr = s.pwr := rfl
@[simp] theorem modHdg_alarms (f : Hdg → Hdg) (s : State) : (modHdg f s).alarms = s.alarms := rfl
@[simp] theorem modHdg_rim (f : Hdg → Hdg) (s : State) : (modHdg f s).rim = s.rim := rfl
@[simp] theorem modHdg_lnp (f : Hdg → Hdg) (s : State) : (modHdg f s).lnp = s.lnp := rfl
@[simp] theorem modHdg_cod (f : Hdg → Hdg) (s : State) : (modHdg f s).cod = s.cod := rfl
@[simp] theorem modHdg_inbox (f : Hdg → Hdg) (s : State) : (modHdg f s).inbox = s.inbox := rfl
@[simp] theorem modHdg_free (f : Hdg → Hdg) (s : State) : (modHdg f s).free = s.free := rfl
@[simp] theorem modHdg_lnk (f : Hdg → Hdg) (s : State) : (modHdg f s).lnk = s.lnk := rfl
@[simp] theorem modHdg_sec (f : Hdg → Hdg) (s : State) : (modHdg f s).sec = s.sec := rfl
@[simp] theorem modHdg_ctx (f : Hdg → Hdg) (s : State) : (modHdg f s).ctx = s.ctx := rfl
@[simp] theorem modHdg_shf (f : Hdg → Hdg) (s : State) : (modHdg f s).shf = s.shf := rfl
@[simp] theorem modHdg_upl (f : Hdg → Hdg) (s : State) : (modHdg f s).upl = s.upl := rfl
@[simp] theorem modHdg_stl (f : Hdg → Hdg) (s : State) : (modHdg f s).stl = s.stl := rfl
@[simp] theorem modHdg_dmc (f : Hdg → Hdg) (s : State) : (modHdg f s).dmc = s.dmc := rfl
@[simp] theorem modHdg_fls (f : Hdg → Hdg) (s : State) : (modHdg f s).fls = s.fls := rfl
@[simp] theorem modHdg_otp (f : Hdg → Hdg) (s : State) : (modHdg f s).otp = s.otp := rfl
@[simp] theorem modHdg_jnl (f : Hdg → Hdg) (s : State) : (modHdg f s).jnl = s.jnl := rfl
@[simp] theorem modHdg_cfg (f : Hdg → Hdg) (s : State) : (modHdg f s).cfg = s.cfg := rfl
@[simp] theorem modHdg_lpw (f : Hdg → Hdg) (s : State) : (modHdg f s).lpw = s.lpw := rfl
@[simp] theorem modHdg_mains (f : Hdg → Hdg) (s : State) : (modHdg f s).mains = s.mains := rfl
@[simp] theorem modHdg_hold (f : Hdg → Hdg) (s : State) : (modHdg f s).hold = s.hold := rfl
@[simp] theorem modHdg_bkp (f : Hdg → Hdg) (s : State) : (modHdg f s).bkp = s.bkp := rfl
@[simp] theorem modHdg_tap (f : Hdg → Hdg) (s : State) : (modHdg f s).tap = s.tap := rfl
@[simp] theorem modHdg_pending (f : Hdg → Hdg) (s : State) : (modHdg f s).pending = s.pending := rfl
@[simp] theorem modHdg_word (f : Hdg → Hdg) (s : State) (r : Nat) : (modHdg f s).word r = s.word r := rfl
@[simp] theorem modHdg_get (f : Hdg → Hdg) (s : State) (r : Fld) : (modHdg f s).get r = s.get r := rfl
@[simp] theorem modHdg_is (f : Hdg → Hdg) (s : State) (r : Fld) : (modHdg f s).is r = s.is r := rfl

/-! ### `modLnp` -/

@[simp] theorem modLnp_lnp (f : Lnp → Lnp) (s : State) : (modLnp f s).lnp = f s.lnp := rfl
@[simp] theorem modLnp_variant (f : Lnp → Lnp) (s : State) : (modLnp f s).variant = s.variant := rfl
@[simp] theorem modLnp_mode (f : Lnp → Lnp) (s : State) : (modLnp f s).mode = s.mode := rfl
@[simp] theorem modLnp_cycles (f : Lnp → Lnp) (s : State) : (modLnp f s).cycles = s.cycles := rfl
@[simp] theorem modLnp_regs (f : Lnp → Lnp) (s : State) : (modLnp f s).regs = s.regs := rfl
@[simp] theorem modLnp_tim (f : Lnp → Lnp) (s : State) : (modLnp f s).tim = s.tim := rfl
@[simp] theorem modLnp_volt (f : Lnp → Lnp) (s : State) : (modLnp f s).volt = s.volt := rfl
@[simp] theorem modLnp_hdg (f : Lnp → Lnp) (s : State) : (modLnp f s).hdg = s.hdg := rfl
@[simp] theorem modLnp_app (f : Lnp → Lnp) (s : State) : (modLnp f s).app = s.app := rfl
@[simp] theorem modLnp_stalled (f : Lnp → Lnp) (s : State) : (modLnp f s).stalled = s.stalled := rfl
@[simp] theorem modLnp_resp (f : Lnp → Lnp) (s : State) : (modLnp f s).resp = s.resp := rfl
@[simp] theorem modLnp_sram (f : Lnp → Lnp) (s : State) : (modLnp f s).sram = s.sram := rfl
@[simp] theorem modLnp_lpwSram (f : Lnp → Lnp) (s : State) : (modLnp f s).lpwSram = s.lpwSram := rfl
@[simp] theorem modLnp_dram (f : Lnp → Lnp) (s : State) : (modLnp f s).dram = s.dram := rfl
@[simp] theorem modLnp_log (f : Lnp → Lnp) (s : State) : (modLnp f s).log = s.log := rfl
@[simp] theorem modLnp_logCount (f : Lnp → Lnp) (s : State) : (modLnp f s).logCount = s.logCount := rfl
@[simp] theorem modLnp_pwr (f : Lnp → Lnp) (s : State) : (modLnp f s).pwr = s.pwr := rfl
@[simp] theorem modLnp_alarms (f : Lnp → Lnp) (s : State) : (modLnp f s).alarms = s.alarms := rfl
@[simp] theorem modLnp_rim (f : Lnp → Lnp) (s : State) : (modLnp f s).rim = s.rim := rfl
@[simp] theorem modLnp_cod (f : Lnp → Lnp) (s : State) : (modLnp f s).cod = s.cod := rfl
@[simp] theorem modLnp_inbox (f : Lnp → Lnp) (s : State) : (modLnp f s).inbox = s.inbox := rfl
@[simp] theorem modLnp_free (f : Lnp → Lnp) (s : State) : (modLnp f s).free = s.free := rfl
@[simp] theorem modLnp_lnk (f : Lnp → Lnp) (s : State) : (modLnp f s).lnk = s.lnk := rfl
@[simp] theorem modLnp_sec (f : Lnp → Lnp) (s : State) : (modLnp f s).sec = s.sec := rfl
@[simp] theorem modLnp_ctx (f : Lnp → Lnp) (s : State) : (modLnp f s).ctx = s.ctx := rfl
@[simp] theorem modLnp_shf (f : Lnp → Lnp) (s : State) : (modLnp f s).shf = s.shf := rfl
@[simp] theorem modLnp_upl (f : Lnp → Lnp) (s : State) : (modLnp f s).upl = s.upl := rfl
@[simp] theorem modLnp_stl (f : Lnp → Lnp) (s : State) : (modLnp f s).stl = s.stl := rfl
@[simp] theorem modLnp_dmc (f : Lnp → Lnp) (s : State) : (modLnp f s).dmc = s.dmc := rfl
@[simp] theorem modLnp_fls (f : Lnp → Lnp) (s : State) : (modLnp f s).fls = s.fls := rfl
@[simp] theorem modLnp_otp (f : Lnp → Lnp) (s : State) : (modLnp f s).otp = s.otp := rfl
@[simp] theorem modLnp_jnl (f : Lnp → Lnp) (s : State) : (modLnp f s).jnl = s.jnl := rfl
@[simp] theorem modLnp_cfg (f : Lnp → Lnp) (s : State) : (modLnp f s).cfg = s.cfg := rfl
@[simp] theorem modLnp_lpw (f : Lnp → Lnp) (s : State) : (modLnp f s).lpw = s.lpw := rfl
@[simp] theorem modLnp_mains (f : Lnp → Lnp) (s : State) : (modLnp f s).mains = s.mains := rfl
@[simp] theorem modLnp_hold (f : Lnp → Lnp) (s : State) : (modLnp f s).hold = s.hold := rfl
@[simp] theorem modLnp_bkp (f : Lnp → Lnp) (s : State) : (modLnp f s).bkp = s.bkp := rfl
@[simp] theorem modLnp_tap (f : Lnp → Lnp) (s : State) : (modLnp f s).tap = s.tap := rfl
@[simp] theorem modLnp_pending (f : Lnp → Lnp) (s : State) : (modLnp f s).pending = s.pending := rfl
@[simp] theorem modLnp_word (f : Lnp → Lnp) (s : State) (r : Nat) : (modLnp f s).word r = s.word r := rfl
@[simp] theorem modLnp_get (f : Lnp → Lnp) (s : State) (r : Fld) : (modLnp f s).get r = s.get r := rfl
@[simp] theorem modLnp_is (f : Lnp → Lnp) (s : State) (r : Fld) : (modLnp f s).is r = s.is r := rfl

/-! ### `modLnk` -/

@[simp] theorem modLnk_lnk (f : Lnk → Lnk) (s : State) : (modLnk f s).lnk = f s.lnk := rfl
@[simp] theorem modLnk_variant (f : Lnk → Lnk) (s : State) : (modLnk f s).variant = s.variant := rfl
@[simp] theorem modLnk_mode (f : Lnk → Lnk) (s : State) : (modLnk f s).mode = s.mode := rfl
@[simp] theorem modLnk_cycles (f : Lnk → Lnk) (s : State) : (modLnk f s).cycles = s.cycles := rfl
@[simp] theorem modLnk_regs (f : Lnk → Lnk) (s : State) : (modLnk f s).regs = s.regs := rfl
@[simp] theorem modLnk_tim (f : Lnk → Lnk) (s : State) : (modLnk f s).tim = s.tim := rfl
@[simp] theorem modLnk_volt (f : Lnk → Lnk) (s : State) : (modLnk f s).volt = s.volt := rfl
@[simp] theorem modLnk_hdg (f : Lnk → Lnk) (s : State) : (modLnk f s).hdg = s.hdg := rfl
@[simp] theorem modLnk_app (f : Lnk → Lnk) (s : State) : (modLnk f s).app = s.app := rfl
@[simp] theorem modLnk_stalled (f : Lnk → Lnk) (s : State) : (modLnk f s).stalled = s.stalled := rfl
@[simp] theorem modLnk_resp (f : Lnk → Lnk) (s : State) : (modLnk f s).resp = s.resp := rfl
@[simp] theorem modLnk_sram (f : Lnk → Lnk) (s : State) : (modLnk f s).sram = s.sram := rfl
@[simp] theorem modLnk_lpwSram (f : Lnk → Lnk) (s : State) : (modLnk f s).lpwSram = s.lpwSram := rfl
@[simp] theorem modLnk_dram (f : Lnk → Lnk) (s : State) : (modLnk f s).dram = s.dram := rfl
@[simp] theorem modLnk_log (f : Lnk → Lnk) (s : State) : (modLnk f s).log = s.log := rfl
@[simp] theorem modLnk_logCount (f : Lnk → Lnk) (s : State) : (modLnk f s).logCount = s.logCount := rfl
@[simp] theorem modLnk_pwr (f : Lnk → Lnk) (s : State) : (modLnk f s).pwr = s.pwr := rfl
@[simp] theorem modLnk_alarms (f : Lnk → Lnk) (s : State) : (modLnk f s).alarms = s.alarms := rfl
@[simp] theorem modLnk_rim (f : Lnk → Lnk) (s : State) : (modLnk f s).rim = s.rim := rfl
@[simp] theorem modLnk_lnp (f : Lnk → Lnk) (s : State) : (modLnk f s).lnp = s.lnp := rfl
@[simp] theorem modLnk_cod (f : Lnk → Lnk) (s : State) : (modLnk f s).cod = s.cod := rfl
@[simp] theorem modLnk_inbox (f : Lnk → Lnk) (s : State) : (modLnk f s).inbox = s.inbox := rfl
@[simp] theorem modLnk_free (f : Lnk → Lnk) (s : State) : (modLnk f s).free = s.free := rfl
@[simp] theorem modLnk_sec (f : Lnk → Lnk) (s : State) : (modLnk f s).sec = s.sec := rfl
@[simp] theorem modLnk_ctx (f : Lnk → Lnk) (s : State) : (modLnk f s).ctx = s.ctx := rfl
@[simp] theorem modLnk_shf (f : Lnk → Lnk) (s : State) : (modLnk f s).shf = s.shf := rfl
@[simp] theorem modLnk_upl (f : Lnk → Lnk) (s : State) : (modLnk f s).upl = s.upl := rfl
@[simp] theorem modLnk_stl (f : Lnk → Lnk) (s : State) : (modLnk f s).stl = s.stl := rfl
@[simp] theorem modLnk_dmc (f : Lnk → Lnk) (s : State) : (modLnk f s).dmc = s.dmc := rfl
@[simp] theorem modLnk_fls (f : Lnk → Lnk) (s : State) : (modLnk f s).fls = s.fls := rfl
@[simp] theorem modLnk_otp (f : Lnk → Lnk) (s : State) : (modLnk f s).otp = s.otp := rfl
@[simp] theorem modLnk_jnl (f : Lnk → Lnk) (s : State) : (modLnk f s).jnl = s.jnl := rfl
@[simp] theorem modLnk_cfg (f : Lnk → Lnk) (s : State) : (modLnk f s).cfg = s.cfg := rfl
@[simp] theorem modLnk_lpw (f : Lnk → Lnk) (s : State) : (modLnk f s).lpw = s.lpw := rfl
@[simp] theorem modLnk_mains (f : Lnk → Lnk) (s : State) : (modLnk f s).mains = s.mains := rfl
@[simp] theorem modLnk_hold (f : Lnk → Lnk) (s : State) : (modLnk f s).hold = s.hold := rfl
@[simp] theorem modLnk_bkp (f : Lnk → Lnk) (s : State) : (modLnk f s).bkp = s.bkp := rfl
@[simp] theorem modLnk_tap (f : Lnk → Lnk) (s : State) : (modLnk f s).tap = s.tap := rfl
@[simp] theorem modLnk_pending (f : Lnk → Lnk) (s : State) : (modLnk f s).pending = s.pending := rfl
@[simp] theorem modLnk_word (f : Lnk → Lnk) (s : State) (r : Nat) : (modLnk f s).word r = s.word r := rfl
@[simp] theorem modLnk_get (f : Lnk → Lnk) (s : State) (r : Fld) : (modLnk f s).get r = s.get r := rfl
@[simp] theorem modLnk_is (f : Lnk → Lnk) (s : State) (r : Fld) : (modLnk f s).is r = s.is r := rfl

/-! ### `modMains` -/

@[simp] theorem modMains_mains (f : Mains → Mains) (s : State) : (modMains f s).mains = f s.mains := rfl
@[simp] theorem modMains_variant (f : Mains → Mains) (s : State) : (modMains f s).variant = s.variant := rfl
@[simp] theorem modMains_mode (f : Mains → Mains) (s : State) : (modMains f s).mode = s.mode := rfl
@[simp] theorem modMains_cycles (f : Mains → Mains) (s : State) : (modMains f s).cycles = s.cycles := rfl
@[simp] theorem modMains_regs (f : Mains → Mains) (s : State) : (modMains f s).regs = s.regs := rfl
@[simp] theorem modMains_tim (f : Mains → Mains) (s : State) : (modMains f s).tim = s.tim := rfl
@[simp] theorem modMains_volt (f : Mains → Mains) (s : State) : (modMains f s).volt = s.volt := rfl
@[simp] theorem modMains_hdg (f : Mains → Mains) (s : State) : (modMains f s).hdg = s.hdg := rfl
@[simp] theorem modMains_app (f : Mains → Mains) (s : State) : (modMains f s).app = s.app := rfl
@[simp] theorem modMains_stalled (f : Mains → Mains) (s : State) : (modMains f s).stalled = s.stalled := rfl
@[simp] theorem modMains_resp (f : Mains → Mains) (s : State) : (modMains f s).resp = s.resp := rfl
@[simp] theorem modMains_sram (f : Mains → Mains) (s : State) : (modMains f s).sram = s.sram := rfl
@[simp] theorem modMains_lpwSram (f : Mains → Mains) (s : State) : (modMains f s).lpwSram = s.lpwSram := rfl
@[simp] theorem modMains_dram (f : Mains → Mains) (s : State) : (modMains f s).dram = s.dram := rfl
@[simp] theorem modMains_log (f : Mains → Mains) (s : State) : (modMains f s).log = s.log := rfl
@[simp] theorem modMains_logCount (f : Mains → Mains) (s : State) : (modMains f s).logCount = s.logCount := rfl
@[simp] theorem modMains_pwr (f : Mains → Mains) (s : State) : (modMains f s).pwr = s.pwr := rfl
@[simp] theorem modMains_alarms (f : Mains → Mains) (s : State) : (modMains f s).alarms = s.alarms := rfl
@[simp] theorem modMains_rim (f : Mains → Mains) (s : State) : (modMains f s).rim = s.rim := rfl
@[simp] theorem modMains_lnp (f : Mains → Mains) (s : State) : (modMains f s).lnp = s.lnp := rfl
@[simp] theorem modMains_cod (f : Mains → Mains) (s : State) : (modMains f s).cod = s.cod := rfl
@[simp] theorem modMains_inbox (f : Mains → Mains) (s : State) : (modMains f s).inbox = s.inbox := rfl
@[simp] theorem modMains_free (f : Mains → Mains) (s : State) : (modMains f s).free = s.free := rfl
@[simp] theorem modMains_lnk (f : Mains → Mains) (s : State) : (modMains f s).lnk = s.lnk := rfl
@[simp] theorem modMains_sec (f : Mains → Mains) (s : State) : (modMains f s).sec = s.sec := rfl
@[simp] theorem modMains_ctx (f : Mains → Mains) (s : State) : (modMains f s).ctx = s.ctx := rfl
@[simp] theorem modMains_shf (f : Mains → Mains) (s : State) : (modMains f s).shf = s.shf := rfl
@[simp] theorem modMains_upl (f : Mains → Mains) (s : State) : (modMains f s).upl = s.upl := rfl
@[simp] theorem modMains_stl (f : Mains → Mains) (s : State) : (modMains f s).stl = s.stl := rfl
@[simp] theorem modMains_dmc (f : Mains → Mains) (s : State) : (modMains f s).dmc = s.dmc := rfl
@[simp] theorem modMains_fls (f : Mains → Mains) (s : State) : (modMains f s).fls = s.fls := rfl
@[simp] theorem modMains_otp (f : Mains → Mains) (s : State) : (modMains f s).otp = s.otp := rfl
@[simp] theorem modMains_jnl (f : Mains → Mains) (s : State) : (modMains f s).jnl = s.jnl := rfl
@[simp] theorem modMains_cfg (f : Mains → Mains) (s : State) : (modMains f s).cfg = s.cfg := rfl
@[simp] theorem modMains_lpw (f : Mains → Mains) (s : State) : (modMains f s).lpw = s.lpw := rfl
@[simp] theorem modMains_hold (f : Mains → Mains) (s : State) : (modMains f s).hold = s.hold := rfl
@[simp] theorem modMains_bkp (f : Mains → Mains) (s : State) : (modMains f s).bkp = s.bkp := rfl
@[simp] theorem modMains_tap (f : Mains → Mains) (s : State) : (modMains f s).tap = s.tap := rfl
@[simp] theorem modMains_pending (f : Mains → Mains) (s : State) : (modMains f s).pending = s.pending := rfl
@[simp] theorem modMains_word (f : Mains → Mains) (s : State) (r : Nat) : (modMains f s).word r = s.word r := rfl
@[simp] theorem modMains_get (f : Mains → Mains) (s : State) (r : Fld) : (modMains f s).get r = s.get r := rfl
@[simp] theorem modMains_is (f : Mains → Mains) (s : State) (r : Fld) : (modMains f s).is r = s.is r := rfl

/-! ### `modStl` -/

@[simp] theorem modStl_stl (f : Stl → Stl) (s : State) : (modStl f s).stl = f s.stl := rfl
@[simp] theorem modStl_variant (f : Stl → Stl) (s : State) : (modStl f s).variant = s.variant := rfl
@[simp] theorem modStl_mode (f : Stl → Stl) (s : State) : (modStl f s).mode = s.mode := rfl
@[simp] theorem modStl_cycles (f : Stl → Stl) (s : State) : (modStl f s).cycles = s.cycles := rfl
@[simp] theorem modStl_regs (f : Stl → Stl) (s : State) : (modStl f s).regs = s.regs := rfl
@[simp] theorem modStl_tim (f : Stl → Stl) (s : State) : (modStl f s).tim = s.tim := rfl
@[simp] theorem modStl_volt (f : Stl → Stl) (s : State) : (modStl f s).volt = s.volt := rfl
@[simp] theorem modStl_hdg (f : Stl → Stl) (s : State) : (modStl f s).hdg = s.hdg := rfl
@[simp] theorem modStl_app (f : Stl → Stl) (s : State) : (modStl f s).app = s.app := rfl
@[simp] theorem modStl_stalled (f : Stl → Stl) (s : State) : (modStl f s).stalled = s.stalled := rfl
@[simp] theorem modStl_resp (f : Stl → Stl) (s : State) : (modStl f s).resp = s.resp := rfl
@[simp] theorem modStl_sram (f : Stl → Stl) (s : State) : (modStl f s).sram = s.sram := rfl
@[simp] theorem modStl_lpwSram (f : Stl → Stl) (s : State) : (modStl f s).lpwSram = s.lpwSram := rfl
@[simp] theorem modStl_dram (f : Stl → Stl) (s : State) : (modStl f s).dram = s.dram := rfl
@[simp] theorem modStl_log (f : Stl → Stl) (s : State) : (modStl f s).log = s.log := rfl
@[simp] theorem modStl_logCount (f : Stl → Stl) (s : State) : (modStl f s).logCount = s.logCount := rfl
@[simp] theorem modStl_pwr (f : Stl → Stl) (s : State) : (modStl f s).pwr = s.pwr := rfl
@[simp] theorem modStl_alarms (f : Stl → Stl) (s : State) : (modStl f s).alarms = s.alarms := rfl
@[simp] theorem modStl_rim (f : Stl → Stl) (s : State) : (modStl f s).rim = s.rim := rfl
@[simp] theorem modStl_lnp (f : Stl → Stl) (s : State) : (modStl f s).lnp = s.lnp := rfl
@[simp] theorem modStl_cod (f : Stl → Stl) (s : State) : (modStl f s).cod = s.cod := rfl
@[simp] theorem modStl_inbox (f : Stl → Stl) (s : State) : (modStl f s).inbox = s.inbox := rfl
@[simp] theorem modStl_free (f : Stl → Stl) (s : State) : (modStl f s).free = s.free := rfl
@[simp] theorem modStl_lnk (f : Stl → Stl) (s : State) : (modStl f s).lnk = s.lnk := rfl
@[simp] theorem modStl_sec (f : Stl → Stl) (s : State) : (modStl f s).sec = s.sec := rfl
@[simp] theorem modStl_ctx (f : Stl → Stl) (s : State) : (modStl f s).ctx = s.ctx := rfl
@[simp] theorem modStl_shf (f : Stl → Stl) (s : State) : (modStl f s).shf = s.shf := rfl
@[simp] theorem modStl_upl (f : Stl → Stl) (s : State) : (modStl f s).upl = s.upl := rfl
@[simp] theorem modStl_dmc (f : Stl → Stl) (s : State) : (modStl f s).dmc = s.dmc := rfl
@[simp] theorem modStl_fls (f : Stl → Stl) (s : State) : (modStl f s).fls = s.fls := rfl
@[simp] theorem modStl_otp (f : Stl → Stl) (s : State) : (modStl f s).otp = s.otp := rfl
@[simp] theorem modStl_jnl (f : Stl → Stl) (s : State) : (modStl f s).jnl = s.jnl := rfl
@[simp] theorem modStl_cfg (f : Stl → Stl) (s : State) : (modStl f s).cfg = s.cfg := rfl
@[simp] theorem modStl_lpw (f : Stl → Stl) (s : State) : (modStl f s).lpw = s.lpw := rfl
@[simp] theorem modStl_mains (f : Stl → Stl) (s : State) : (modStl f s).mains = s.mains := rfl
@[simp] theorem modStl_hold (f : Stl → Stl) (s : State) : (modStl f s).hold = s.hold := rfl
@[simp] theorem modStl_bkp (f : Stl → Stl) (s : State) : (modStl f s).bkp = s.bkp := rfl
@[simp] theorem modStl_tap (f : Stl → Stl) (s : State) : (modStl f s).tap = s.tap := rfl
@[simp] theorem modStl_pending (f : Stl → Stl) (s : State) : (modStl f s).pending = s.pending := rfl
@[simp] theorem modStl_word (f : Stl → Stl) (s : State) (r : Nat) : (modStl f s).word r = s.word r := rfl
@[simp] theorem modStl_get (f : Stl → Stl) (s : State) (r : Fld) : (modStl f s).get r = s.get r := rfl
@[simp] theorem modStl_is (f : Stl → Stl) (s : State) (r : Fld) : (modStl f s).is r = s.is r := rfl

/-! ### `modCfg` -/

@[simp] theorem modCfg_cfg (f : Cfg → Cfg) (s : State) : (modCfg f s).cfg = f s.cfg := rfl
@[simp] theorem modCfg_variant (f : Cfg → Cfg) (s : State) : (modCfg f s).variant = s.variant := rfl
@[simp] theorem modCfg_mode (f : Cfg → Cfg) (s : State) : (modCfg f s).mode = s.mode := rfl
@[simp] theorem modCfg_cycles (f : Cfg → Cfg) (s : State) : (modCfg f s).cycles = s.cycles := rfl
@[simp] theorem modCfg_regs (f : Cfg → Cfg) (s : State) : (modCfg f s).regs = s.regs := rfl
@[simp] theorem modCfg_tim (f : Cfg → Cfg) (s : State) : (modCfg f s).tim = s.tim := rfl
@[simp] theorem modCfg_volt (f : Cfg → Cfg) (s : State) : (modCfg f s).volt = s.volt := rfl
@[simp] theorem modCfg_hdg (f : Cfg → Cfg) (s : State) : (modCfg f s).hdg = s.hdg := rfl
@[simp] theorem modCfg_app (f : Cfg → Cfg) (s : State) : (modCfg f s).app = s.app := rfl
@[simp] theorem modCfg_stalled (f : Cfg → Cfg) (s : State) : (modCfg f s).stalled = s.stalled := rfl
@[simp] theorem modCfg_resp (f : Cfg → Cfg) (s : State) : (modCfg f s).resp = s.resp := rfl
@[simp] theorem modCfg_sram (f : Cfg → Cfg) (s : State) : (modCfg f s).sram = s.sram := rfl
@[simp] theorem modCfg_lpwSram (f : Cfg → Cfg) (s : State) : (modCfg f s).lpwSram = s.lpwSram := rfl
@[simp] theorem modCfg_dram (f : Cfg → Cfg) (s : State) : (modCfg f s).dram = s.dram := rfl
@[simp] theorem modCfg_log (f : Cfg → Cfg) (s : State) : (modCfg f s).log = s.log := rfl
@[simp] theorem modCfg_logCount (f : Cfg → Cfg) (s : State) : (modCfg f s).logCount = s.logCount := rfl
@[simp] theorem modCfg_pwr (f : Cfg → Cfg) (s : State) : (modCfg f s).pwr = s.pwr := rfl
@[simp] theorem modCfg_alarms (f : Cfg → Cfg) (s : State) : (modCfg f s).alarms = s.alarms := rfl
@[simp] theorem modCfg_rim (f : Cfg → Cfg) (s : State) : (modCfg f s).rim = s.rim := rfl
@[simp] theorem modCfg_lnp (f : Cfg → Cfg) (s : State) : (modCfg f s).lnp = s.lnp := rfl
@[simp] theorem modCfg_cod (f : Cfg → Cfg) (s : State) : (modCfg f s).cod = s.cod := rfl
@[simp] theorem modCfg_inbox (f : Cfg → Cfg) (s : State) : (modCfg f s).inbox = s.inbox := rfl
@[simp] theorem modCfg_free (f : Cfg → Cfg) (s : State) : (modCfg f s).free = s.free := rfl
@[simp] theorem modCfg_lnk (f : Cfg → Cfg) (s : State) : (modCfg f s).lnk = s.lnk := rfl
@[simp] theorem modCfg_sec (f : Cfg → Cfg) (s : State) : (modCfg f s).sec = s.sec := rfl
@[simp] theorem modCfg_ctx (f : Cfg → Cfg) (s : State) : (modCfg f s).ctx = s.ctx := rfl
@[simp] theorem modCfg_shf (f : Cfg → Cfg) (s : State) : (modCfg f s).shf = s.shf := rfl
@[simp] theorem modCfg_upl (f : Cfg → Cfg) (s : State) : (modCfg f s).upl = s.upl := rfl
@[simp] theorem modCfg_stl (f : Cfg → Cfg) (s : State) : (modCfg f s).stl = s.stl := rfl
@[simp] theorem modCfg_dmc (f : Cfg → Cfg) (s : State) : (modCfg f s).dmc = s.dmc := rfl
@[simp] theorem modCfg_fls (f : Cfg → Cfg) (s : State) : (modCfg f s).fls = s.fls := rfl
@[simp] theorem modCfg_otp (f : Cfg → Cfg) (s : State) : (modCfg f s).otp = s.otp := rfl
@[simp] theorem modCfg_jnl (f : Cfg → Cfg) (s : State) : (modCfg f s).jnl = s.jnl := rfl
@[simp] theorem modCfg_lpw (f : Cfg → Cfg) (s : State) : (modCfg f s).lpw = s.lpw := rfl
@[simp] theorem modCfg_mains (f : Cfg → Cfg) (s : State) : (modCfg f s).mains = s.mains := rfl
@[simp] theorem modCfg_hold (f : Cfg → Cfg) (s : State) : (modCfg f s).hold = s.hold := rfl
@[simp] theorem modCfg_bkp (f : Cfg → Cfg) (s : State) : (modCfg f s).bkp = s.bkp := rfl
@[simp] theorem modCfg_tap (f : Cfg → Cfg) (s : State) : (modCfg f s).tap = s.tap := rfl
@[simp] theorem modCfg_pending (f : Cfg → Cfg) (s : State) : (modCfg f s).pending = s.pending := rfl
@[simp] theorem modCfg_word (f : Cfg → Cfg) (s : State) (r : Nat) : (modCfg f s).word r = s.word r := rfl
@[simp] theorem modCfg_get (f : Cfg → Cfg) (s : State) (r : Fld) : (modCfg f s).get r = s.get r := rfl
@[simp] theorem modCfg_is (f : Cfg → Cfg) (s : State) (r : Fld) : (modCfg f s).is r = s.is r := rfl

/-! ### `modLpw` -/

@[simp] theorem modLpw_lpw (f : Lpw → Lpw) (s : State) : (modLpw f s).lpw = f s.lpw := rfl
@[simp] theorem modLpw_variant (f : Lpw → Lpw) (s : State) : (modLpw f s).variant = s.variant := rfl
@[simp] theorem modLpw_mode (f : Lpw → Lpw) (s : State) : (modLpw f s).mode = s.mode := rfl
@[simp] theorem modLpw_cycles (f : Lpw → Lpw) (s : State) : (modLpw f s).cycles = s.cycles := rfl
@[simp] theorem modLpw_regs (f : Lpw → Lpw) (s : State) : (modLpw f s).regs = s.regs := rfl
@[simp] theorem modLpw_tim (f : Lpw → Lpw) (s : State) : (modLpw f s).tim = s.tim := rfl
@[simp] theorem modLpw_volt (f : Lpw → Lpw) (s : State) : (modLpw f s).volt = s.volt := rfl
@[simp] theorem modLpw_hdg (f : Lpw → Lpw) (s : State) : (modLpw f s).hdg = s.hdg := rfl
@[simp] theorem modLpw_app (f : Lpw → Lpw) (s : State) : (modLpw f s).app = s.app := rfl
@[simp] theorem modLpw_stalled (f : Lpw → Lpw) (s : State) : (modLpw f s).stalled = s.stalled := rfl
@[simp] theorem modLpw_resp (f : Lpw → Lpw) (s : State) : (modLpw f s).resp = s.resp := rfl
@[simp] theorem modLpw_sram (f : Lpw → Lpw) (s : State) : (modLpw f s).sram = s.sram := rfl
@[simp] theorem modLpw_lpwSram (f : Lpw → Lpw) (s : State) : (modLpw f s).lpwSram = s.lpwSram := rfl
@[simp] theorem modLpw_dram (f : Lpw → Lpw) (s : State) : (modLpw f s).dram = s.dram := rfl
@[simp] theorem modLpw_log (f : Lpw → Lpw) (s : State) : (modLpw f s).log = s.log := rfl
@[simp] theorem modLpw_logCount (f : Lpw → Lpw) (s : State) : (modLpw f s).logCount = s.logCount := rfl
@[simp] theorem modLpw_pwr (f : Lpw → Lpw) (s : State) : (modLpw f s).pwr = s.pwr := rfl
@[simp] theorem modLpw_alarms (f : Lpw → Lpw) (s : State) : (modLpw f s).alarms = s.alarms := rfl
@[simp] theorem modLpw_rim (f : Lpw → Lpw) (s : State) : (modLpw f s).rim = s.rim := rfl
@[simp] theorem modLpw_lnp (f : Lpw → Lpw) (s : State) : (modLpw f s).lnp = s.lnp := rfl
@[simp] theorem modLpw_cod (f : Lpw → Lpw) (s : State) : (modLpw f s).cod = s.cod := rfl
@[simp] theorem modLpw_inbox (f : Lpw → Lpw) (s : State) : (modLpw f s).inbox = s.inbox := rfl
@[simp] theorem modLpw_free (f : Lpw → Lpw) (s : State) : (modLpw f s).free = s.free := rfl
@[simp] theorem modLpw_lnk (f : Lpw → Lpw) (s : State) : (modLpw f s).lnk = s.lnk := rfl
@[simp] theorem modLpw_sec (f : Lpw → Lpw) (s : State) : (modLpw f s).sec = s.sec := rfl
@[simp] theorem modLpw_ctx (f : Lpw → Lpw) (s : State) : (modLpw f s).ctx = s.ctx := rfl
@[simp] theorem modLpw_shf (f : Lpw → Lpw) (s : State) : (modLpw f s).shf = s.shf := rfl
@[simp] theorem modLpw_upl (f : Lpw → Lpw) (s : State) : (modLpw f s).upl = s.upl := rfl
@[simp] theorem modLpw_stl (f : Lpw → Lpw) (s : State) : (modLpw f s).stl = s.stl := rfl
@[simp] theorem modLpw_dmc (f : Lpw → Lpw) (s : State) : (modLpw f s).dmc = s.dmc := rfl
@[simp] theorem modLpw_fls (f : Lpw → Lpw) (s : State) : (modLpw f s).fls = s.fls := rfl
@[simp] theorem modLpw_otp (f : Lpw → Lpw) (s : State) : (modLpw f s).otp = s.otp := rfl
@[simp] theorem modLpw_jnl (f : Lpw → Lpw) (s : State) : (modLpw f s).jnl = s.jnl := rfl
@[simp] theorem modLpw_cfg (f : Lpw → Lpw) (s : State) : (modLpw f s).cfg = s.cfg := rfl
@[simp] theorem modLpw_mains (f : Lpw → Lpw) (s : State) : (modLpw f s).mains = s.mains := rfl
@[simp] theorem modLpw_hold (f : Lpw → Lpw) (s : State) : (modLpw f s).hold = s.hold := rfl
@[simp] theorem modLpw_bkp (f : Lpw → Lpw) (s : State) : (modLpw f s).bkp = s.bkp := rfl
@[simp] theorem modLpw_tap (f : Lpw → Lpw) (s : State) : (modLpw f s).tap = s.tap := rfl
@[simp] theorem modLpw_pending (f : Lpw → Lpw) (s : State) : (modLpw f s).pending = s.pending := rfl
@[simp] theorem modLpw_word (f : Lpw → Lpw) (s : State) (r : Nat) : (modLpw f s).word r = s.word r := rfl
@[simp] theorem modLpw_get (f : Lpw → Lpw) (s : State) (r : Fld) : (modLpw f s).get r = s.get r := rfl
@[simp] theorem modLpw_is (f : Lpw → Lpw) (s : State) (r : Fld) : (modLpw f s).is r = s.is r := rfl

/-! ### `modHold` -/

@[simp] theorem modHold_hold (f : Hold → Hold) (s : State) : (modHold f s).hold = f s.hold := rfl
@[simp] theorem modHold_variant (f : Hold → Hold) (s : State) : (modHold f s).variant = s.variant := rfl
@[simp] theorem modHold_mode (f : Hold → Hold) (s : State) : (modHold f s).mode = s.mode := rfl
@[simp] theorem modHold_cycles (f : Hold → Hold) (s : State) : (modHold f s).cycles = s.cycles := rfl
@[simp] theorem modHold_regs (f : Hold → Hold) (s : State) : (modHold f s).regs = s.regs := rfl
@[simp] theorem modHold_tim (f : Hold → Hold) (s : State) : (modHold f s).tim = s.tim := rfl
@[simp] theorem modHold_volt (f : Hold → Hold) (s : State) : (modHold f s).volt = s.volt := rfl
@[simp] theorem modHold_hdg (f : Hold → Hold) (s : State) : (modHold f s).hdg = s.hdg := rfl
@[simp] theorem modHold_app (f : Hold → Hold) (s : State) : (modHold f s).app = s.app := rfl
@[simp] theorem modHold_stalled (f : Hold → Hold) (s : State) : (modHold f s).stalled = s.stalled := rfl
@[simp] theorem modHold_resp (f : Hold → Hold) (s : State) : (modHold f s).resp = s.resp := rfl
@[simp] theorem modHold_sram (f : Hold → Hold) (s : State) : (modHold f s).sram = s.sram := rfl
@[simp] theorem modHold_lpwSram (f : Hold → Hold) (s : State) : (modHold f s).lpwSram = s.lpwSram := rfl
@[simp] theorem modHold_dram (f : Hold → Hold) (s : State) : (modHold f s).dram = s.dram := rfl
@[simp] theorem modHold_log (f : Hold → Hold) (s : State) : (modHold f s).log = s.log := rfl
@[simp] theorem modHold_logCount (f : Hold → Hold) (s : State) : (modHold f s).logCount = s.logCount := rfl
@[simp] theorem modHold_pwr (f : Hold → Hold) (s : State) : (modHold f s).pwr = s.pwr := rfl
@[simp] theorem modHold_alarms (f : Hold → Hold) (s : State) : (modHold f s).alarms = s.alarms := rfl
@[simp] theorem modHold_rim (f : Hold → Hold) (s : State) : (modHold f s).rim = s.rim := rfl
@[simp] theorem modHold_lnp (f : Hold → Hold) (s : State) : (modHold f s).lnp = s.lnp := rfl
@[simp] theorem modHold_cod (f : Hold → Hold) (s : State) : (modHold f s).cod = s.cod := rfl
@[simp] theorem modHold_inbox (f : Hold → Hold) (s : State) : (modHold f s).inbox = s.inbox := rfl
@[simp] theorem modHold_free (f : Hold → Hold) (s : State) : (modHold f s).free = s.free := rfl
@[simp] theorem modHold_lnk (f : Hold → Hold) (s : State) : (modHold f s).lnk = s.lnk := rfl
@[simp] theorem modHold_sec (f : Hold → Hold) (s : State) : (modHold f s).sec = s.sec := rfl
@[simp] theorem modHold_ctx (f : Hold → Hold) (s : State) : (modHold f s).ctx = s.ctx := rfl
@[simp] theorem modHold_shf (f : Hold → Hold) (s : State) : (modHold f s).shf = s.shf := rfl
@[simp] theorem modHold_upl (f : Hold → Hold) (s : State) : (modHold f s).upl = s.upl := rfl
@[simp] theorem modHold_stl (f : Hold → Hold) (s : State) : (modHold f s).stl = s.stl := rfl
@[simp] theorem modHold_dmc (f : Hold → Hold) (s : State) : (modHold f s).dmc = s.dmc := rfl
@[simp] theorem modHold_fls (f : Hold → Hold) (s : State) : (modHold f s).fls = s.fls := rfl
@[simp] theorem modHold_otp (f : Hold → Hold) (s : State) : (modHold f s).otp = s.otp := rfl
@[simp] theorem modHold_jnl (f : Hold → Hold) (s : State) : (modHold f s).jnl = s.jnl := rfl
@[simp] theorem modHold_cfg (f : Hold → Hold) (s : State) : (modHold f s).cfg = s.cfg := rfl
@[simp] theorem modHold_lpw (f : Hold → Hold) (s : State) : (modHold f s).lpw = s.lpw := rfl
@[simp] theorem modHold_mains (f : Hold → Hold) (s : State) : (modHold f s).mains = s.mains := rfl
@[simp] theorem modHold_bkp (f : Hold → Hold) (s : State) : (modHold f s).bkp = s.bkp := rfl
@[simp] theorem modHold_tap (f : Hold → Hold) (s : State) : (modHold f s).tap = s.tap := rfl
@[simp] theorem modHold_pending (f : Hold → Hold) (s : State) : (modHold f s).pending = s.pending := rfl
@[simp] theorem modHold_word (f : Hold → Hold) (s : State) (r : Nat) : (modHold f s).word r = s.word r := rfl
@[simp] theorem modHold_get (f : Hold → Hold) (s : State) (r : Fld) : (modHold f s).get r = s.get r := rfl
@[simp] theorem modHold_is (f : Hold → Hold) (s : State) (r : Fld) : (modHold f s).is r = s.is r := rfl

/-! ### `modDmc` -/

@[simp] theorem modDmc_dmc (f : Dmc → Dmc) (s : State) : (modDmc f s).dmc = f s.dmc := rfl
@[simp] theorem modDmc_variant (f : Dmc → Dmc) (s : State) : (modDmc f s).variant = s.variant := rfl
@[simp] theorem modDmc_mode (f : Dmc → Dmc) (s : State) : (modDmc f s).mode = s.mode := rfl
@[simp] theorem modDmc_cycles (f : Dmc → Dmc) (s : State) : (modDmc f s).cycles = s.cycles := rfl
@[simp] theorem modDmc_regs (f : Dmc → Dmc) (s : State) : (modDmc f s).regs = s.regs := rfl
@[simp] theorem modDmc_tim (f : Dmc → Dmc) (s : State) : (modDmc f s).tim = s.tim := rfl
@[simp] theorem modDmc_volt (f : Dmc → Dmc) (s : State) : (modDmc f s).volt = s.volt := rfl
@[simp] theorem modDmc_hdg (f : Dmc → Dmc) (s : State) : (modDmc f s).hdg = s.hdg := rfl
@[simp] theorem modDmc_app (f : Dmc → Dmc) (s : State) : (modDmc f s).app = s.app := rfl
@[simp] theorem modDmc_stalled (f : Dmc → Dmc) (s : State) : (modDmc f s).stalled = s.stalled := rfl
@[simp] theorem modDmc_resp (f : Dmc → Dmc) (s : State) : (modDmc f s).resp = s.resp := rfl
@[simp] theorem modDmc_sram (f : Dmc → Dmc) (s : State) : (modDmc f s).sram = s.sram := rfl
@[simp] theorem modDmc_lpwSram (f : Dmc → Dmc) (s : State) : (modDmc f s).lpwSram = s.lpwSram := rfl
@[simp] theorem modDmc_dram (f : Dmc → Dmc) (s : State) : (modDmc f s).dram = s.dram := rfl
@[simp] theorem modDmc_log (f : Dmc → Dmc) (s : State) : (modDmc f s).log = s.log := rfl
@[simp] theorem modDmc_logCount (f : Dmc → Dmc) (s : State) : (modDmc f s).logCount = s.logCount := rfl
@[simp] theorem modDmc_pwr (f : Dmc → Dmc) (s : State) : (modDmc f s).pwr = s.pwr := rfl
@[simp] theorem modDmc_alarms (f : Dmc → Dmc) (s : State) : (modDmc f s).alarms = s.alarms := rfl
@[simp] theorem modDmc_rim (f : Dmc → Dmc) (s : State) : (modDmc f s).rim = s.rim := rfl
@[simp] theorem modDmc_lnp (f : Dmc → Dmc) (s : State) : (modDmc f s).lnp = s.lnp := rfl
@[simp] theorem modDmc_cod (f : Dmc → Dmc) (s : State) : (modDmc f s).cod = s.cod := rfl
@[simp] theorem modDmc_inbox (f : Dmc → Dmc) (s : State) : (modDmc f s).inbox = s.inbox := rfl
@[simp] theorem modDmc_free (f : Dmc → Dmc) (s : State) : (modDmc f s).free = s.free := rfl
@[simp] theorem modDmc_lnk (f : Dmc → Dmc) (s : State) : (modDmc f s).lnk = s.lnk := rfl
@[simp] theorem modDmc_sec (f : Dmc → Dmc) (s : State) : (modDmc f s).sec = s.sec := rfl
@[simp] theorem modDmc_ctx (f : Dmc → Dmc) (s : State) : (modDmc f s).ctx = s.ctx := rfl
@[simp] theorem modDmc_shf (f : Dmc → Dmc) (s : State) : (modDmc f s).shf = s.shf := rfl
@[simp] theorem modDmc_upl (f : Dmc → Dmc) (s : State) : (modDmc f s).upl = s.upl := rfl
@[simp] theorem modDmc_stl (f : Dmc → Dmc) (s : State) : (modDmc f s).stl = s.stl := rfl
@[simp] theorem modDmc_fls (f : Dmc → Dmc) (s : State) : (modDmc f s).fls = s.fls := rfl
@[simp] theorem modDmc_otp (f : Dmc → Dmc) (s : State) : (modDmc f s).otp = s.otp := rfl
@[simp] theorem modDmc_jnl (f : Dmc → Dmc) (s : State) : (modDmc f s).jnl = s.jnl := rfl
@[simp] theorem modDmc_cfg (f : Dmc → Dmc) (s : State) : (modDmc f s).cfg = s.cfg := rfl
@[simp] theorem modDmc_lpw (f : Dmc → Dmc) (s : State) : (modDmc f s).lpw = s.lpw := rfl
@[simp] theorem modDmc_mains (f : Dmc → Dmc) (s : State) : (modDmc f s).mains = s.mains := rfl
@[simp] theorem modDmc_hold (f : Dmc → Dmc) (s : State) : (modDmc f s).hold = s.hold := rfl
@[simp] theorem modDmc_bkp (f : Dmc → Dmc) (s : State) : (modDmc f s).bkp = s.bkp := rfl
@[simp] theorem modDmc_tap (f : Dmc → Dmc) (s : State) : (modDmc f s).tap = s.tap := rfl
@[simp] theorem modDmc_pending (f : Dmc → Dmc) (s : State) : (modDmc f s).pending = s.pending := rfl
@[simp] theorem modDmc_word (f : Dmc → Dmc) (s : State) (r : Nat) : (modDmc f s).word r = s.word r := rfl
@[simp] theorem modDmc_get (f : Dmc → Dmc) (s : State) (r : Fld) : (modDmc f s).get r = s.get r := rfl
@[simp] theorem modDmc_is (f : Dmc → Dmc) (s : State) (r : Fld) : (modDmc f s).is r = s.is r := rfl

/-! ### `modUpl` -/

@[simp] theorem modUpl_upl (f : Upl → Upl) (s : State) : (modUpl f s).upl = f s.upl := rfl
@[simp] theorem modUpl_variant (f : Upl → Upl) (s : State) : (modUpl f s).variant = s.variant := rfl
@[simp] theorem modUpl_mode (f : Upl → Upl) (s : State) : (modUpl f s).mode = s.mode := rfl
@[simp] theorem modUpl_cycles (f : Upl → Upl) (s : State) : (modUpl f s).cycles = s.cycles := rfl
@[simp] theorem modUpl_regs (f : Upl → Upl) (s : State) : (modUpl f s).regs = s.regs := rfl
@[simp] theorem modUpl_tim (f : Upl → Upl) (s : State) : (modUpl f s).tim = s.tim := rfl
@[simp] theorem modUpl_volt (f : Upl → Upl) (s : State) : (modUpl f s).volt = s.volt := rfl
@[simp] theorem modUpl_hdg (f : Upl → Upl) (s : State) : (modUpl f s).hdg = s.hdg := rfl
@[simp] theorem modUpl_app (f : Upl → Upl) (s : State) : (modUpl f s).app = s.app := rfl
@[simp] theorem modUpl_stalled (f : Upl → Upl) (s : State) : (modUpl f s).stalled = s.stalled := rfl
@[simp] theorem modUpl_resp (f : Upl → Upl) (s : State) : (modUpl f s).resp = s.resp := rfl
@[simp] theorem modUpl_sram (f : Upl → Upl) (s : State) : (modUpl f s).sram = s.sram := rfl
@[simp] theorem modUpl_lpwSram (f : Upl → Upl) (s : State) : (modUpl f s).lpwSram = s.lpwSram := rfl
@[simp] theorem modUpl_dram (f : Upl → Upl) (s : State) : (modUpl f s).dram = s.dram := rfl
@[simp] theorem modUpl_log (f : Upl → Upl) (s : State) : (modUpl f s).log = s.log := rfl
@[simp] theorem modUpl_logCount (f : Upl → Upl) (s : State) : (modUpl f s).logCount = s.logCount := rfl
@[simp] theorem modUpl_pwr (f : Upl → Upl) (s : State) : (modUpl f s).pwr = s.pwr := rfl
@[simp] theorem modUpl_alarms (f : Upl → Upl) (s : State) : (modUpl f s).alarms = s.alarms := rfl
@[simp] theorem modUpl_rim (f : Upl → Upl) (s : State) : (modUpl f s).rim = s.rim := rfl
@[simp] theorem modUpl_lnp (f : Upl → Upl) (s : State) : (modUpl f s).lnp = s.lnp := rfl
@[simp] theorem modUpl_cod (f : Upl → Upl) (s : State) : (modUpl f s).cod = s.cod := rfl
@[simp] theorem modUpl_inbox (f : Upl → Upl) (s : State) : (modUpl f s).inbox = s.inbox := rfl
@[simp] theorem modUpl_free (f : Upl → Upl) (s : State) : (modUpl f s).free = s.free := rfl
@[simp] theorem modUpl_lnk (f : Upl → Upl) (s : State) : (modUpl f s).lnk = s.lnk := rfl
@[simp] theorem modUpl_sec (f : Upl → Upl) (s : State) : (modUpl f s).sec = s.sec := rfl
@[simp] theorem modUpl_ctx (f : Upl → Upl) (s : State) : (modUpl f s).ctx = s.ctx := rfl
@[simp] theorem modUpl_shf (f : Upl → Upl) (s : State) : (modUpl f s).shf = s.shf := rfl
@[simp] theorem modUpl_stl (f : Upl → Upl) (s : State) : (modUpl f s).stl = s.stl := rfl
@[simp] theorem modUpl_dmc (f : Upl → Upl) (s : State) : (modUpl f s).dmc = s.dmc := rfl
@[simp] theorem modUpl_fls (f : Upl → Upl) (s : State) : (modUpl f s).fls = s.fls := rfl
@[simp] theorem modUpl_otp (f : Upl → Upl) (s : State) : (modUpl f s).otp = s.otp := rfl
@[simp] theorem modUpl_jnl (f : Upl → Upl) (s : State) : (modUpl f s).jnl = s.jnl := rfl
@[simp] theorem modUpl_cfg (f : Upl → Upl) (s : State) : (modUpl f s).cfg = s.cfg := rfl
@[simp] theorem modUpl_lpw (f : Upl → Upl) (s : State) : (modUpl f s).lpw = s.lpw := rfl
@[simp] theorem modUpl_mains (f : Upl → Upl) (s : State) : (modUpl f s).mains = s.mains := rfl
@[simp] theorem modUpl_hold (f : Upl → Upl) (s : State) : (modUpl f s).hold = s.hold := rfl
@[simp] theorem modUpl_bkp (f : Upl → Upl) (s : State) : (modUpl f s).bkp = s.bkp := rfl
@[simp] theorem modUpl_tap (f : Upl → Upl) (s : State) : (modUpl f s).tap = s.tap := rfl
@[simp] theorem modUpl_pending (f : Upl → Upl) (s : State) : (modUpl f s).pending = s.pending := rfl
@[simp] theorem modUpl_word (f : Upl → Upl) (s : State) (r : Nat) : (modUpl f s).word r = s.word r := rfl
@[simp] theorem modUpl_get (f : Upl → Upl) (s : State) (r : Fld) : (modUpl f s).get r = s.get r := rfl
@[simp] theorem modUpl_is (f : Upl → Upl) (s : State) (r : Fld) : (modUpl f s).is r = s.is r := rfl

/-! ### `modCtx` -/

@[simp] theorem modCtx_ctx (f : Ctx → Ctx) (s : State) : (modCtx f s).ctx = f s.ctx := rfl
@[simp] theorem modCtx_variant (f : Ctx → Ctx) (s : State) : (modCtx f s).variant = s.variant := rfl
@[simp] theorem modCtx_mode (f : Ctx → Ctx) (s : State) : (modCtx f s).mode = s.mode := rfl
@[simp] theorem modCtx_cycles (f : Ctx → Ctx) (s : State) : (modCtx f s).cycles = s.cycles := rfl
@[simp] theorem modCtx_regs (f : Ctx → Ctx) (s : State) : (modCtx f s).regs = s.regs := rfl
@[simp] theorem modCtx_tim (f : Ctx → Ctx) (s : State) : (modCtx f s).tim = s.tim := rfl
@[simp] theorem modCtx_volt (f : Ctx → Ctx) (s : State) : (modCtx f s).volt = s.volt := rfl
@[simp] theorem modCtx_hdg (f : Ctx → Ctx) (s : State) : (modCtx f s).hdg = s.hdg := rfl
@[simp] theorem modCtx_app (f : Ctx → Ctx) (s : State) : (modCtx f s).app = s.app := rfl
@[simp] theorem modCtx_stalled (f : Ctx → Ctx) (s : State) : (modCtx f s).stalled = s.stalled := rfl
@[simp] theorem modCtx_resp (f : Ctx → Ctx) (s : State) : (modCtx f s).resp = s.resp := rfl
@[simp] theorem modCtx_sram (f : Ctx → Ctx) (s : State) : (modCtx f s).sram = s.sram := rfl
@[simp] theorem modCtx_lpwSram (f : Ctx → Ctx) (s : State) : (modCtx f s).lpwSram = s.lpwSram := rfl
@[simp] theorem modCtx_dram (f : Ctx → Ctx) (s : State) : (modCtx f s).dram = s.dram := rfl
@[simp] theorem modCtx_log (f : Ctx → Ctx) (s : State) : (modCtx f s).log = s.log := rfl
@[simp] theorem modCtx_logCount (f : Ctx → Ctx) (s : State) : (modCtx f s).logCount = s.logCount := rfl
@[simp] theorem modCtx_pwr (f : Ctx → Ctx) (s : State) : (modCtx f s).pwr = s.pwr := rfl
@[simp] theorem modCtx_alarms (f : Ctx → Ctx) (s : State) : (modCtx f s).alarms = s.alarms := rfl
@[simp] theorem modCtx_rim (f : Ctx → Ctx) (s : State) : (modCtx f s).rim = s.rim := rfl
@[simp] theorem modCtx_lnp (f : Ctx → Ctx) (s : State) : (modCtx f s).lnp = s.lnp := rfl
@[simp] theorem modCtx_cod (f : Ctx → Ctx) (s : State) : (modCtx f s).cod = s.cod := rfl
@[simp] theorem modCtx_inbox (f : Ctx → Ctx) (s : State) : (modCtx f s).inbox = s.inbox := rfl
@[simp] theorem modCtx_free (f : Ctx → Ctx) (s : State) : (modCtx f s).free = s.free := rfl
@[simp] theorem modCtx_lnk (f : Ctx → Ctx) (s : State) : (modCtx f s).lnk = s.lnk := rfl
@[simp] theorem modCtx_sec (f : Ctx → Ctx) (s : State) : (modCtx f s).sec = s.sec := rfl
@[simp] theorem modCtx_shf (f : Ctx → Ctx) (s : State) : (modCtx f s).shf = s.shf := rfl
@[simp] theorem modCtx_upl (f : Ctx → Ctx) (s : State) : (modCtx f s).upl = s.upl := rfl
@[simp] theorem modCtx_stl (f : Ctx → Ctx) (s : State) : (modCtx f s).stl = s.stl := rfl
@[simp] theorem modCtx_dmc (f : Ctx → Ctx) (s : State) : (modCtx f s).dmc = s.dmc := rfl
@[simp] theorem modCtx_fls (f : Ctx → Ctx) (s : State) : (modCtx f s).fls = s.fls := rfl
@[simp] theorem modCtx_otp (f : Ctx → Ctx) (s : State) : (modCtx f s).otp = s.otp := rfl
@[simp] theorem modCtx_jnl (f : Ctx → Ctx) (s : State) : (modCtx f s).jnl = s.jnl := rfl
@[simp] theorem modCtx_cfg (f : Ctx → Ctx) (s : State) : (modCtx f s).cfg = s.cfg := rfl
@[simp] theorem modCtx_lpw (f : Ctx → Ctx) (s : State) : (modCtx f s).lpw = s.lpw := rfl
@[simp] theorem modCtx_mains (f : Ctx → Ctx) (s : State) : (modCtx f s).mains = s.mains := rfl
@[simp] theorem modCtx_hold (f : Ctx → Ctx) (s : State) : (modCtx f s).hold = s.hold := rfl
@[simp] theorem modCtx_bkp (f : Ctx → Ctx) (s : State) : (modCtx f s).bkp = s.bkp := rfl
@[simp] theorem modCtx_tap (f : Ctx → Ctx) (s : State) : (modCtx f s).tap = s.tap := rfl
@[simp] theorem modCtx_pending (f : Ctx → Ctx) (s : State) : (modCtx f s).pending = s.pending := rfl
@[simp] theorem modCtx_word (f : Ctx → Ctx) (s : State) (r : Nat) : (modCtx f s).word r = s.word r := rfl
@[simp] theorem modCtx_get (f : Ctx → Ctx) (s : State) (r : Fld) : (modCtx f s).get r = s.get r := rfl
@[simp] theorem modCtx_is (f : Ctx → Ctx) (s : State) (r : Fld) : (modCtx f s).is r = s.is r := rfl

/-! ### `modFls` -/

@[simp] theorem modFls_fls (f : Fls → Fls) (s : State) : (modFls f s).fls = f s.fls := rfl
@[simp] theorem modFls_variant (f : Fls → Fls) (s : State) : (modFls f s).variant = s.variant := rfl
@[simp] theorem modFls_mode (f : Fls → Fls) (s : State) : (modFls f s).mode = s.mode := rfl
@[simp] theorem modFls_cycles (f : Fls → Fls) (s : State) : (modFls f s).cycles = s.cycles := rfl
@[simp] theorem modFls_regs (f : Fls → Fls) (s : State) : (modFls f s).regs = s.regs := rfl
@[simp] theorem modFls_tim (f : Fls → Fls) (s : State) : (modFls f s).tim = s.tim := rfl
@[simp] theorem modFls_volt (f : Fls → Fls) (s : State) : (modFls f s).volt = s.volt := rfl
@[simp] theorem modFls_hdg (f : Fls → Fls) (s : State) : (modFls f s).hdg = s.hdg := rfl
@[simp] theorem modFls_app (f : Fls → Fls) (s : State) : (modFls f s).app = s.app := rfl
@[simp] theorem modFls_stalled (f : Fls → Fls) (s : State) : (modFls f s).stalled = s.stalled := rfl
@[simp] theorem modFls_resp (f : Fls → Fls) (s : State) : (modFls f s).resp = s.resp := rfl
@[simp] theorem modFls_sram (f : Fls → Fls) (s : State) : (modFls f s).sram = s.sram := rfl
@[simp] theorem modFls_lpwSram (f : Fls → Fls) (s : State) : (modFls f s).lpwSram = s.lpwSram := rfl
@[simp] theorem modFls_dram (f : Fls → Fls) (s : State) : (modFls f s).dram = s.dram := rfl
@[simp] theorem modFls_log (f : Fls → Fls) (s : State) : (modFls f s).log = s.log := rfl
@[simp] theorem modFls_logCount (f : Fls → Fls) (s : State) : (modFls f s).logCount = s.logCount := rfl
@[simp] theorem modFls_pwr (f : Fls → Fls) (s : State) : (modFls f s).pwr = s.pwr := rfl
@[simp] theorem modFls_alarms (f : Fls → Fls) (s : State) : (modFls f s).alarms = s.alarms := rfl
@[simp] theorem modFls_rim (f : Fls → Fls) (s : State) : (modFls f s).rim = s.rim := rfl
@[simp] theorem modFls_lnp (f : Fls → Fls) (s : State) : (modFls f s).lnp = s.lnp := rfl
@[simp] theorem modFls_cod (f : Fls → Fls) (s : State) : (modFls f s).cod = s.cod := rfl
@[simp] theorem modFls_inbox (f : Fls → Fls) (s : State) : (modFls f s).inbox = s.inbox := rfl
@[simp] theorem modFls_free (f : Fls → Fls) (s : State) : (modFls f s).free = s.free := rfl
@[simp] theorem modFls_lnk (f : Fls → Fls) (s : State) : (modFls f s).lnk = s.lnk := rfl
@[simp] theorem modFls_sec (f : Fls → Fls) (s : State) : (modFls f s).sec = s.sec := rfl
@[simp] theorem modFls_ctx (f : Fls → Fls) (s : State) : (modFls f s).ctx = s.ctx := rfl
@[simp] theorem modFls_shf (f : Fls → Fls) (s : State) : (modFls f s).shf = s.shf := rfl
@[simp] theorem modFls_upl (f : Fls → Fls) (s : State) : (modFls f s).upl = s.upl := rfl
@[simp] theorem modFls_stl (f : Fls → Fls) (s : State) : (modFls f s).stl = s.stl := rfl
@[simp] theorem modFls_dmc (f : Fls → Fls) (s : State) : (modFls f s).dmc = s.dmc := rfl
@[simp] theorem modFls_otp (f : Fls → Fls) (s : State) : (modFls f s).otp = s.otp := rfl
@[simp] theorem modFls_jnl (f : Fls → Fls) (s : State) : (modFls f s).jnl = s.jnl := rfl
@[simp] theorem modFls_cfg (f : Fls → Fls) (s : State) : (modFls f s).cfg = s.cfg := rfl
@[simp] theorem modFls_lpw (f : Fls → Fls) (s : State) : (modFls f s).lpw = s.lpw := rfl
@[simp] theorem modFls_mains (f : Fls → Fls) (s : State) : (modFls f s).mains = s.mains := rfl
@[simp] theorem modFls_hold (f : Fls → Fls) (s : State) : (modFls f s).hold = s.hold := rfl
@[simp] theorem modFls_bkp (f : Fls → Fls) (s : State) : (modFls f s).bkp = s.bkp := rfl
@[simp] theorem modFls_tap (f : Fls → Fls) (s : State) : (modFls f s).tap = s.tap := rfl
@[simp] theorem modFls_pending (f : Fls → Fls) (s : State) : (modFls f s).pending = s.pending := rfl
@[simp] theorem modFls_word (f : Fls → Fls) (s : State) (r : Nat) : (modFls f s).word r = s.word r := rfl
@[simp] theorem modFls_get (f : Fls → Fls) (s : State) (r : Fld) : (modFls f s).get r = s.get r := rfl
@[simp] theorem modFls_is (f : Fls → Fls) (s : State) (r : Fld) : (modFls f s).is r = s.is r := rfl

/-! ### `modJnl` -/

@[simp] theorem modJnl_jnl (f : Jnl → Jnl) (s : State) : (modJnl f s).jnl = f s.jnl := rfl
@[simp] theorem modJnl_variant (f : Jnl → Jnl) (s : State) : (modJnl f s).variant = s.variant := rfl
@[simp] theorem modJnl_mode (f : Jnl → Jnl) (s : State) : (modJnl f s).mode = s.mode := rfl
@[simp] theorem modJnl_cycles (f : Jnl → Jnl) (s : State) : (modJnl f s).cycles = s.cycles := rfl
@[simp] theorem modJnl_regs (f : Jnl → Jnl) (s : State) : (modJnl f s).regs = s.regs := rfl
@[simp] theorem modJnl_tim (f : Jnl → Jnl) (s : State) : (modJnl f s).tim = s.tim := rfl
@[simp] theorem modJnl_volt (f : Jnl → Jnl) (s : State) : (modJnl f s).volt = s.volt := rfl
@[simp] theorem modJnl_hdg (f : Jnl → Jnl) (s : State) : (modJnl f s).hdg = s.hdg := rfl
@[simp] theorem modJnl_app (f : Jnl → Jnl) (s : State) : (modJnl f s).app = s.app := rfl
@[simp] theorem modJnl_stalled (f : Jnl → Jnl) (s : State) : (modJnl f s).stalled = s.stalled := rfl
@[simp] theorem modJnl_resp (f : Jnl → Jnl) (s : State) : (modJnl f s).resp = s.resp := rfl
@[simp] theorem modJnl_sram (f : Jnl → Jnl) (s : State) : (modJnl f s).sram = s.sram := rfl
@[simp] theorem modJnl_lpwSram (f : Jnl → Jnl) (s : State) : (modJnl f s).lpwSram = s.lpwSram := rfl
@[simp] theorem modJnl_dram (f : Jnl → Jnl) (s : State) : (modJnl f s).dram = s.dram := rfl
@[simp] theorem modJnl_log (f : Jnl → Jnl) (s : State) : (modJnl f s).log = s.log := rfl
@[simp] theorem modJnl_logCount (f : Jnl → Jnl) (s : State) : (modJnl f s).logCount = s.logCount := rfl
@[simp] theorem modJnl_pwr (f : Jnl → Jnl) (s : State) : (modJnl f s).pwr = s.pwr := rfl
@[simp] theorem modJnl_alarms (f : Jnl → Jnl) (s : State) : (modJnl f s).alarms = s.alarms := rfl
@[simp] theorem modJnl_rim (f : Jnl → Jnl) (s : State) : (modJnl f s).rim = s.rim := rfl
@[simp] theorem modJnl_lnp (f : Jnl → Jnl) (s : State) : (modJnl f s).lnp = s.lnp := rfl
@[simp] theorem modJnl_cod (f : Jnl → Jnl) (s : State) : (modJnl f s).cod = s.cod := rfl
@[simp] theorem modJnl_inbox (f : Jnl → Jnl) (s : State) : (modJnl f s).inbox = s.inbox := rfl
@[simp] theorem modJnl_free (f : Jnl → Jnl) (s : State) : (modJnl f s).free = s.free := rfl
@[simp] theorem modJnl_lnk (f : Jnl → Jnl) (s : State) : (modJnl f s).lnk = s.lnk := rfl
@[simp] theorem modJnl_sec (f : Jnl → Jnl) (s : State) : (modJnl f s).sec = s.sec := rfl
@[simp] theorem modJnl_ctx (f : Jnl → Jnl) (s : State) : (modJnl f s).ctx = s.ctx := rfl
@[simp] theorem modJnl_shf (f : Jnl → Jnl) (s : State) : (modJnl f s).shf = s.shf := rfl
@[simp] theorem modJnl_upl (f : Jnl → Jnl) (s : State) : (modJnl f s).upl = s.upl := rfl
@[simp] theorem modJnl_stl (f : Jnl → Jnl) (s : State) : (modJnl f s).stl = s.stl := rfl
@[simp] theorem modJnl_dmc (f : Jnl → Jnl) (s : State) : (modJnl f s).dmc = s.dmc := rfl
@[simp] theorem modJnl_fls (f : Jnl → Jnl) (s : State) : (modJnl f s).fls = s.fls := rfl
@[simp] theorem modJnl_otp (f : Jnl → Jnl) (s : State) : (modJnl f s).otp = s.otp := rfl
@[simp] theorem modJnl_cfg (f : Jnl → Jnl) (s : State) : (modJnl f s).cfg = s.cfg := rfl
@[simp] theorem modJnl_lpw (f : Jnl → Jnl) (s : State) : (modJnl f s).lpw = s.lpw := rfl
@[simp] theorem modJnl_mains (f : Jnl → Jnl) (s : State) : (modJnl f s).mains = s.mains := rfl
@[simp] theorem modJnl_hold (f : Jnl → Jnl) (s : State) : (modJnl f s).hold = s.hold := rfl
@[simp] theorem modJnl_bkp (f : Jnl → Jnl) (s : State) : (modJnl f s).bkp = s.bkp := rfl
@[simp] theorem modJnl_tap (f : Jnl → Jnl) (s : State) : (modJnl f s).tap = s.tap := rfl
@[simp] theorem modJnl_pending (f : Jnl → Jnl) (s : State) : (modJnl f s).pending = s.pending := rfl
@[simp] theorem modJnl_word (f : Jnl → Jnl) (s : State) (r : Nat) : (modJnl f s).word r = s.word r := rfl
@[simp] theorem modJnl_get (f : Jnl → Jnl) (s : State) (r : Fld) : (modJnl f s).get r = s.get r := rfl
@[simp] theorem modJnl_is (f : Jnl → Jnl) (s : State) (r : Fld) : (modJnl f s).is r = s.is r := rfl

/-! ### `modOtp` -/

@[simp] theorem modOtp_otp (f : Otp → Otp) (s : State) : (modOtp f s).otp = f s.otp := rfl
@[simp] theorem modOtp_variant (f : Otp → Otp) (s : State) : (modOtp f s).variant = s.variant := rfl
@[simp] theorem modOtp_mode (f : Otp → Otp) (s : State) : (modOtp f s).mode = s.mode := rfl
@[simp] theorem modOtp_cycles (f : Otp → Otp) (s : State) : (modOtp f s).cycles = s.cycles := rfl
@[simp] theorem modOtp_regs (f : Otp → Otp) (s : State) : (modOtp f s).regs = s.regs := rfl
@[simp] theorem modOtp_tim (f : Otp → Otp) (s : State) : (modOtp f s).tim = s.tim := rfl
@[simp] theorem modOtp_volt (f : Otp → Otp) (s : State) : (modOtp f s).volt = s.volt := rfl
@[simp] theorem modOtp_hdg (f : Otp → Otp) (s : State) : (modOtp f s).hdg = s.hdg := rfl
@[simp] theorem modOtp_app (f : Otp → Otp) (s : State) : (modOtp f s).app = s.app := rfl
@[simp] theorem modOtp_stalled (f : Otp → Otp) (s : State) : (modOtp f s).stalled = s.stalled := rfl
@[simp] theorem modOtp_resp (f : Otp → Otp) (s : State) : (modOtp f s).resp = s.resp := rfl
@[simp] theorem modOtp_sram (f : Otp → Otp) (s : State) : (modOtp f s).sram = s.sram := rfl
@[simp] theorem modOtp_lpwSram (f : Otp → Otp) (s : State) : (modOtp f s).lpwSram = s.lpwSram := rfl
@[simp] theorem modOtp_dram (f : Otp → Otp) (s : State) : (modOtp f s).dram = s.dram := rfl
@[simp] theorem modOtp_log (f : Otp → Otp) (s : State) : (modOtp f s).log = s.log := rfl
@[simp] theorem modOtp_logCount (f : Otp → Otp) (s : State) : (modOtp f s).logCount = s.logCount := rfl
@[simp] theorem modOtp_pwr (f : Otp → Otp) (s : State) : (modOtp f s).pwr = s.pwr := rfl
@[simp] theorem modOtp_alarms (f : Otp → Otp) (s : State) : (modOtp f s).alarms = s.alarms := rfl
@[simp] theorem modOtp_rim (f : Otp → Otp) (s : State) : (modOtp f s).rim = s.rim := rfl
@[simp] theorem modOtp_lnp (f : Otp → Otp) (s : State) : (modOtp f s).lnp = s.lnp := rfl
@[simp] theorem modOtp_cod (f : Otp → Otp) (s : State) : (modOtp f s).cod = s.cod := rfl
@[simp] theorem modOtp_inbox (f : Otp → Otp) (s : State) : (modOtp f s).inbox = s.inbox := rfl
@[simp] theorem modOtp_free (f : Otp → Otp) (s : State) : (modOtp f s).free = s.free := rfl
@[simp] theorem modOtp_lnk (f : Otp → Otp) (s : State) : (modOtp f s).lnk = s.lnk := rfl
@[simp] theorem modOtp_sec (f : Otp → Otp) (s : State) : (modOtp f s).sec = s.sec := rfl
@[simp] theorem modOtp_ctx (f : Otp → Otp) (s : State) : (modOtp f s).ctx = s.ctx := rfl
@[simp] theorem modOtp_shf (f : Otp → Otp) (s : State) : (modOtp f s).shf = s.shf := rfl
@[simp] theorem modOtp_upl (f : Otp → Otp) (s : State) : (modOtp f s).upl = s.upl := rfl
@[simp] theorem modOtp_stl (f : Otp → Otp) (s : State) : (modOtp f s).stl = s.stl := rfl
@[simp] theorem modOtp_dmc (f : Otp → Otp) (s : State) : (modOtp f s).dmc = s.dmc := rfl
@[simp] theorem modOtp_fls (f : Otp → Otp) (s : State) : (modOtp f s).fls = s.fls := rfl
@[simp] theorem modOtp_jnl (f : Otp → Otp) (s : State) : (modOtp f s).jnl = s.jnl := rfl
@[simp] theorem modOtp_cfg (f : Otp → Otp) (s : State) : (modOtp f s).cfg = s.cfg := rfl
@[simp] theorem modOtp_lpw (f : Otp → Otp) (s : State) : (modOtp f s).lpw = s.lpw := rfl
@[simp] theorem modOtp_mains (f : Otp → Otp) (s : State) : (modOtp f s).mains = s.mains := rfl
@[simp] theorem modOtp_hold (f : Otp → Otp) (s : State) : (modOtp f s).hold = s.hold := rfl
@[simp] theorem modOtp_bkp (f : Otp → Otp) (s : State) : (modOtp f s).bkp = s.bkp := rfl
@[simp] theorem modOtp_tap (f : Otp → Otp) (s : State) : (modOtp f s).tap = s.tap := rfl
@[simp] theorem modOtp_pending (f : Otp → Otp) (s : State) : (modOtp f s).pending = s.pending := rfl
@[simp] theorem modOtp_word (f : Otp → Otp) (s : State) (r : Nat) : (modOtp f s).word r = s.word r := rfl
@[simp] theorem modOtp_get (f : Otp → Otp) (s : State) (r : Fld) : (modOtp f s).get r = s.get r := rfl
@[simp] theorem modOtp_is (f : Otp → Otp) (s : State) (r : Fld) : (modOtp f s).is r = s.is r := rfl

/-! ### `modPwr` -/

@[simp] theorem modPwr_pwr (f : Pwr → Pwr) (s : State) : (modPwr f s).pwr = f s.pwr := rfl
@[simp] theorem modPwr_variant (f : Pwr → Pwr) (s : State) : (modPwr f s).variant = s.variant := rfl
@[simp] theorem modPwr_mode (f : Pwr → Pwr) (s : State) : (modPwr f s).mode = s.mode := rfl
@[simp] theorem modPwr_cycles (f : Pwr → Pwr) (s : State) : (modPwr f s).cycles = s.cycles := rfl
@[simp] theorem modPwr_regs (f : Pwr → Pwr) (s : State) : (modPwr f s).regs = s.regs := rfl
@[simp] theorem modPwr_tim (f : Pwr → Pwr) (s : State) : (modPwr f s).tim = s.tim := rfl
@[simp] theorem modPwr_volt (f : Pwr → Pwr) (s : State) : (modPwr f s).volt = s.volt := rfl
@[simp] theorem modPwr_hdg (f : Pwr → Pwr) (s : State) : (modPwr f s).hdg = s.hdg := rfl
@[simp] theorem modPwr_app (f : Pwr → Pwr) (s : State) : (modPwr f s).app = s.app := rfl
@[simp] theorem modPwr_stalled (f : Pwr → Pwr) (s : State) : (modPwr f s).stalled = s.stalled := rfl
@[simp] theorem modPwr_resp (f : Pwr → Pwr) (s : State) : (modPwr f s).resp = s.resp := rfl
@[simp] theorem modPwr_sram (f : Pwr → Pwr) (s : State) : (modPwr f s).sram = s.sram := rfl
@[simp] theorem modPwr_lpwSram (f : Pwr → Pwr) (s : State) : (modPwr f s).lpwSram = s.lpwSram := rfl
@[simp] theorem modPwr_dram (f : Pwr → Pwr) (s : State) : (modPwr f s).dram = s.dram := rfl
@[simp] theorem modPwr_log (f : Pwr → Pwr) (s : State) : (modPwr f s).log = s.log := rfl
@[simp] theorem modPwr_logCount (f : Pwr → Pwr) (s : State) : (modPwr f s).logCount = s.logCount := rfl
@[simp] theorem modPwr_alarms (f : Pwr → Pwr) (s : State) : (modPwr f s).alarms = s.alarms := rfl
@[simp] theorem modPwr_rim (f : Pwr → Pwr) (s : State) : (modPwr f s).rim = s.rim := rfl
@[simp] theorem modPwr_lnp (f : Pwr → Pwr) (s : State) : (modPwr f s).lnp = s.lnp := rfl
@[simp] theorem modPwr_cod (f : Pwr → Pwr) (s : State) : (modPwr f s).cod = s.cod := rfl
@[simp] theorem modPwr_inbox (f : Pwr → Pwr) (s : State) : (modPwr f s).inbox = s.inbox := rfl
@[simp] theorem modPwr_free (f : Pwr → Pwr) (s : State) : (modPwr f s).free = s.free := rfl
@[simp] theorem modPwr_lnk (f : Pwr → Pwr) (s : State) : (modPwr f s).lnk = s.lnk := rfl
@[simp] theorem modPwr_sec (f : Pwr → Pwr) (s : State) : (modPwr f s).sec = s.sec := rfl
@[simp] theorem modPwr_ctx (f : Pwr → Pwr) (s : State) : (modPwr f s).ctx = s.ctx := rfl
@[simp] theorem modPwr_shf (f : Pwr → Pwr) (s : State) : (modPwr f s).shf = s.shf := rfl
@[simp] theorem modPwr_upl (f : Pwr → Pwr) (s : State) : (modPwr f s).upl = s.upl := rfl
@[simp] theorem modPwr_stl (f : Pwr → Pwr) (s : State) : (modPwr f s).stl = s.stl := rfl
@[simp] theorem modPwr_dmc (f : Pwr → Pwr) (s : State) : (modPwr f s).dmc = s.dmc := rfl
@[simp] theorem modPwr_fls (f : Pwr → Pwr) (s : State) : (modPwr f s).fls = s.fls := rfl
@[simp] theorem modPwr_otp (f : Pwr → Pwr) (s : State) : (modPwr f s).otp = s.otp := rfl
@[simp] theorem modPwr_jnl (f : Pwr → Pwr) (s : State) : (modPwr f s).jnl = s.jnl := rfl
@[simp] theorem modPwr_cfg (f : Pwr → Pwr) (s : State) : (modPwr f s).cfg = s.cfg := rfl
@[simp] theorem modPwr_lpw (f : Pwr → Pwr) (s : State) : (modPwr f s).lpw = s.lpw := rfl
@[simp] theorem modPwr_mains (f : Pwr → Pwr) (s : State) : (modPwr f s).mains = s.mains := rfl
@[simp] theorem modPwr_hold (f : Pwr → Pwr) (s : State) : (modPwr f s).hold = s.hold := rfl
@[simp] theorem modPwr_bkp (f : Pwr → Pwr) (s : State) : (modPwr f s).bkp = s.bkp := rfl
@[simp] theorem modPwr_tap (f : Pwr → Pwr) (s : State) : (modPwr f s).tap = s.tap := rfl
@[simp] theorem modPwr_pending (f : Pwr → Pwr) (s : State) : (modPwr f s).pending = s.pending := rfl
@[simp] theorem modPwr_word (f : Pwr → Pwr) (s : State) (r : Nat) : (modPwr f s).word r = s.word r := rfl
@[simp] theorem modPwr_get (f : Pwr → Pwr) (s : State) (r : Fld) : (modPwr f s).get r = s.get r := rfl
@[simp] theorem modPwr_is (f : Pwr → Pwr) (s : State) (r : Fld) : (modPwr f s).is r = s.is r := rfl

/-! ### `modRim` -/

@[simp] theorem modRim_rim (f : Rim → Rim) (s : State) : (modRim f s).rim = f s.rim := rfl
@[simp] theorem modRim_variant (f : Rim → Rim) (s : State) : (modRim f s).variant = s.variant := rfl
@[simp] theorem modRim_mode (f : Rim → Rim) (s : State) : (modRim f s).mode = s.mode := rfl
@[simp] theorem modRim_cycles (f : Rim → Rim) (s : State) : (modRim f s).cycles = s.cycles := rfl
@[simp] theorem modRim_regs (f : Rim → Rim) (s : State) : (modRim f s).regs = s.regs := rfl
@[simp] theorem modRim_tim (f : Rim → Rim) (s : State) : (modRim f s).tim = s.tim := rfl
@[simp] theorem modRim_volt (f : Rim → Rim) (s : State) : (modRim f s).volt = s.volt := rfl
@[simp] theorem modRim_hdg (f : Rim → Rim) (s : State) : (modRim f s).hdg = s.hdg := rfl
@[simp] theorem modRim_app (f : Rim → Rim) (s : State) : (modRim f s).app = s.app := rfl
@[simp] theorem modRim_stalled (f : Rim → Rim) (s : State) : (modRim f s).stalled = s.stalled := rfl
@[simp] theorem modRim_resp (f : Rim → Rim) (s : State) : (modRim f s).resp = s.resp := rfl
@[simp] theorem modRim_sram (f : Rim → Rim) (s : State) : (modRim f s).sram = s.sram := rfl
@[simp] theorem modRim_lpwSram (f : Rim → Rim) (s : State) : (modRim f s).lpwSram = s.lpwSram := rfl
@[simp] theorem modRim_dram (f : Rim → Rim) (s : State) : (modRim f s).dram = s.dram := rfl
@[simp] theorem modRim_log (f : Rim → Rim) (s : State) : (modRim f s).log = s.log := rfl
@[simp] theorem modRim_logCount (f : Rim → Rim) (s : State) : (modRim f s).logCount = s.logCount := rfl
@[simp] theorem modRim_pwr (f : Rim → Rim) (s : State) : (modRim f s).pwr = s.pwr := rfl
@[simp] theorem modRim_alarms (f : Rim → Rim) (s : State) : (modRim f s).alarms = s.alarms := rfl
@[simp] theorem modRim_lnp (f : Rim → Rim) (s : State) : (modRim f s).lnp = s.lnp := rfl
@[simp] theorem modRim_cod (f : Rim → Rim) (s : State) : (modRim f s).cod = s.cod := rfl
@[simp] theorem modRim_inbox (f : Rim → Rim) (s : State) : (modRim f s).inbox = s.inbox := rfl
@[simp] theorem modRim_free (f : Rim → Rim) (s : State) : (modRim f s).free = s.free := rfl
@[simp] theorem modRim_lnk (f : Rim → Rim) (s : State) : (modRim f s).lnk = s.lnk := rfl
@[simp] theorem modRim_sec (f : Rim → Rim) (s : State) : (modRim f s).sec = s.sec := rfl
@[simp] theorem modRim_ctx (f : Rim → Rim) (s : State) : (modRim f s).ctx = s.ctx := rfl
@[simp] theorem modRim_shf (f : Rim → Rim) (s : State) : (modRim f s).shf = s.shf := rfl
@[simp] theorem modRim_upl (f : Rim → Rim) (s : State) : (modRim f s).upl = s.upl := rfl
@[simp] theorem modRim_stl (f : Rim → Rim) (s : State) : (modRim f s).stl = s.stl := rfl
@[simp] theorem modRim_dmc (f : Rim → Rim) (s : State) : (modRim f s).dmc = s.dmc := rfl
@[simp] theorem modRim_fls (f : Rim → Rim) (s : State) : (modRim f s).fls = s.fls := rfl
@[simp] theorem modRim_otp (f : Rim → Rim) (s : State) : (modRim f s).otp = s.otp := rfl
@[simp] theorem modRim_jnl (f : Rim → Rim) (s : State) : (modRim f s).jnl = s.jnl := rfl
@[simp] theorem modRim_cfg (f : Rim → Rim) (s : State) : (modRim f s).cfg = s.cfg := rfl
@[simp] theorem modRim_lpw (f : Rim → Rim) (s : State) : (modRim f s).lpw = s.lpw := rfl
@[simp] theorem modRim_mains (f : Rim → Rim) (s : State) : (modRim f s).mains = s.mains := rfl
@[simp] theorem modRim_hold (f : Rim → Rim) (s : State) : (modRim f s).hold = s.hold := rfl
@[simp] theorem modRim_bkp (f : Rim → Rim) (s : State) : (modRim f s).bkp = s.bkp := rfl
@[simp] theorem modRim_tap (f : Rim → Rim) (s : State) : (modRim f s).tap = s.tap := rfl
@[simp] theorem modRim_pending (f : Rim → Rim) (s : State) : (modRim f s).pending = s.pending := rfl
@[simp] theorem modRim_word (f : Rim → Rim) (s : State) (r : Nat) : (modRim f s).word r = s.word r := rfl
@[simp] theorem modRim_get (f : Rim → Rim) (s : State) (r : Fld) : (modRim f s).get r = s.get r := rfl
@[simp] theorem modRim_is (f : Rim → Rim) (s : State) (r : Fld) : (modRim f s).is r = s.is r := rfl

/-! ### `modShf` -/

@[simp] theorem modShf_shf (f : Shf → Shf) (s : State) : (modShf f s).shf = f s.shf := rfl
@[simp] theorem modShf_variant (f : Shf → Shf) (s : State) : (modShf f s).variant = s.variant := rfl
@[simp] theorem modShf_mode (f : Shf → Shf) (s : State) : (modShf f s).mode = s.mode := rfl
@[simp] theorem modShf_cycles (f : Shf → Shf) (s : State) : (modShf f s).cycles = s.cycles := rfl
@[simp] theorem modShf_regs (f : Shf → Shf) (s : State) : (modShf f s).regs = s.regs := rfl
@[simp] theorem modShf_tim (f : Shf → Shf) (s : State) : (modShf f s).tim = s.tim := rfl
@[simp] theorem modShf_volt (f : Shf → Shf) (s : State) : (modShf f s).volt = s.volt := rfl
@[simp] theorem modShf_hdg (f : Shf → Shf) (s : State) : (modShf f s).hdg = s.hdg := rfl
@[simp] theorem modShf_app (f : Shf → Shf) (s : State) : (modShf f s).app = s.app := rfl
@[simp] theorem modShf_stalled (f : Shf → Shf) (s : State) : (modShf f s).stalled = s.stalled := rfl
@[simp] theorem modShf_resp (f : Shf → Shf) (s : State) : (modShf f s).resp = s.resp := rfl
@[simp] theorem modShf_sram (f : Shf → Shf) (s : State) : (modShf f s).sram = s.sram := rfl
@[simp] theorem modShf_lpwSram (f : Shf → Shf) (s : State) : (modShf f s).lpwSram = s.lpwSram := rfl
@[simp] theorem modShf_dram (f : Shf → Shf) (s : State) : (modShf f s).dram = s.dram := rfl
@[simp] theorem modShf_log (f : Shf → Shf) (s : State) : (modShf f s).log = s.log := rfl
@[simp] theorem modShf_logCount (f : Shf → Shf) (s : State) : (modShf f s).logCount = s.logCount := rfl
@[simp] theorem modShf_pwr (f : Shf → Shf) (s : State) : (modShf f s).pwr = s.pwr := rfl
@[simp] theorem modShf_alarms (f : Shf → Shf) (s : State) : (modShf f s).alarms = s.alarms := rfl
@[simp] theorem modShf_rim (f : Shf → Shf) (s : State) : (modShf f s).rim = s.rim := rfl
@[simp] theorem modShf_lnp (f : Shf → Shf) (s : State) : (modShf f s).lnp = s.lnp := rfl
@[simp] theorem modShf_cod (f : Shf → Shf) (s : State) : (modShf f s).cod = s.cod := rfl
@[simp] theorem modShf_inbox (f : Shf → Shf) (s : State) : (modShf f s).inbox = s.inbox := rfl
@[simp] theorem modShf_free (f : Shf → Shf) (s : State) : (modShf f s).free = s.free := rfl
@[simp] theorem modShf_lnk (f : Shf → Shf) (s : State) : (modShf f s).lnk = s.lnk := rfl
@[simp] theorem modShf_sec (f : Shf → Shf) (s : State) : (modShf f s).sec = s.sec := rfl
@[simp] theorem modShf_ctx (f : Shf → Shf) (s : State) : (modShf f s).ctx = s.ctx := rfl
@[simp] theorem modShf_upl (f : Shf → Shf) (s : State) : (modShf f s).upl = s.upl := rfl
@[simp] theorem modShf_stl (f : Shf → Shf) (s : State) : (modShf f s).stl = s.stl := rfl
@[simp] theorem modShf_dmc (f : Shf → Shf) (s : State) : (modShf f s).dmc = s.dmc := rfl
@[simp] theorem modShf_fls (f : Shf → Shf) (s : State) : (modShf f s).fls = s.fls := rfl
@[simp] theorem modShf_otp (f : Shf → Shf) (s : State) : (modShf f s).otp = s.otp := rfl
@[simp] theorem modShf_jnl (f : Shf → Shf) (s : State) : (modShf f s).jnl = s.jnl := rfl
@[simp] theorem modShf_cfg (f : Shf → Shf) (s : State) : (modShf f s).cfg = s.cfg := rfl
@[simp] theorem modShf_lpw (f : Shf → Shf) (s : State) : (modShf f s).lpw = s.lpw := rfl
@[simp] theorem modShf_mains (f : Shf → Shf) (s : State) : (modShf f s).mains = s.mains := rfl
@[simp] theorem modShf_hold (f : Shf → Shf) (s : State) : (modShf f s).hold = s.hold := rfl
@[simp] theorem modShf_bkp (f : Shf → Shf) (s : State) : (modShf f s).bkp = s.bkp := rfl
@[simp] theorem modShf_tap (f : Shf → Shf) (s : State) : (modShf f s).tap = s.tap := rfl
@[simp] theorem modShf_pending (f : Shf → Shf) (s : State) : (modShf f s).pending = s.pending := rfl
@[simp] theorem modShf_word (f : Shf → Shf) (s : State) (r : Nat) : (modShf f s).word r = s.word r := rfl
@[simp] theorem modShf_get (f : Shf → Shf) (s : State) (r : Fld) : (modShf f s).get r = s.get r := rfl
@[simp] theorem modShf_is (f : Shf → Shf) (s : State) (r : Fld) : (modShf f s).is r = s.is r := rfl

/-! ### `modTap` -/

@[simp] theorem modTap_tap (f : Tap → Tap) (s : State) : (modTap f s).tap = f s.tap := rfl
@[simp] theorem modTap_variant (f : Tap → Tap) (s : State) : (modTap f s).variant = s.variant := rfl
@[simp] theorem modTap_mode (f : Tap → Tap) (s : State) : (modTap f s).mode = s.mode := rfl
@[simp] theorem modTap_cycles (f : Tap → Tap) (s : State) : (modTap f s).cycles = s.cycles := rfl
@[simp] theorem modTap_regs (f : Tap → Tap) (s : State) : (modTap f s).regs = s.regs := rfl
@[simp] theorem modTap_tim (f : Tap → Tap) (s : State) : (modTap f s).tim = s.tim := rfl
@[simp] theorem modTap_volt (f : Tap → Tap) (s : State) : (modTap f s).volt = s.volt := rfl
@[simp] theorem modTap_hdg (f : Tap → Tap) (s : State) : (modTap f s).hdg = s.hdg := rfl
@[simp] theorem modTap_app (f : Tap → Tap) (s : State) : (modTap f s).app = s.app := rfl
@[simp] theorem modTap_stalled (f : Tap → Tap) (s : State) : (modTap f s).stalled = s.stalled := rfl
@[simp] theorem modTap_resp (f : Tap → Tap) (s : State) : (modTap f s).resp = s.resp := rfl
@[simp] theorem modTap_sram (f : Tap → Tap) (s : State) : (modTap f s).sram = s.sram := rfl
@[simp] theorem modTap_lpwSram (f : Tap → Tap) (s : State) : (modTap f s).lpwSram = s.lpwSram := rfl
@[simp] theorem modTap_dram (f : Tap → Tap) (s : State) : (modTap f s).dram = s.dram := rfl
@[simp] theorem modTap_log (f : Tap → Tap) (s : State) : (modTap f s).log = s.log := rfl
@[simp] theorem modTap_logCount (f : Tap → Tap) (s : State) : (modTap f s).logCount = s.logCount := rfl
@[simp] theorem modTap_pwr (f : Tap → Tap) (s : State) : (modTap f s).pwr = s.pwr := rfl
@[simp] theorem modTap_alarms (f : Tap → Tap) (s : State) : (modTap f s).alarms = s.alarms := rfl
@[simp] theorem modTap_rim (f : Tap → Tap) (s : State) : (modTap f s).rim = s.rim := rfl
@[simp] theorem modTap_lnp (f : Tap → Tap) (s : State) : (modTap f s).lnp = s.lnp := rfl
@[simp] theorem modTap_cod (f : Tap → Tap) (s : State) : (modTap f s).cod = s.cod := rfl
@[simp] theorem modTap_inbox (f : Tap → Tap) (s : State) : (modTap f s).inbox = s.inbox := rfl
@[simp] theorem modTap_free (f : Tap → Tap) (s : State) : (modTap f s).free = s.free := rfl
@[simp] theorem modTap_lnk (f : Tap → Tap) (s : State) : (modTap f s).lnk = s.lnk := rfl
@[simp] theorem modTap_sec (f : Tap → Tap) (s : State) : (modTap f s).sec = s.sec := rfl
@[simp] theorem modTap_ctx (f : Tap → Tap) (s : State) : (modTap f s).ctx = s.ctx := rfl
@[simp] theorem modTap_shf (f : Tap → Tap) (s : State) : (modTap f s).shf = s.shf := rfl
@[simp] theorem modTap_upl (f : Tap → Tap) (s : State) : (modTap f s).upl = s.upl := rfl
@[simp] theorem modTap_stl (f : Tap → Tap) (s : State) : (modTap f s).stl = s.stl := rfl
@[simp] theorem modTap_dmc (f : Tap → Tap) (s : State) : (modTap f s).dmc = s.dmc := rfl
@[simp] theorem modTap_fls (f : Tap → Tap) (s : State) : (modTap f s).fls = s.fls := rfl
@[simp] theorem modTap_otp (f : Tap → Tap) (s : State) : (modTap f s).otp = s.otp := rfl
@[simp] theorem modTap_jnl (f : Tap → Tap) (s : State) : (modTap f s).jnl = s.jnl := rfl
@[simp] theorem modTap_cfg (f : Tap → Tap) (s : State) : (modTap f s).cfg = s.cfg := rfl
@[simp] theorem modTap_lpw (f : Tap → Tap) (s : State) : (modTap f s).lpw = s.lpw := rfl
@[simp] theorem modTap_mains (f : Tap → Tap) (s : State) : (modTap f s).mains = s.mains := rfl
@[simp] theorem modTap_hold (f : Tap → Tap) (s : State) : (modTap f s).hold = s.hold := rfl
@[simp] theorem modTap_bkp (f : Tap → Tap) (s : State) : (modTap f s).bkp = s.bkp := rfl
@[simp] theorem modTap_pending (f : Tap → Tap) (s : State) : (modTap f s).pending = s.pending := rfl
@[simp] theorem modTap_word (f : Tap → Tap) (s : State) (r : Nat) : (modTap f s).word r = s.word r := rfl
@[simp] theorem modTap_get (f : Tap → Tap) (s : State) (r : Fld) : (modTap f s).get r = s.get r := rfl
@[simp] theorem modTap_is (f : Tap → Tap) (s : State) (r : Fld) : (modTap f s).is r = s.is r := rfl

/-! ### `modTim` -/

@[simp] theorem modTim_tim (f : Tim → Tim) (s : State) : (modTim f s).tim = f s.tim := rfl
@[simp] theorem modTim_variant (f : Tim → Tim) (s : State) : (modTim f s).variant = s.variant := rfl
@[simp] theorem modTim_mode (f : Tim → Tim) (s : State) : (modTim f s).mode = s.mode := rfl
@[simp] theorem modTim_cycles (f : Tim → Tim) (s : State) : (modTim f s).cycles = s.cycles := rfl
@[simp] theorem modTim_regs (f : Tim → Tim) (s : State) : (modTim f s).regs = s.regs := rfl
@[simp] theorem modTim_volt (f : Tim → Tim) (s : State) : (modTim f s).volt = s.volt := rfl
@[simp] theorem modTim_hdg (f : Tim → Tim) (s : State) : (modTim f s).hdg = s.hdg := rfl
@[simp] theorem modTim_app (f : Tim → Tim) (s : State) : (modTim f s).app = s.app := rfl
@[simp] theorem modTim_stalled (f : Tim → Tim) (s : State) : (modTim f s).stalled = s.stalled := rfl
@[simp] theorem modTim_resp (f : Tim → Tim) (s : State) : (modTim f s).resp = s.resp := rfl
@[simp] theorem modTim_sram (f : Tim → Tim) (s : State) : (modTim f s).sram = s.sram := rfl
@[simp] theorem modTim_lpwSram (f : Tim → Tim) (s : State) : (modTim f s).lpwSram = s.lpwSram := rfl
@[simp] theorem modTim_dram (f : Tim → Tim) (s : State) : (modTim f s).dram = s.dram := rfl
@[simp] theorem modTim_log (f : Tim → Tim) (s : State) : (modTim f s).log = s.log := rfl
@[simp] theorem modTim_logCount (f : Tim → Tim) (s : State) : (modTim f s).logCount = s.logCount := rfl
@[simp] theorem modTim_pwr (f : Tim → Tim) (s : State) : (modTim f s).pwr = s.pwr := rfl
@[simp] theorem modTim_alarms (f : Tim → Tim) (s : State) : (modTim f s).alarms = s.alarms := rfl
@[simp] theorem modTim_rim (f : Tim → Tim) (s : State) : (modTim f s).rim = s.rim := rfl
@[simp] theorem modTim_lnp (f : Tim → Tim) (s : State) : (modTim f s).lnp = s.lnp := rfl
@[simp] theorem modTim_cod (f : Tim → Tim) (s : State) : (modTim f s).cod = s.cod := rfl
@[simp] theorem modTim_inbox (f : Tim → Tim) (s : State) : (modTim f s).inbox = s.inbox := rfl
@[simp] theorem modTim_free (f : Tim → Tim) (s : State) : (modTim f s).free = s.free := rfl
@[simp] theorem modTim_lnk (f : Tim → Tim) (s : State) : (modTim f s).lnk = s.lnk := rfl
@[simp] theorem modTim_sec (f : Tim → Tim) (s : State) : (modTim f s).sec = s.sec := rfl
@[simp] theorem modTim_ctx (f : Tim → Tim) (s : State) : (modTim f s).ctx = s.ctx := rfl
@[simp] theorem modTim_shf (f : Tim → Tim) (s : State) : (modTim f s).shf = s.shf := rfl
@[simp] theorem modTim_upl (f : Tim → Tim) (s : State) : (modTim f s).upl = s.upl := rfl
@[simp] theorem modTim_stl (f : Tim → Tim) (s : State) : (modTim f s).stl = s.stl := rfl
@[simp] theorem modTim_dmc (f : Tim → Tim) (s : State) : (modTim f s).dmc = s.dmc := rfl
@[simp] theorem modTim_fls (f : Tim → Tim) (s : State) : (modTim f s).fls = s.fls := rfl
@[simp] theorem modTim_otp (f : Tim → Tim) (s : State) : (modTim f s).otp = s.otp := rfl
@[simp] theorem modTim_jnl (f : Tim → Tim) (s : State) : (modTim f s).jnl = s.jnl := rfl
@[simp] theorem modTim_cfg (f : Tim → Tim) (s : State) : (modTim f s).cfg = s.cfg := rfl
@[simp] theorem modTim_lpw (f : Tim → Tim) (s : State) : (modTim f s).lpw = s.lpw := rfl
@[simp] theorem modTim_mains (f : Tim → Tim) (s : State) : (modTim f s).mains = s.mains := rfl
@[simp] theorem modTim_hold (f : Tim → Tim) (s : State) : (modTim f s).hold = s.hold := rfl
@[simp] theorem modTim_bkp (f : Tim → Tim) (s : State) : (modTim f s).bkp = s.bkp := rfl
@[simp] theorem modTim_tap (f : Tim → Tim) (s : State) : (modTim f s).tap = s.tap := rfl
@[simp] theorem modTim_pending (f : Tim → Tim) (s : State) : (modTim f s).pending = s.pending := rfl
@[simp] theorem modTim_word (f : Tim → Tim) (s : State) (r : Nat) : (modTim f s).word r = s.word r := rfl
@[simp] theorem modTim_get (f : Tim → Tim) (s : State) (r : Fld) : (modTim f s).get r = s.get r := rfl
@[simp] theorem modTim_is (f : Tim → Tim) (s : State) (r : Fld) : (modTim f s).is r = s.is r := rfl

/-! ### `modCod` -/

@[simp] theorem modCod_cod (f : Cod → Cod) (s : State) : (modCod f s).cod = f s.cod := rfl
@[simp] theorem modCod_variant (f : Cod → Cod) (s : State) : (modCod f s).variant = s.variant := rfl
@[simp] theorem modCod_mode (f : Cod → Cod) (s : State) : (modCod f s).mode = s.mode := rfl
@[simp] theorem modCod_cycles (f : Cod → Cod) (s : State) : (modCod f s).cycles = s.cycles := rfl
@[simp] theorem modCod_regs (f : Cod → Cod) (s : State) : (modCod f s).regs = s.regs := rfl
@[simp] theorem modCod_tim (f : Cod → Cod) (s : State) : (modCod f s).tim = s.tim := rfl
@[simp] theorem modCod_volt (f : Cod → Cod) (s : State) : (modCod f s).volt = s.volt := rfl
@[simp] theorem modCod_hdg (f : Cod → Cod) (s : State) : (modCod f s).hdg = s.hdg := rfl
@[simp] theorem modCod_app (f : Cod → Cod) (s : State) : (modCod f s).app = s.app := rfl
@[simp] theorem modCod_stalled (f : Cod → Cod) (s : State) : (modCod f s).stalled = s.stalled := rfl
@[simp] theorem modCod_resp (f : Cod → Cod) (s : State) : (modCod f s).resp = s.resp := rfl
@[simp] theorem modCod_sram (f : Cod → Cod) (s : State) : (modCod f s).sram = s.sram := rfl
@[simp] theorem modCod_lpwSram (f : Cod → Cod) (s : State) : (modCod f s).lpwSram = s.lpwSram := rfl
@[simp] theorem modCod_dram (f : Cod → Cod) (s : State) : (modCod f s).dram = s.dram := rfl
@[simp] theorem modCod_log (f : Cod → Cod) (s : State) : (modCod f s).log = s.log := rfl
@[simp] theorem modCod_logCount (f : Cod → Cod) (s : State) : (modCod f s).logCount = s.logCount := rfl
@[simp] theorem modCod_pwr (f : Cod → Cod) (s : State) : (modCod f s).pwr = s.pwr := rfl
@[simp] theorem modCod_alarms (f : Cod → Cod) (s : State) : (modCod f s).alarms = s.alarms := rfl
@[simp] theorem modCod_rim (f : Cod → Cod) (s : State) : (modCod f s).rim = s.rim := rfl
@[simp] theorem modCod_lnp (f : Cod → Cod) (s : State) : (modCod f s).lnp = s.lnp := rfl
@[simp] theorem modCod_inbox (f : Cod → Cod) (s : State) : (modCod f s).inbox = s.inbox := rfl
@[simp] theorem modCod_free (f : Cod → Cod) (s : State) : (modCod f s).free = s.free := rfl
@[simp] theorem modCod_lnk (f : Cod → Cod) (s : State) : (modCod f s).lnk = s.lnk := rfl
@[simp] theorem modCod_sec (f : Cod → Cod) (s : State) : (modCod f s).sec = s.sec := rfl
@[simp] theorem modCod_ctx (f : Cod → Cod) (s : State) : (modCod f s).ctx = s.ctx := rfl
@[simp] theorem modCod_shf (f : Cod → Cod) (s : State) : (modCod f s).shf = s.shf := rfl
@[simp] theorem modCod_upl (f : Cod → Cod) (s : State) : (modCod f s).upl = s.upl := rfl
@[simp] theorem modCod_stl (f : Cod → Cod) (s : State) : (modCod f s).stl = s.stl := rfl
@[simp] theorem modCod_dmc (f : Cod → Cod) (s : State) : (modCod f s).dmc = s.dmc := rfl
@[simp] theorem modCod_fls (f : Cod → Cod) (s : State) : (modCod f s).fls = s.fls := rfl
@[simp] theorem modCod_otp (f : Cod → Cod) (s : State) : (modCod f s).otp = s.otp := rfl
@[simp] theorem modCod_jnl (f : Cod → Cod) (s : State) : (modCod f s).jnl = s.jnl := rfl
@[simp] theorem modCod_cfg (f : Cod → Cod) (s : State) : (modCod f s).cfg = s.cfg := rfl
@[simp] theorem modCod_lpw (f : Cod → Cod) (s : State) : (modCod f s).lpw = s.lpw := rfl
@[simp] theorem modCod_mains (f : Cod → Cod) (s : State) : (modCod f s).mains = s.mains := rfl
@[simp] theorem modCod_hold (f : Cod → Cod) (s : State) : (modCod f s).hold = s.hold := rfl
@[simp] theorem modCod_bkp (f : Cod → Cod) (s : State) : (modCod f s).bkp = s.bkp := rfl
@[simp] theorem modCod_tap (f : Cod → Cod) (s : State) : (modCod f s).tap = s.tap := rfl
@[simp] theorem modCod_pending (f : Cod → Cod) (s : State) : (modCod f s).pending = s.pending := rfl
@[simp] theorem modCod_word (f : Cod → Cod) (s : State) (r : Nat) : (modCod f s).word r = s.word r := rfl
@[simp] theorem modCod_get (f : Cod → Cod) (s : State) (r : Fld) : (modCod f s).get r = s.get r := rfl
@[simp] theorem modCod_is (f : Cod → Cod) (s : State) (r : Fld) : (modCod f s).is r = s.is r := rfl

/-! ### `modVolt` -/

@[simp] theorem modVolt_volt (f : Volt → Volt) (s : State) : (modVolt f s).volt = f s.volt := rfl
@[simp] theorem modVolt_variant (f : Volt → Volt) (s : State) : (modVolt f s).variant = s.variant := rfl
@[simp] theorem modVolt_mode (f : Volt → Volt) (s : State) : (modVolt f s).mode = s.mode := rfl
@[simp] theorem modVolt_cycles (f : Volt → Volt) (s : State) : (modVolt f s).cycles = s.cycles := rfl
@[simp] theorem modVolt_regs (f : Volt → Volt) (s : State) : (modVolt f s).regs = s.regs := rfl
@[simp] theorem modVolt_tim (f : Volt → Volt) (s : State) : (modVolt f s).tim = s.tim := rfl
@[simp] theorem modVolt_hdg (f : Volt → Volt) (s : State) : (modVolt f s).hdg = s.hdg := rfl
@[simp] theorem modVolt_app (f : Volt → Volt) (s : State) : (modVolt f s).app = s.app := rfl
@[simp] theorem modVolt_stalled (f : Volt → Volt) (s : State) : (modVolt f s).stalled = s.stalled := rfl
@[simp] theorem modVolt_resp (f : Volt → Volt) (s : State) : (modVolt f s).resp = s.resp := rfl
@[simp] theorem modVolt_sram (f : Volt → Volt) (s : State) : (modVolt f s).sram = s.sram := rfl
@[simp] theorem modVolt_lpwSram (f : Volt → Volt) (s : State) : (modVolt f s).lpwSram = s.lpwSram := rfl
@[simp] theorem modVolt_dram (f : Volt → Volt) (s : State) : (modVolt f s).dram = s.dram := rfl
@[simp] theorem modVolt_log (f : Volt → Volt) (s : State) : (modVolt f s).log = s.log := rfl
@[simp] theorem modVolt_logCount (f : Volt → Volt) (s : State) : (modVolt f s).logCount = s.logCount := rfl
@[simp] theorem modVolt_pwr (f : Volt → Volt) (s : State) : (modVolt f s).pwr = s.pwr := rfl
@[simp] theorem modVolt_alarms (f : Volt → Volt) (s : State) : (modVolt f s).alarms = s.alarms := rfl
@[simp] theorem modVolt_rim (f : Volt → Volt) (s : State) : (modVolt f s).rim = s.rim := rfl
@[simp] theorem modVolt_lnp (f : Volt → Volt) (s : State) : (modVolt f s).lnp = s.lnp := rfl
@[simp] theorem modVolt_cod (f : Volt → Volt) (s : State) : (modVolt f s).cod = s.cod := rfl
@[simp] theorem modVolt_inbox (f : Volt → Volt) (s : State) : (modVolt f s).inbox = s.inbox := rfl
@[simp] theorem modVolt_free (f : Volt → Volt) (s : State) : (modVolt f s).free = s.free := rfl
@[simp] theorem modVolt_lnk (f : Volt → Volt) (s : State) : (modVolt f s).lnk = s.lnk := rfl
@[simp] theorem modVolt_sec (f : Volt → Volt) (s : State) : (modVolt f s).sec = s.sec := rfl
@[simp] theorem modVolt_ctx (f : Volt → Volt) (s : State) : (modVolt f s).ctx = s.ctx := rfl
@[simp] theorem modVolt_shf (f : Volt → Volt) (s : State) : (modVolt f s).shf = s.shf := rfl
@[simp] theorem modVolt_upl (f : Volt → Volt) (s : State) : (modVolt f s).upl = s.upl := rfl
@[simp] theorem modVolt_stl (f : Volt → Volt) (s : State) : (modVolt f s).stl = s.stl := rfl
@[simp] theorem modVolt_dmc (f : Volt → Volt) (s : State) : (modVolt f s).dmc = s.dmc := rfl
@[simp] theorem modVolt_fls (f : Volt → Volt) (s : State) : (modVolt f s).fls = s.fls := rfl
@[simp] theorem modVolt_otp (f : Volt → Volt) (s : State) : (modVolt f s).otp = s.otp := rfl
@[simp] theorem modVolt_jnl (f : Volt → Volt) (s : State) : (modVolt f s).jnl = s.jnl := rfl
@[simp] theorem modVolt_cfg (f : Volt → Volt) (s : State) : (modVolt f s).cfg = s.cfg := rfl
@[simp] theorem modVolt_lpw (f : Volt → Volt) (s : State) : (modVolt f s).lpw = s.lpw := rfl
@[simp] theorem modVolt_mains (f : Volt → Volt) (s : State) : (modVolt f s).mains = s.mains := rfl
@[simp] theorem modVolt_hold (f : Volt → Volt) (s : State) : (modVolt f s).hold = s.hold := rfl
@[simp] theorem modVolt_bkp (f : Volt → Volt) (s : State) : (modVolt f s).bkp = s.bkp := rfl
@[simp] theorem modVolt_tap (f : Volt → Volt) (s : State) : (modVolt f s).tap = s.tap := rfl
@[simp] theorem modVolt_pending (f : Volt → Volt) (s : State) : (modVolt f s).pending = s.pending := rfl
@[simp] theorem modVolt_word (f : Volt → Volt) (s : State) (r : Nat) : (modVolt f s).word r = s.word r := rfl
@[simp] theorem modVolt_get (f : Volt → Volt) (s : State) (r : Fld) : (modVolt f s).get r = s.get r := rfl
@[simp] theorem modVolt_is (f : Volt → Volt) (s : State) (r : Fld) : (modVolt f s).is r = s.is r := rfl

end Sys2Proof.Machine
end

