-- ==== Sys2Proof/Laws/Bus.lean ====
section
/-!
SUPPORT. How an access on the bus finds its register, and what a write of a register passes through.
-/

namespace Sys2Proof.Machine

/-- An access within the register windows is one of its register. -/
theorem route_register (a : Nat) (acc : Access) (h0 : 0x20000000 ≤ a) (h1 : a + acc.bytes ≤ 0x20140000) (t : State) :
    t.route a acc.bytes = .register a := by
  unfold State.route
  simp only [decide_eq_true_eq]
  rw [if_neg (by omega), if_neg (by omega), if_neg (by omega), if_neg (by omega), if_neg (by omega),
    if_neg (by omega), if_pos (by omega)]

/-- A write of a register passes the checks of the bus once; only a bank of one bit per channel meets a masked word. -/
theorem registerWrite_access (acc : Access) (a : Nat) (w : Word) (t : State) :
    ∃ w' serve, (¬(0x20070100 ≤ a ∧ a < 0x20070160) → w' = w) ∧
      registerWrite acc a w t = access acc a (some w') serve t := by
  unfold registerWrite
  split
  · exact ⟨_, _, fun _ => rfl, by rfl⟩
  split
  · exact ⟨_, _, fun _ => rfl, by rfl⟩
  split
  · rename_i hb; unfold writeRow; exact ⟨_, _, fun h => absurd hb h, by rfl⟩
  split
  · exact ⟨_, _, fun _ => rfl, by rfl⟩
  split
  · subst_vars; unfold cmdWrite; exact ⟨_, _, fun _ => rfl, by rfl⟩
  split
  · subst_vars; unfold cmdWrite; exact ⟨_, _, fun _ => rfl, by rfl⟩
  split
  · exact ⟨_, _, fun _ => rfl, by rfl⟩
  split
  · exact ⟨_, _, fun _ => rfl, by rfl⟩
  split
  · unfold writeMirrored; exact ⟨_, _, fun _ => rfl, by rfl⟩
  · exact ⟨_, _, fun _ => rfl, by rfl⟩

/-- A write of a register without a row of its own that acts before its fields are written. -/
theorem registerWrite_plain (acc : Access) (a : Nat) (w : Word) (t : State) (h2 : a ≠ 0x20070000) (h3 : a ≠ 0x20070004)
    (h4 : ¬(0x20070100 ≤ a ∧ a < 0x20070160)) (h5 : a ≠ 0x2007001C) (h6 : a ≠ 0x200A0100) (h7 : a ≠ 0x200A0120)
    (h8 : ¬(0x20101000 ≤ a ∧ a < 0x20101800 ∧ (a % 0x20 = 0x14 ∨ a % 0x20 = 0x18)))
    (m : mirroredRegister a = false) :
    registerWrite acc a w t = access acc a (some w) (fun t =>
      writeEffect acc a (t.word a) w t (settleWord a (t.word a) (plainWrite a w t))) t := by
  unfold registerWrite
  rw [if_neg (by simpa [fireAddr] using h2), if_neg (by simpa [fireAddr] using h3), if_neg h4, if_neg h5,
    if_neg (by simpa [cmdAddr] using h6), if_neg (by simpa [cmdAddr] using h7), if_neg (by omega), if_neg (by omega)]
  simp only [m, Bool.false_eq_true, if_false]

/-- A write of a register that Stile mirrors. -/
theorem registerWrite_mirrored (acc : Access) (a : Nat) (w : Word) (t : State) (m : mirroredRegister a = true) :
    registerWrite acc a w t =
      writeMirrored acc a w (fun old t => mirroredEffect a old (settleWord a old t)) t := by
  have hm := m
  simp only [mirroredRegister, Bool.or_eq_true, beq_iff_eq, decide_eq_true_eq] at hm
  unfold registerWrite
  rw [if_neg (by simp [fireAddr]; omega), if_neg (by simp [fireAddr]; omega), if_neg (by omega), if_neg (by omega),
    if_neg (by simp [cmdAddr]; omega), if_neg (by simp [cmdAddr]; omega), if_neg (by omega), if_neg (by omega)]
  simp only [m, if_true]

end Sys2Proof.Machine
end

