-- ==== Sys2Proof/Laws/Memory.lean ====
section
/-!
SUPPORT. Every operation over a memory keeps its canonical form, the memories have it at reset, and a write to DRAM leaves
every other byte alone.
-/

namespace Sys2Proof.Machine

/-- The three memories of the part are in canonical form. -/
abbrev State.memoriesWf (s : State) : Prop :=
  Memory.wf s.sram = true ∧ Memory.wf s.lpwSram = true ∧ Memory.wf s.dram = true

theorem reset_memoriesWf : State.reset.memoriesWf := by decide

theorem dramPut_wf (o : Nat) (os : Octets) (s : State) (h : s.memoriesWf) : (dramPut o os s).memoriesWf :=
  ⟨h.1, h.2.1, Sparse.wf_putRun blankByte os s.dram o h.2.2⟩

/-- A write by a 40-bit address keeps every memory's canonical form. -/
theorem memPut_wf (a : Nat) (os : Octets) (s : State) (h : s.memoriesWf) : (memPut a os s).memoriesWf := by
  unfold memPut
  split
  · exact dramPut_wf _ _ _ h
  · exact ⟨Sparse.wf_putRun blankByte os s.sram _ h.1, h.2.1, h.2.2⟩
  · exact ⟨h.1, Sparse.wf_putRun blankByte os s.lpwSram _ h.2.1, h.2.2⟩
  · unfold onlyIf; split <;> exact h

/-- A byte of DRAM outside the bytes written reads as before. -/
theorem dramPut_get_other (o : Nat) (os : Octets) (s : State) (b : Nat) (h : b < o ∨ o + os.length ≤ b) :
    Sparse.get blankByte (dramPut o os s).dram b = Sparse.get blankByte s.dram b :=
  Sparse.get_putRun_other blankByte os s.dram o b h

/-- A write by a 40-bit address writes one memory, or none. -/
theorem memPut_cases (a : Nat) (os : Octets) (s : State) :
    (∃ o, s.locate a os.length = some (.dram, o) ∧ memPut a os s = dramPut o os s) ∨
    (∃ o, s.locate a os.length = some (.sram, o) ∧ memPut a os s =
      clearReservations a os.length { s with sram := Sparse.putRun blankByte s.sram o os }) ∨
    (∃ o, s.locate a os.length = some (.lpwSram, o) ∧ memPut a os s =
      { s with lpwSram := Sparse.putRun blankByte s.lpwSram o os }) ∨
    (s.locate a os.length = none ∧ s.namesMemory a os.length = false ∧ memPut a os s = raise DMC_INT_STAT_ADDRERR s) ∨
    (s.locate a os.length = none ∧ s.namesMemory a os.length = true ∧ memPut a os s = s) := by
  unfold memPut
  split
  · rename_i o ho; exact .inl ⟨o, ho, rfl⟩
  · rename_i o ho; exact .inr (.inl ⟨o, ho, rfl⟩)
  · rename_i o ho; exact .inr (.inr (.inl ⟨o, ho, rfl⟩))
  · rename_i ho
    cases hb : s.namesMemory a os.length
    · exact .inr (.inr (.inr (.inl ⟨ho, rfl, by simp⟩)))
    · exact .inr (.inr (.inr (.inr ⟨ho, rfl, by simp⟩)))

/-- A write of memory takes no time of the model. -/
@[simp] theorem memPut_cycles (a : Nat) (os : Octets) (s : State) : (memPut a os s).cycles = s.cycles := by
  rcases memPut_cases a os s with ⟨o, _, h⟩ | ⟨o, _, h⟩ | ⟨o, _, h⟩ | ⟨_, _, h⟩ | ⟨_, _, h⟩ <;> rw [h] <;> rfl

/-! ### Transfers that engines make for themselves -/

/-- The three memories of the part and its clock. -/
def State.memories (s : State) : List Host.Cell × List Host.Cell × List Host.Cell × Nat := (s.sram, s.lpwSram, s.dram, s.cycles)

@[simp] theorem set_memories (f : Fld) (v : Nat) (s : State) : (s.set f v).memories = s.memories := (rfl)
@[simp] theorem raise_memories (f : Fld) (s : State) : (raise f s).memories = s.memories := (rfl)
@[simp] theorem count_memories (f : Fld) (n : Nat) (s : State) : (count f n s).memories = s.memories := (rfl)
@[simp] theorem raiseTo_memories (f : Fld) (n : Nat) (s : State) : (raiseTo f n s).memories = s.memories := (rfl)
@[simp] theorem emit_memories (i h : Nat) (s : State) : (emit i h s).memories = s.memories := (rfl)
@[simp] theorem modPwr_memories (f : Pwr → Pwr) (s : State) : (modPwr f s).memories = s.memories := (rfl)
@[simp] theorem modDmc_memories (f : Dmc → Dmc) (s : State) : (modDmc f s).memories = s.memories := (rfl)
@[simp] theorem useFree_memories (s : State) : (useFree s).memories = s.memories := (rfl)
@[simp] theorem resp_memories (r : Resp) (s : State) : State.memories { s with resp := r } = s.memories := (rfl)

/-- What keeps the memories at each turn keeps them over a list. -/
theorem forEach_memories {α : Type} (l : List α) (f : α → State → State) (h : ∀ x s, (f x s).memories = s.memories)
    (s : State) : (forEach l f s).memories = s.memories := by
  induction l generalizing s with
  | nil => rfl
  | cons x l ih => exact (ih (f x s)).trans (h x s)

theorem onlyIf_memories (c : Bool) (f : State → State) (h : ∀ s, (f s).memories = s.memories) (s : State) :
    (onlyIf c f s).memories = s.memories := by
  unfold onlyIf; split
  · exact h s
  · rfl

@[simp] theorem beginWake_memories (d : Nat) (c : Nat × Nat) (s : State) : (beginWake d c s).memories = s.memories := by
  unfold beginWake; split <;> split <;> simp

@[simp] theorem freeMembers_memories (g : Nat) (s : State) : (freeMembers g s).memories = s.memories :=
  forEach_memories _ _ (fun d t => (onlyIf_memories _ _ (beginWake_memories d _) _).trans (by simp)) s

@[simp] theorem refuseGroup_memories (g d r : Nat) (late : Bool) (s : State) :
    (refuseGroup g d r late s).memories = s.memories := by
  simp [refuseGroup]

@[simp] theorem restartNext_memories (g : Nat) (s : State) : (restartNext g s).memories = s.memories := by
  unfold restartNext; split <;> simp

@[simp] theorem lateRefusal_memories (g d r : Nat) (s : State) : (lateRefusal g d r s).memories = s.memories := by
  unfold lateRefusal; split
  · rfl
  · dsimp only; split <;> simp

@[simp] theorem groupAccess_memories (d : Nat) (s : State) : (groupAccess d s).memories = s.memories := by
  unfold groupAccess
  split
  · split
    · rfl
    · split
      · exact onlyIf_memories _ _ (refuseGroup_memories _ d 6 false) s
      · split <;> simp
  · rfl

/-- Work for a domain changes no memory. -/
@[simp] theorem workFor_memories (d : Nat) (c : WakeCause) (s : State) : (workFor d c s).memories = s.memories := by
  unfold workFor wakeFor useDomain; dsimp only
  split
  · simp
  · split <;> simp

@[simp] theorem useDram_memories (s : State) : (useDram s).memories = s.memories := by
  unfold useDram exitSelfRefresh; split <;> simp

@[simp] theorem useSram_memories (o n : Nat) (s : State) : (useSram o n s).memories = s.memories :=
  forEach_memories _ _ (fun d t => workFor_memories d _ t) s

@[simp] theorem logCe_memories (port word bit : Nat) (s : State) : (logCe port word bit s).memories = s.memories := by
  unfold logCe; split
  · rfl
  · simp only [raise_memories, set_memories]

@[simp] theorem logUe_memories (port word : Nat) (s : State) : (logUe port word s).memories = s.memories := by
  unfold logUe; split
  · rfl
  · simp only [raise_memories, set_memories, useFree_memories]

/-- An error found in a word changes no octet. -/
@[simp] theorem eccError_memories (port : Nat) (e : EccError) (s : State) : (eccError port e s).memories = s.memories := by
  unfold eccError; split <;> simp

@[simp] theorem meetBad_memories (r : DmcReq) (s : State) : (meetBad r s).memories = s.memories :=
  forEach_memories _ _ (fun _ t => eccError_memories _ _ t) s

@[simp] theorem raiseLate_memories (f : Fld) (s : State) : (raiseLate f s).memories = s.memories := by
  unfold raiseLate; split <;> simp

@[simp] theorem becomeLate_memories (r : DmcReq) (s : State) : (becomeLate r s).memories = s.memories := by
  unfold becomeLate; split
  · simp [modReq]
  · rfl

@[simp] theorem leaveQueue_memories (r : DmcReq) (s : State) : (leaveQueue r s).memories = s.memories := by
  unfold leaveQueue; dsimp only
  split <;> simp

@[simp] theorem answerRequest_memories (r : DmcReq) (got : Option Octets) (s : State) :
    (answerRequest r got s).memories = s.memories := by
  have h (a : Resp) (f : Dmc → Dmc) : State.memories { modDmc f s with resp := a } = s.memories :=
    (resp_memories a _).trans (modDmc_memories f s)
  unfold answerRequest; dsimp only
  split
  · exact modDmc_memories _ s
  · split
    · exact h _ _
    · split <;> exact h _ _

/-- What keeps the canonical form of every memory and takes no time of the model. -/
def State.sound (s t : State) : Prop := (s.memoriesWf → t.memoriesWf) ∧ t.cycles = s.cycles

theorem State.sound_of_memories {s t : State} (h : t.memories = s.memories) : State.sound s t := by
  unfold State.memories at h
  simp only [Prod.mk.injEq] at h
  refine ⟨fun w => ?_, h.2.2.2⟩
  unfold State.memoriesWf; rw [h.1, h.2.1, h.2.2.1]; exact w

theorem State.sound_trans {s t u : State} (h : State.sound s t) (k : State.sound t u) : State.sound s u :=
  ⟨fun w => k.1 (h.1 w), k.2.trans h.2⟩

theorem forEach_sound {α : Type} (l : List α) (f : α → State → State) (h : ∀ x s, State.sound s (f x s)) (s : State) :
    State.sound s (forEach l f s) := by
  induction l generalizing s with
  | nil => exact ⟨id, rfl⟩
  | cons x l ih => exact State.sound_trans (h x s) (ih (f x s))

theorem dramPut_sound (o : Nat) (os : Octets) (s : State) : State.sound s (dramPut o os s) := ⟨dramPut_wf o os s, rfl⟩

theorem memPut_sound (a : Nat) (os : Octets) (s : State) : State.sound s (memPut a os s) :=
  ⟨memPut_wf a os s, memPut_cycles a os s⟩

/-- Serving a request keeps every memory's canonical form. -/
theorem serveRequest_sound (errors : List EccError) (r : DmcReq) (s : State) : State.sound s (serveRequest errors r s) := by
  have e (l : List EccError) (t : State) : (forEach l (eccError r.port) t).memories = t.memories :=
    forEach_memories l _ (eccError_memories r.port) t
  have c (b : Bool) (t : State) : (onlyIf b (count DMC_CNT_RMW 1) t).memories = t.memories :=
    onlyIf_memories b _ (count_memories _ _) t
  unfold serveRequest
  dsimp only
  generalize hv : forEach _ (eccError r.port) _ = v
  have hm : v.memories = s.memories := by rw [← hv, e, modDmc_memories, leaveQueue_memories]
  generalize List.any _ _ = dead
  split
  · exact State.sound_of_memories ((answerRequest_memories _ _ _).trans hm)
  · split
    · exact State.sound_of_memories ((answerRequest_memories _ _ _).trans ((c _ _).trans hm))
    · exact State.sound_trans (State.sound_of_memories ((c _ _).trans hm)) (State.sound_trans (dramPut_sound r.offset _ _)
        (State.sound_of_memories (answerRequest_memories _ _ _)))

/-- An engine's own write keeps every memory's canonical form and takes no time of the model. -/
theorem enginePut_sound (port a : Nat) (os : Octets) (s : State) : State.sound s (enginePut port a os s) := by
  have c (b : Bool) (t : State) : (onlyIf b (count DMC_CNT_RMW 1) t).memories = t.memories :=
    onlyIf_memories b _ (count_memories _ _) t
  unfold enginePut
  split
  · rename_i o _
    have h : State.sound s (takePort port (serveEarlier (s.engineReq port o os.length (some os)) (useDram s))) :=
      State.sound_trans (State.sound_of_memories (useDram_memories s))
        (State.sound_trans (forEach_sound _ _ (serveRequest_sound []) _) (State.sound_of_memories (modDmc_memories _ _)))
    have k := State.sound_trans h (State.sound_of_memories (c (partialWrite (s.engineReq port o os.length (some os))) _))
    dsimp only
    split
    · exact State.sound_trans k (State.sound_of_memories (modDmc_memories _ _))
    · split
      · exact State.sound_trans k (dramPut_sound _ _ _)
      · exact State.sound_trans k (State.sound_of_memories (meetBad_memories _ _))
  · exact State.sound_trans (State.sound_of_memories (useSram_memories _ _ s)) (memPut_sound _ _ _)
  · exact memPut_sound _ _ _
  · apply State.sound_of_memories
    unfold refuseEngine
    split
    · unfold domainError; dsimp only; split <;> simp
    · exact onlyIf_memories _ _ (raise_memories _) s

@[simp] theorem enginePut_cycles (port a : Nat) (os : Octets) (s : State) : (enginePut port a os s).cycles = s.cycles :=
  (enginePut_sound port a os s).2

/-- Placing a queue's descriptor and data keeps every memory's canonical form. -/
theorem qPlace_wf (q : Nat) (desc data : Octets) (s : State) (h : s.memoriesWf) : (qPlace q desc data s).memoriesWf :=
  (enginePut_sound _ _ _ _).1 ((enginePut_sound _ _ _ _).1 h)

end Sys2Proof.Machine
end

