-- ==== Sys2Proof/Laws/Registers.lean ====
section
/-!
SUPPORT. Reading a register field after a write: the field written holds the value modulo its width, every other field of
the same word and every other word stay. Every register write keeps the registers' canonical form.
-/

namespace Sys2Proof.Machine

/-! ### Bit fields of a word -/

theorem extractBits_lt (w : Word) (lo width : Nat) : extractBits w lo width < 2 ^ width :=
  Nat.mod_lt _ (Nat.two_pow_pos width)

theorem testBit_extractBits (w : Word) (lo width i : Nat) :
    (extractBits w lo width).testBit i = (decide (i < width) && w.toNat.testBit (lo + i)) := by
  simp [extractBits, Nat.testBit_mod_two_pow, Nat.testBit_div_two_pow, Nat.add_comm]

theorem insertBits_lt (w : Word) (lo width v : Nat) (h : lo + width ≤ 32) :
    w.toNat % 2 ^ lo + 2 ^ lo * (v % 2 ^ width) + 2 ^ (lo + width) * (w.toNat / 2 ^ (lo + width)) < 2 ^ 32 := by
  have h1 : w.toNat % 2 ^ lo < 2 ^ lo := Nat.mod_lt _ (Nat.two_pow_pos lo)
  have h2 : v % 2 ^ width < 2 ^ width := Nat.mod_lt _ (Nat.two_pow_pos width)
  have hw : w.toNat < 2 ^ 32 := w.isLt
  have h3 : w.toNat % 2 ^ lo + 2 ^ lo * (v % 2 ^ width) < 2 ^ (lo + width) := by
    rw [Nat.pow_add]
    calc _ < 2 ^ lo + 2 ^ lo * (v % 2 ^ width) := by omega
      _ = 2 ^ lo * (v % 2 ^ width + 1) := by ring
      _ ≤ 2 ^ lo * 2 ^ width := Nat.mul_le_mul_left _ h2
  have h4 : w.toNat / 2 ^ (lo + width) < 2 ^ (32 - (lo + width)) := by
    apply Nat.div_lt_of_lt_mul
    rw [← Nat.pow_add]
    have : lo + width + (32 - (lo + width)) = 32 := by omega
    rw [this]; exact hw
  calc _ < 2 ^ (lo + width) + 2 ^ (lo + width) * (w.toNat / 2 ^ (lo + width)) := by omega
    _ = 2 ^ (lo + width) * (w.toNat / 2 ^ (lo + width) + 1) := by ring
    _ ≤ 2 ^ (lo + width) * 2 ^ (32 - (lo + width)) := Nat.mul_le_mul_left _ h4
    _ = 2 ^ 32 := by rw [← Nat.pow_add]; congr 1; omega

theorem testBit_insertBits (w : Word) (lo width v i : Nat) (h : lo + width ≤ 32) :
    (insertBits w lo width v).toNat.testBit i =
      if i < lo then w.toNat.testBit i
      else if i < lo + width then v.testBit (i - lo) else w.toNat.testBit i := by
  have hlt := insertBits_lt w lo width v h
  have h2 : v % 2 ^ width < 2 ^ width := Nat.mod_lt _ (Nat.two_pow_pos width)
  have h1 : w.toNat % 2 ^ lo < 2 ^ lo := Nat.mod_lt _ (Nat.two_pow_pos lo)
  have e : (insertBits w lo width v).toNat =
      2 ^ lo * (2 ^ width * (w.toNat / 2 ^ (lo + width)) + v % 2 ^ width) + w.toNat % 2 ^ lo := by
    simp only [insertBits, BitVec.toNat_ofNat, Nat.mod_eq_of_lt hlt]
    rw [Nat.pow_add]; ring
  rw [e, Nat.testBit_two_pow_mul_add _ h1]
  split
  · rename_i hi
    simp [Nat.testBit_mod_two_pow, hi]
  · rename_i hi
    rw [Nat.testBit_two_pow_mul_add _ h2]
    by_cases hj : i < lo + width
    · have : i - lo < width := by omega
      simp [this, hj, Nat.testBit_mod_two_pow]
    · have h5 : ¬ i - lo < width := by omega
      simp only [h5, hj, if_false, Nat.testBit_div_two_pow]
      congr 1; omega

/-- The bits written are the value modulo the width. -/
theorem extractBits_insertBits (w : Word) (lo width v : Nat) (h : lo + width ≤ 32) :
    extractBits (insertBits w lo width v) lo width = v % 2 ^ width := by
  apply Nat.eq_of_testBit_eq
  intro i
  rw [testBit_extractBits, testBit_insertBits _ _ _ _ _ h, Nat.testBit_mod_two_pow]
  by_cases hi : i < width
  · have h1 : ¬ lo + i < lo := by omega
    have h2 : lo + i < lo + width := by omega
    simp [hi]
  · simp [hi]

/-- Bits apart from the ones written stay. -/
theorem extractBits_insertBits_other (w : Word) (lo width v lo' width' : Nat) (h : lo + width ≤ 32)
    (hd : lo' + width' ≤ lo ∨ lo + width ≤ lo') :
    extractBits (insertBits w lo width v) lo' width' = extractBits w lo' width' := by
  apply Nat.eq_of_testBit_eq
  intro i
  rw [testBit_extractBits, testBit_extractBits, testBit_insertBits _ _ _ _ _ h]
  by_cases hi : i < width'
  · rcases hd with hd | hd
    · have h1 : lo' + i < lo := by omega
      simp [h1]
    · have h1 : ¬ lo' + i < lo := by omega
      have h2 : ¬ lo' + i < lo + width := by omega
      simp [h1, h2]
  · simp [hi]

/-! ### Words -/

@[simp] theorem State.word_setWord_same (a : Nat) (w : Word) (s : State) : (s.setWord a w).word a = w := by
  simp [State.word, State.setWord]

theorem State.word_setWord_other (a b : Nat) (w : Word) (s : State) (h : b ≠ a) : (s.setWord a w).word b = s.word b := by
  simp [State.word, State.setWord, Sparse.get_put_other _ _ _ _ _ h]

theorem State.word_set_other (f : Fld) (v a : Nat) (s : State) (h : a ≠ f.addr) : (s.set f v).word a = s.word a := by
  simp [State.set, State.word_setWord_other _ _ _ _ h]

/-! ### Fields -/

/-- A field lies in its word. -/
abbrev Fld.fits (f : Fld) : Prop := f.lo + f.width ≤ 32

/-- Two fields share no bit. -/
abbrev Fld.apart (f g : Fld) : Prop := f.addr ≠ g.addr ∨ f.lo + f.width ≤ g.lo ∨ g.lo + g.width ≤ f.lo

/-- A field written holds the value modulo its width. -/
theorem State.get_set_same (f : Fld) (v : Nat) (s : State) (h : f.fits) : (s.set f v).get f = v % 2 ^ f.width := by
  simp [State.get, State.set, extractBits_insertBits _ _ _ _ h]

/-- A write to a field leaves every field apart from it alone. -/
theorem State.get_set_apart (f g : Fld) (v : Nat) (s : State) (h : f.fits) (hd : f.apart g) :
    (s.set f v).get g = s.get g := by
  unfold State.get State.set
  by_cases ha : f.addr = g.addr
  · rcases hd with hd | hd
    · exact absurd ha hd
    · rw [← ha, State.word_setWord_same]
      exact extractBits_insertBits_other _ _ _ _ _ _ h (hd.symm)
  · rw [State.word_setWord_other _ _ _ _ (Ne.symm ha)]

theorem State.get_lt (f : Fld) (s : State) : s.get f < 2 ^ f.width := extractBits_lt _ _ _

/-- A counter saturates (R12): it never passes its all-ones value and never falls. -/
theorem count_get (f : Fld) (n : Nat) (s : State) (h : f.fits) :
    (count f n s).get f = min (s.get f + n) (allOnes f.width) := by
  rw [count, State.get_set_same _ _ _ h, Nat.mod_eq_of_lt]
  have : 0 < 2 ^ f.width := Nat.two_pow_pos _
  unfold allOnes; omega

theorem raise_get (f : Fld) (s : State) (h : f.fits) (hw : 0 < f.width) : (raise f s).get f = 1 := by
  rw [raise, State.get_set_same _ _ _ h, Nat.mod_eq_of_lt (Nat.one_lt_two_pow (by omega))]

theorem raise_get_apart (f g : Fld) (s : State) (h : f.fits) (hd : f.apart g) : (raise f s).get g = s.get g :=
  State.get_set_apart f g 1 s h hd

theorem count_get_apart (f g : Fld) (n : Nat) (s : State) (h : f.fits) (hd : f.apart g) :
    (count f n s).get g = s.get g := State.get_set_apart f g _ s h hd

/-! ### The canonical form of the registers -/

theorem setWord_wf (a : Nat) (w : Word) (s : State) (h : Sparse.wf resetWord s.regs = true) :
    Sparse.wf resetWord (s.setWord a w).regs = true := Sparse.wf_put resetWord s.regs a w h

theorem set_wf (f : Fld) (v : Nat) (s : State) (h : Sparse.wf resetWord s.regs = true) :
    Sparse.wf resetWord (s.set f v).regs = true := setWord_wf _ _ s h

end Sys2Proof.Machine
end

