-- ==== Sys2Proof/Laws/Steps.lean ====
section
/-!
SUPPORT. What every command comes to: a next state that is some state after the step's own settling.
-/

namespace Sys2Proof.Machine

/-- Every command answers a next state. -/
theorem exec_after (c : Instr) (s : State) : ∃ dt u, exec c s = .next (after dt s u) := by
  cases c <;> exact ⟨_, _, rfl⟩

/-- A step either idles on an empty queue or takes the command at its front. -/
theorem step_cases (s : State) :
    (s.pending = [] ∧ step s = .next s) ∨
    ∃ c rest dt u, s.pending = c :: rest ∧ step s = .next (after dt { s with pending := rest } u) := by
  unfold step
  cases h : s.pending with
  | nil => exact .inl ⟨rfl, rfl⟩
  | cons c rest =>
    obtain ⟨dt, u, e⟩ := exec_after c { s with pending := rest }
    exact .inr ⟨c, rest, dt, u, rfl, e⟩

end Sys2Proof.Machine
end

