-- ==== Sys2Proof/Laws/Table.lean ====
section
/-!
SUPPORT. The register tables: the fields of every register lie in its word and share no bit, so a write or a read acts on
every bit by the access code of the one field that holds it.
-/

namespace Sys2Proof.Machine

/-- The field holds a bit. -/
abbrev FieldRow.holds (f : FieldRow) (b : Nat) : Prop := f.lo ≤ b ∧ b ≤ f.hi

/-- Two fields share no bit. -/
abbrev FieldRow.clear (f g : FieldRow) : Prop := f.hi < g.lo ∨ g.hi < f.lo

/-- The fields of a row lie in the word and share no bit. -/
abbrev RegRow.tidy (r : RegRow) : Prop := (∀ f ∈ r.fields, f.lo ≤ f.hi ∧ f.hi < 32) ∧ r.fields.Pairwise FieldRow.clear

theorem blockRows_tidy_low : ∀ k, k < 8 → ∀ r ∈ blockRows k, r.tidy := by decide +kernel
theorem blockRows_tidy_mid : ∀ k, k < 6 → ∀ r ∈ blockRows (k + 8), r.tidy := by decide +kernel
theorem blockRows_tidy_high : ∀ k, k < 6 → ∀ r ∈ blockRows (k + 14), r.tidy := by decide +kernel

theorem blockRows_beyond (k : Nat) (h : 20 ≤ k) : blockRows k = [] := by
  unfold blockRows
  split <;> first | omega | rfl

/-- Every register's fields lie in its word and share no bit. -/
theorem regRow_tidy (a : Nat) (r : RegRow) (h : regRow a = some r) : r.tidy := by
  unfold regRow at h
  split at h
  · exact absurd h (by simp)
  · have hm := List.mem_of_find?_eq_some h
    by_cases h1 : blockOf a < 8
    · exact blockRows_tidy_low _ h1 r hm
    by_cases h2 : blockOf a < 14
    · exact blockRows_tidy_mid (blockOf a - 8) (by omega) r (by rwa [Nat.sub_add_cancel (by omega)])
    by_cases h3 : blockOf a < 20
    · exact blockRows_tidy_high (blockOf a - 14) (by omega) r (by rwa [Nat.sub_add_cancel (by omega)])
    · rw [blockRows_beyond _ (by omega)] at hm
      exact absurd hm (List.not_mem_nil)

/-- The mask of a field holds its bits. -/
theorem fieldMask_bit (f : FieldRow) (h1 : f.lo ≤ f.hi) (h2 : f.hi < 32) (b : Nat) :
    (BitVec.ofNat 32 ((2 ^ (f.hi + 1 - f.lo) - 1) * 2 ^ f.lo)).getLsbD b = decide (f.holds b) := by
  rw [BitVec.getLsbD_ofNat, Nat.testBit_mul_two_pow, Nat.testBit_two_pow_sub_one]
  by_cases g1 : f.lo ≤ b
  · by_cases g2 : b ≤ f.hi
    · simp [g1, g2]; omega
    · simp [g1, g2]; omega
  · simp [g1]

/-- A fold over fields that act each on its own bits leaves a bit no field holds alone. -/
theorem foldFields_other (g : Word → FieldRow → Word) (act : FieldRow → Bool → Bool) (b : Nat) :
    ∀ (l : List FieldRow) (v : Word),
      (∀ f ∈ l, ∀ v, (g v f).getLsbD b = if f.holds b then act f (v.getLsbD b) else v.getLsbD b) →
      (∀ f ∈ l, ¬ f.holds b) → (l.foldl g v).getLsbD b = v.getLsbD b
  | [], _, _, _ => rfl
  | f :: l, v, hg, hn => by
    rw [List.foldl_cons, foldFields_other g act b l (g v f) (fun x hx => hg x (List.mem_cons_of_mem _ hx))
      (fun x hx => hn x (List.mem_cons_of_mem _ hx)), hg f (List.mem_cons_self), if_neg (hn f (List.mem_cons_self))]

/-- A fold over fields that act each on its own bits, and share none, acts on a bit by the field that holds it. -/
theorem foldFields_holds (g : Word → FieldRow → Word) (act : FieldRow → Bool → Bool) (b : Nat) (f : FieldRow)
    (hb : f.holds b) :
    ∀ (l : List FieldRow) (v : Word),
      (∀ f ∈ l, ∀ v, (g v f).getLsbD b = if f.holds b then act f (v.getLsbD b) else v.getLsbD b) →
      l.Pairwise FieldRow.clear → f ∈ l → (l.foldl g v).getLsbD b = act f (v.getLsbD b)
  | [], _, _, _, hf => absurd hf (List.not_mem_nil)
  | x :: l, v, hg, hp, hf => by
    have hg' : ∀ y ∈ l, ∀ v, (g v y).getLsbD b = if y.holds b then act y (v.getLsbD b) else v.getLsbD b :=
      fun y hy => hg y (List.mem_cons_of_mem _ hy)
    rw [List.pairwise_cons] at hp
    rw [List.foldl_cons]
    rcases List.mem_cons.1 hf with rfl | hf
    · rw [foldFields_other g act b l _ hg' (fun y hy hy' => by
        have := hp.1 y hy; unfold FieldRow.clear at this; unfold FieldRow.holds at hb hy'; omega),
        hg f (List.mem_cons_self), if_pos hb]
    · rw [foldFields_holds g act b f hb l _ hg' hp.2 hf, hg x (List.mem_cons_self), if_neg (fun hx => by
        have := hp.1 f hf; unfold FieldRow.clear at this; unfold FieldRow.holds at hb hx; omega)]

/-- What a write of bit `x` makes of a bit that held `v`, by the access code (R10). -/
def writtenBit (locked : Bool) (acc : Acc) (x v : Bool) : Bool :=
  match acc with
  | .rw => x
  | .wo => x
  | .rwl => if locked then v else x
  | .w1c => v && !x
  | .w1s => v || x
  | .ro => v
  | .rc => v
  | .cl => v

theorem writeField_bit (locked : Bool) (w v : Word) (f : FieldRow) (h1 : f.lo ≤ f.hi) (h2 : f.hi < 32) (b : Nat) :
    (writeField locked w v f).getLsbD b =
      if f.holds b then writtenBit locked f.acc (w.getLsbD b) (v.getLsbD b) else v.getLsbD b := by
  have hm := fieldMask_bit f h1 h2 b
  have hb : f.holds b → b < 32 := fun h => by unfold FieldRow.holds at h; omega
  have hv : ¬ b < 32 → v.getLsbD b = false := fun h => BitVec.getLsbD_of_ge _ _ (by omega)
  unfold writeField writtenBit
  cases f.acc <;> simp only
  case rwl =>
    cases locked <;> simp only [if_true, if_false, Bool.false_eq_true]
    · rw [BitVec.getLsbD_or, BitVec.getLsbD_and, BitVec.getLsbD_and, BitVec.getLsbD_not, hm]
      by_cases h : f.holds b
      · simp [h, hb h]
      · by_cases h' : b < 32 <;> simp [h, h', hv]
    · simp
  case rw | wo =>
    rw [BitVec.getLsbD_or, BitVec.getLsbD_and, BitVec.getLsbD_and, BitVec.getLsbD_not, hm]
    by_cases h : f.holds b
    · simp [h, hb h]
    · by_cases h' : b < 32 <;> simp [h, h', hv]
  case w1c =>
    rw [BitVec.getLsbD_and, BitVec.getLsbD_not, BitVec.getLsbD_and, hm]
    by_cases h : f.holds b
    · simp [h, hb h]
    · by_cases h' : b < 32 <;> simp [h, h', hv]
  case w1s =>
    rw [BitVec.getLsbD_or, BitVec.getLsbD_and, hm]
    by_cases h : f.holds b <;> simp [h]
  all_goals simp

/-- A write acts on a bit by the access code of the field that holds it. -/
theorem writtenWord_bit (locked : Bool) (r : RegRow) (hr : r.tidy) (w old : Word) (f : FieldRow) (hf : f ∈ r.fields) (b : Nat)
    (hb : f.holds b) :
    (writtenWord locked r w old).getLsbD b = writtenBit locked f.acc (w.getLsbD b) (old.getLsbD b) :=
  foldFields_holds (writeField locked w) (fun f v => writtenBit locked f.acc (w.getLsbD b) v) b f hb r.fields old
    (fun x hx v => writeField_bit locked w v x (hr.1 x hx).1 (hr.1 x hx).2 b) hr.2 hf

/-- A write leaves reserved bits alone. -/
theorem writtenWord_reserved (locked : Bool) (r : RegRow) (hr : r.tidy) (w old : Word) (b : Nat)
    (hn : ∀ f ∈ r.fields, ¬ f.holds b) : (writtenWord locked r w old).getLsbD b = old.getLsbD b :=
  foldFields_other (writeField locked w) (fun f v => writtenBit locked f.acc (w.getLsbD b) v) b r.fields old
    (fun x hx v => writeField_bit locked w v x (hr.1 x hx).1 (hr.1 x hx).2 b) hn

/-- A read clears the bits of RC fields to their reset value and leaves the others. -/
theorem readLeaves_bit (r : RegRow) (hr : r.tidy) (resetW old : Word) (f : FieldRow) (hf : f ∈ r.fields) (b : Nat)
    (hb : f.holds b) :
    (readLeaves r resetW old).getLsbD b = if f.acc = .rc then resetW.getLsbD b else old.getLsbD b := by
  unfold readLeaves
  refine foldFields_holds _ (fun f v => if f.acc = .rc then resetW.getLsbD b else v) b f hb r.fields old ?_ hr.2 hf
  intro x hx v
  have hm := fieldMask_bit x (hr.1 x hx).1 (hr.1 x hx).2 b
  have hb : x.holds b → b < 32 := fun h => by have := hr.1 x hx; unfold FieldRow.holds at h; omega
  have hv : ¬ b < 32 → v.getLsbD b = false := fun h => BitVec.getLsbD_of_ge _ _ (by omega)
  cases x.acc <;> simp only [reduceCtorEq, if_false, ite_self, if_true]
  rw [BitVec.getLsbD_or, BitVec.getLsbD_and, BitVec.getLsbD_and, BitVec.getLsbD_not, hm]
  by_cases h : x.holds b
  · simp [h, hb h]
  · by_cases h' : b < 32 <;> simp [h, h', hv]

/-- Write-only fields read 0. -/
theorem readableMask_wo (a : Nat) (r : RegRow) (h : regRow a = some r) (f : FieldRow) (hf : f ∈ r.fields) (b : Nat)
    (hb : f.holds b) (hw : f.acc = .wo) : (readableMask a).getLsbD b = false := by
  have hr := regRow_tidy a r h
  unfold readableMask
  rw [h]
  refine (foldFields_holds _ (fun f v => if f.acc = .wo then false else v) b f hb r.fields _ ?_ hr.2 hf).trans ?_
  · intro x hx v
    have hm := fieldMask_bit x (hr.1 x hx).1 (hr.1 x hx).2 b
    have hv : ¬ b < 32 → v.getLsbD b = false := fun h => BitVec.getLsbD_of_ge _ _ (by omega)
    cases x.acc <;> simp only [reduceCtorEq, if_false, ite_self, if_true]
    rw [BitVec.getLsbD_and, BitVec.getLsbD_not, hm]
    by_cases h : x.holds b
    · simp [h]
    · by_cases h' : b < 32 <;> simp [h, h', hv]
  · simp [hw]

end Sys2Proof.Machine
end

