-- ==== Sys2Proof/Machine/Pins.lean ====
section
/-!
DEFINITION. The package (R564 to R570): which signal or supply each of the 676 balls carries, and each signal's pad type and supply.
-/

namespace Sys2Proof.Machine

/-- What a ball that carries no supply is for; the pads of the boundary-scan chain go by their own names. -/
inductive Signal where
  | ant (n : Nat)
  | chain (p : Pad)
  | dq (ch n : Nat) | dqs (ch n : Nat) (comp : Bool) | dmi (ch n : Nat)
  | ck (ch : Nat) (comp : Bool) | cke (ch rank : Nat) | cs (ch rank : Nat) | ca (ch n : Nat)
  | dramResetN | ddrZq
  | ethTx (port : Nat) (neg : Bool) | ethRx (port : Nat) (neg : Bool)
  | stlTx (lane : Nat) (neg : Bool) | stlRx (lane : Nat) (neg : Bool)
  | serRext | tcxoIn | xtalIn | xtalOut
  | msense (neg : Bool) | vinSense | huVsense | huIsns (neg : Bool)
  | resetN | testEn | tck | tms | tdi | tdo | trstN
  deriving DecidableEq, Repr

/-- What a ball carries. -/
inductive Net where
  | vddCore | vddAna | vddAon | vdd2 | vddq | vddIo | vbat | vss
  | signal (s : Signal)
  deriving DecidableEq, Repr

/-- The rows from the A1 corner (R564). -/
def ballRows : List String :=
  ["A", "B", "C", "D", "E", "F", "G", "H", "J", "K", "L", "M", "N", "P", "T", "U", "V", "W", "Y", "AA", "AB", "AC", "AD", "AE", "AF", "AG"]

/-- The number of a row, from 0. -/
def rowNumber (row : String) : Nat := ballRows.idxOf row

/-- The signals of the middle field outside the DRAM blocks (R567), by row, column and signal. -/
def middleField : List (String × Nat × Signal) :=
  [("E", 1, .ethTx 0 false), ("F", 1, .ethTx 0 true), ("H", 1, .ethRx 0 false), ("J", 1, .ethRx 0 true),
   ("L", 1, .ethTx 1 false), ("M", 1, .ethTx 1 true), ("P", 1, .ethRx 1 false), ("T", 1, .ethRx 1 true),
   ("V", 1, .stlTx 0 false), ("W", 1, .stlTx 0 true), ("AA", 1, .stlRx 0 false), ("AB", 1, .stlRx 0 true),
   ("W", 2, .stlTx 1 false), ("Y", 2, .stlTx 1 true), ("AB", 2, .stlRx 1 false), ("AC", 2, .stlRx 1 true),
   ("L", 2, .serRext)] ++
  [("D", 3, .chain (.mdc 0)), ("F", 3, .chain (.mdc 1)), ("E", 3, .chain (.mdio 0)), ("G", 3, .chain (.mdio 1)),
   ("H", 3, .chain .pmbScl), ("J", 3, .chain .pmbSda), ("K", 3, .chain .pmbAlert), ("M", 3, .chain .nvmSck),
   ("N", 3, .chain .nvmCs), ("P", 3, .chain (.nvmIo 0)), ("T", 3, .chain (.nvmIo 1)), ("U", 3, .chain (.nvmIo 2)),
   ("V", 3, .chain (.nvmIo 3)), ("W", 3, .chain (.nvmIo 4)), ("Y", 3, .chain (.nvmIo 5)), ("AA", 3, .chain (.nvmIo 6)),
   ("AB", 3, .chain (.nvmIo 7))] ++
  [("D", 4, .tcxoIn), ("F", 4, .xtalIn), ("G", 4, .xtalOut), ("K", 4, .msense false), ("L", 4, .msense true),
   ("M", 4, .vinSense), ("N", 4, .huVsense), ("P", 4, .huIsns false), ("T", 4, .huIsns true),
   ("U", 4, .chain .huIdc), ("V", 4, .chain .huDis), ("W", 4, .chain .huChg), ("Y", 4, .chain .huBleed),
   ("AA", 4, .chain .huSvc), ("AB", 4, .resetN), ("AC", 4, .testEn),
   ("D", 5, .tck), ("E", 5, .tms), ("F", 5, .tdi), ("G", 5, .tdo), ("H", 5, .trstN)]

/-- The supply balls of the middle field outside the DRAM blocks (R567, R569), as rows, columns and net. -/
def supplyField : List (List String × List Nat × Net) :=
  [(["H"], [4], .vbat), (["L", "AD"], [3], .vddIo), (["N", "P", "T", "U", "V", "W", "Y", "AA"], [5], .vddIo),
   (["J", "AD"], [4], .vddAon), (["D", "H", "M", "T", "Y", "AD"], [6], .vddAon),
   (["D", "AD"], (List.range 12).map (· + 7), .vddAna),
   (["D", "E", "G", "H", "K", "L", "N", "P", "U", "V", "Y", "AA"], [21], .vdd2),
   (["J", "K", "L", "M", "N", "P", "T", "U"], (List.range 10).map (· + 10), .vddCore)]

/-- Columns 22 to 26 of row `k` of the DRAM block of a channel (R566). -/
def dramRow (ch k : Nat) : List Net :=
  let sig (l : List Signal) : List Net := l.map Net.signal
  match k with
  | 0 => .vddq :: sig [.dq ch 0, .dq ch 1, .dq ch 2, .dq ch 3]
  | 1 => .vss :: sig [.dq ch 4, .dq ch 5, .dq ch 6, .dq ch 7]
  | 2 => .vddq :: sig [.dqs ch 0 false, .dqs ch 0 true, .dmi ch 0] ++ [.vss]
  | 3 => .vddq :: sig [.dq ch 8, .dq ch 9, .dq ch 10, .dq ch 11]
  | 4 => .vss :: sig [.dq ch 12, .dq ch 13, .dq ch 14, .dq ch 15]
  | 5 => .vddq :: sig [.dqs ch 1 false, .dqs ch 1 true, .dmi ch 1] ++ [.vss]
  | 6 => .vddq :: sig [.ck ch false, .ck ch true, .cke ch 0, .cke ch 1]
  | 7 => .vddq :: sig [.cs ch 0, .cs ch 1, .ca ch 0, .ca ch 1]
  | 8 => .vddq :: sig [.ca ch 2, .ca ch 3, .ca ch 4, .ca ch 5]
  | _ => [.vddq, .vss, .signal (if ch = 0 then .dramResetN else .ddrZq), .vddq, .vddq]

/-- The balls of an RF edge, rows A and C or AG and AE, for the ports from `first` (R565). -/
def rfEdge (first : Nat) (outer : Bool) (c : Nat) : Net :=
  let n := (c - 4) / 3
  if outer then (if 4 ≤ c ∧ n < 8 ∧ c % 3 = 1 then .signal (.ant (first + n)) else .vss)
  else if c < 3 ∨ 26 < c then .vss
  else if c % 3 = 0 then (if c ≤ 24 then .vddAna else .vss)
  else if c % 3 = 1 then .signal (.chain (.fema (first + n)))
  else .signal (.chain (.femb (first + n)))

/-- What the ball in a row, counted from 0, and a column, counted from 1, carries (R565 to R569). -/
def ballNet (r c : Nat) : Net :=
  if r = 0 then rfEdge 0 true c
  else if r = 25 then rfEdge 8 true c
  else if r = 2 then rfEdge 0 false c
  else if r = 23 then rfEdge 8 false c
  else if r = 1 ∨ r = 24 then .vss
  else if 22 ≤ c then ((dramRow ((r - 3) / 10) ((r - 3) % 10))[c - 22]?).getD .vss
  else
    let row := (ballRows[r]?).getD ""
    match middleField.find? (fun e => e.1 == row && e.2.1 == c) with
    | some e => .signal e.2.2
    | none =>
      match supplyField.find? (fun e => e.1.elem row && e.2.1.elem c) with
      | some e => e.2.2
      | none => .vss

/-- The package's balls, row by row. -/
def balls : List (Nat × Nat) := (List.range 26).flatMap (fun r => (List.range 26).map (fun c => (r, c + 1)))

/-- A signal's ball is connected on a variant (R570). -/
def Signal.connected (v : Variant) : Signal → Bool
  | .ant n => v != .wv5248 || decide (n < 8)
  | .chain p => !p.absent v
  | .stlTx _ _ => v != .wv5248
  | .stlRx _ _ => v != .wv5248
  | _ => true

/-- The pad types of R567. -/
inductive PadType where
  | rf | analog | serdes | input | output | bidirectional | openDrain | ddr
  deriving DecidableEq, Repr

/-- The type of a signal's pad (R567). -/
def Signal.padType : Signal → PadType
  | .ant _ => .rf
  | .chain p =>
    match p with
    | .mdio _ | .nvmIo _ => .bidirectional
    | .pmbScl | .pmbSda => .openDrain
    | .pmbAlert | .huSvc => .input
    | _ => .output
  | .ethTx _ _ | .ethRx _ _ | .stlTx _ _ | .stlRx _ _ => .serdes
  | .serRext | .ddrZq | .tcxoIn | .xtalIn | .xtalOut | .msense _ | .vinSense | .huVsense | .huIsns _ => .analog
  | .resetN | .testEn | .tck | .tms | .tdi | .trstN => .input
  | .tdo => .output
  | _ => .ddr

/-- The supply of a signal's pad (R567); none for the crystal, which the backup node feeds. -/
def Signal.supply : Signal → Option Net
  | .ant _ | .serRext | .tcxoIn => some .vddAna
  | .chain p =>
    match p with
    | .fema _ | .femb _ => some .vddAna
    | .huIdc | .huDis | .huChg | .huBleed | .huSvc => some .vddAon
    | _ => some .vddIo
  | .ethTx _ _ | .ethRx _ _ | .stlTx _ _ | .stlRx _ _ => some .vddAna
  | .xtalIn | .xtalOut => none
  | .msense _ | .vinSense | .huVsense | .huIsns _ | .resetN | .testEn => some .vddAon
  | .tck | .tms | .tdi | .tdo | .trstN => some .vddIo
  | _ => some .vddq

end Sys2Proof.Machine
end

