-- ==== Sys2Proof/WellFormed.lean ====
section
/-!
DEFINITION. Which commands are well formed: an operand that names an instance names one that some variant has, an operand
that stands for a field fits it, and a list that carries one value for each instance has one for each. The meanings are total
and read any operand; a command that is not well formed stands for nothing that can reach the part.
-/

namespace Sys2Proof

/-! ### Bus accesses -/

/-- An access as the fabric issues it: IDs 3 and 8 to 15 are never issued (R551), and it is 1, 2 or 4 bytes wide. -/
def accessOk (acc : Access) : Bool :=
  [0, 1, 2, 4, 5, 6, 7].contains acc.init && (acc.bytes == 1 || acc.bytes == 2 || acc.bytes == 4)

/-- A bus address has 32 bits. -/
def addressOk (a : Nat) : Bool := decide (a < 2 ^ 32)

/-- A flash read is a bus access within the 8 MiB of the array (R423). -/
def flashRangeOk (o n : Nat) : Bool := (n == 1 || n == 2 || n == 4) && decide (o + n ≤ 8 * 2 ^ 20)

/-- What starts an action: a write with an access the fabric issues, or the task. -/
def triggerOk : WordTrigger → Bool
  | .write acc _ => accessOk acc
  | .task => true

/-- A change of source by a write. -/
def optAccessOk : Option (Access × Word) → Bool
  | some (acc, _) => accessOk acc
  | none => true

/-- How a token arrives. -/
def viaOk : TokenVia → Bool
  | .write acc _ => accessOk acc
  | .queue => true

/-! ### Instances -/

/-- One of the 16 antenna ports (00_scope.md). -/
def portOk (port : Nat) : Bool := decide (port < 16)

/-- One of the 8 transmit chains (00_scope.md). -/
def chainOk (chain : Nat) : Bool := decide (chain < 8)

/-- One of the 64 lanes (05_lane_pool.md). -/
def laneOk (lane : Nat) : Bool := decide (lane < 64)

/-- One of the two lanes of Stile (R355). -/
def stileLaneOk (lane : Nat) : Bool := decide (lane < 2)

/-- One of the two upstream ports (11_upstream.md). -/
def uplPortOk (port : Nat) : Bool := decide (port < 2)

/-- One of the 16 PANs (R186). -/
def panOk (pan : Nat) : Bool := decide (pan < 16)

/-- One of the channels 11 to 26 (R105). -/
def channelOk (ch : Nat) : Bool := decide (11 ≤ ch ∧ ch ≤ 26)

/-- One of the 262,144 node indices (09_context_store.md). -/
def nodeOk (node : Nat) : Bool := decide (node < 262144)

/-- Node indices. -/
def nodesOk (bad : List Nat) : Bool := bad.all nodeOk

/-- One of the 8 pages of Gorse (R256). -/
def pageOk (page : Nat) : Bool := decide (page < 8)

/-- One of the 16 batch classes, queues 32 to 47 (R343). -/
def classOk (cls : Nat) : Bool := decide (cls < 16)

/-- One of the 64 queues (11_upstream.md). -/
def queueOk (q : Nat) : Bool := decide (q < 64)

/-- One of the 2 ranks of DRAM (R410). -/
def rankOk (rank : Nat) : Bool := decide (rank < 2)

/-- One of the 4 check-value units (R473). -/
def unitOk (unit : Nat) : Bool := decide (unit < 4)

/-- One of the 2 application cores (R545). -/
def coreOk (core : Nat) : Bool := decide (core < 2)

/-- One of the 42 power domains (R500). -/
def domainOk (n : Nat) : Bool := decide (n < 42)

/-- Power domains. -/
def domainsOk (busy : List Nat) : Bool := busy.all domainOk

/-- The member a group refuses for. -/
def lateOk (late : Option Nat) : Bool := late.all domainOk

/-- One of the 8 domain groups (R512). -/
def groupOk (g : Nat) : Bool := decide (g < 8)

/-- One of the contexts of the interrupt controller (R557). -/
def contextOk (ctx : Nat) : Bool := decide (ctx < 3)

/-- One of the 8 software interrupts (R560). -/
def swIrqOk (k : Nat) : Bool := decide (k < 8)

/-- One of the 256 Hedgerow channels (13_hedgerow.md). -/
def hdgChannelOk (ch : Nat) : Bool := decide (ch < 256)

/-- One of the two command channels of the context store (R282). -/
def commandChannelOk (ch : Nat) : Bool := decide (ch < 2)

/-- One of the 6 alarm sources (R252). -/
def alarmOk (source : Nat) : Bool := decide (source < 6)

/-- A set of the alarm sources that can be live: all but SW. -/
def sourcesOk (live : Nat) : Bool := decide (live < 32)

/-- A set of the 8 cores of Gorse. -/
def coresOk (kat : Nat) : Bool := decide (kat < 256)

/-- A section of an image: NSEC is at most 60 (16_configuration_startup.md). -/
def sectionOk (index : Nat) : Bool := decide (index < 60)

/-- Copies of a life-cycle bit: it is held in three words (R491). -/
def copiesOk (copies : Nat) : Bool := decide (copies ≤ 3)

/-! ### Values -/

/-- A 16-bit value. -/
def halfOk (v : Nat) : Bool := decide (v < 2 ^ 16)

/-- An 8-bit value. -/
def octetOk (v : Nat) : Bool := decide (v < 2 ^ 8)

/-- A symbol of four bits (R119). -/
def symbolOk (sym : Nat) : Bool := decide (sym < 16)

/-- A symbol timing modulo 16 µs, in cycles (R137). -/
def timingOk (timing : Nat) : Bool := decide (timing < 5120)

/-- The result of a management read has 16 bits (R322). -/
def mdioValueOk (value : Option Nat) : Bool := value.all halfOk

/-- An operation of the debug module interface: 0 to 2, and 3 reserved; the address has 7 bits. -/
def dmiOpOk (op : Nat) : Bool := decide (op < 4)

/-- An address of the debug module. -/
def dmiAddrOk (addr : Nat) : Bool := decide (addr < 128)

/-- An opcode of the TAP has 5 bits (R586). -/
def opcodeOk (opcode : Nat) : Bool := decide (opcode < 32)

/-! ### One value for each instance -/

/-- A signature holds 16 complex gains (R146). -/
def sigOk (h : Sig) : Bool := h.length == 16

/-- The slack of each of the 8 canary sites (R43). -/
def slacksOk (slacks : List Nat) : Bool := slacks.length == 8

/-- The temperature of each of the 8 sites (R482). -/
def sitesOk (temps : List Int) : Bool := temps.length == 8

/-- The voltage of each of the 6 monitored supplies (R482). -/
def railsOk (mv : List Nat) : Bool := mv.length == 6

/-- A value for each chain. -/
def chainsOk (degrees : List Int) : Bool := degrees.length == 8

/-- The isolation of one chain to each port. -/
def isoOk (iso : List Nat) : Bool := iso.length == 16

/-- The isolation of each chain to each port (R90). -/
def isoAllOk (iso : List Nat) : Bool := iso.length == 128

/-- The noise floor of each channel (R135). -/
def floorsOk (calnf : List Int) : Bool := calnf.length == 16

/-- The cells of the boundary-scan chain (R587). -/
def cellsOk (capture : List Bool) : Bool := capture.length == 162

/-- The four soft bits of an extended symbol, none for a standard one (R165). -/
def softOk (soft : List Int) : Bool := soft.length == 0 || soft.length == 4

/-- The correlation peaks of the last DETSYM symbol periods, 1 to 4: a symbol timing below 16 µs, and the correlation at
every port (R137). -/
def peaksOk (timings : List Nat) (peaks : List Sig) : Bool :=
  decide (1 ≤ peaks.length ∧ peaks.length ≤ 4) && timings.length == peaks.length && timings.all timingOk && peaks.all sigOk

/-- A carrier offset in hundredths of a ppm, within ±40 ppm (R106, R146). -/
def offsetOk (offset : Int) : Bool := decide (offset.natAbs ≤ 4000)

/-- Channels that kept quiet, each with its power. -/
def quietOk (quiet : List (Nat × Int)) : Bool := quiet.all (fun (e : Nat × Int) => channelOk e.1)

/-- A complex sample of a port: I and Q in 10-bit two's complement (R74). -/
def sampleOk (z : Int × Int) : Bool := decide (-512 ≤ z.1 ∧ z.1 ≤ 511) && decide (-512 ≤ z.2 ∧ z.2 ≤ 511)

/-- Capture blocks: a port, and its 16 samples (R100). -/
def blocksOk (blocks : List (Nat × List (Int × Int) × Bool)) : Bool :=
  blocks.all (fun (e : Nat × List (Int × Int) × Bool) => portOk e.1 && e.2.1.length == 16 && e.2.1.all sampleOk)

/-! ### Errors, requests and causes -/

/-- A position in the 72 bits of a DRAM word; none for an uncorrectable error (R403). -/
def bitOk (bit : Option Nat) : Bool := bit.all (fun b => decide (b < 72))

/-- Errors found in DRAM words, each named by its offset, a multiple of 8. -/
def errorsOk (errors : List EccError) : Bool := errors.all (fun e => e.word % 8 == 0 && bitOk e.bit)

/-- What the patrol scrubber finds. -/
def scrubOk (bit : Option (Option Nat)) : Bool := bit.all bitOk

/-- The training step that failed, 1 to 7 (R414). -/
def failedOk (failed : Option (Nat × Bool)) : Bool := failed.all (fun (e : Nat × Bool) => decide (1 ≤ e.1 ∧ e.1 ≤ 7))

/-- Who asks for DRAM: a port of R407 with a 40-bit address, or a bus access. -/
def dramSourceOk : DramSource → Bool
  | .engine port addr => decide (port < 8) && decide (addr < 2 ^ 40)
  | .bus acc addr => accessOk acc && addressOk addr

/-- Who asks Gorse: a lane, or a network queue (R235). -/
def secWhoOk : SecWho → Bool
  | .rx lane => laneOk lane
  | .tx queue => decide (queue < 32)
  | .eack _ => true

/-- What a channel access is for. -/
def attemptOk : AttemptFor → Bool
  | .down _ => true
  | .empty node => nodeOk node
  | .beacon => true

/-- Why a chain is recalibrated (R93). -/
def recalOk : RecalCause → Bool
  | .write acc _ => accessOk acc
  | .temperature chain _ => chainOk chain
  | .enabled chain => chainOk chain

/-- Why a write-back begins (R275). -/
def writeBackOk : WriteBackCause → Bool
  | .due node => nodeOk node
  | .write acc _ => accessOk acc
  | .task => true

/-- Why a domain wakes (R516). -/
def wakeOk : WakeCause → Bool
  | .access init => [0, 1, 2, 4, 5, 6, 7].contains init
  | .hedgerow => true
  | .interrupt => true
  | .reqWrite => true
  | .group => true
  | .mode => true
  | .booking => true

/-! ### Commands -/

/-- A command is well formed. -/
def Instr.wellFormed : Instr → Bool
  | .registerWrite _ acc a _ => accessOk acc && addressOk a
  | .powerGood _ => true
  | .supplyMonitorReset _ _ _ => true
  | .resetN _ _ => true
  | .resetEnd _ _ _ faults => coresOk faults.cores
  | .signatureVerified _ => true
  | .sectionLoaded _ index _ _ engine => sectionOk index && coresOk engine.cores
  | .loadTimeout _ => true
  | .selftestJudge _ decFail => halfOk decFail
  | .pllFault _ _ => true
  | .sourceTimeout _ => true
  | .coastExpiry _ => true
  | .activeSourceChange _ wr => optAccessOk wr
  | .stepGo _ acc _ => accessOk acc
  | .tsLoRead _ acc => accessOk acc
  | .second _ => true
  | .milli _ => true
  | .capture _ => true
  | .loopStart _ _ _ _ status vout => halfOk status && halfOk vout
  | .stepDown _ slacks => slacksOk slacks
  | .stepUp _ slacks => slacksOk slacks
  | .emergency _ slacks => slacksOk slacks
  | .voutCommandDone _ _ => true
  | .readbackCheck _ _ _ status vout => halfOk status && halfOk vout
  | .pmbAlert _ => true
  | .frozenRestart _ acc _ => accessOk acc
  | .holdmax _ acc _ => accessOk acc
  | .stallAlarm _ site => octetOk site
  | .overflow _ port => portOk port
  | .gapEnd _ port => portOk port
  | .txUnderrun _ chain => chainOk chain
  | .agcStepDown _ port _ _ => portOk port
  | .agcStepUp _ port _ => portOk port
  | .txWindowOpen _ chain _ => chainOk chain
  | .rampUp _ chain => chainOk chain
  | .txStart _ chain _ => chainOk chain
  | .rampDown _ chain => chainOk chain
  | .txEnd _ chain => chainOk chain
  | .femReceive _ chain => chainOk chain
  | .desenseEnd _ chain => chainOk chain
  | .portUnblank _ chain => chainOk chain
  | .calibrationEnd _ _ rxFail txFail iso calnf degrees => halfOk rxFail && octetOk txFail && isoAllOk iso && floorsOk calnf && chainsOk degrees
  | .txchainRecalRequest _ cause => recalOk cause
  | .recalGrant _ chain => chainOk chain
  | .recalDone _ chain _ iso _ => chainOk chain && isoOk iso
  | .rxportCalRequest _ acc _ => accessOk acc
  | .rxportCalDone _ _ => true
  | .pilot _ acc _ => accessOk acc
  | .portRunWrite _ acc _ => accessOk acc
  | .loUnlock _ => true
  | .loRelock _ => true
  | .rxloTimeout _ => true
  | .capStart _ acc _ => accessOk acc
  | .capStop _ src => triggerOk src
  | .capTrig _ src => triggerOk src
  | .captureBlock _ blocks => blocksOk blocks
  | .noiseWindowEnd _ quiet => quietOk quiet
  | .nfReseed _ src => triggerOk src
  | .detection _ ch timings peaks => channelOk ch && peaksOk timings peaks
  | .estEnd _ lane h offset timing => laneOk lane && sigOk h && offsetOk offset && timingOk timing
  | .sfdFound _ lane sfd _ _ => laneOk lane && octetOk sfd
  | .sfdTimeout _ lane => laneOk lane
  | .phrEnd _ lane phr _ _ => laneOk lane && halfOk phr
  | .mmseWeightChange _ lane => laneOk lane
  | .payloadSymbol _ lane sym soft _ best h =>
    laneOk lane && symbolOk sym && softOk soft && sigOk best && sigOk h
  | .octetRelease _ lane => laneOk lane
  | .lastChip _ lane => laneOk lane
  | .lostEnd _ lane => laneOk lane
  | .finalComplete _ lane => laneOk lane
  | .reportAccepted _ lane => laneOk lane
  | .decoderBlock _ lane => laneOk lane
  | .provisionalOctet _ lane => laneOk lane
  | .finalOctet _ lane => laneOk lane
  | .finalTraceback _ lane => laneOk lane
  | .booking _ => true
  | .cancel _ => true
  | .synthLock _ chain => chainOk chain
  | .txOutcome _ => true
  | .txHalt _ => true
  | .decision _ lane => laneOk lane
  | .mirrorCutOff _ => true
  | .ackMatch _ lane => laneOk lane
  | .ackWaitEnd _ => true
  | .backoffEnd _ pan who => panOk pan && attemptOk who
  | .ccaEnd _ pan who _ _ _ _ => panOk pan && attemptOk who
  | .beaconBooking _ pan => panOk pan
  | .bcnreqBeacon _ pan => panOk pan
  | .activePeriodEnd _ pan => panOk pan
  | .indirectSend _ node => nodeOk node
  | .heldExpiry _ => true
  | .downstreamStart _ => true
  | .dqAbort _ acc _ => accessOk acc
  | .panrunWrite _ acc _ => accessOk acc
  | .admNext _ => true
  | .admWrite _ acc _ => accessOk acc
  | .dqHalt _ => true
  | .secRequest _ who => secWhoOk who
  | .reservationDurable _ => true
  | .reservationRetry _ => true
  | .faultAlarm _ source live => alarmOk source && sourcesOk live
  | .zeroise _ trig => triggerOk trig
  | .alarmClear _ acc _ live katFail => accessOk acc && sourcesOk live && coresOk katFail
  | .rebuilt _ acc _ => accessOk acc
  | .alock _ acc _ => accessOk acc
  | .pageCcmSecure _ acc page _ => accessOk acc && pageOk page
  | .pageCcmUnsecure _ acc page _ => accessOk acc && pageOk page
  | .pageCmac _ acc page _ => accessOk acc && pageOk page
  | .pageEcb _ acc page _ => accessOk acc && pageOk page
  | .pageWrap _ acc page _ => accessOk acc && pageOk page
  | .pageUnwrap _ acc page _ => accessOk acc && pageOk page
  | .pageDerive _ acc page _ => accessOk acc && pageOk page
  | .pageCopy _ acc page _ => accessOk acc && pageOk page
  | .pageErase _ acc page _ => accessOk acc && pageOk page
  | .pageBadarg _ acc page _ => accessOk acc && pageOk page
  | .pageAbort _ acc page _ _ => accessOk acc && pageOk page
  | .pageClear _ acc page _ => accessOk acc && pageOk page
  | .pageDone _ _ _ => true
  | .lookup _ lane => laneOk lane
  | .lookupFill _ _ _ _ => true
  | .writeBack _ cause => writeBackOk cause
  | .writeBackDone _ node _ => nodeOk node
  | .ctxRead _ acc ch _ _ => accessOk acc && commandChannelOk ch
  | .ctxCreate _ acc ch _ _ => accessOk acc && commandChannelOk ch
  | .ctxRestore _ acc ch _ _ => accessOk acc && commandChannelOk ch
  | .ctxUpdate _ acc ch _ _ => accessOk acc && commandChannelOk ch
  | .ctxRekey _ acc ch _ _ => accessOk acc && commandChannelOk ch
  | .ctxRetire _ acc ch _ _ => accessOk acc && commandChannelOk ch
  | .ctxPurge _ acc ch _ _ => accessOk acc && commandChannelOk ch
  | .ctxAlloc _ acc ch _ _ => accessOk acc && commandChannelOk ch
  | .ctxBind _ acc ch _ _ => accessOk acc && commandChannelOk ch
  | .ctxUnbind _ acc ch _ _ => accessOk acc && commandChannelOk ch
  | .ctxBadop _ acc ch _ _ => accessOk acc && commandChannelOk ch
  | .cmdDone _ => true
  | .quarantineExpiry _ => true
  | .tableRebuild _ _ bad => nodesOk bad
  | .sheafProcess _ _ _ => true
  | .rawQueueRoom _ => true
  | .batchAgeClose _ cls => classOk cls
  | .flush _ trigger => triggerOk trigger
  | .flushDone _ => true
  | .window _ => true
  | .waitingBatchWrite _ cls => classOk cls
  | .linkUp _ port _ _ => uplPortOk port
  | .linkDown _ port => uplPortOk port
  | .revert _ => true
  | .ethernetReceive _ port _ _ => uplPortOk port
  | .mdioAddress _ acc port _ => accessOk acc && uplPortOk port
  | .mdioWrite _ acc port _ => accessOk acc && uplPortOk port
  | .mdioRead _ acc port _ => accessOk acc && uplPortOk port
  | .mdioReadIncrement _ acc port _ => accessOk acc && uplPortOk port
  | .mdioDone _ port value => uplPortOk port && mdioValueOk value
  | .nextHopResolve _ => true
  | .resolveTryTimeout _ => true
  | .downSegment _ _ => true
  | .reassemblyTimeout _ => true
  | .upstreamSend _ => true
  | .messageSent _ => true
  | .statusTimer _ => true
  | .statusSend _ trigger => triggerOk trigger
  | .piWrite _ acc q _ => accessOk acc && queueOk q
  | .ciWrite _ acc q _ => accessOk acc && queueOk q
  | .sync _ _ => true
  | .followUp _ _ => true
  | .delayResp _ _ => true
  | .announce _ _ => true
  | .delayReq _ => true
  | .announceTimeout _ => true
  | .heartSend _ => true
  | .heart _ lane _ => stileLaneOk lane
  | .laneLoss _ lane _ => stileLaneOk lane
  | .ack _ lane _ => stileLaneOk lane
  | .resendTimeout _ => true
  | .electSend _ => true
  | .elect _ lane _ => stileLaneOk lane
  | .electionTimeout _ => true
  | .request _ lane _ => stileLaneOk lane
  | .yield _ lane _ => stileLaneOk lane
  | .yieldDone _ lane _ => stileLaneOk lane
  | .resign _ lane _ => stileLaneOk lane
  | .decide _ lane _ => stileLaneOk lane
  | .withhold _ lane _ => stileLaneOk lane
  | .release _ lane _ => stileLaneOk lane
  | .resv _ lane _ => stileLaneOk lane
  | .dstart _ lane _ => stileLaneOk lane
  | .dhold _ lane _ => stileLaneOk lane
  | .ddone _ lane _ => stileLaneOk lane
  | .qin _ lane _ => stileLaneOk lane
  | .ctxcmd _ lane _ => stileLaneOk lane
  | .shfclose _ lane _ => stileLaneOk lane
  | .shfwin _ lane _ => stileLaneOk lane
  | .usent _ lane _ => stileLaneOk lane
  | .beacon _ lane _ => stileLaneOk lane
  | .reg _ lane _ => stileLaneOk lane
  | .frame _ lane _ => stileLaneOk lane
  | .qmsg _ lane _ => stileLaneOk lane
  | .ctxbuf _ lane _ => stileLaneOk lane
  | .jsum _ lane _ => stileLaneOk lane
  | .snap _ lane _ _ => stileLaneOk lane
  | .snapend _ lane _ => stileLaneOk lane
  | .joinApplied _ => true
  | .timeTransfer _ => true
  | .beaconInstantJudged _ pan => panOk pan
  | .supervisionInstant _ => true
  | .handover _ trigger => triggerOk trigger
  | .handoverInstant _ => true
  | .oldPrimaryYield _ => true
  | .takeoverComplete _ => true
  | .eventArrival _ => true
  | .eventDelivery _ ch => hdgChannelOk ch
  | .fire _ acc _ _ => accessOk acc
  | .dramRequest _ source _ _ => dramSourceOk source
  | .dramCommandIssue _ errors => errorsOk errors
  | .requestUrgent _ _ => true
  | .requestLate _ _ => true
  | .refreshDue _ rank => rankOk rank
  | .mr4Poll _ _ => true
  | .zqCalibration _ => true
  | .dqsOscillatorRead _ _ => true
  | .scrub _ bit => scrubOk bit
  | .training _ failed _ => failedOk failed
  | .zerofillDone _ => true
  | .selfRefresh _ acc _ => accessOk acc
  | .autoSelfRefresh _ => true
  | .selfRefreshEntryDone _ => true
  | .selfRefreshExit _ acc _ => accessOk acc
  | .selfRefreshExitDone _ => true
  | .program _ acc _ _ => accessOk acc
  | .erase _ acc _ => accessOk acc
  | .suspend _ acc _ => accessOk acc
  | .resume _ acc _ => accessOk acc
  | .abortFlash _ acc _ _ => accessOk acc
  | .unlockRegion _ acc _ => accessOk acc
  | .lockRegion _ acc _ => accessOk acc
  | .setregion _ acc _ => accessOk acc
  | .flashBadarg _ acc _ => accessOk acc
  | .flashOperationStart _ => true
  | .progDone _ => true
  | .eraseDone _ => true
  | .passwordCompareEnd _ => true
  | .setregionDone _ => true
  | .flashRead _ acc o n _ _ => accessOk acc && flashRangeOk o n
  | .otpProgram _ acc _ _ => accessOk acc
  | .otpProgramDone _ _ => true
  | .journalRecord _ => true
  | .recordDurable _ => true
  | .journalRecovery _ _ _ => true
  | .restate _ acc _ => accessOk acc
  | .formatJournal _ acc _ => accessOk acc
  | .slotRecord _ acc _ => accessOk acc
  | .pacerStep _ => true
  | .pacerStop _ acc _ => accessOk acc
  | .chkStart _ unit trigger => unitOk unit && triggerOk trigger
  | .chkAbort _ acc unit _ _ => accessOk acc && unitOk unit
  | .chkDone _ unit => unitOk unit
  | .resetCommand _ acc _ => accessOk acc
  | .makerRequest _ acc _ => accessOk acc
  | .watchdogKick _ acc _ => accessOk acc
  | .wdogWarn _ => true
  | .watchdogExpiry _ => true
  | .supervisorKick _ core acc _ => coreOk core && accessOk acc
  | .supervisorExpiry _ core => coreOk core
  | .heldRelease _ core acc _ => coreOk core && accessOk acc
  | .logMark _ => true
  | .sensorSample _ temps mv => sitesOk temps && railsOk mv
  | .verify _ acc _ => accessOk acc
  | .verifyDone _ _ _ => true
  | .activate _ acc _ => accessOk acc
  | .updateBadarg _ acc _ => accessOk acc
  | .updateDrained _ => true
  | .spixCommand _ acc _ => accessOk acc
  | .spixdone _ _ => true
  | .lcMaker _ acc _ => accessOk acc
  | .lcField _ acc _ => accessOk acc
  | .lcScrapped _ acc _ => accessOk acc
  | .lcTransitionDone _ copies => copiesOk copies
  | .cdebug _ via => viaOk via
  | .returnToken _ via => viaOk via
  | .scrap _ via => viaOk via
  | .mdebug _ via => viaOk via
  | .remake _ via => viaOk via
  | .tokdone _ => true
  | .debugWindowEnd _ => true
  | .domainReqWrite _ acc n _ => accessOk acc && domainOk n
  | .domainIdle _ n => domainOk n
  | .domainEntryDone _ n => domainOk n
  | .domainWake _ n cause => domainOk n && wakeOk cause
  | .wake _ n => domainOk n
  | .busTimeout _ => true
  | .domainRelease _ acc n _ => accessOk acc && domainOk n
  | .groupGo _ acc g _ => accessOk acc && groupOk g
  | .groupVoteEnd _ g busy => groupOk g && domainsOk busy
  | .groupCommit _ g => groupOk g
  | .groupRefused _ g late => groupOk g && lateOk late
  | .groupAbort _ acc g _ => accessOk acc && groupOk g
  | .halfCycle _ _ => true
  | .zeroCrossing _ _ => true
  | .frequencyUpdate _ _ => true
  | .signalLoss _ _ => true
  | .restoreTimer _ => true
  | .storeSample _ _ _ _ => true
  | .inputFetOpen _ _ _ => true
  | .inputFetClose _ _ _ => true
  | .chargeDelayEnd _ => true
  | .chargeTrip _ _ => true
  | .serviceSwitch _ _ => true
  | .bleed _ acc _ => accessOk acc
  | .clrfault _ acc _ => accessOk acc
  | .bleedfail _ => true
  | .holdoverLimit _ => true
  | .lastgaspStatus _ => true
  | .lastgaspTimeLimit _ => true
  | .supplySwitch _ _ _ => true
  | .backupPor _ _ => true
  | .rtcSecond _ => true
  | .osf _ => true
  | .calendarSet _ acc _ => accessOk acc
  | .plicClaim _ acc ctx => accessOk acc && contextOk ctx
  | .plicComplete _ acc ctx _ => accessOk acc && contextOk ctx
  | .mtimecmpWrite _ acc core _ => accessOk acc && coreOk core
  | .irq _ k trigger => swIrqOk k && triggerOk trigger
  | .extest _ cells _ => cellsOk cells
  | .samplePreload _ cells _ => cellsOk cells
  | .clamp _ _ => true
  | .highz _ _ => true
  | .dtmcs _ _ => true
  | .dmi _ op addr _ => dmiOpOk op && dmiAddrOk addr
  | .bypass _ opcode _ => opcodeOk opcode
  | .registerRead _ acc a => accessOk acc && addressOk a
  | .appSramAccess _ acc a _ _ => accessOk acc && addressOk a
  | .mtip _ core => coreOk core
  | .fmtdone _ => true
  | .restated _ => true
  | .calendarSetApplied _ => true

end Sys2Proof
end

