-- ==== Sys2Proof/Tests/Base.lean ====
section
/-!
SUPPORT. The small states the tests stand on: the reset state with a few fields placed.
-/

namespace Sys2Proof.Tests
open Sys2Proof Sys2Proof.Machine

/-- A command that arrives at once meets the state as it stands: a witness about `s` is one about `elapse 0 s`. -/
theorem elapse_zero (s : State) : elapse 0 s = s := by
  unfold elapse
  split <;> simp

/-- A 32-bit secure access of Lapwing. -/
def byLapwing : Access := { init := 4, secure := true, bytes := 4 }

/-- A 32-bit secure access of application core 0. -/
def byCore0 : Access := { init := 1, secure := true, bytes := 4 }

/-- The state with some domains on. -/
def powered (ds : List Nat) (s : State) : State := forEach ds (fun d t => t.set (PWR_DOMn_STATE d) 2) s

/-- The state with Hedgerow's run of a task waiting for its block. -/
def offered (id hop : Nat) (s : State) : State :=
  setTask { TaskInput.fresh id with busy := true, queued := true, hop := hop }
    ((s.set (PWR_DOMn_STATE (domainOfBlock (id / 64))) 2).set (PWR_DOMn_TRANS (domainOfBlock (id / 64))) 0)

/-- The state in a mode, with `LPW_MODE` showing it. -/
def inMode (m : Mode) (s : State) : State := { s with mode := m }

/-- A time rim in a state, 100,000 s after power-up. -/
def timAt (st : TimState) : State :=
  modTim (fun x => { x with st := st, acc := 3 * 320000000 * 2 ^ 40 }) { State.reset with cycles := 100000 * secCycles }

/-- A voltage loop that holds CODE 70, 1 s after power-up, outside RESET and LOAD. -/
def loopOn (s : State) : State :=
  modVolt (fun v => { v with state := .hold, code := 70 }) { s with mode := .standby, cycles := secCycles }

/-- Canary thresholds. -/
def thresholds (s : State) : State := ((s.set PWR_VL_THRESH_DOWN 60).set PWR_VL_THRESH_UP 50).set PWR_VL_THRESH_EMERG 20

/-- A booking with an identifier, on a chain, at a step. -/
def booking (id chain step : Nat) (m : Octets) : Booking :=
  { req := { id := id, cls := .data, ch := 15, mode := 0, first := 0, mask := 0xFF, sig := none, mpdu := m, asked := 0 },
    chain := chain, step := step, fem := true, des := false, e := 0, level := 0, under := false, rampFrom := 0,
    heldAt := none }

/-- A booking stands on a chain. -/
def placing (b : Booking) (s : State) : State := modCod (fun p => { p with placed := p.placed ++ [b] }) s

/-- Ports 0 to 3 run, with their domain on. -/
def portsOn : State := powered [30] ((State.reset.set RIM_PORT_EN_RXEN 0xF).set RIM_PORT_RUN_RXRUN 0xF)

/-- A booking of chain 2 on air at a step, 1 s after power-up, on a part in PRIMARY with the chain's domain on. -/
def airAt (step : Nat) : State :=
  placing (booking 1 2 step []) (powered [36] { State.reset with mode := .primary, cycles := secCycles })

/-- The same with its desense interval running. -/
def airDes : State := placing { booking 1 2 5 [] with des := true } { State.reset with cycles := secCycles }

/-- The same with its front end back in receive. -/
def airDone : State := placing { booking 1 2 5 [] with fem := false } { State.reset with cycles := secCycles }

/-- The radio rim's first domains on, and the time rim's. -/
def rimOn : State := powered [26, 30, 31, 32, 33, 34, 35, 36, 37] { State.reset with cycles := secCycles }

/-- A ring capture of port 2, with its domain on. -/
def capturing : State :=
  offered 0x380 3 (offered 0x381 3 ((((rimOn.set RIM_CAP_CTRL_PORTS 4).set RIM_CAP_CTRL_MODE 1).set
    RIM_CAP_SIZE_SIZE 1).set RIM_CAP_STAT_ACTIVE 1))

/-- A part in STANDBY that may detect on channel 15, with detection set for one symbol period. -/
def hearing : State :=
  powered [27] (((portsOn.set LNP_CHEN_CHEN 0xFFFF).set LNP_DET_DETSYM 1).set LNP_DET_THR 4) |> inMode .standby

/-- Some lanes of channel 15 hold a state. -/
def laneIn (st : LaneState) (ns : List Nat) (s : State) : State :=
  forEach ns (fun n t => setLane n { Lane.idle with st := st, ch := 15, timing := 3000 } t) s

/-- A loud correlation peak, as one symbol period gives it. -/
def loudPeaks : List (Nat × Sig) := [7].zip [List.replicate 16 (10 ^ 10, 0)]

/-- Lane 4 holds a lane. -/
def withLane (l : Lane) : State := setLane 4 l { State.reset with cycles := secCycles }

/-- A decoder context of lane 4. -/
def decoding (blocks : Nat) (steps : Nat) : DecCtx :=
  { decoder := 0, lane := 4, blocks := List.replicate blocks (0, []), rest := [], metrics := 0 :: List.replicate 63 farMetric,
    history := [], steps := steps, prov := List.replicate 8 false, fin := List.replicate 8 false }

/-- Lane 4 with a decoder context. -/
def decodingLane (l : Lane) (c : DecCtx) : State := modCod (fun p => { p with ctxs := [c] }) (withLane l)

/-- Chain 2 runs, locked on channel 15, on a part in SOLO. -/
def freeChain : State :=
  let s := (((powered [36] State.reset).set COD_TXLIM_MAXCH 1).set RIM_PORT_EN_TXEN 4).set RIM_PORT_RUN_TXRUN 4
  inMode .solo (modChain 2 (fun c => { c with locked := 15 }) s)

/-- A request of channel 15 for 1 s after power-up. -/
def soon : BookReq := { (booking 5 0 0 []).req with first := secCycles }

/-- The transmit path has one outcome to give. -/
def ending (o : TxOutcome) (s : State) : State := modCod (fun c => { c with outcomes := [(7, o)] }) s

/-- An attempt of the PAN 0 beacon in a phase. -/
def tryBeacon (p : AttemptPhase) : Attempt :=
  { for_ := .beacon, pan := 0, mode := 0, mpdu := [], dsn := 0, nb := 0, be := 3, cw := 2, retries := 0, ar := false,
    node := none, deadline := none, phase := p }

/-- One attempt is under way. -/
def trying (a : Attempt) (s : State) : State := modLnk (fun l => { l with attempts := [a] }) s

/-- The acknowledgement of a decided frame, placed as a booking. -/
def ackOf (b : Nat) : AckBooking :=
  { booking := b, ch := 15, pan := 0, start := 0, stop := 0, ackEnd := 0, pri := 0, command := false, lastChip := 0,
    lane := 0, released := true, failed := false, secure := none, poll := none, slot := none }

/-- A frame lane 4 has delivered. -/
def heardFrame (mpdu : Octets) : RxFrame :=
  { lane := 4, ch := 15, mode := 0, mpdu := mpdu, sfdts := 0, lock := false, rssi := -50, snr := 40, lqi := 255, sig := [],
    sigmix := false, sigmove := false, desense := false, look := .miss, gens := [], readPan := 0, revised := false, start := 0,
    lastChip := 0, verdict := none }

/-- A part in a mode that has heard a frame. -/
def heardIn (m : Mode) (f : RxFrame) : State := { State.reset with mode := m, inbox := [f], cycles := secCycles }

/-- An Imm-Ack frame with DSN 9. -/
def immAck : RxFrame := heardFrame [2, 0, 9]

/-- A decided frame at its cut-off. -/
def decidedFrame : Decided :=
  { id := 1, frame := heardFrame [], code := 0, node := none, pan := none, ticket := none, mseq := none, xseq := 0,
    oldCtr := 0, oldNoCtr := false, oldSeq := 0, oldSeqValid := false, advanced := false, ack := none, queue := none,
    plain := [], secured := false }

/-- A downstream frame of queue 3, secured at level 5 with the group key of slot 0. -/
def groupDown : Down :=
  { Down.fresh 1 3 0 [0, 0, 0, 0x68, 0x40] 0 with needsKey := true, plain := List.replicate 20 0, hdrLen := 12 }

/-- A frame of node 5 secured at level 5, and the Enh-Ack it asks for, booked and not yet secured. -/
def securedFrame : RxFrame :=
  { heardFrame (octetsOf [0x09, 0x90, 1, 1, 0, 2, 0, 5, 0, 0, 0, 0, 1, 2, 3, 4, 5]) with look := .hit 5 }

/-- The Enh-Ack of booking 7 waits to be secured with the key of a slot. -/
def eackWaits (valid : Bool) (gen : Nat) : State :=
  let s := modCod (fun c => { c with asked := [{ (booking 7 0 0 []).req with mpdu := securedFrame.mpdu }] })
    (modLnk (fun l => { l with acks := [{ ackOf 7 with secure := some (5, 0), slot := some (512, 0) }] })
      (State.reset.set SEC_CTRL_RUN 1))
  modSec (fun c => { c with kwk := some [], shared := [.eack 7], slots := [(512, { Slot.empty with valid := valid, gen := gen })] }) s

/-- Gorse runs with the group key of slot 0, and its counter space has a block. -/
def groupKey (s : State) : State :=
  modGroup 0 (fun g => { g with block := some 0 })
    (modSec (fun c => { c with kwk := some [], shared := [.tx 3], slots := [(512, { Slot.empty with valid := true })] })
      ((s.set SEC_CTRL_RUN 1).set SEC_LIMIT_LIMIT 0xFFFFFFFF))

/-- A record of a node that is in use, held in hot context 0. -/
def nodeHot (i : Nat) (s : State) : State :=
  let h : Hot := { node := i, os := nrSetFlag fValid true blankRecord, dirty := none, used := 0, writing := false }
  modCtx (fun c => { c with hot := [(0, h)] }) s

/-- A held frame of node 5, from queue 3. -/
def heldDown : Down := { Down.fresh 1 3 0 [] 0 with held := true, node := some 5 }

/-- PAN 0 runs on channel 15 without beacons, on a part in SOLO, 1 s after power-up. -/
def panUp : State :=
  { ((State.reset.set LNK_CTRL_PANRUN 1).set (LNK_PANn_CFG_CH 0) 15).set (LNK_PANn_CFG_BO 0) 15 with
    mode := .solo, cycles := secCycles }

/-- A broadcast frame without payload waits in downstream queue 3. -/
def queued3 : State :=
  let q := ((((panUp.set LNK_DQ_RUN_RUN 8).set (UPL_Qn_CFG_EN 3) 1).set (UPL_Qn_PI_PI 3) 1).set
    (UPL_Qn_BASE_HI_ADDR 3) 0x10).set (LNK_PANn_CFG_MODES 0) 1
  dramPut 0 ([0, 0, 8] ++ zeros 17 ++ [0x10]) (q.set (LNK_DQn_WEIGHT 3) 1)

/-- A poll of node 5 of PAN 0 was acknowledged at the start. -/
def polled (s : State) : State := modLnk (fun l => { l with polls := [(5, 0, 0)] }) s

/-- A fill of queue 3's destination is under way. -/
def filling (s : State) : State :=
  let f : Fill :=
    { lanes := [], queues := [3], pan := 0, key := [], also := [], issued := 0, node := none, slot := 0 }
  modCtx (fun c => { c with fills := [f] }) s

/-- The same in a beacon-enabled PAN. -/
def panBeaconing : State := panUp.set (LNK_PANn_CFG_BO 0) 6

/-- Booking 7 is placed. -/
def holding (s : State) : State := placing (booking 7 2 0 []) s

/-- Page 7, Lapwing's, with an operation code; `SEC` is on. -/
def pageAt (op : Nat) : State := (powered [3] State.reset).set (PGn_OP_OP 7) op

/-- The same with an operation of the page under way. -/
def pageBusy (op : Nat) : State :=
  modSec (fun g => { g with pages := [{ page := 7, acc := byLapwing, slot := none, gen := 0, words := (pageAt op).pageLatch 7 }] }) (pageAt op)

/-- AES-ECB of page 7 with both addresses in the die's shared SRAM. -/
def pageHigh : State := ((pageAt 3).set (PGn_SRC_HI 7) 0x10).set (PGn_DST_HI 7) 0x10

/-- The same under way. -/
def pageFed : State :=
  modSec (fun g => { g with pages := [{ page := 7, acc := byLapwing, slot := none, gen := 0, words := pageHigh.pageLatch 7 }] })
    pageHigh

/-- GO may start the operation on page 7. -/
def pageMay (t : State) : Bool :=
  let a := pageCtrlAddr 7
  let u := (written a 1 t).set (PGn_CTRL_CLEAR 7) 0
  verdict byLapwing a true t == .serve && (written a 1 t).pageRun 7 == none && !u.pageBad 7 && !u.pageDenied 7

/-- A reservation of group slot 0, and the journal with its record durable. -/
def reserving (s : State) : State :=
  let r : Resv := { group := true, id := 0, block := 0, ticket := some 0, gate := none, since := 0 }
  modSec (fun g => { g with resvs := [r] }) (modJnl (fun j => { j with accepted := [] }) s)

/-- Lane 0 on channel 15, where PAN 0 is 0x1234, has some octets of a frame. -/
def sourced (os : Octets) (s : State) : State :=
  setLane 0 { Lane.idle with st := .psdu, ch := 15, prov := os } ((s.set (LNK_PANn_CFG_MODES 0) 1).set (LNK_PANn_ID_PANID 0) 0x1234)

/-- A frame from short address 0x0007 of PAN 0x1234, up to its source address. -/
def from7 : Octets := octetsOf [0x01, 0x80, 0, 0x34, 0x12, 7, 0]

/-- Node 5 of PAN 0 is hot at short address 7. -/
def node7Hot (s : State) : State :=
  let os := nrSetFlag fSaddrv true (nrSet nrSaddr 7 (nrSetFlag fValid true blankRecord))
  modCtx (fun c => { c with hot := [(0, { node := 5, os := os, dirty := some 0, used := 0, writing := true })] }) s

/-- A record of node 5 is being written back from the buffer. -/
def writing5 (s : State) : State := modCtx (fun c => { c with wb := [(5, blankRecord, true, 0)] }) s

/-- Address 7 of PAN 0 has been in quarantine since the start. -/
def quarantined (s : State) : State := modCtx (fun c => { c with quar := [(0, 7, 0)] }) s

/-- Channel A has a command with a result. -/
def cmdWaits (r : Option Nat) (s : State) : State :=
  let c : CtxCmd :=
    { chan := 0, op := 0, node := 5, saddr := 0, pan := 0, mask := 0, staging := 0, buf := [], ecc := false, gate := none,
      ticket := none, result := r, revived := false, outNode := 5, outAddr := 0, since := 0 }
  modCtx (fun x => { x with cmds := [c] }) s

/-- A frame of node 5 for Sheaf. -/
def sheafFrame : ShfFrame :=
  { sfdts := 0, lock := false, mode := 0, pan := 0, ch := 15, rssi := 0, lqi := 0, node := 5, dec := 0, secured := false,
    isData := true, header := [], payload := [], mseq := 7 }

/-- Sheaf's input buffer holds that frame, and rule 0, with action `act`, takes every frame of PAN 0. -/
def sheafFed (act : Nat) (s : State) : State :=
  modShf (fun h => { h with
    input := [sheafFrame], rules := [(0, le 4 (0x10001 + 2 * act) ++ le 2 1 ++ zeros 4 ++ le 2 127 ++ zeros 52)] }) s

/-- The frame waits for raw queue 0. -/
def sheafStuck (s : State) : State := modShf (fun h => { h with rawWait := some 48 }) s

/-- Class 0 has a closed batch that waits for its queue. -/
def batchWaits (s : State) : State := setClass 0 { BatchClass.fresh with waiting := some ([], 3, true) } s

/-- Flow 0 has an open window that ends at 0 s. -/
def windowOpen (s : State) : State :=
  let w : ShfWin := { j := 0, count := 1, first := 0, last := 0, lock := true, mins := [], maxs := [], sums := [] }
  setFlow 0 { Flow.bound 5 0 0 0 0 with wins := [w] } s

/-- Timebase at 1 s. -/
def atOneSecond (s : State) : State := { s with tim := { s.tim with acc := secCycles * 2 ^ 40 } }

/-- Port 0 may run and its link is down; the other's is as said. -/
def portReady (other : Bool) (s : State) : State :=
  inMode .solo (modUpl (fun u => { u with up1 := other }) ((s.set UPL_CFG_MODE0 2).set UPL_CTRL_RUN 1))

/-- The links of both ports are as said. -/
def portsAre (a b : Bool) (s : State) : State := modUpl (fun u => { u with up0 := a, up1 := b }) s

/-- An MDIO transaction is under way at port 0. -/
def mdioRuns (s : State) : State := modUpl (fun u => { u with mdio := [(0, 0x800, 0)] }) s

/-- The instant one second after power-up. -/
def aSecondOn (s : State) : State := { s with cycles := 100 * secCycles }

/-- An ARP request of 64 octets with a good FCS, to the broadcast address. -/
def arpFrame : Octets :=
  let body := List.replicate 6 0xFF ++ zeros 6 ++ octetsOf [8, 6] ++ zeros 46
  body ++ le 4 (crc32 body)

/-- The same to an address that is not the device's. -/
def strayFrame : Octets :=
  let body := octetsOf [1, 2, 3, 4, 5, 6] ++ zeros 6 ++ octetsOf [8, 6] ++ zeros 46
  body ++ le 4 (crc32 body)

/-- A PAUSE frame to the reserved address. -/
def pauseFrame : Octets :=
  let body := octetsOf [1, 0x80, 0xC2, 0, 0, 1] ++ zeros 6 ++ octetsOf [0x88, 8, 0, 1] ++ zeros 44
  body ++ le 4 (crc32 body)

/-- Something is being sent from port 0. -/
def sendingOut (m : UplMsg) (s : State) : State :=
  modUpl (fun u => { u with sending := some { port := 0, msg := m, frames := [] } }) s

/-- PTP runs on port 0 at 1,000 Mb/s, with a master of identity zero. -/
def ptpOn (s : State) : State :=
  modPtp (fun p => { p with master := some (zeros 10) })
    (portsAre true false (inMode .solo (((s.set UPL_PTP_CFG_EN 1).set UPL_STAT_SPEED0 2).set UPL_PTP_STAT_STATE ptpUncalibrated)))

/-- A PTP version 2 message of some type, of 64 octets, from port identity zero. -/
def ptpMessage (type flags : Nat) : Octets := octetsOf [type, 2] ++ zeros 4 ++ octetsOf [flags] ++ zeros 57

/-- A foreign master heard at the start. -/
def foreignAt (port : Octets) : Foreign :=
  { port := port, count := 1, prio1 := 0, quality := 0, prio2 := 0, gm := 0, steps := 0, utc := 0, interval := 0, last := 0 }

/-- A standby in SYNC whose link is up. -/
def standbySynced : State :=
  modStl (fun p => { p with link := true, sync := syncSync, elected := true }) (inMode .standby State.reset)

/-- A frame of Stile as its sender makes it. -/
def stileSent (type : Nat) (payload : Octets) : Octets := stileFrame type false 0 payload

/-- A COMMIT frame with one record of a kind. -/
def commitOf (k : Nat) : Octets := stileSent tyCommit (octetsOf [k] ++ zeros 31)

/-- A BULK frame of an item. -/
def bulkOf (k : Nat) : Octets := stileSent tyBulk (octetsOf [k] ++ zeros 15)

/-- Record `r` is the next in order. -/
def recordHeld (r : Octets) (s : State) : State :=
  modStl (fun p => { p with held := [{ bulk := false, seq := p.applied, payload := r, last := false, content := [] }] }) s

/-- A handover under way, with H at the start. -/
def handing (giving moved : Bool) (m : Option Nat) (s : State) : State :=
  modStl (fun p => { p with handover := some { h := 0, giving := giving, moved := moved, lastMseq := m } }) s

/-- Lanes up as said. -/
def stlLanes (a b : Bool) (s : State) : State :=
  modStlLane 1 (fun l => { l with up := b }) (modStlLane 0 (fun l => { l with up := a }) s)

/-- A channel holds one event with some hop count. -/
def eventHeld (ch hop : Nat) (s : State) : State :=
  modHdg (fun x => { x with
    held := [{ ch := ch, producer := 0, seq := 0, hop := hop, ts := 0, lock := false, sw := false, dests := [] }] }) s

/-- The task input 0x0C0 is busy since the start. -/
def taskRuns (queued : Bool) (s : State) : State :=
  setTask { TaskInput.fresh 0xC0 with busy := true, queued := queued, start := some 0 } s

/-- The DRAM controller is READY and its domain is on. -/
def dramUp : State := powered [18] (State.reset.set DMC_STAT_STATE 3)

/-- A request on a port has waited since the start. -/
def requestWaits (port : Nat) (s : State) : State :=
  let r : DmcReq :=
    { id := 0, port := port, offset := 0, len := 8, data := none, since := 0, target := 10, urgent := false, late := false, acc := none }
  modDmc (fun d => { d with queue := [r] }) s

/-- A flash operation runs. -/
def flashRuns (op : FlsOp) (s : State) : State := modFls (fun f => { f with op := some op }) s

/-- A command of the protection page runs. -/
def flashProts (op : FlsProt) (s : State) : State := modFls (fun f => { f with prot := some op }) s

/-- The erase of block 3 is suspended. -/
def eraseParked (s : State) : State := modFls (fun f => { f with susp := some (.erase 3 0 true) }) s

/-- The flash's domain is on. -/
def flashUp : State := powered [5] State.reset

/-- A write of `FLS_CMD` with GO and some OP by Lapwing, as it leaves the registers. -/
def flsWrote (op : Nat) (s : State) : State := written 0x20050000 (BitVec.ofNat 32 (2 ^ 31 + op)) s

/-- A record is offered to the journal. -/
def recordOffered (type : Nat) (s : State) : State := jnlOffer type 0 s

/-- A record is accepted at a position. -/
def recordAccepted (p : Nat) (s : State) : State :=
  modJnl (fun j => { j with accepted := [(p, { ticket := 0, type := 1, payload := 0, whole := true })] }) s

/-- A check unit runs over some octets. -/
def checkRuns (u : Nat) (s : State) : State :=
  modCfg (fun c => { c with chks := [{ unit := u, acc := byLapwing, poly := 0, cmp := true, addr := 0x10000000, len := 8, exp := 0 }] }) s

/-- The pacer is active. -/
def pacerOn (m : Nat) (s : State) : State := (((s.set CFG_PACECTL_ACTIVE 1).set LNK_ADM_M m).set CFG_PACE_STEP 1)

/-- Power is good, and the device is in SOLO. -/
def poweredOn (s : State) : State := inMode .solo (modLpw (fun l => { l with powerGood := true }) s)

/-- Core 0 is in some state. -/
def core0In (h : HartState) (s : State) : State := setHart 0 { s.hart 0 with state := h } s

/-- A life-cycle transition is under way. -/
def transiting (s : State) : State := modLpw (fun l => { l with lc := some { old := 0, new := 1, bit := 0 } }) s

/-- A transition of domain 7 is under way. -/
def moving (target : Nat) (again : Option (Nat × Nat)) (s : State) : State :=
  modPwr (fun p => { p with trans := [{ dom := 7, target := target, since := 0, cause := 0, init := 0, again := again }] }) s

/-- An access has stalled since the start. -/
def stalling (s : State) : State :=
  { s with stalled := [{ acc := byCore0, addr := 0x20070000, write := none, sram := none, since := 0 }] }

/-- Domain 28 is on, idle, not required, and asked to sleep. -/
def sleepy : State := aSecondOn (((powered [28] (inMode .safe State.reset)).set (PWR_DOMn_REQ 28) 1))

/-- Group 0 has member 7, some target, and some state. -/
def grouped (target st go : Nat) (s : State) : State :=
  (((s.set (PWR_GRPg_MASK_LO_MASK 0) 0x80).set (PWR_GRPg_CTRL_TARGET 0) target).set (PWR_GRPg_STAT_STATE 0) st).set
    (PWR_GRPg_CTRL_GO 0) go

/-- Mains sense is enabled, in some state. -/
def sensing (st : Nat) (s : State) : State := (s.set PWR_MS_CFG_EN 1).set PWR_MS_STAT_STATE st

/-- The store controller is in some state, with power good and the input FETs as said. -/
def storeIn (st idc : Nat) (s : State) : State := (poweredOn s).set PWR_HU_STAT_STATE st |>.set PWR_HU_STAT_IDC idc

/-- The loader waits for the check of `st`, in some state. -/
def loading (st : Nat) (s : State) : State := (inMode .load s).set CFG_STAT_STATE st

/-- The device is about to leave RESET, its three life-cycle words programmed to `w`. -/
def leaving (w : Nat) : State :=
  modOtp (fun o => { o with words := [(0x10, w), (0x11, w), (0x12, w)] }) (inMode .reset (poweredOn State.reset))

/-- A header of two sections that no table entry follows. -/
def headed (s : State) : State := modCfg (fun c => { c with header := zeros 14 ++ octetsOf [2, 0] ++ zeros 300 }) s

/-- A device in SOLO with the domains of its cores and the DRAM window on. -/
def appOn : State := powered [0, 8, 9, 10] (inMode .solo State.reset)

/-- Source 72 is pending with priority 1 and enabled for context 0. -/
def pending73 (s : State) : State :=
  { (s.setWord 0x0C000124 1).setWord 0x0C002008 0x200 with app := { s.app with pendingIds := [73] } }

/-- An access of core 0 of `n` bytes. -/
def sramAt (n : Nat) : Access := { byCore0 with bytes := n }

/-- The DMI result that is kept. -/
def kept (n : Nat) (s : State) : State := modTap (fun t => { t with dmiOp := n }) s

/-- The shadow of the life-cycle words holds `w`. -/
def otpState (w : Nat) : State := modOtp (fun o => { o with shadow := [(0x10, w), (0x11, w), (0x12, w)] }) State.reset

/-- Lapwing's SEC window: domain `d` is locked off. -/
def lockedOff (d : Nat) (s : State) : State := s.set (PWR_DOMn_LOCKOFF d) 1

/-- Domain `d` is off. -/
def idleDomain (d : Nat) (s : State) : State := s.set (PWR_DOMn_STATE d) 0

/-- A firewall window over all registers that admits nobody. -/
def walled (s : State) : State :=
  (((s.set (APP_FWn_ATTR_VALID 0) 1).setWord (APP_FWn_SIZE_SIZE 0).addr 0xFFFFFFFF))

/-- An acknowledgement booked with these priorities. -/
def booked (pri : Nat) (command : Bool) (lastChip lane : Nat) : AckBooking :=
  { booking := 0, ch := 0, pan := 0, start := 0, stop := 0, ackEnd := 0, pri := pri, command := command, lastChip := lastChip,
    lane := lane, released := false, failed := false, secure := none, poll := none, slot := none }

end Sys2Proof.Tests
end

