-- ==== Sys2Proof/Tests/Slice0.lean ====
section
/-!
SUPPORT. The model's own tests: each check of WellFormed refuses an ill-formed command, figures of the manual's own examples,
and for every statement with hypotheses a state that meets them.
-/

set_option Elab.async false

namespace Sys2Proof.Tests
open Sys2Proof Sys2Proof.Machine

/-! ### WellFormed -/

/-- A signature of the right length. -/
def aSig : Sig := List.replicate 16 (0, 0)

theorem test_wellFormed : Instr.wellFormed (.registerRead 0 byLapwing 0x20000000) = true := by decide

theorem smoke_accessOk : Instr.wellFormed (.registerRead 0 { byLapwing with init := 3 } 0) = false := by decide
theorem smoke_addressOk : Instr.wellFormed (.registerRead 0 byLapwing (2 ^ 32)) = false := by decide
theorem smoke_flashRangeOk : Instr.wellFormed (.flashRead 0 byLapwing 0x7FFFFE 4 false false) = false := by decide
theorem smoke_triggerOk : Instr.wellFormed (.capStop 0 (.write { byLapwing with bytes := 3 } 0)) = false := by decide
theorem smoke_optAccessOk : Instr.wellFormed (.activeSourceChange 0 (some ({ byLapwing with init := 9 }, 0))) = false := by decide
theorem smoke_viaOk : Instr.wellFormed (.scrap 0 (.write { byLapwing with init := 9 } 0)) = false := by decide
theorem smoke_portOk : Instr.wellFormed (.gapEnd 0 16) = false := by decide
theorem smoke_chainOk : Instr.wellFormed (.txEnd 0 8) = false := by decide
theorem smoke_laneOk : Instr.wellFormed (.lookup 0 64) = false := by decide
theorem smoke_stileLaneOk : Instr.wellFormed (.ack 0 2 []) = false := by decide
theorem smoke_uplPortOk : Instr.wellFormed (.linkDown 0 2) = false := by decide
theorem smoke_panOk : Instr.wellFormed (.bcnreqBeacon 0 16) = false := by decide
theorem smoke_channelOk : Instr.wellFormed (.detection 0 10 [0] [aSig]) = false := by decide
theorem smoke_nodeOk : Instr.wellFormed (.indirectSend 0 262144) = false := by decide
theorem smoke_nodesOk : Instr.wellFormed (.tableRebuild 0 false [262144]) = false := by decide
theorem smoke_pageOk : Instr.wellFormed (.pageEcb 0 byLapwing 8 0) = false := by decide
theorem smoke_classOk : Instr.wellFormed (.batchAgeClose 0 16) = false := by decide
theorem smoke_queueOk : Instr.wellFormed (.piWrite 0 byLapwing 64 0) = false := by decide
theorem smoke_rankOk : Instr.wellFormed (.refreshDue 0 2) = false := by decide
theorem smoke_unitOk : Instr.wellFormed (.chkDone 0 4) = false := by decide
theorem smoke_coreOk : Instr.wellFormed (.mtip 0 2) = false := by decide
theorem smoke_domainOk : Instr.wellFormed (.wake 0 42) = false := by decide
theorem smoke_domainsOk : Instr.wellFormed (.groupVoteEnd 0 0 [42]) = false := by decide
theorem smoke_lateOk : Instr.wellFormed (.groupRefused 0 0 (some 42)) = false := by decide
theorem smoke_groupOk : Instr.wellFormed (.groupCommit 0 8) = false := by decide
theorem smoke_contextOk : Instr.wellFormed (.plicClaim 0 byLapwing 3) = false := by decide
theorem smoke_swIrqOk : Instr.wellFormed (.irq 0 8 .task) = false := by decide
theorem smoke_hdgChannelOk : Instr.wellFormed (.eventDelivery 0 256) = false := by decide
theorem smoke_commandChannelOk : Instr.wellFormed (.ctxRead 0 byLapwing 2 0 false) = false := by decide
theorem smoke_alarmOk : Instr.wellFormed (.faultAlarm 0 6 0) = false := by decide
theorem smoke_sourcesOk : Instr.wellFormed (.faultAlarm 0 0 32) = false := by decide
theorem smoke_coresOk : Instr.wellFormed (.sectionLoaded 0 0 none false { cores := 256, mism := false }) = false := by decide
theorem smoke_sectionOk : Instr.wellFormed (.sectionLoaded 0 60 none false { cores := 0, mism := false }) = false := by decide
theorem smoke_copiesOk : Instr.wellFormed (.lcTransitionDone 0 4) = false := by decide
theorem smoke_halfOk : Instr.wellFormed (.selftestJudge 0 65536) = false := by decide
theorem smoke_octetOk : Instr.wellFormed (.stallAlarm 0 256) = false := by decide
theorem smoke_symbolOk : Instr.wellFormed (.payloadSymbol 0 0 16 [] 0 aSig aSig) = false := by decide
theorem smoke_timingOk : Instr.wellFormed (.detection 0 11 [5120] [aSig]) = false := by decide
theorem smoke_mdioValueOk : Instr.wellFormed (.mdioDone 0 0 (some 65536)) = false := by decide
theorem smoke_dmiOpOk : Instr.wellFormed (.dmi 0 4 0 0) = false := by decide
theorem smoke_dmiAddrOk : Instr.wellFormed (.dmi 0 0 128 0) = false := by decide
theorem smoke_opcodeOk : Instr.wellFormed (.bypass 0 32 []) = false := by decide
theorem smoke_sigOk : Instr.wellFormed (.estEnd 0 0 [] 0 0) = false := by decide
theorem smoke_slacksOk : Instr.wellFormed (.stepUp 0 []) = false := by decide
theorem smoke_sitesOk : Instr.wellFormed (.sensorSample 0 [] (List.replicate 6 0)) = false := by decide
theorem smoke_railsOk : Instr.wellFormed (.sensorSample 0 (List.replicate 8 0) []) = false := by decide
theorem smoke_chainsOk : Instr.wellFormed (.calibrationEnd 0 false 0 0 (List.replicate 128 0) (List.replicate 16 0) []) = false := by decide +kernel
theorem smoke_isoOk : Instr.wellFormed (.recalDone 0 0 true [] 0) = false := by decide
theorem smoke_isoAllOk : Instr.wellFormed (.calibrationEnd 0 false 0 0 [] (List.replicate 16 0) (List.replicate 8 0)) = false := by decide +kernel
theorem smoke_floorsOk : Instr.wellFormed (.calibrationEnd 0 false 0 0 (List.replicate 128 0) [] (List.replicate 8 0)) = false := by decide +kernel
theorem smoke_cellsOk : Instr.wellFormed (.extest 0 [] []) = false := by decide
theorem smoke_softOk : Instr.wellFormed (.payloadSymbol 0 0 0 [0] 0 aSig aSig) = false := by decide
theorem smoke_peaksOk : Instr.wellFormed (.detection 0 11 [0, 0] [aSig]) = false := by decide
theorem smoke_quietOk : Instr.wellFormed (.noiseWindowEnd 0 [(27, 0)]) = false := by decide
theorem smoke_blocksOk : Instr.wellFormed (.captureBlock 0 [(0, [], false)]) = false := by decide
theorem smoke_bitOk : Instr.wellFormed (.scrub 0 (some (some 72))) = false := by decide
theorem smoke_errorsOk : Instr.wellFormed (.dramCommandIssue 0 [{ word := 4, bit := none }]) = false := by decide
theorem smoke_scrubOk : Instr.wellFormed (.scrub 0 (some (some 80))) = false := by decide
theorem smoke_failedOk : Instr.wellFormed (.training 0 (some (8, false)) 0) = false := by decide
theorem smoke_dramSourceOk : Instr.wellFormed (.dramRequest 0 (.engine 8 0) 0 none) = false := by decide
theorem smoke_secWhoOk : Instr.wellFormed (.secRequest 0 (.tx 32)) = false := by decide
theorem smoke_attemptOk : Instr.wellFormed (.backoffEnd 0 0 (.empty 262144)) = false := by decide
theorem smoke_recalOk : Instr.wellFormed (.txchainRecalRequest 0 (.enabled 8)) = false := by decide
theorem smoke_writeBackOk : Instr.wellFormed (.writeBack 0 (.due 262144)) = false := by decide
theorem smoke_wakeOk : Instr.wellFormed (.domainWake 0 0 (.access 3)) = false := by decide
theorem smoke_offsetOk : Instr.wellFormed (.estEnd 0 0 aSig 4001 0) = false := by decide
theorem smoke_sampleOk : Instr.wellFormed (.captureBlock 0 [(0, List.replicate 16 (512, 0), false)]) = false := by decide

/-! ### Figures of the manual's own examples and of the standards it names -/

/-- R473: the check values over "123456789". -/
theorem test_check_values :
    let m := octetsOf [0x31, 0x32, 0x33, 0x34, 0x35, 0x36, 0x37, 0x38, 0x39]
    checkValue 0 m = 0x2189 ∧ checkValue 1 m = 0xCBF43926 ∧ checkValue 2 m = 0xE3069283 ∧
      checkValue 3 m = 0x6C40DF5F0B497347 := by decide +kernel

/-- 04_air_interface.md, the example of mode X3: PHR and PSDU. -/
theorem test_phr_x3 : phrExt 3 1 = 0x2006 ∧ phrExtOk 0x2006 = true ∧ phrExtOk 0x2002 = false := by decide

theorem test_psdu_x3 : fcs 3 (octetsOf [0x61]) = octetsOf [0x43, 0xBE, 0xB7, 0xE8] ∧ codedCount 3 5 = 92 ∧
    payloadSymbols 3 5 = 24 := by decide +kernel

/-- 03_radio_rim.md, the example of a capture block: e = 4, and 300 and −137 become 18 and −9. -/
theorem test_capture_mantissa :
    captureExp [300, -137] = 4 ∧ captureMantissa 4 300 = 18 ∧ captureMantissa 4 (-137) = 64 - 9 := by decide

/-- 11_upstream.md, the example of one servo update: −2,045,092 of −1,860 ppb, and i = −1,540 ppb. -/
theorem test_servo :
    let r := servo (40 * 65536) 128 16 (secCycles / 16) (-1500 * 65536)
    r.1 = -1540 * 65536 ∧ r.2 = -1860 * 65536 ∧ rateOf r.2 = -2045092 := by decide

/-- 10_sheaf.md, the example of bounded-error coding: the codes and values of samples 1 and 4 at q = 5, and EXACT's escape. -/
theorem test_rice : riceCode 2 0 2 2153 = ([true, true, false], 2, false) ∧
    riceCode 2 4 3 2148 = ([true, true, true, false], 7, false) ∧ (riceCode 2 0 16 2161).2.2 = true := by decide

theorem test_zigzag : zigzag 8 = 16 ∧ zigzag (-1) = 1 ∧ zigzag (-12) = 23 ∧ zigzag 1 = 2 ∧ zigzag (-2) = 3 := by decide

/-- 14_dram.md, the example of a node record's place under BANK. -/
theorem test_dram_place :
    (State.reset.dramPlace 0x50A3F00).bank = 7 ∧ (State.reset.dramPlace 0x50A3F00).slot = 1 ∧
      (State.reset.dramPlace 0x50A3F00).row = 2949 := by decide +kernel

/-- 19_mains_holdover_backup.md, the edge dates (years from 2000, weekdays from Sunday): 28 and 29 February 2000, 28 February
2100 and the day after, 1 January 2000, 31 December 2399. -/
theorem test_weekdays : weekday 0 2 28 = 1 ∧ weekday 0 2 29 = 2 ∧ monthDays 100 2 = 28 ∧ weekday 100 2 28 = 0 ∧
    weekday 100 3 1 = 1 ∧ weekday 0 1 1 = 6 ∧ weekday 399 12 31 = 5 := by decide +kernel

/-- FIPS 197, appendix B: the cipher example. -/
theorem test_aes :
    aes (octetsOf [0x2b, 0x7e, 0x15, 0x16, 0x28, 0xae, 0xd2, 0xa6, 0xab, 0xf7, 0x15, 0x88, 0x09, 0xcf, 0x4f, 0x3c])
      (octetsOf [0x32, 0x43, 0xf6, 0xa8, 0x88, 0x5a, 0x30, 0x8d, 0x31, 0x31, 0x98, 0xa2, 0xe0, 0x37, 0x07, 0x34]) =
    octetsOf [0x39, 0x25, 0x84, 0x1d, 0x02, 0xdc, 0x09, 0xfb, 0xdc, 0x11, 0x85, 0x97, 0x19, 0x6a, 0x0b, 0x32] := by
  decide +kernel

/-- FIPS 180-4: SHA-256 of "abc". -/
theorem test_sha256 : sha256 (octetsOf [0x61, 0x62, 0x63]) =
    be 32 0xba7816bf8f01cfea414140de5dae2223b00361a396177a9cb410ff61f20015ad := by decide +kernel

/-- 08_security.md, the example of a nonce. -/
theorem test_nonce : ccmNonce 0x7A3C010000002B45 0x1A2C 5 =
    octetsOf [0x7A, 0x3C, 0x01, 0, 0, 0, 0x2B, 0x45, 0, 0, 0x1A, 0x2C, 5] := by decide +kernel

/-- R13: reset values of the register tables, and an element of an array. -/
theorem test_reset_words : resetWord 0x20010404 = 0x00081830 ∧ resetWord 0x20010400 = 0x80000000 ∧
    resetWord 0x20010420 = 0x0001FF00 ∧ resetWord 0x20010428 = 0x0002FF00 := by decide +kernel

/-- R569: the totals of the supply nets over the 676 balls. -/
theorem test_ball_totals :
    [Net.vddCore, .vddAna, .vddAon, .vdd2, .vddq, .vddIo, .vbat, .vss].map
      (fun n => (balls.filter (fun b => ballNet b.1 b.2 == n)).length) = [80, 40, 8, 12, 20, 10, 1, 332] := by decide +kernel

/-- R587: the chain runs in ball order. -/
theorem test_chain_in_ball_order :
    balls.filterMap (fun b => match ballNet b.1 b.2 with
      | .signal (.chain p) => some p
      | _ => none) = chainPads := by decide +kernel

/-- R566, the example: DRAM1_CA3 is at AC24, FEMB_11 at AE14 and ANT11 at AG13. -/
theorem test_ball_example :
    ballNet (rowNumber "AC") 24 = .signal (.ca 1 3) ∧ ballNet (rowNumber "AE") 14 = .signal (.chain (.femb 11)) ∧
    ballNet (rowNumber "AG") 13 = .signal (.ant 11) := by decide +kernel

/-! ### The hypotheses of the statements can be met -/

theorem witness_time_rim_moves :
    ((timAt .acq).passed (timAt .acq).tim.lastMeas (2 * secCycles) = true ∧ (timAt .acq).tim.st = .acq) ∧
    ((timAt .locked).passed (timAt .locked).tim.lastMeas (2 * secCycles) = true ∧ (timAt .locked).tim.st = .locked) ∧
    ((timAt .coast).tim.st = .coast ∧ (timAt .coast).passed (max (timAt .coast).tim.coastFrom (timAt .coast).tim.lastMeas)
      ((timAt .coast).get TIM_COAST_COAST_S * secCycles) = true) ∧
    ((timAt .locked).set TIM_CTRL_SRC 1).selectedSource ≠ ((timAt .locked).set TIM_CTRL_SRC 1).tim.src ∧
    verdict byLapwing 0x20120000 true State.reset = .serve ∧
    verdict byLapwing 0x20120020 true State.reset = .serve ∧ wrote 1 TIM_STEP_CMD_GO = true ∧
    ((written 0x20120020 1 (timAt .free)).set TIM_STEP_CMD_GO 0).lock = false ∧
    ((written 0x20120020 1 (timAt .locked)).set TIM_STEP_CMD_GO 0).lock = true ∧
    verdict byLapwing 0x20120010 false State.reset = .serve ∧
    (timAt .free).tim.secFired < (timAt .free).ts / 320000000 ∧ (timAt .free).tim.milliFired < (timAt .free).ts / 320000 ∧
    (offered 0x480 3 State.reset).taskQueued 0x480 = true := by
  and_intros <;> decide

theorem witness_voltage_loop :
    (inMode .standby State.reset).volt.state = .idle ∧ voutLinear 0x18 = true ∧ statusFault 0 = false ∧ statusFault 0x8000 = true ∧
    (State.reset.set PWR_VL_CFG_EN 1).is PWR_VL_CFG_EN = true ∧
    (readCanaries (List.replicate 8 100) (thresholds (loopOn State.reset))).mayStepDown = true ∧
    (let u := restartDwell (readCanaries (List.replicate 8 40) (thresholds (loopOn State.reset)))
     u.volt.running = true ∧ u.slackEmergency = false ∧ u.minSlack < u.get PWR_VL_THRESH_UP ∧
       u.minSlack < u.get PWR_VL_THRESH_DOWN) ∧
    (readCanaries [0] (thresholds (loopOn State.reset))).slackEmergency = true ∧
    (let t := modVolt (fun v => { v with inflight := some 70, next := none }) (loopOn State.reset)
     t.volt.inflight = some 70 ∧ t.volt.running = true ∧ t.volt.next = none) ∧
    (let t := modVolt (fun v => { v with checkAt := some 0, expo := -12 }) (loopOn State.reset)
     t.checkDue = true ∧ t.scheduled = true ∧ voutMismatch (-12) 0 t.volt.code = true) ∧
    ((List.range 4000).any (fun v => voutMismatch (-12) v (loopOn State.reset).volt.code == false) = true) ∧
    verdict byLapwing 0x20010414 true State.reset = .serve ∧ wrote 0x100 PWR_VL_ERR_FROZEN = true ∧
    (written 0x20010414 0x100 (modVolt (fun v => { v with state := .frozen }) State.reset)).volt.state = .frozen ∧
    verdict byLapwing 0x20010418 true (loopOn State.reset) = .serve ∧
    (loopOn State.reset).is PWR_VL_FORCE_HOLDMAX = false ∧
    (written 0x20010418 1 (loopOn State.reset)).is PWR_VL_FORCE_HOLDMAX = true ∧
    (written 0x20010418 1 (loopOn State.reset)).volt.running = true := by
  and_intros <;> decide +kernel

theorem witness_rim_fifos_and_agc :
    portsOn.portRuns 1 = true ∧ portsOn.domainOn (domRx0 + 1 / 4) = true ∧ portsOn.rim.gaps.elem 1 = false ∧
    (placing (booking 1 2 3 []) State.reset).airOf 2 = some (booking 1 2 3 []) ∧
    portsOn.portLive 1 = true ∧
    (let u := count (clipFld 1) 1 (showPower 1 (-20) portsOn)
     u.farBelow 1 (-20) = false ∧ (restartLow 1 u).get RIM_AGC_ATTACK ≤ 300 ∧ (restartLow 1 u).gainFixed 1 = false) ∧
    (let u := showPower 1 (-120) { portsOn with cycles := secCycles }
     u.farBelow 1 (-120) = true ∧ u.raiseSuspended = false ∧ u.decayed 1 = true) := by
  and_intros <;> decide +kernel

theorem witness_transmission_steps :
    (let t := modChain 2 (fun c => { c with locked := 15 }) ((airAt 0).set COD_TXLIM_MAXCH 8)
     firstAfter 0 ((t.bookingsOf 2 []).filter (fun x => x.step == 0)) = some (booking 1 2 0 []) ∧
     t.step1 0 ≤ t.cycles ∧ t.airOf 2 = none ∧ t.onAir.length < t.txLimit ∧
     t.lnk.acks.any (fun a => a.booking == 1 && a.secure.isSome) = false ∧
     (t.chain 2).locked = 15 ∧ t.domainOn (domTx0 + 2) = true) ∧
    ((airAt 0).chain 2).locked ≠ 15 ∧
    ((airAt 0).set COD_TXLIM_MAXCH 0).txLimit ≤ ((airAt 0).set COD_TXLIM_MAXCH 0).onAir.length ∧
    ((airAt 1).airOf 2 = some (booking 1 2 1 []) ∧ (0 : Nat) ≤ (airAt 1).cycles + (airAt 1).ramp) ∧
    (let u := emit 0x344 0 (modBooking 1 (fun x => { x with step := 3 }) (airAt 2))
     (airAt 2).airOf 2 = some (booking 1 2 2 []) ∧ u.beaconPan 1 = none) ∧
    (let t := modLnk (fun l => { l with bookings := [{ pan := 0, booking := 1, instant := 0, first := 0 }] }) (airAt 2)
     let u := emit 0x344 0 (modBooking 1 (fun x => { x with step := 3 }) t)
     t.airOf 2 = some (booking 1 2 2 []) ∧ u.beaconPan 1 = some 0) ∧
    ((airAt 3).airOf 2 = some (booking 1 2 3 []) ∧ 0 ≤ (airAt 3).cycles) ∧
    ((airAt 4).airOf 2 = some (booking 1 2 4 []) ∧ (airAt 4).step5 0 ≤ (airAt 4).cycles) ∧
    ((airAt 5).airOf 2 = some (booking 1 2 5 []) ∧ (airAt 5).step5 0 + (airAt 5).lag ≤ (airAt 5).cycles) ∧
    (airDes.airOf 2 = some { booking 1 2 5 [] with des := true } ∧
      airDes.step5 0 + 2 * usCycles ≤ airDes.cycles) ∧
    (airDone.airOf 2 = some { booking 1 2 5 [] with fem := false } ∧ airDone.step8 0 ≤ airDone.cycles) := by
  and_intros <;> decide +kernel

theorem witness_calibration_and_run_masks :
    (modRim (fun r => { r with calibrating := true }) State.reset).rim.calibrating = true ∧
    verdict byLapwing 0x200E0040 true rimOn = .serve ∧ verdict byLapwing 0x200E0018 true rimOn = .serve ∧
    verdict byLapwing 0x200E0004 true rimOn = .serve ∧
    (let t := rimOn.set RIM_TXCFG_TEMPDELTA 10
     t.get RIM_TXCFG_TEMPDELTA ≠ 0 ∧ t.get RIM_TXCFG_TEMPDELTA ≤ ((25 : Int) - (t.chain 3).calTemp).natAbs) ∧
    ((modChain 3 (fun c => { c with owes := true }) rimOn).chain 3).owes = true ∧
    (let t := rimOn.set RIM_CAL_CMD_TXCHAIN 8
     bitAt (t.get RIM_CAL_CMD_TXCHAIN) 3 = true ∧
     (t.bookingsOf 3 []).all (fun b => b.step == 0 && decide (t.cycles + 1200 * usCycles ≤ t.step1 b.req.first)) = true ∧
     (List.range 8).all (fun c => (t.chain c).recal.isNone) = true) ∧
    ((modChain 3 (fun c => { c with recal := some 0 }) rimOn).chain 3).recal.isSome = true ∧
    (modRim (fun r => { r with rxCal := some (5, 0) }) rimOn).rim.rxCal = some (5, 0) ∧ rimOn.rim.loLost = none := by
  and_intros <;> decide +kernel

theorem witness_capture :
    (let t := rimOn.set RIM_CAP_SIZE_SIZE 1
     let a := written 0x200E00B0 0x00040011 t
     let b := ((a.set RIM_CAP_CTRL_START 0).set RIM_CAP_CTRL_STOP 0).set RIM_CAP_CTRL_TRIG 0
     let c := (b.setWord 0x200E00C4 0).set RIM_CAP_WRPTR_OFFSET 0
     verdict byLapwing 0x200E00B0 true t = .serve ∧ a.is RIM_CAP_STAT_ACTIVE = false ∧
     b.is RIM_CAP_STAT_ACTIVE = false ∧ wrote 0x00040011 RIM_CAP_CTRL_START = true ∧
     wrote 0x00040011 RIM_CAP_CTRL_TRIG = false ∧ wrote 0x00040011 RIM_CAP_CTRL_STOP = false ∧
     c.capPorts.length ≠ 0 ∧ c.capPorts.length ≤ 4 ∧ c.get RIM_CAP_SIZE_SIZE ≠ 0) ∧
    capturing.taskQueued 0x381 = true ∧ capturing.taskQueued 0x380 = true ∧ capturing.is RIM_CAP_STAT_ACTIVE = true ∧
    capturing.is RIM_CAP_CTRL_MODE = true ∧ capturing.is RIM_CAP_STAT_TRIGGERED = false ∧
    (modRim (fun r => { r with cap := { r.cap with gapPorts := 2 :: r.cap.gapPorts } }) capturing).is
      RIM_CAP_STAT_ACTIVE = true ∧ capturing.capPorts = [2] := by
  and_intros <;> decide +kernel

theorem witness_detection :
    (modTim (fun x => { x with acc := 5120 * 2 ^ 40 }) State.reset).ts / 5120 ≠ State.reset.lnp.window ∧
    verdict byLapwing 0x200C0028 true hearing = .serve ∧ wrote 1 LNP_NFCTL_RESEED = true ∧
    (offered 0x300 0 hearing).taskQueued 0x300 = true ∧
    (hearing.detects 15 = true ∧ hearing.metricHolds 15 loudPeaks = true ∧ hearing.timingHidden 15 loudPeaks = false ∧
      (hearing.lanesOn 15).length < 4 ∧ hearing.freeLaneNumber = some 0) ∧
    (let t := laneIn .est [0, 1, 2, 3] hearing
     t.detects 15 = true ∧ t.metricHolds 15 loudPeaks = true ∧ t.timingHidden 15 loudPeaks = false ∧
     ¬ (t.lanesOn 15).length < 4 ∧ weakest (t.claimable (t.lanesOn 15)) = some 3) ∧
    (let t := laneIn .psdu [0, 1, 2, 3] hearing
     t.detects 15 = true ∧ t.timingHidden 15 loudPeaks = false ∧ weakest (t.claimable (t.lanesOn 15)) = none) ∧
    (let t := forEach (List.range hearing.laneCount) (fun n v => setLane n { Lane.idle with st := .psdu, ch := 11 } v) hearing
     t.detects 15 = true ∧ t.timingHidden 15 loudPeaks = false ∧ (t.lanesOn 15).length < 4 ∧
     t.freeLaneNumber = none ∧ weakest (t.claimable t.lnp.lanes) = none ∧ t.metricHolds 15 loudPeaks = true) ∧
    (let t := forEach (List.range hearing.laneCount) (fun n v => setLane n { Lane.idle with st := .est, ch := 11 } v) hearing
     t.freeLaneNumber = none ∧ weakest (t.claimable t.lnp.lanes) = some 63) ∧
    ((laneIn .est [4] hearing).lane 4).st = .est ∧
    (((laneIn .sfds [4] hearing).lane 4).st = .sfds ∧ ((laneIn .sfds [4] hearing).lane 4).sfd = false ∧
      (laneIn .sfds [4] hearing).cycles ≤ ((laneIn .sfds [4] hearing).lane 4).detected + 10 * symCycles) ∧
    (let t := laneIn .est [4] { hearing with cycles := secCycles }
     (t.lane 4).unconfirmed = true ∧ (t.lane 4).sfd = false ∧ t.passed (t.lane 4).detected (10 * symCycles) = true) ∧
    (let t := laneIn .psdu [4] hearing
     (t.lane 4).st ≠ .idle ∧ (t.lane 4).st ≠ .est ∧ (t.lane 4).st ≠ .lost) := by
  and_intros <;> decide +kernel

theorem witness_payload :
    (let t := withLane { Lane.idle with st := .phr }
     (t.lane 4).st = .phr ∧ (t.lane 4).mode = 0 ∧ phrStdOk 20 = true ∧ phrStdOk 0 = false) ∧
    (let t := withLane { Lane.idle with st := .phr, mode := 1 }
     (t.lane 4).mode ≠ 0 ∧ phrExtOk (40 + 8192 * phrCheck 40) = true) ∧
    (let t := withLane { Lane.idle with st := .psdu, len := 10 }
     (t.lane 4).st = .psdu ∧ (t.lane 4).count < payloadSymbols (t.lane 4).mode (t.lane 4).len ∧
     0 < t.get LNP_LANE_LOSSSYM ∧ (t.lane 4).stored = none ∧ (t.lane 4).mode = 0) ∧
    (let t := withLane { Lane.idle with st := .psdu, len := 10, low := 300 }
     t.get LNP_LANE_LOSSSYM ≤ (t.lane 4).low + 1) ∧
    (let t := withLane { Lane.idle with st := .psdu, syms := [1, 2] }
     (t.lane 4).noDecoder = false ∧ (t.lane 4).st = .psdu ∧ (t.lane 4).mode = 0 ∧ (t.lane 4).syms = [1, 2]) ∧
    (let t := withLane { Lane.idle with st := .psdu }
     (t.lane 4).count = payloadSymbols (t.lane 4).mode (t.lane 4).len) ∧
    (let t := { withLane { Lane.idle with st := .lost } with cycles := 2 ^ 40 }
     (t.lane 4).st = .lost ∧ (t.lane 4).sfdAt + (t.lane 4).lostSpan ≤ t.cycles) ∧
    (let t := withLane { Lane.idle with st := .final }
     (t.lane 4).st = .final ∧ (t.lane 4).noDecoder = false ∧ (t.lane 4).len ≤ (t.lane 4).fin.length) ∧
    ((withLane { Lane.idle with st := .final, noDecoder := true }).lane 4).noDecoder = true ∧
    ((withLane { Lane.idle with st := .report }).lane 4).st = .report ∧
    (let t := decodingLane { Lane.idle with st := .psdu, soft := List.replicate 32 0 } (decoding 0 0)
     32 ≤ (t.lane 4).soft.length ∧ (t.lane 4).noDecoder = false ∧
     (setLane 4 { t.lane 4 with soft := (t.lane 4).soft.drop 32 } t).ctxOf 4 = some (decoding 0 0)) ∧
    (4 ≤ (decoding 4 0).blocks.length ∧
      (decodingLane { Lane.idle with soft := List.replicate 32 0 } (decoding 4 0)).ctxOf 4 = some (decoding 4 0)) ∧
    (let u := serveLane 4 (decodingLane { Lane.idle with st := .psdu, mode := 1, len := 1 } (decoding 0 60))
     u.releasing 4 = some (decoding 0 60) ∧ 8 * (u.lane 4).prov.length + 8 ≤ (decoding 0 60).prov.length ∧
     8 * (u.lane 4).fin.length + 8 ≤ (decoding 0 60).fin.length ∧ (u.lane 4).prov.length < (u.lane 4).len ∧
     (u.lane 4).fin.length < (u.lane 4).len) ∧
    (let u := serveLane 4 (decodingLane { Lane.idle with st := .final, mode := 1, len := 1 } (decoding 0 60))
     u.releasing 4 = some (decoding 0 60) ∧ (u.lane 4).st = .final ∧ trellisLength (u.lane 4).len ≤ (decoding 0 60).steps) := by
  and_intros <;> decide +kernel

theorem witness_transmit_path :
    (serveCancels (modCod (fun p => { p with asked := [(booking 5 0 0 []).req] }) State.reset)).nextRequest =
      some (booking 5 0 0 []).req ∧
    (0 : Nat) < freeChain.step1 secCycles ∧ freeChain.chooseChain soon [] = some 2 ∧
    (let u := placing { booking 6 2 0 [] with req := { soon with id := 6 } } freeChain
     let r := { soon with cls := .ack }
     u.chooseChain r [] = none ∧ u.displacement r [] ((u.candidates r.cls).map (fun b => b.req.id)) = some ([6], 2) ∧
     u.displacement soon [] ((u.candidates soon.cls).map (fun b => b.req.id)) = none ∧ u.chooseChain soon [] = none) ∧
    (let t := modCod (fun p => { p with cancels := [5], asked := [soon] }) State.reset
     t.cod.cancels = [5] ∧ t.cod.asked.find? (fun r => r.id == 5) = some soon ∧ t.cycles < t.step1 soon.first) ∧
    (let t := modCod (fun p => { p with cancels := [6] }) (placing { booking 6 2 0 [] with req := { soon with id := 6 } } freeChain)
     t.cod.cancels = [6] ∧ t.cod.asked.find? (fun r => r.id == 6) = none ∧
     t.cod.placed.find? (fun b => b.req.id == 6) = some { booking 6 2 0 [] with req := { soon with id := 6 } }) ∧
    (let t := modChain 2 (fun c => { c with tuning := some (15, 0) }) State.reset
     (t.chain 2).tuning = some (15, 0) ∧ 0 ≤ t.cycles) ∧
    (offered 0x340 0 State.reset).taskQueued 0x340 = true ∧
    (let t := modLnk (fun l => { l with acks := [ackOf 7] })
       (ending .sent State.reset)
     t.nextOutcome = some (7, .sent) ∧ t.lnk.acks.find? (fun x => x.booking == 7) = some (ackOf 7)) ∧
    (let t := modLnk (fun l => { l with bookings := [{ pan := 0, booking := 7, instant := 0, first := 0 }] }) (ending .late State.reset)
     t.nextOutcome = some (7, .late) ∧ t.lnk.acks.find? (fun x => x.booking == 7) = none ∧
     t.lnk.bookings.find? (fun x => x.booking == 7) = some { pan := 0, booking := 7, instant := 0, first := 0 }) ∧
    (let t := trying (tryBeacon (.booked 7 0)) (ending .sent State.reset)
     t.nextOutcome = some (7, .sent) ∧ t.lnk.bookings.find? (fun x => x.booking == 7) = none ∧
     t.lnk.attempts.find? (Attempt.bookedAs 7) = some (tryBeacon (.booked 7 0))) := by
  and_intros <;> decide +kernel

theorem witness_decisions :
    (let f := heardFrame [0x41, 0x88, 1, 0, 0, 0, 0, 0, 0]
     let t := heardIn .solo f
     t.inbox.find? (fun x => x.lane == 4) = some f ∧ t.earlierWaits f = false ∧
     (∃ c q p n, t.decideFrame f = .decide c q p n) ∧ t.decidesAs (t.tsBack (t.cycles - f.lastChip)) = some true ∧
     (inMode .standby t).decidesAs ((inMode .standby t).tsBack ((inMode .standby t).cycles - f.lastChip)) = some false ∧
     (inMode .reset t).decidesAs ((inMode .reset t).tsBack ((inMode .reset t).cycles - f.lastChip)) = none) ∧
    (let f := { immAck with revised := true }
     (heardIn .solo f).decideFrame f = .drop) ∧
    (let t := modLnk (fun l => { l with decided := [decidedFrame] }) { State.reset with cycles := secCycles }
     t.nextCutOff = some decidedFrame ∧ decidedFrame.frame.lastChip + 180 * usCycles ≤ t.cycles) ∧
    (let a := { tryBeacon (.ackWait 0 secCycles) with dsn := 9 }
     let t := ((trying a (heardIn .solo immAck)).set (LNK_PANn_CFG_CH 0) 15)
     t.inbox.find? (fun x => x.lane == 4) = some immAck ∧ t.decideFrame immAck = .ack ∧
     (∃ m, parseMhr immAck.mpdu = some m ∧
       (dropInbox immAck t).lnk.attempts.find? ((dropInbox immAck t).ackAnswers immAck m) = some a) ∧ a.node = none) ∧
    (∃ m, parseMhr immAck.mpdu = some m ∧ (dropInbox immAck (heardIn .solo immAck)).lnk.attempts.find?
      ((dropInbox immAck (heardIn .solo immAck)).ackAnswers immAck m) = none) ∧
    (let a := tryBeacon (.ackWait 0 0)
     (trying a State.reset).lnk.attempts.find? (trying a State.reset).ackWaitOver = some a) ∧
    (let t := groupKey (modLnk (fun l => { l with down := [groupDown] }) State.reset)
     t.lnk.down.find? (fun x => x.queue == 3 && x.needsKey) = some groupDown ∧ t.is SEC_CTRL_RUN = true ∧
     t.hasContext (.tx 3) = true ∧ t.slotMoved groupDown = false ∧ t.sec.kwk.isSome = true ∧
     (∃ k p, t.outKey (descKim groupDown.desc) (descSlot groupDown.desc) groupDown.node = some (k, p) ∧
       t.spaceExhausted p = false ∧ t.spaceReady p = true ∧
       ((takeCounter p (count SEC_CNT_TX 1 t)).2.seal { groupDown with key := k }).isSome = true)) ∧
    (let t := (modSec (fun c => { c with shared := [.tx 3] })
       (modLnk (fun l => { l with down := [groupDown] }) State.reset)).set SEC_CTRL_RUN 1
     t.hasContext (.tx 3) = true ∧ t.slotMoved groupDown = false ∧
     t.outKey (descKim groupDown.desc) (descSlot groupDown.desc) groupDown.node = none) ∧
    ((heardIn .solo securedFrame).inbox.find? (fun x => x.lane == 4) = some securedFrame ∧
     (∃ m, parseMhr securedFrame.mpdu = some m ∧ m.type ≠ tyAck ∧ m.secured = true)) ∧
    (let t := eackWaits true 0
     (t.lnk.acks.any (fun a => a.booking == 7 && a.secure.isSome && a.slot == some (512, 0))) = true ∧
     t.cod.asked.any (fun r => r.id == 7 && (parseMhr r.mpdu).isSome) = true ∧ t.hasContext (.eack 7) = true ∧
     t.genMoved [(512, 0)] 512 = false ∧ t.keyUsable 512 = true ∧ (eackWaits true 1).genMoved [(512, 0)] 512 = true ∧
     (eackWaits false 0).keyUsable 512 = false) := by
  and_intros <;> first | decide +kernel | exact ⟨_, _, _, _, rfl⟩ |
    exact ⟨_, _, rfl, by decide +kernel, by decide +kernel, by decide +kernel⟩

theorem witness_channel_access :
    (let a := tryBeacon (.backoff 0)
     let t := trying a panUp
     t.attempt 0 .beacon = some a ∧ t.panRuns 0 = true ∧ t.mayBook = true ∧ t.startAcked a = true ∧
     t.panBeacons 0 = false ∧ t.channelTaken (t.get (LNK_PANn_CFG_CH 0)) a = false ∧
     t.gapOf (t.get (LNK_PANn_CFG_CH 0)) ≤ t.boundary 0 t.cycles + ccaCycles + turnaround) ∧
    (let a := { tryBeacon (.backoff 0) with deadline := some 5 }
     let t := trying a panUp
     t.attempt 0 .beacon = some a ∧ t.startAcked a = true ∧ 5 < t.boundary 0 t.cycles + ccaCycles + turnaround) ∧
    (let a := tryBeacon (.backoff 0)
     let t := modLnk (fun l => { l with beacons := [(0, secCycles, secCycles)] }) (trying a panBeaconing)
     t.panBeacons 0 = true ∧ t.capOpen 0 = true ∧ t.activeBeacon 0 = some (secCycles, secCycles) ∧
     t.boundary 0 t.cycles + 2 * backoffUnit + airCycles a.mode a.mpdu + ifsCycles a.mpdu ≤ t.activeEnd 0 secCycles) ∧
    (let a := tryBeacon (.cca 0 7 0)
     let t := holding (trying a panUp)
     t.attempt 0 .beacon = some a ∧ t.bookingHolds 7 = true ∧ t.ccaBusy 0 (4 * 10 ^ 18) = true ∧
     t.ccaBusy 0 0 = false ∧ (trying a panUp).bookingHolds 7 = false ∧ t.panBeacons 0 = false) ∧
    (let a := tryBeacon (.cca 0 7 0)
     let t := holding (trying a panBeaconing)
     t.attempt 0 .beacon = some a ∧ t.ccaBusy 0 0 = false ∧ t.panBeacons 0 = true ∧
     1 < a.cw) := by
  and_intros <;> decide +kernel

theorem witness_beacons :
    (let t := panBeaconing
     t.panRuns 0 = true ∧ t.panBeacons 0 = true ∧ t.mayBook = true ∧ t.nextInstant 0 ≤ t.ts + 2 * msCycles ∧
     t.mode ≠ .standby ∧ t.beaconTimes 0 = []) ∧
    (let t := inMode .standby panBeaconing
     t.nextInstant 0 ≤ t.ts + 2 * msCycles ∧ t.panRuns 0 = true ∧ t.panBeacons 0 = true) ∧
    (let t := modLnk (fun l => { l with bcnreqs := [0] }) panUp
     t.lnk.bcnreqs.elem 0 = true ∧ t.mayBook = true ∧ t.panRuns 0 = true ∧ t.panBeacons 0 = false ∧
     t.attempt 0 .beacon = none) ∧
    (let t := modLnk (fun l => { l with beacons := [(0, 0, 5)] }) panBeaconing
     t.activeBeacon 0 = some (0, 5) ∧ t.activeEnd 0 0 ≤ t.cycles) ∧
    verdict byLapwing 0x200B0000 true (powered [20] panUp) = .serve ∧ (meetDomain domLnk panUp).mode ≠ .standby ∧
    verdict byLapwing admAddr true (powered [20] panUp) = .serve ∧
    (meetDomain domLnk (inMode .standby State.reset)).mode = .standby ∧
    (offered 0x2C1 0 State.reset).taskQueued 0x2C1 = true := by
  and_intros <;> decide +kernel

theorem witness_page_operations :
    wrote 1 (PGn_CTRL_GO 7) = true ∧ wrote 1 (PGn_CTRL_ABORT 7) = false ∧ wrote 1 (PGn_CTRL_CLEAR 7) = false ∧
    pageMay (pageAt 0) = true ∧ pageMay (pageAt 1) = true ∧ pageMay (pageAt 2) = true ∧ pageMay (pageAt 3) = true ∧
    pageMay (modSec (fun g => { g with kwk := some [] }) (pageAt 4)) = true ∧
    pageMay (modSec (fun g => { g with kwk := some [] }) (pageAt 5)) = true ∧
    pageMay (modSec (fun g => { g with pmks := [(0, [])] }) (pageAt 6)) = true ∧
    pageMay (pageAt 7) = true ∧ pageMay (pageAt 8) = true ∧
    (let u := (written (pageCtrlAddr 7) 1 ((pageAt 8).set (PGn_OP_SLOT 7) 600)).set (PGn_CTRL_CLEAR 7) 0
     u.pageBad 7 = false ∧ u.pageDenied 7 = true) ∧
    ((written (pageCtrlAddr 7) 1 (pageAt 9)).set (PGn_CTRL_CLEAR 7) 0).pageBad 7 = true ∧
    wrote 4 (PGn_CTRL_GO 7) = false ∧ wrote 4 (PGn_CTRL_CLEAR 7) = true ∧
    (written (pageCtrlAddr 7) 4 (pageAt 0)).pageRun 7 = none ∧
    wrote 2 (PGn_CTRL_GO 7) = false ∧ wrote 2 (PGn_CTRL_ABORT 7) = true ∧ wrote 2 (PGn_CTRL_CLEAR 7) = false ∧
    verdict byLapwing (pageCtrlAddr 7) true (pageBusy 0) = .serve ∧
    (written (pageCtrlAddr 7) 2 (pageBusy 0)).pageRun 7 = some { page := 7, acc := byLapwing, slot := none, gen := 0, words := (pageAt 0).pageLatch 7 } := by
  and_intros <;> decide +kernel

theorem witness_gorse :
    ((reserving State.reset).sec.resvs.find? (reserving State.reset).resvReady).isSome = true ∧
    (pageBusy 3).nextPage = some { page := 7, acc := byLapwing, slot := none, gen := 0, words := (pageAt 3).pageLatch 7 } ∧
    (let t := pageFed
     let r : PageRun := { page := 7, acc := byLapwing, slot := none, gen := 0, words := pageHigh.pageLatch 7 }
     let v := t.pageView r
     let a := (engineRead byLapwing (v.pageSrc 7) 16 t).2
     let c := count SEC_CNT_FBOPS (v.pageBlocks 7) a
     t.nextPage = some r ∧ v.get (PGn_OP_OP 7) = 3 ∧
     (engineRead byLapwing (v.pageSrc 7) 16 t).1 = some (zeros 16) ∧
     (aes (v.pageKey 7) (zeros 16)).isEmpty = false ∧
     (engineWrite byLapwing (v.pageDst 7) (aes (v.pageKey 7) (zeros 16)) c).1 = true) ∧
    (2 < 4 ∧ bitAt ((State.reset.set ⟨0x20090018, 0, 6⟩ 4).get ⟨0x20090018, 0, 6⟩) 2 = true) ∧
    verdict byLapwing 0x20090000 true (pageAt 0) = .serve ∧
    (wrote 0x10 SEC_CTRL_RUN = false ∧ State.reset.is SEC_CTRL_RUN = false) ∧
    (let u := modSec (fun g => { g with cleared := true }) (State.reset.set SEC_CTRL_RUN 1)
     wrote 1 SEC_CTRL_ZEROISE = false ∧ bitAt (1 : Word).toNat 0 = true ∧ u.is SEC_CTRL_RUN = true ∧ u.sec.cleared = true) ∧
    (offered 0x240 0 State.reset).taskQueued 0x240 = true ∧
    (let t := (pageAt 0).set ⟨0x20090010, 0, 6⟩ 4
     verdict byLapwing 0x20090010 true t = .serve ∧ (t.word 0x20090010).toNat % 64 ≠ 0 ∧
     (written 0x20090010 4 t).get ⟨0x20090010, 0, 6⟩ = 0) := by
  and_intros <;> decide +kernel

theorem witness_lookup :
    (let t := sourced (octetsOf [1, 0, 9]) panUp
     t.lookupWaits 0 = true ∧ keyMode (t.sourceKey (t.lane 0).ch (t.lane 0).prov) = 0) ∧
    (let t := sourced from7 (node7Hot panUp)
     let k := t.sourceKey (t.lane 0).ch (t.lane 0).prov
     t.lookupWaits 0 = true ∧ keyMode k ≠ 0 ∧ k ≠ [] ∧ ((lookupIssued 0 k t).hotHit k).isSome = true) ∧
    (let t := sourced from7 panUp
     let k := t.sourceKey (t.lane 0).ch (t.lane 0).prov
     t.lookupWaits 0 = true ∧ keyMode k ≠ 0 ∧ k ≠ [] ∧ (lookupIssued 0 k t).hotHit k = none) := by
  and_intros <;> decide +kernel

theorem witness_write_back :
    (let t : State := { (node7Hot State.reset).set CTX_CFG_WBINT 1 with cycles := secCycles }
     t.writeBackDue 5 = true) ∧
    verdict byLapwing 0x200A0000 true (powered [19] State.reset) = .serve ∧ wrote 1 CTX_CTRL_FLUSH = true ∧
    (offered 0x280 0 State.reset).taskQueued 0x280 = true ∧
    (let t := (writing5 State.reset).set CTX_TBL_ADDR 0x400
     (t.ctx.wb.find? (fun e => e.1 == 5 && e.2.2.1)).isSome = true ∧ (t.locate (t.nodeAddr 5) 256).isSome = true) ∧
    (let t := (node7Hot State.reset).set CTX_TBL_ADDR 0x400
     t.ctx.wb.find? (fun e => e.1 == 5 && e.2.2.1) = none ∧ (t.hotOf 5).map (fun e => e.2.writing) = some true ∧
     (t.locate (t.nodeAddr 5) 256).isSome = true) ∧
    (let t : State := { quarantined State.reset with cycles := 1000 * secCycles }
     t.passed 0 (t.get CTX_QUAR_SEC * secCycles) = true) := by
  and_intros <;> decide +kernel

theorem witness_context_commands :
    (let t := powered [19] State.reset
     verdict byLapwing (cmdAddr 0) true t = .serve ∧ wrote 0x80000000 CTX_CMDA_GO = true ∧
     State.is { meetDomain (domainOfBlock (blockOf (cmdAddr 0))) t with resp := .ok } (chanFld 0 CTX_RESA_BUSY) = false ∧
     (written (cmdAddr 0) 0x80000000 t).get (chanFld 0 CTX_CMDA_OP) = 0) ∧
    (let t := (powered [19] State.reset).set (chanFld 1 CTX_RESA_BUSY) 1
     verdict byLapwing (cmdAddr 1) true t = .serve ∧
     State.is { meetDomain (domainOfBlock (blockOf (cmdAddr 1))) t with resp := .ok } (chanFld 1 CTX_RESA_BUSY) = true) ∧
    ((cmdAdvance (cmdWaits (some 1) State.reset)).ctx.cmds.map (fun c => c.result)) = [some 1] ∧
    (let t := cmdWaits none State.reset
     t.ctx.cmds.find? (fun c => c.result.isNone) = t.ctx.cmds.head? ∧ t.ackedM none = true) := by
  and_intros <;> decide +kernel

theorem witness_sheaf :
    (State.reset.shadowSheaf = false ∧ (routeFrame sheafFrame false (false, false) (count SHF_CNT_IN 1 (sheafFed 2 State.reset))).1 = none ∧
     (sheafFed 2 State.reset).shf.input.head? = some sheafFrame ∧ (sheafFed 2 State.reset).shf.rawWait = none) ∧
    (let u := (routeFrame sheafFrame false (false, false) (count SHF_CNT_IN 1 (sheafFed 0 (State.reset.set (UPL_Qn_CFG_EN 48) 1))))
     u.1 = some 0 ∧ u.2.qFull 48 = false) ∧
    (let u := (routeFrame sheafFrame false (false, false) (count SHF_CNT_IN 1 (sheafFed 0 State.reset)))
     u.1 = some 0 ∧ u.2.qFull 48 = true) ∧
    (let t := sheafStuck (sheafFed 0 (State.reset.set (UPL_Qn_CFG_EN 48) 1))
     t.shf.rawWait = some 48 ∧ t.shf.input.head? = some sheafFrame ∧ t.qFull 48 = false) := by
  and_intros <;> decide +kernel

theorem witness_batches :
    ((State.reset.batchClass 3).cur.firstAt + (State.reset.batchClass 3).cur.wait * 320000 ≤ State.reset.ts) ∧
    verdict byLapwing 0x200F0000 true (powered [21] State.reset) = .serve ∧ wrote 1 SHF_CTRL_FLUSH = true ∧
    (offered 0x3C0 0 State.reset).taskQueued 0x3C0 = true ∧
    ((State.reset.set SHF_CTRL_FLUSH 1).is SHF_CTRL_FLUSH = true ∧ State.reset.flushWaits = false) ∧
    (let t := atOneSecond (windowOpen State.reset)
     t.nextWindow = some 0 ∧ t.shadowSheaf = false ∧ 0 + ticksPerSecond / 5 ≤ t.ts) ∧
    (let t := (batchWaits State.reset).set (UPL_Qn_CFG_EN 32) 1
     (t.batchClass 0).waiting = some ([], 3, true) ∧ t.qFull (32 + 0) = false) ∧
    (let t := inMode .load ((State.reset.set JNL_STAT_STATE 1).set DMC_STAT_STATE 3)
     t.get JNL_STAT_STATE = jnlReady ∧ t.get DMC_STAT_STATE = dmcReady ∧ t.get CTX_STAT_TABLE = tableNone) := by
  and_intros <;> decide +kernel

theorem witness_ports :
    (∀ b : Bool, let t := portReady b State.reset
      t.ethRuns 0 = true ∧ t.portUp 0 = false ∧
      ((emit 0x400 0 (setLink 0 true t)).set UPL_STAT_SPEED0 ((emit 0x400 0 (setLink 0 true t)).linkSpeed 0 2)).portUp 1 = b) ∧
    (∀ b : Bool, let t := portsAre true b State.reset
      t.portUp 0 = true ∧ (cutShort 0 (emit 0x401 0 (setLink 0 false t))).portUp 1 = b ∧
      (cutShort 0 (emit 0x401 0 (setLink 0 false t))).get UPL_STAT_ACTIVE = 0) ∧
    (let t := portsAre true true State.reset
     t.portUp 1 = true ∧ (cutShort 1 (emit 0x401 0 (setLink 1 false t))).portUp 0 = true ∧
     (cutShort 1 (emit 0x401 0 (setLink 1 false t))).get UPL_STAT_ACTIVE ≠ 1) ∧
    (let t := aSecondOn (portsAre true true ((State.reset.set UPL_CFG_REVERT 1).set UPL_STAT_ACTIVE 1))
     t.get UPL_CFG_PREF = 0 ∧ t.is UPL_CFG_REVERT = true ∧ t.portUp 0 = true ∧ t.get UPL_STAT_ACTIVE ≠ 0 ∧
     t.passed t.upl.upFrom0 secCycles = true) := by
  decide +kernel

theorem witness_mdio_and_resolve :
    (let t := powered [22] State.reset
     verdict byLapwing (mdioAddr 0) true t = .serve ∧ t.is (UPL_MDIOp_CMD_GO 0) = false ∧
     wrote 0x80001000 (UPL_MDIOp_CMD_GO 0) = true ∧
     (written (mdioAddr 0) 0x80001000 t).get (UPL_MDIOp_CMD_C45 0) = 1 ∧
     (written (mdioAddr 0) 0x80001000 t).get (UPL_MDIOp_CMD_OP 0) = 0 ∧
     (written (mdioAddr 0) 0x80001400 t).get (UPL_MDIOp_CMD_OP 0) = 1 ∧
     (written (mdioAddr 0) 0x80000800 t).get (UPL_MDIOp_CMD_OP 0) =
       3 - (1 - (written (mdioAddr 0) 0x80000800 t).get (UPL_MDIOp_CMD_C45 0))) ∧
    (mdioRuns State.reset).upl.mdio.find? (fun e => e.1 == 0) = some (0, 0x800, 0) ∧
    (let t := { portsAre true true State.reset with cycles := 5000 * secCycles }
     t.portUp (t.get UPL_STAT_ACTIVE) = true ∧ t.passed t.upl.resolvedAt (t.get UPL_TIME_ARPREF * secCycles) = true) ∧
    (aSecondOn (modUpl (fun x => { x with tries := 1 }) State.reset)).passed 0 secCycles = true := by
  and_intros <;> decide +kernel

theorem witness_receive :
    (let t := portsAre true true State.reset
     t.portUp 0 = true ∧ arpFrame.length = 64 ∧ leAt arpFrame 60 4 = crc32 (arpFrame.take 60) ∧
     beAt (arpFrame.take 60) 12 2 ≠ 0x8808 ∧ leAt pauseFrame 60 4 = crc32 (pauseFrame.take 60) ∧
     beAt (pauseFrame.take 60) 12 2 = 0x8808 ∧ beAt (pauseFrame.take 60) 14 2 = 1 ∧
     (pauseFrame.take 60).take 6 = [0x01, 0x80, 0xC2, 0, 0, 1] ∧
     (t.untag (arpFrame.take 60)).map (fun e => t.macTaken e.1 e.2.2.1) = some true ∧
     leAt strayFrame 60 4 = crc32 (strayFrame.take 60) ∧
     (t.untag (strayFrame.take 60)).map (fun e => t.macTaken e.1 e.2.2.1) = some false ∧
     (t.set UPL_CFG_VLANEN 1).untag (arpFrame.take 60) = none) ∧
    State.reset.headerOk [] = false := by
  and_intros <;> decide +kernel

theorem witness_messages :
    (let m := octetsOf [0x57, 0x11, 63] ++ zeros 8 ++ [1] ++ zeros 12
     State.reset.headerOk m = true ∧ (inMode .reset State.reset).acceptsDown (octAt m 2) = false ∧
     (inMode .solo State.reset).acceptsDown (octAt m 2) = true ∧ State.reset.windowFor (octAt m 2) = none ∧
     diff32 (beAt m 4 4) 64 ≤ -64 ∧ -64 < diff32 (beAt m 4 4) 63) ∧
    (let r : Reasm := { queue := 0, seq := 0, segcnt := 2, mlen := 0, segs := [], since := 0 }
     let t := aSecondOn (modUpl (fun u => { u with reasm := [r] }) State.reset)
     t.upl.reasm.find? (fun r => t.passed r.since (t.get UPL_TIME_SEGTO * msCycles)) = some r) ∧
    (inMode .solo State.reset).upl.sending = none ∧
    ((sendingOut (.queue 0) State.reset).upl.sending).isSome = true ∧
    (let t := aSecondOn (State.reset.set UPL_TIME_STATINT 1)
     t.get UPL_TIME_STATINT ≠ 0 ∧ t.passed t.upl.statusFrom (t.get UPL_TIME_STATINT * 10 * msCycles) = true) ∧
    verdict byLapwing 0x20100000 true (powered [22] State.reset) = .serve ∧
    (offered 0x400 0 State.reset).taskQueued 0x400 = true := by
  and_intros <;> decide +kernel

theorem witness_rings :
    (let t := powered [22] (State.reset.set (UPL_Qn_CFG_EN 62) 1)
     let u : State := { meetDomain (domainOfBlock (blockOf (piAddr 62))) t with resp := .ok }
     verdict byLapwing (piAddr 62) true t = .serve ∧ u.qLimit 62 < ringDistance 0xFFFFFFFF (u.qCi 62) ∧
     ringDistance 1 (u.qCi 62) ≤ u.qLimit 62) ∧
    (let t := powered [22] (inMode .solo ((State.reset.set (UPL_Qn_CFG_EN 3) 1).set (UPL_Qn_CFG_SRC 3) 1))
     let u : State := { meetDomain (domainOfBlock (blockOf (piAddr 3))) t with resp := .ok }
     u.piIsSoftwares 3 = true ∧ verdict byLapwing (piAddr 3) true t = .serve ∧
     u.qLimit 3 < ringDistance 0xFFFFFFFF (u.qCi 3) ∧ ringDistance 1 (u.qCi 3) ≤ u.qLimit 3) ∧
    (let t := powered [22] State.reset
     let u : State := { meetDomain (domainOfBlock (blockOf (ciAddr 63))) t with resp := .ok }
     verdict byLapwing (ciAddr 63) true t = .serve ∧ verdict byLapwing (ciAddr 56) true t = .serve ∧
     u.qLimit 63 < ringDistance (u.qPi 63) 1 ∧ ringDistance (u.qPi 63) 0 ≤ u.qLimit 63) := by
  and_intros <;> decide +kernel

theorem witness_announce :
    (let t := ptpOn State.reset
     let m := ptpMessage 11 0
     t.ptpTakes m ptpAnnounce 64 = true ∧ t.announceRefused m = false ∧ t.foreignOf m = none ∧
     (t.foreignRest m).length < 4 ∧ (t.set UPL_PTP_FILT_EN_FILTEN 1).announceRefused m = false) ∧
    (let t := (ptpOn State.reset).set UPL_PTP_FILT_EN_FILTEN 1
     let m := octetsOf [11, 2] ++ zeros 18 ++ octetsOf [9] ++ zeros 43
     t.ptpTakes m ptpAnnounce 64 = true ∧ t.announceRefused m = true) ∧
    (let t := modPtp (fun p => { p with foreign := List.replicate 4 (foreignAt [1]) }) (ptpOn State.reset)
     let m := ptpMessage 11 0
     t.ptpTakes m ptpAnnounce 64 = true ∧ t.announceRefused m = false ∧ t.foreignOf m = none ∧
     4 ≤ (t.foreignRest m).length) ∧
    (let t := aSecondOn (modPtp (fun p => { p with foreign := [foreignAt (zeros 10)] }) (ptpOn State.reset))
     t.upl.ptp.master = some (zeros 10) ∧
     t.upl.ptp.foreign.find? (fun f => f.port == zeros 10) = some (foreignAt (zeros 10)) ∧
     t.passed (foreignAt (zeros 10)).last (3 * pow2Seconds (foreignAt (zeros 10)).interval) = true) := by
  and_intros <;> decide +kernel

theorem witness_ptp_measures :
    (let t := ptpOn State.reset
     t.ptpTakes (ptpMessage 0 2) ptpSync 44 = true ∧ t.fromMaster (ptpMessage 0 2) = true ∧ t.ptpSynchronises = true ∧
     ptpTwoStep (ptpMessage 0 2) = true ∧ t.ptpTakes (ptpMessage 0 0) ptpSync 44 = true ∧
     t.fromMaster (ptpMessage 0 0) = true ∧ ptpTwoStep (ptpMessage 0 0) = false) ∧
    (let t := modPtp (fun p => { p with sync := some (0, 0, 0, 0) }) (ptpOn State.reset)
     let m := ptpMessage 8 0
     t.ptpTakes m ptpFollowUp 44 = true ∧ t.fromMaster m = true ∧ t.ptpSynchronises = true ∧
     t.upl.ptp.sync = some (0, 0, 0, 0) ∧ 0 = ptpSeq m ∧ t.cycles ≤ 0 + secCycles) ∧
    (∀ dm ∈ [none, some (0 : Int), some (1 : Int)],
      let t := modPtp (fun p => { p with req := some (0, -2), meas := some (0, 0, 0), dm := dm }) (ptpOn State.reset)
      let m := octetsOf [9, 2] ++ zeros 42 ++ t.portIdentity ++ zeros 10
      t.ptpTakes m ptpDelayResp 54 = true ∧ t.fromMaster m = true ∧ t.ptpSynchronises = true ∧ 0 = ptpSeq m ∧
      slice m 44 10 = t.portIdentity ∧ (0 = (0 : Int) ∧ ptpStamp m = 0 ∧ ptpCorrection m = 0)) ∧
    meanDelay (some 1000000000) 0 0 0 = none ∧ meanDelay none 1 0 0 = some 1 ∧ meanDelay (some 1) 1 0 0 = some 1 := by
  and_intros <;> decide +kernel

theorem witness_stile_frames :
    (standbySynced.stlRuns = true ∧ frameValid [] = false) ∧
    (frameValid (stileSent tyHeart (zeros 32)) = true ∧ octAt (stileSent tyHeart (zeros 32)) 0 = tyHeart) ∧
    (frameValid (stileSent tyStileAck (zeros 16)) = true ∧ octAt (stileSent tyStileAck (zeros 16)) 0 = tyStileAck) ∧
    (let t := modStl (fun p => { p with elected := false }) standbySynced
     let f := stileSent tyElect (zeros 32)
     frameValid f = true ∧ octAt f 0 = tyElect ∧ t.stl.link = true ∧ t.stl.elected = false ∧ t.stl.mismatch = false ∧
     (State.set STL_PEER_EUI_HI_EUI 0 (State.set STL_PEER_EUI_LO_EUI 0 t)).pairs (framePayload f) = false ∧
     (let g := stileSent tyElect (octetsOf [0, 2] ++ zeros 30)
      let u := ((((t.set STL_CFG_EN 1).set SEC_KCV_VALID 1).set STL_PEER_EUI_LO_EUI 0).set STL_PEER_EUI_HI_EUI 0)
      frameValid g = true ∧ u.pairs (framePayload g) = true)) ∧
    (∀ c ∈ [cmdRequest, cmdYield, cmdYieldDone, cmdResign],
      let f := stileSent tyCmd (octetsOf [c] ++ zeros 15)
      frameValid f = true ∧ octAt f 0 = tyCmd ∧ octAt f 8 = c) ∧
    (standbySynced.mode = .standby ∧ standbySynced.stl.sync = syncSync ∧ standbySynced.canHandOver = false ∧
     State.canHandOver (modStl (fun p => { p with peerMode := Mode.standby.code, peerState := syncSync })
       (inMode .primary standbySynced)) = true) := by
  and_intros <;> decide +kernel

theorem witness_records :
    (standbySynced.stlRuns = true ∧ standbySynced.stl.link = true ∧ standbySynced.stl.elected = true) ∧
    (∀ k ∈ [1, 2, 3, 4, 5, 6, 7, 8, 9, 10, 11, 12, 13, 14],
      frameValid (commitOf k) = true ∧ octAt (commitOf k) 0 = tyCommit ∧ octAt (commitOf k) 8 = k) ∧
    (∀ k ∈ [1, 2, 3, 4, 5, 6], frameValid (bulkOf k) = true ∧ octAt (bulkOf k) 0 = tyBulk ∧ octAt (bulkOf k) 8 = k) ∧
    (let t := recordHeld (octetsOf [14]) standbySynced
     (t.stl.held.find? (fun h => !h.bulk && h.seq == t.stl.applied)).map (fun h => t.recordReady h.payload) = some true) ∧
    (let t := recordHeld (octetsOf [8]) standbySynced
     (t.stl.held.find? (fun h => !h.bulk && h.seq == t.stl.applied)).map (fun h => t.recordReady h.payload) = some false) ∧
    (∀ k ∈ [1, 2, 3, 4, 5, 6], octAt (octetsOf [k]) 0 = k ∧ standbySynced.stl.partial_ = none) ∧
    (mirroredRegister 0x200B0014 = true ∧ standbySynced.newer regOther 0x200B0014 0 = true) := by
  and_intros <;> decide +kernel

theorem witness_stile_timers :
    (let t := aSecondOn standbySynced
     t.stlRuns = true ∧ t.passed t.stl.heartFrom (10 * usCycles) = true ∧ t.passed t.stl.electSent msCycles = true ∧
     t.passed t.stl.ttFrom (10 * msCycles) = true ∧ t.stl.mismatch = false) ∧
    (∀ b : Bool, let t := stlLanes true b standbySynced
      (t.stlLane 0).up = true ∧
      ((raise STL_INT_STAT_LANELOSS (count STL_CNT_LANELOSS 1 (modStlLane 0 (fun x => { x with up := false, run := 0 }) t))).stlLane
        (1 - 0)).up = b) ∧
    (let t := atOneSecond (((standbySynced.set LNK_CTRL_PANRUN 1).set (LNK_PANn_CFG_CH 0) 15).set (LNK_PANn_CFG_BO 0) 0)
     t.panRuns 0 = true ∧ t.panBeacons 0 = true ∧ (t.instantDue 0).isSome = true) ∧
    (let t := atOneSecond (((standbySynced.set STL_SUP_SUPEN 1).set STL_SUP_SUPINT 100).set LNK_CTRL_PANRUN 1 |>.set (LNK_PANn_CFG_CH 0) 15 |>.set (LNK_PANn_CFG_BO 0) 15)
     let span := t.get STL_SUP_SUPINT * msCycles
     t.is STL_SUP_SUPEN = true ∧ 0 < span ∧ t.stl.lastSup < t.ts / span * span ∧ t.stlRuns = true ∧
     (inMode .solo t).stlRuns = true ∧
     (modStl (fun p => { p with lastSup := t.ts }) (inMode .solo t)).mayBook = true ∧ t.panRuns (t.get STL_SUP_SUPPAN) = true ∧
     t.panBeacons (t.get STL_SUP_SUPPAN) = false) ∧
    verdict byLapwing 0x20110000 true (powered [23] State.reset) = .serve ∧
    (offered 0x440 0 State.reset).taskQueued 0x440 = true ∧
    (let t := atOneSecond (handing true false none State.reset)
     0 ≤ t.ts ∧ 0 + 200 * usCycles ≤ t.ts ∧ t.yieldReady = true) ∧
    (inMode .takeover standbySynced).stl.handover = none ∧ diff32 5 (7 % 2 ^ 32) < 0 := by
  and_intros <;> decide +kernel

theorem witness_hedgerow :
    (emit 0x40 0 State.reset).hdg.emitted ≠ [] ∧
    (let h : HdgHeld := { ch := 3, producer := 0, seq := 0, hop := 0, ts := 0, lock := false, sw := false, dests := [] }
     (modHdg (fun x => { x with held := List.replicate 8 h }) State.reset).hdg.held.length = 8) ∧
    ((eventHeld 3 6 State.reset).hdg.held.find? (fun h => h.ch == 3)).map (fun h => h.hop) = some 6 ∧
    ((eventHeld 3 7 State.reset).hdg.held.find? (fun h => h.ch == 3)).map (fun h => h.hop) = some 7 ∧
    (State.reset.task 0xC0).busy = false ∧ (State.reset.task 0xC0).start = none ∧
    (((taskRuns true State.reset).task 0xC0).start = some 0 ∧ ((taskRuns true State.reset).task 0xC0).queued = true ∧
     State.reset.cycles ≤ 0 + 3 ∧ 0 + 3 < (aSecondOn (taskRuns false State.reset)).cycles) ∧
    (∀ hi : Bool, verdict byLapwing (fireAddr hi) true (powered [7] State.reset) = .serve) ∧
    (State.mayFire ((State.reset.set (HDG_CHn_CFG_OWNER 0) 4)) byLapwing 0 = true ∧
     State.mayFire ((State.reset.set (HDG_CHn_CFG_OWNER 0) 1)) byLapwing 0 = false) := by
  and_intros <;> decide +kernel

theorem witness_dram_requests :
    (dramUp.dramOffset dramBase = some 0 ∧ 0 + requestLength 8 none ≤ dramUp.visible ∧
     dramUp.dramOffset (dramBase + 2 ^ 36) = some (2 ^ 36) ∧ dramUp.visible < 2 ^ 36 + requestLength 8 none) ∧
    (dramUp.route 0x80000000 4 = .dram 0 ∧ dramUp.firewall byLapwing false dramBase 4 = none ∧
     dramUp.domainLocked domDmc = false ∧ (dramUp.set (PWR_DOMn_LOCKOFF 18) 1).domainLocked domDmc = true) ∧
    (let t := (dramUp.set (APP_FWn_ATTR_VALID 0) 1).set (APP_FWn_SIZE_SIZE 0) 0xFFFFF |>.set (APP_FWn_BASE_HI_ADDR 0) 0x10
     t.firewall byLapwing false dramBase 4 = some 0) ∧
    (dramUp.dramWorks = true ∧ dramUp.dramChoice = .idle ∧ dramUp.dmc.mr4Due = false ∧
     ((requestWaits 1 dramUp).dramChoice != .idle) = true) ∧
    (let t := aSecondOn (requestWaits 1 dramUp)
     (t.dmc.queue.find? (fun r => r.id == 0)).isSome = true ∧ t.passed 0 (10 * tenthCycles / 2) = true ∧
     t.passed 0 (10 * tenthCycles) = true) ∧
    (let t := dramUp.set DMC_SCRUB_HOURS 1
     t.dramWorks = true ∧ t.get DMC_SCRUB_HOURS ≠ 0 ∧ t.dmc.queue = [] ∧ t.dmc.forced = []) := by
  and_intros <;> decide +kernel

theorem witness_dram_upkeep :
    ((State.reset.set DMC_STAT_STATE 1).get DMC_STAT_STATE = dmcTrain ∧
     (State.reset.set DMC_STAT_STATE 2).get DMC_STAT_STATE = dmcZerofill) ∧
    (dramUp.refreshes = true ∧ 0 < dramUp.dramRanks ∧ (setEarly 0 1 dramUp).earlyOf 0 ≠ 0 ∧ dramUp.earlyOf 0 = 0 ∧
     dramUp.dmc.queue.any (fun r => r.port == 0 && dramUp.rankOf r == 0) = false) ∧
    (let t := requestWaits 0 dramUp
     t.dmc.queue.any (fun r => r.port == 0 && t.rankOf r == 0) = true ∧ min 8 (t.get (postField 0) + 1) < 8 ∧
     min 8 ((t.set (postField 0) 7).get (postField 0) + 1) = 8 ∧ t.dmc.forced = []) ∧
    (dramUp.get DMC_STAT_STATE = dmcReady ∧ dramUp.mayMaintain = true) ∧
    (verdict byLapwing dmcCtrlAddr true dramUp = .serve ∧
     (inMode .safe dramUp).mode.needsDram = false ∧ (inMode .solo dramUp).mode.needsDram = true) ∧
    (let t := aSecondOn (inMode .safe (dramUp.set DMC_CFG_AUTOSR 1))
     t.is DMC_CFG_AUTOSR = true ∧ t.get DMC_STAT_STATE = dmcReady ∧
     t.passed t.dmc.idleFrom (t.get DMC_CFG_IDLESR * 10 * usCycles) = true) ∧
    (State.reset.set DMC_STAT_STATE 4).get DMC_STAT_STATE = dmcSelfref := by
  and_intros <;> decide +kernel

theorem witness_flash_commands :
    verdict byLapwing 0x20050000 true flashUp = .serve ∧
    (∀ op ∈ [1, 2, 3, 4, 5, 6, 7, 8, 9], wrote (BitVec.ofNat 32 (2 ^ 31 + op)) FLS_CMD_GO = true ∧
      (flsWrote op flashUp).get FLS_CMD_OP = op) ∧
    (flsWrote 1 (flashRuns (.erase 3 0 true) flashUp)).fls.op.isSome = true ∧
    (flsWrote 1 (flashProts (.unlock 0 0) flashUp)).fls.prot.isSome = true ∧ (flsWrote 8 flashUp).fls.prot = none ∧
    ((flsWrote 8 flashUp).get FLS_REGWR_START ≤ (flsWrote 8 flashUp).get FLS_REGWR_END ∧
     ∀ q : Nat, q < 4 → ((flsWrote 8 flashUp).flsRegion q).valid = false) ∧
    ((flsWrote 2 flashUp).fls.op = none ∧ (flsWrote 2 flashUp).fls.susp = none ∧
     (flsWrote 2 flashUp).flsMayChange byLapwing 0 = true ∧ (flsWrote 2 flashUp).flsMayChange byCore0 0 = false) ∧
    ((flsWrote 2 (eraseParked flashUp)).fls.susp.isSome = true) ∧
    ((flsWrote 6 flashUp).get FLS_STAT_FAILS < 8 ∧ (flsWrote 6 flashUp).flsMayUnlock byLapwing 0 = true ∧
     8 ≤ (flsWrote 6 (flashUp.set FLS_STAT_FAILS 8)).get FLS_STAT_FAILS) ∧
    (byCore0.init ≠ initLapwing ∧ byLapwing.init = initLapwing ∧ ((flsWrote 8 flashUp).flsRegion 0).valid = false ∧
     (flsWrote 8 (flashUp.set FLS_REGWR_START 1)).get FLS_REGWR_END <
       (flsWrote 8 (flashUp.set FLS_REGWR_START 1)).get FLS_REGWR_START) ∧
    ((flsWrote 3 (flashRuns (.erase 3 0 true) flashUp)).fls.op = some (.erase 3 0 true) ∧
     (flsWrote 4 (eraseParked flashUp)).fls.op = none ∧ (flsWrote 4 (eraseParked flashUp)).fls.susp = some (.erase 3 0 true)) := by
  and_intros <;> decide +kernel

theorem witness_flash_ends :
    (let t : State := modJnl (fun j => { j with intents := [(0, 0, { ticket := 0, type := 8, payload := 0, whole := false })] }) State.reset
     t.intentOpen 0 = true) ∧
    (flashProts (.unlock 0 0) State.reset).fls.prot = some (.unlock 0 0) ∧
    (aSecondOn (flashProts (.unlock 0 0) State.reset)).passed State.reset.fls.protFrom msCycles = true ∧
    (((modFls (fun f => { f with prot := none }) State.reset).flsRegion 0).password = 2 ^ 64 - 1 ∧
     ((modFls (fun f => { f with prot := none }) State.reset).flsRegion 0).password ≠ 1) ∧
    (State.reset.domainLocked domFls = false ∧ State.reset.firewall byLapwing false 0x08000000 4 = none ∧
     (State.reset.set (PWR_DOMn_LOCKOFF domFls) 1).domainLocked domFls = true) ∧
    (let t := (State.reset.set (APP_FWn_ATTR_VALID 0) 1).set (APP_FWn_SIZE_SIZE 0) 0xFFFFF
     t.firewall byLapwing false 0x08000000 4 = some 0) ∧
    verdict byLapwing 0x20058000 true flashUp = .serve ∧
    (State.reset.otpRefusal 0 = none ∨ State.reset.otpRefusal 0 = some 2) ∧
    ((List.range 64).any (fun w => State.reset.otpRefusal w == none) = true) := by
  and_intros <;> decide +kernel

theorem witness_journal :
    ((recordOffered 1 (State.reset.set JNL_STAT_STATE 1)).jnlNextRecord.isSome = true ∧
     (recordOffered 1 (State.reset.set JNL_STAT_STATE 1)).jnlIsReady = true ∧
     (recordOffered 1 State.reset).jnlIsReady = false ∧ recResv ≠ 1 ∧ State.reset.sweepLag < 512 ∧ (jnlCarry State.reset).sweepLag < 512 ∧
     512 ≤ (modJnl (fun j => { j with pos := 2048, owed := 600 }) State.reset).sweepLag) ∧
    (let t := inMode .load (State.reset.set DMC_STAT_STATE 3)
     t.get JNL_STAT_STATE = jnlRecovering ∧ t.get DMC_STAT_STATE = dmcReady) ∧
    (let t := powered [6] State.reset
     verdict byLapwing 0x20060000 true t = .serve ∧ wrote 1 JNL_CTRL_RESTATE = true ∧ wrote 1 JNL_CTRL_FORMAT = false ∧
     (written 0x20060000 1 t).jnl.restate = none ∧ wrote 2 JNL_CTRL_RESTATE = false ∧ wrote 2 JNL_CTRL_FORMAT = true ∧
     (written 0x20060000 2 t).jnl.formatting = false ∧ (written 0x20060000 2 t).lifeCycle = lcBlank) ∧
    (let t := powered [6] State.reset
     verdict byLapwing 0x20060018 true t = .serve ∧ 2 ≤ extractBits 2 0 2 ∧ extractBits 0x80000001 0 2 < 2 ∧
     wrote 0x80000001 JNL_SLOTCMD_GO = true ∧ (written 0x20060018 0x80000001 t).jnl.slotTicket = none) := by
  and_intros <;> decide +kernel

theorem witness_checks :
    (∀ u ∈ [0, 3],
      verdict byLapwing (chkCtrlAddr u) true (powered [4] State.reset) = .serve ∧
      (((written (chkCtrlAddr u) 1 (powered [4] State.reset)).set (CHKu_CTRL_ABORT u) 0).chkRun u) = none ∧
      ((written (chkCtrlAddr u) 1 (powered [4] (checkRuns u State.reset))).chkRun u).isSome = true ∧
      (offered (chkTask u) 0 State.reset).taskQueued (chkTask u) = true) ∧
    wrote 1 (CHKu_CTRL_GO 0) = true ∧ wrote 1 (CHKu_CTRL_ABORT 0) = false ∧ wrote 2 (CHKu_CTRL_GO 0) = false ∧
    wrote 2 (CHKu_CTRL_ABORT 0) = true ∧
    ((engineRead byLapwing 0x10000000 8 State.reset).1.isSome = true ∧ (engineRead byLapwing 0x30000000 8 State.reset).1 = none) ∧
    (checkValue 0 (zeros 8) ≠ 0 % 2 ^ checkWidth 0 ∨ checkValue 0 (zeros 8) ≠ 1 % 2 ^ checkWidth 0) ∧
    (let t := aSecondOn (pacerOn 3 State.reset)
     t.is CFG_PACECTL_ACTIVE = true ∧ t.passed t.cfg.pacerFrom (t.get CFG_PACE_STEP * msCycles) = true ∧
     t.get LNK_ADM_INDEX + 1 ≠ 2 ^ t.get LNK_ADM_M ∧ (t.set LNK_ADM_INDEX 7).get LNK_ADM_INDEX + 1 = 2 ^ t.get LNK_ADM_M) ∧
    (let t := pacerOn 3 (powered [4] State.reset)
     verdict byLapwing 0x2004001C true t = .serve ∧
     ((written 0x2004001C 1 t).set CFG_PACECTL_STOP 0).is CFG_PACECTL_ACTIVE = true ∧ t.cfg.paced = none ∧
     (modCfg (fun c => { c with paced := some (t.cycles, 5, false) }) t).cfg.paced = some (t.cycles, 5, false)) := by
  and_intros <;> decide +kernel

theorem witness_lapwing_watches :
    (verdict byLapwing 0x20030008 true State.reset = .serve ∧ extractBits (0xA5 : Word) 0 8 = 0xA5 ∧ extractBits (0 : Word) 0 8 ≠ 0xA5 ∧
     extractBits ((0xA5 : Word) ||| 0x100) 0 8 = 0xA5) ∧
    (verdict byLapwing 0x20030024 true State.reset = .serve ∧
     (let u := (written 0x20030024 0x4B State.reset).setWord 0x20030024 0
      u.cycles < u.wdtEnd) ∧
     (let u := (written 0x20030024 0x4B (State.reset.set LPW_WDT_CFG_TIMEOUT 0)).setWord 0x20030024 0
      u.wdtEnd ≤ u.cycles)) ∧
    (let t := poweredOn State.reset
     t.lpw.powerGood = true ∧ t.mode.romKicks = false ∧ t.lpw.warned = false ∧
     (let u : State := { t.set LPW_WDT_CFG_WARN 10 with cycles := t.wdtEnd - 1 }
      u.wdtEnd - u.get LPW_WDT_CFG_WARN * msCycles ≤ u.cycles ∧ u.cycles < u.wdtEnd) ∧
     (t.set LPW_WDT_CFG_TIMEOUT 0).wdtEnd ≤ t.cycles) ∧
    (∀ c ∈ [0, 1], verdict { byCore0 with init := 1 + c } (supKickAddr c) true State.reset = .serve ∧
      verdict byLapwing (supStatAddr c) true State.reset = .serve) ∧
    (let u := (written (supKickAddr 0) 0x4B (State.reset.set (LPW_SUPc_CFG_TIMEOUT 0) 5)).setWord (supKickAddr 0) 0
     u.cycles < u.supEnd 0) ∧
    (let t := aSecondOn (core0In .running (State.reset.set (LPW_SUPc_CFG_TIMEOUT 0) 1))
     t.get (LPW_SUPc_CFG_TIMEOUT 0) ≠ 0 ∧ t.supEnd 0 ≤ t.cycles) ∧
    (byCore0.init = (if 0 = 0 then initHart0 else initHart1) ∧ byLapwing.init ≠ (if 0 = 0 then initHart0 else initHart1)) ∧
    (bitAt (0x10 : Word).toNat 4 = true ∧ ((written (supStatAddr 0) 0x10 (core0In .held State.reset)).hart 0).state = .held) ∧
    (offered 0x0C0 0 State.reset).taskQueued 0x0C0 = true := by
  and_intros <;> decide +kernel

theorem witness_updates_and_tokens :
    (∀ op ∈ [0, 1, 2, 3],
      let w : Word := BitVec.ofNat 32 (2 ^ 31 + op)
      let u := written 0x200300B0 w State.reset
      verdict byLapwing 0x200300B0 true State.reset = .serve ∧ wrote w LPW_UPD_CMD_GO = true ∧
      u.is LPW_UPD_STAT_BUSY = false ∧ u.lpw.lc = none ∧ u.get LPW_UPD_CMD_OP = op) ∧
    ((aSecondOn State.reset).passed 0 (20 * msCycles) = true ∧ State.reset.is LPW_UPD_STAT_VERIFIED = false ∧
     (State.reset.set LPW_UPD_STAT_VERIFIED 1).is LPW_UPD_STAT_VERIFIED = true) ∧
    (let u := written 0x200300C0 0x80000000 (poweredOn State.reset)
     verdict byLapwing 0x200300C0 true State.reset = .serve ∧ u.lpw.spix = none ∧
     wrote 0x80000000 LPW_SPIX_CMD_GO = true ∧ u.mode.romKicks = false ∧ u.get LPW_SPIX_CMD_ALEN ≠ 1 ∧
     (written 0x200300C0 0x80000400 (poweredOn State.reset)).get LPW_SPIX_CMD_ALEN = 1) ∧
    (∀ x ∈ [1, 2, 4],
      let w : Word := BitVec.ofNat 32 (2 ^ 31 + x)
      verdict byLapwing 0x20030080 true State.reset = .serve ∧ wrote w LPW_LC_CMD_GO = true ∧
      (written 0x20030080 w State.reset).get LPW_LC_CMD_TARGET = x) ∧
    ((transiting State.reset).lpw.lc.isSome = true) ∧
    (verdict byLapwing 0x200300A8 true State.reset = .serve) := by
  and_intros <;> decide +kernel

theorem witness_domains :
    (7 < domainCount ∧ verdict byLapwing (domAddr 7) true State.reset = .serve) ∧
    ((List.range 38).any (fun d => (aSecondOn ((powered [d] (inMode .safe State.reset)).set (PWR_DOMn_REQ d) 1)).mayEnter d) = true) ∧
    ((moving 1 none State.reset).transOf 7 =
      some { dom := 7, target := 1, since := 0, cause := 0, init := 0, again := none }) ∧
    ((groupAccess 7 State.reset).domainLocked 7 = false ∧ domainAbsent State.reset.variant 7 = false ∧
     State.reset.causeHolds 7 .hedgerow = true ∧ (groupAccess 7 State.reset).groupRestarts 7 = false ∧
     (groupAccess 7 (State.reset.set (PWR_DOMn_LOCKOFF 7) 1)).domainLocked 7 = true ∧
     State.reset.causeHolds 8 .interrupt = false) ∧
    ((groupWoken 7 (domainOnNow 7 0 0 (moving 2 none State.reset))).domainOn 7 = true) ∧
    (((aSecondOn (stalling State.reset)).stalled.find? (fun x => (aSecondOn (stalling State.reset)).passed x.since 64000)).isSome = true) ∧
    (let t := aSecondOn (modDmc (fun d => { d with queue := d.queue.map (fun r => { r with acc := some byCore0 }) })
       (requestWaits 7 State.reset))
     (t.stalled.find? (fun x => t.passed x.since 64000)).isNone = true ∧
     (t.dmc.queue.find? (fun r => r.acc.isSome && t.passed r.since 64000)).isSome = true) := by
  and_intros <;> decide +kernel

theorem witness_groups :
    (let a := grpCtrlAddr 0
     let t := grouped 0 0 0 State.reset
     verdict byLapwing a true t = .serve ∧ bitAt (t.word a).toNat 31 = false ∧
     wrote 0x80000001 (PWR_GRPg_CTRL_GO 0) = true ∧ wrote 0x80000001 (PWR_GRPg_CTRL_ABORT 0) = false ∧
     (written a 0x80000003 t).get (PWR_GRPg_CTRL_TARGET 0) = 3 ∧ (written a 0x80000001 t).get (PWR_GRPg_CTRL_TARGET 0) ≠ 3 ∧
     (written a 0x80000001 t).members 0 ≠ []) ∧
    (let t := grouped 1 1 1 State.reset
     t.get (PWR_GRPg_STAT_STATE 0) = grpPrepare ∧ t.get (PWR_GRPg_CTRL_TARGET 0) ≠ 2 ∧
     ((t.members 0).filterMap (fun d => (t.vote 0 d false).map (fun r => (d, r)))).find? (fun v => v.2 != 1) = some (7, 3) ∧
     (grouped 2 1 1 State.reset).get (PWR_GRPg_CTRL_TARGET 0) = 2) ∧
    ((grouped 1 2 1 State.reset).get (PWR_GRPg_STAT_STATE 0) = grpCommit ∧
     (grouped 1 2 1 State.reset).get (PWR_GRPg_STAT_REFUSER 0) = 0 ∧
     (grouped 1 2 1 State.reset).nextMember 0 = some 7 ∧ State.reset.nextMember 0 = none ∧
     (modPwr (fun p => { p with stopped := [(0, 7)] }) State.reset).pwr.stopped.find? (fun e => e.1 == 0) = some (0, 7) ∧
     ((grouped 1 2 1 State.reset).set (PWR_DOMn_INGRP 7) 1).groupOf 7 = some 0 ∧
     (modPwr (fun p => { p with doneAt := [(0, 0)] }) State.reset).pwr.doneAt.elem (0, State.reset.cycles) = true ∧
     State.reset.pwr.doneAt.elem (0, State.reset.cycles) = false ∧
     (grouped 1 5 1 State.reset).get (PWR_GRPg_STAT_STATE 0) = grpRestoring) ∧
    (∀ st ∈ [grpPrepare, grpCommit, grpDone],
      let t := grouped 1 st 1 State.reset
      let a := grpCtrlAddr 0
      let v := ((written a 0x40000000 t).set (PWR_GRPg_CTRL_TARGET 0) (extractBits (t.word a) 0 2)).set (PWR_GRPg_CTRL_ABORT 0) 0
      verdict byLapwing a true t = .serve ∧ bitAt (t.word a).toNat 31 = true ∧
      v.get (PWR_GRPg_STAT_STATE 0) = st) := by
  and_intros <;> decide +kernel

/-- R585: below 20 mV after 5 s of HU_CHG, or above 1.45 V, the sense is out of range; R526: 1 V at HU_VSENSE is 10 V by the default
VDIV, and R528: 50 mV across the default 100 mΩ are 500 mA. -/
theorem test_store_sense :
    (let t := modHold (fun h => { h with chgOn := 5 * secCycles }) State.reset
     t.senseOk 19999 = false ∧ t.senseOk 20000 = true) ∧
    State.reset.senseOk 19999 = true ∧ State.reset.senseOk 1450001 = false ∧
    State.reset.storeMv 1000000 = 10000 ∧ State.reset.shuntMa 50000 = 500 := by
  and_intros <;> decide +kernel

theorem witness_mains :
    (let t := sensing 1 State.reset
     t.is PWR_MS_CFG_EN = true ∧ t.is PWR_MS_STAT_LOST = false ∧ (aSecondOn t).passed t.mains.zcAt t.twoCycles = true ∧
     t.get PWR_MS_STAT_STATE = msGood ∧ (sensing 2 State.reset).get PWR_MS_STAT_STATE ≠ msGood) ∧
    (let u := (sensing 1 State.reset).set PWR_MS_FREQ_MHZ (min 0 1048575)
     u.get PWR_MS_TIME_FTOL * u.nominalMhz < max (0 - u.nominalMhz) (u.nominalMhz - 0) * 1000 ∧
     u.is PWR_MS_STAT_FREQDEV = false ∧ (u.set PWR_MS_STAT_FREQDEV 1).is PWR_MS_STAT_FREQDEV = true) ∧
    (let u := (sensing 1 State.reset).set PWR_MS_FREQ_MHZ (min 50000 1048575)
     max (u.nominalMhz - u.nominalMhz) (u.nominalMhz - u.nominalMhz) * 1000 ≤ u.get PWR_MS_TIME_FTOL * u.nominalMhz) ∧
    (let t := aSecondOn (sensing 3 (inMode .holdover State.reset))
     t.get PWR_MS_STAT_STATE = msRestoring ∧ t.is PWR_MS_STAT_LOST = false ∧
     t.passed t.mains.stableFrom (t.get PWR_MS_TIME_RESTORE * 100 * msCycles) = true ∧ (mainsGood t).mode = .holdover ∧
     ((mainsGood t).storeLow = false ∨ (mainsGood t).storeLow = true)) ∧
    (let t := aSecondOn (inMode .lastgasp (State.reset.set PWR_LG_CFG_STATN 2))
     t.hold.gasps < t.get PWR_LG_CFG_STATN ∧
     t.passed t.hold.gaspFrom (t.hold.gasps * t.get PWR_LG_CFG_STATGAP * 10 * msCycles) = true ∧
     t.passed t.hold.gaspFrom (t.get PWR_LG_CFG_LGTIME * msCycles) = true ∧ (gaspFollows t).mode = .lastgasp ∧
     t.hold.gaspDrain = false ∧ t.gaspBusy = false ∧
     (modLnk (fun l => { l with decided := [] }) t).passed t.cycles (5 * msCycles) = false) := by
  and_intros <;> decide +kernel

theorem witness_store :
    (let t := storeIn 2 1 State.reset
     t.lpw.powerGood = true ∧ t.is PWR_HU_STAT_IDC = true ∧ (t.set PWR_HU_STAT_IDC 0).huState = huCharge ∧
     (t.set PWR_HU_STAT_CHG 1).is PWR_HU_STAT_CHG = true ∧ t.huState = huCharge) ∧
    ((storeIn 0 1 State.reset).huState = huOff ∧ (storeIn 0 1 State.reset).huState ≠ huCharge ∧
     (storeIn 0 1 State.reset).huState ≠ huReady) ∧
    (let t := storeIn 4 0 State.reset
     t.is PWR_HU_STAT_IDC = false ∧ t.huState = huSupply ∧ (storeIn 0 0 State.reset).huState ≠ huSupply) ∧
    (let t := aSecondOn (storeIn 1 1 State.reset)
     t.huState = huWait ∧ t.passed t.hold.closedFrom (t.get PWR_HU_CHG_CHGDLY * 10 * msCycles) = true) ∧
    (verdict byLapwing huCtrlAddr true State.reset = .serve ∧ (storeIn 1 1 State.reset).huState ≠ huOff) ∧
    (let v := (storeIn 6 1 State.reset).set PWR_HU_CTRL_CLRFAULT 0
     v.huState = huFault ∧ v.huCause = none ∧ v.bledDown = true) ∧
    (let t : State := { storeIn 5 1 State.reset with cycles := 100000 * secCycles }
     t.huState = huBleed ∧ t.hold.bled = false ∧ t.hold.bleedFailed = false ∧
     t.passed t.hold.bleedFrom (t.get PWR_HU_BLEED_BLEEDT * secCycles) = true) := by
  and_intros <;> decide +kernel

theorem witness_backup :
    ((State.reset.set BKP_STAT_ONVBAT 1).is BKP_STAT_ONVBAT = true ∧ State.reset.is BKP_STAT_ONVBAT = false) ∧
    ((aSecondOn State.reset).bkp.tickFrom ≠ (aSecondOn State.reset).cycles ∧ State.reset.bkp.tick.2 = false) ∧
    (let u := written setCmdAddr 7 State.reset
     verdict byLapwing setCmdAddr true State.reset = .serve ∧ wrote 7 BKP_SET_CMD_GO = true ∧
     u.is BKP_SET_CMD_BUSY = false ∧ wrote 7 BKP_SET_CMD_TIME = true ∧ wrote 7 BKP_SET_CMD_DATE = true ∧
     timeLegal 0 = true ∧ timeLegal 0xFFFFFFFF = false) := by
  and_intros <;> decide +kernel

theorem witness_resets :
    State.reset.lpw.powerGood = false ∧ (poweredOn State.reset).lpw.powerGood = true ∧ 519 < railFalling .core ∧
    (let t := aSecondOn (modRim (fun r => { r with loLost := some 0 }) State.reset)
     t.rim.loLost = some 0 ∧ t.passed 0 msCycles = true) := by
  and_intros <;> decide +kernel

theorem witness_reset_end :
    (leaving 1).resetEnds = true ∧ (resetWork false (leaving (2 ^ 31))).lifeCycle = lcScrapped ∧
    (let u := resetWork false (leaving 0)
     u.lifeCycle ≠ lcScrapped ∧ (openRecordRecovery (changeMode 2 .load u)).lifeCycle = lcBlank) ∧
    (let u := resetWork false (leaving 1)
     u.lifeCycle ≠ lcScrapped ∧ (openRecordRecovery (changeMode 2 .load u)).lifeCycle ≠ lcBlank) := by
  and_intros <;> decide +kernel
theorem witness_loader :
    (let t := loading cfgSignature State.reset
     t.mode = .load ∧ t.get CFG_STAT_STATE = cfgSignature) ∧
    (let t := headed (loading cfgSections State.reset)
     t.get CFG_STAT_STATE = cfgSections ∧ 0 < t.nsec ∧ 0 ∉ t.cfg.done ∧ ∀ k < 0, t.secLoc k = t.secLoc 0 → k ∈ t.cfg.done) ∧
    (let t := aSecondOn (aSecondOn (loading cfgSections State.reset))
     t.passed t.cfg.since (2000 * msCycles) = true) ∧
    ((inMode .selftest State.reset).rim.calibrating = false ∧ (inMode .selftest State.reset).cfg.tested = none) := by
  and_intros <;> decide +kernel

theorem witness_interrupts :
    (byLapwing.bytes = 4 ∧ byLapwing.init = 4) ∧ appOn.plicBest 2 = 0 ∧ (pending73 appOn).plicBest 0 = 73 ∧
    verdict byCore0 (mtimecmpLo 1 + 4) true appOn = .serve ∧ verdict byCore0 0x20130010 true appOn = .serve ∧
    (offered (0x4C0 + 7) 0 appOn).taskQueued (0x4C0 + 7) = true ∧
    (let t := ((appOn.setWord (mtimecmpLo 1) 0).setWord (mtimecmpLo 1 + 4) 0)
     let u := keepPending (fun x => setHart 1 { x.hart 1 with mtip := decide (x.mtimecmp 1 ≤ x.ts) } x) t
     t.mtimecmp 1 ≤ t.ts ∧ u.domainLocked 9 = false ∧ (u.set (PWR_DOMn_LOCKOFF 9) 1).domainLocked 9 = true) := by
  and_intros <;> decide +kernel

theorem witness_sram :
    let a := 0x10000040
    let s := appOn
    sramForm (sramAt 1) 0x1003FFFF .read = true ∧ targetAdmits (.sram (a - 0x10000000)) byCore0 true s.mode = true ∧
    targetAdmits (.sram (a - 0x10000000)) byCore0 false s.mode = true ∧ s.firewall byCore0 true a 4 = none ∧
    s.firewall byCore0 false a 4 = none ∧ s.domainLocked 10 = false ∧ s.domainReady 10 = true ∧
    sramForm byCore0 a (.write 5) = true ∧ sramForm byCore0 a .lr = true ∧ sramForm byCore0 a (.sc 5) = true ∧
    sramForm byCore0 a (.amo .add 5) = true ∧
    ((meetDomain 10 s).hart (hartOf byCore0)).reservation ≠ some (a / 64) ∧
    ((meetDomain 10 (setHart 0 { s.hart 0 with reservation := some (a / 64) } s)).hart (hartOf byCore0)).reservation
      = some (a / 64) := by
  and_intros <;> decide +kernel

theorem witness_tap :
    (bitAt (0x10000 : Word).toNat 16 = true ∧ bitAt (0 : Word).toNat 16 = false ∧ bitAt (0 : Word).toNat 17 = false) ∧
    (kept 2 State.reset).tap.dmiOp = 2 ∧ (kept 0 State.reset).tap.dmiOp ≠ 2 ∧
    (otpState 3).debugModuleOpen = false ∧ State.reset.debugModuleOpen = true := by
  and_intros <;> decide +kernel

theorem witness_register_access :
    verdict byLapwing 0x20010404 false appOn = .serve ∧ verdict byLapwing 0x20000200 false (walled appOn) = .refused 0 ∧
    verdict byLapwing 0x20000018 false appOn = .error ∧ verdict byLapwing 0x20090000 false (lockedOff domSec appOn) = .locked ∧
    verdict byLapwing 0x20090000 false (idleDomain domSec appOn) = .stall ∧
    verdict byLapwing 0x2013FFFC true appOn = .error ∧ verdict byLapwing 0x20010404 true appOn = .serve ∧
    mirroredRegister 0x20010404 = false ∧ mirroredRegister 0x200B0000 = true ∧
    verdict byLapwing 0x200B0000 true (powered [domLnk] (inMode .standby State.reset)) = .serve ∧
    verdict byLapwing 0x200B0000 true (powered [domLnk] appOn) = .serve ∧
    verdict byLapwing 0x20010404 true (walled appOn) = .refused 0 ∧
    verdict byLapwing 0x20090000 true (lockedOff domSec appOn) = .locked ∧ verdict byLapwing 0x20090000 true (idleDomain domSec appOn) = .stall := by
  and_intros <;> decide +kernel

theorem witness_unassigned : regRow 0x20000018 = none ∧ regRow 0x2013FFFC = none := by
  and_intros <;> decide +kernel

theorem witness_time_halves :
    (let t := powered [2] (timAt .free)
     verdict byCore0 0x20120010 false t = .serve ∧
     verdict byCore0 0x20120014 false (after 0 t (tsLoRead { meetDomain 2 t with resp := .ok })) = .serve) := by
  and_intros <;> decide +kernel

theorem witness_idles : State.reset.pending = [] := by decide

theorem witness_gateways : State.reset.gatewaysFollow ∧ State.reset.idsExist ∧ step State.reset = .next State.reset :=
  ⟨by unfold State.gatewaysFollow; decide +kernel, by intro i hi; exact absurd hi (List.not_mem_nil), rfl⟩

theorem witness_counter : TIM_CNT_STEPS.lo + TIM_CNT_STEPS.width ≤ 32 ∧
    (TIM_CNT_STEPS.addr ≠ TIM_CTRL_SRC.addr) := by decide

theorem witness_ack_priority :
    (booked 2 false 9 9).over (booked 1 true 0 0) = true ∧ (booked 1 true 9 9).over (booked 1 false 0 0) = true ∧
    (booked 1 true 3 9).over (booked 1 true 4 0) = true ∧ (booked 1 true 3 0).over (booked 1 true 3 1) = true ∧
    (booked 1 true 3 0).over (booked 1 true 3 0) = false := by decide

theorem witness_claim : State.reset.plicBest 0 = 0 ∧ (pending73 appOn).plicBest 0 = 73 ∧ State.reset.idsExist := by
  refine ⟨by decide, by decide +kernel, ?_⟩
  intro i hi; exact absurd hi (List.not_mem_nil)

theorem witness_dram_place : State.reset.get DMC_CFG_ORDER = 0 ∧
    (State.reset.dramPlace 0x050A3F00) = ⟨0, 0, 7, 2949, 1⟩ ∧ 0x050A3F00 < State.reset.visible ∧
    ((State.reset.set DMC_CFG_ORDER 1).dramPlace 0x050A3F80) = ⟨1, 0, 1, 2949, 1⟩ ∧
    ((State.reset.set DMC_CFG_ORDER 2).dramPlace 0x050A3F00) = ⟨0, 0, 2, 2949, 1⟩ := by
  and_intros <;> decide +kernel

theorem witness_coded : ruleMode [0x08, 0, 0, 0] = modeExact ∧ ruleMode [0x10, 0, 0, 0] ≠ modeExact := by decide

theorem witness_memory : State.reset.canonical = true ∧ State.reset.locate 0x1000000040 2 = some (.dram, 0x40) ∧
    State.reset.locate 0x101FFFFE 2 = some (.sram, 0x1FFFFE) ∧ State.reset.locate 0x11000000 2 = some (.lpwSram, 0) ∧
    State.reset.locate 0x101FFFFF 2 = none ∧ State.reset.namesMemory 0x101FFFFF 2 = false ∧
    (State.reset.set DMC_STAT_STATE 5).locate 0x1000000040 2 = none ∧
    (State.reset.set DMC_STAT_STATE 5).namesMemory 0x1000000040 2 = true := by
  and_intros <;> decide +kernel

theorem witness_access_codes :
    regRow 0x20120034 ≠ none ∧ absentRegister .wv5280 0x20120034 = false ∧ regRow 0x200C0280 ≠ none ∧
    absentRegister .wv5264 0x200C0280 = true ∧
    ((regRow 0x20010030).map (fun r => r.fields.map (fun f => f.acc))) = some [.w1c, .w1c, .w1c, .w1c] ∧
    ((regRow 0x20020018).map (fun r => r.fields.any (fun f => f.acc == .w1c))) = some true ∧
    ((regRow 0x20030020).map (fun r => r.fields.any (fun f => f.acc == .rwl))) = some true ∧
    ((regRow 0x20030024).map (fun r => r.fields.any (fun f => f.acc == .wo))) = some true := by
  and_intros <;> decide +kernel

end Sys2Proof.Tests
end

section
/-!
SUPPORT. The statements of 00_scope.md: the step and its queue, an access to a register on the bus, the access codes of fields,
event counters and the state after reset.
-/

namespace Sys2Proof.Machine

/-! ### The step and its queue (logs 2 and 11) -/

/-- A step runs the command in front of the queue on the state that keeps the rest. -/
theorem step_front (c : Instr) (rest : List Instr) (s : State) :
    step { s with pending := c :: rest } = exec c { s with pending := rest } := rfl

/-- A step on an empty queue idles. -/
theorem step_idle (s : State) (h : s.pending = []) : step s = .next s := by
  simp only [step, h]

/-- A step never stops, and takes the command in front off the queue. -/
theorem step_takes_front (s : State) : ∃ t, step s = .next t ∧ t.pending = s.pending.tail := by
  rcases step_cases s with ⟨he, hs⟩ | ⟨c, rest, dt, u, hp, hs⟩
  · exact ⟨s, hs, by rw [he, List.tail_nil]⟩
  · exact ⟨_, hs, by rw [after_pending, hp, List.tail_cons]⟩

/-- The state one step on. -/
def State.advance (s : State) : State :=
  match step s with
  | .next t => t
  | .fault _ => s
  | .refused _ => s

theorem step_advance (s : State) : step s = .next s.advance := by
  obtain ⟨t, ht, -⟩ := step_takes_front s
  simp only [State.advance, ht]

theorem advance_pending (s : State) : s.advance.pending = s.pending.tail := by
  obtain ⟨t, ht, hp⟩ := step_takes_front s
  simpa only [State.advance, ht] using hp

theorem advance_idle (s : State) (h : s.pending = []) : s.advance = s := by
  simp only [State.advance, step_idle s h]

/-- After `n` steps the first `n` commands are off the queue. -/
theorem iterate_advance_pending (s : State) (n : Nat) : (State.advance^[n] s).pending = s.pending.drop n := by
  induction n with
  | zero => rfl
  | succ n ih => rw [Function.iterate_succ_apply', advance_pending, ih, List.tail_drop]

/-- Once as many steps as commands waited have passed, the state stands. -/
theorem iterate_advance_drained (s : State) (n : Nat) (h : s.pending.length ≤ n) :
    State.advance^[n] s = State.advance^[s.pending.length] s := by
  induction n, h using Nat.le_induction with
  | base => rfl
  | succ n hn ih =>
    have hempty : (State.advance^[n] s).pending = [] := by
      rw [iterate_advance_pending, List.drop_eq_nil_of_le hn]
    rw [Function.iterate_succ_apply', advance_idle _ hempty, ih]

/-- Settles O50: the run that iterates the step, each of which takes one command off the queue until none waits. -/
theorem queuesDrain : Obligations.QueuesDrain := by
  intro s
  refine ⟨fun n => State.advance^[n] s, rfl, fun n => ?_, iterate_advance_pending s, iterate_advance_drained s⟩
  rw [step_advance, ← Function.iterate_succ_apply' State.advance n s]

/-- Settles O49: every command ends in `after`, which gives the queue, the variant and the instant back. -/
theorem everyCommandTakesEffect : Obligations.EveryCommandTakesEffect := by
  intro c s
  obtain ⟨dt, u, h⟩ := exec_after c s
  exact ⟨_, h, after_pending dt s u, after_variant dt s u, (after_cycles dt s u).symm ▸ Nat.le_add_right _ _⟩

/-- Settles O48: the two arms of the step. -/
theorem stepRunsTheFrontCommand : Obligations.StepRunsTheFrontCommand := ⟨step_front, step_idle⟩

/-! ### Accesses on the bus (R552) -/

section
variable {dt a : Nat} {acc : Access} {w : Word} {s t v : State}

theorem exec_registerRead_next (h : busRead acc a (elapse dt s) = v) :
    exec (.registerRead dt acc a) s = .next (after dt s v) := h ▸ rfl

theorem exec_registerWrite_next (h : busWrite acc a w (elapse dt s) = v) :
    exec (.registerWrite dt acc a w) s = .next (after dt s v) := h ▸ rfl

theorem busRead_window (hbase : 0x20000000 ≤ a) (htop : a + acc.bytes ≤ 0x20140000) :
    busRead acc a t = registerRead acc a t := by
  simp only [busRead, route_register a acc hbase htop]

theorem busWrite_window (hbase : 0x20000000 ≤ a) (htop : a + acc.bytes ≤ 0x20140000) :
    busWrite acc a w t = registerWrite acc a w t := by
  simp only [busWrite, route_register a acc hbase htop]

theorem busRead_nothing (h : t.route a acc.bytes = .nothing) : busRead acc a t = errorResponse t := by
  simp only [busRead, h]

theorem busWrite_nothing (h : t.route a acc.bytes = .nothing) : busWrite acc a w t = errorResponse t := by
  simp only [busWrite, h]

/-! ### Writes of a register by their verdict (R3, R7, R8) -/

theorem registerWrite_error (h : verdict acc a true t = .error) : registerWrite acc a w t = errorResponse t := by
  obtain ⟨w', serve, -, e⟩ := registerWrite_access acc a w t
  exact e.trans (access_error acc a t (some w') serve h)

theorem registerWrite_refused {n : Nat} (h : verdict acc a true t = .refused n) :
    registerWrite acc a w t = errorResponse (firewallRefusal acc true a n t) := by
  obtain ⟨w', serve, -, e⟩ := registerWrite_access acc a w t
  exact e.trans (access_refused acc a t (some w') serve n h)

theorem registerWrite_locked (h : verdict acc a true t = .locked) :
    registerWrite acc a w t = errorResponse (domainError 0 (domainOfBlock (blockOf a)) acc.init t) := by
  obtain ⟨w', serve, -, e⟩ := registerWrite_access acc a w t
  exact e.trans (access_locked acc a t (some w') serve h)

/-- Outside the banks of one bit per channel, whose word is masked first (R394), the word that waits is the word written. -/
theorem registerWrite_stall (h : verdict acc a true t = .stall) (hbank : ¬(0x20070100 ≤ a ∧ a < 0x20070160)) :
    registerWrite acc a w t = stallAccess (domainOfBlock (blockOf a))
      { acc := acc, addr := a, write := some w, sram := none, since := t.cycles } t := by
  obtain ⟨w', serve, hw, e⟩ := registerWrite_access acc a w t
  rw [e, hw hbank]
  exact access_stall acc a t (some w) serve h

/-- A served write of a mirrored register, which STANDBY ignores (R370). -/
theorem registerWrite_mirrored_serve (hm : mirroredRegister a = true) (h : verdict acc a true t = .serve) :
    registerWrite acc a w t =
      let u := { meetDomain (domainOfBlock (blockOf a)) t with resp := .ok }
      if u.mode = .standby then u else mirroredEffect a (u.word a) (settleWord a (u.word a) (plainWrite a w u)) :=
  (registerWrite_mirrored acc a w t hm).trans (access_serve acc a t (some w) _ h)

end

/-- Settles O43: each verdict by what an access comes to under it. -/
theorem registerAccessesActByTheirVerdict : Obligations.RegisterAccessesActByTheirVerdict := by
  intro dt a acc w s t d u hbase htop
  have read {v : State} (h : registerRead acc a t = v) : exec (.registerRead dt acc a) s = .next (after dt s v) :=
    exec_registerRead_next ((busRead_window hbase htop).trans h)
  have write {v : State} (h : registerWrite acc a w t = v) : exec (.registerWrite dt acc a w) s = .next (after dt s v) :=
    exec_registerWrite_next ((busWrite_window hbase htop).trans h)
  exact
    ⟨fun hv => read (access_serve acc a t none _ hv),
      fun hv => read (access_error acc a t none _ hv),
      fun n hv => read (access_refused acc a t none _ n hv),
      fun hv => read (access_locked acc a t none _ hv),
      fun hv => read (access_stall acc a t none _ hv),
      fun hv hm hfireLo hfireHi hbank htask hcmdA hcmdB hindex => write
        ((registerWrite_plain acc a w t hfireLo hfireHi hbank htask hcmdA hcmdB hindex hm).trans
          (access_serve acc a t (some w) _ hv)),
      fun hv hm =>
        ⟨fun hmode => write ((registerWrite_mirrored_serve hm hv).trans (if_pos hmode)),
          fun hmode => write ((registerWrite_mirrored_serve hm hv).trans (if_neg hmode))⟩,
      fun hv => write (registerWrite_error hv),
      fun n hv => write (registerWrite_refused hv),
      fun hv => write (registerWrite_locked hv),
      fun hv hbank => write (registerWrite_stall hv hbank)⟩

/-! ### Addresses that hold no register (R8) -/

theorem verdict_unassigned (acc : Access) (a : Nat) (write : Bool) (t : State) (h : regRow a = none) :
    verdict acc a write t = .error := by
  have ha : assigned t.variant a = false := by simp only [assigned, h, Option.isSome_none, Bool.false_and]
  unfold verdict
  exact if_pos (.inr ha)

/-- An access that ends in the windows of the unassigned block numbers names nothing. -/
theorem route_unassignedBlock (a n : Nat) (t : State) (hbase : 0x20140000 < a + n) (htop : a + n ≤ 0x20400000) :
    t.route a n = .nothing := by
  unfold State.route
  simp only [decide_eq_true_eq]
  rw [if_neg (by omega), if_neg (by omega), if_neg (by omega), if_neg (by omega), if_neg (by omega),
    if_neg (by omega), if_neg (by omega), if_neg (by omega)]

/-- Settles O44: in an assigned window the verdict is the error, and an unassigned window names nothing. -/
theorem unassignedRegistersAnswerErrors : Obligations.UnassignedRegistersAnswerErrors := by
  intro dt a acc w s t hbase htop hrow hwin
  by_cases hin : a + acc.bytes ≤ 0x20140000
  · have hv (write : Bool) : verdict acc a write t = .error := verdict_unassigned acc a write t (hrow hin)
    exact ⟨exec_registerRead_next ((busRead_window hbase hin).trans (access_error acc a t none _ (hv false))),
      exec_registerWrite_next ((busWrite_window hbase hin).trans (registerWrite_error (hv true)))⟩
  · have hr : t.route a acc.bytes = .nothing := route_unassignedBlock a acc.bytes t (by omega) htop
    exact ⟨exec_registerRead_next (busRead_nothing hr), exec_registerWrite_next (busWrite_nothing hr)⟩

/-! ### Event counters (R12) -/

theorem get_le_count (f : Fld) (n : Nat) (s : State) (h : f.fits) : s.get f ≤ (count f n s).get f := by
  have hlt : s.get f < 2 ^ f.width := s.get_lt f
  rw [count_get f n s h, allOnes]
  omega

/-- Settles O54: a count is a write of the saturated sum to its own field. -/
theorem countersSaturate : Obligations.CountersSaturate := fun f n s h =>
  ⟨count_get f n s h, get_le_count f n s h, fun g hg => count_get_apart f g n s h hg, _, rfl⟩

/-! ### Access codes of fields (R9, R10) -/

section
variable {a : Nat} {r : RegRow}

/-- A register the variant lacks ignores a write (R3). -/
theorem plainWrite_absent (w : Word) (s : State) (h : absentRegister s.variant a = true) : plainWrite a w s = s := by
  simp only [plainWrite, h, if_true]

theorem plainWrite_word (w : Word) (s : State) (h : absentRegister s.variant a = false) (hr : regRow a = some r) :
    (plainWrite a w s).word a = writtenWord (s.lockedAt a) r (w &&& presentMask s.variant a) (s.word a) := by
  simp only [plainWrite, h, hr, Bool.false_eq_true, if_false, State.word_setWord_same]

theorem plainWrite_word_other (w : Word) (s : State) (c : Nat) (hc : c ≠ a) : (plainWrite a w s).word c = s.word c := by
  unfold plainWrite
  split
  · rfl
  · split
    · exact State.word_setWord_other _ _ _ _ hc
    · rfl

theorem readClear_word (s : State) (hr : regRow a = some r) :
    (readClear a s).word a = readLeaves r (resetWord a) (s.word a) := by
  simp only [readClear, hr, State.word_setWord_same]

theorem readClear_word_other (s : State) (c : Nat) (hc : c ≠ a) : (readClear a s).word c = s.word c := by
  unfold readClear
  split
  · exact State.word_setWord_other _ _ _ _ hc
  · rfl

/-- A register the variant lacks reads 0 (R3). -/
theorem readWord_absent (s : State) (h : absentRegister s.variant a = true) : s.readWord a = 0 := by
  simp only [State.readWord, h, if_true]

/-- A bit of a write-only field reads 0. -/
theorem readWord_wo (s : State) (hr : regRow a = some r) {f : FieldRow} (hf : f ∈ r.fields) {b : Nat} (hb : f.holds b)
    (hw : f.acc = .wo) : (s.readWord a).getLsbD b = false := by
  unfold State.readWord
  split
  · exact BitVec.getLsbD_zero
  · rw [BitVec.getLsbD_and, readableMask_wo a r hr f hf b hb hw, Bool.and_false]

end

/-- Settles O60: the field that holds a bit decides it by its access code, and no field holds a reserved bit. -/
theorem fieldsFollowTheirAccessCodes : Obligations.FieldsFollowTheirAccessCodes := by
  intro a b r f w s hr x old new
  have tidy : r.tidy := regRow_tidy a r hr
  refine ⟨fun habs => ⟨plainWrite_absent w s habs, readWord_absent s habs⟩, fun hpres hf hlo hhi => ?written,
    fun hpres hres => ?reserved, fun hf hlo hhi => ⟨readWord_wo s hr hf ⟨hlo, hhi⟩, ?read⟩,
    fun c hc => ⟨plainWrite_word_other w s c hc, readClear_word_other s c hc⟩⟩
  case written =>
    have hnew : new = writtenBit (s.lockedAt a) f.acc (x.getLsbD b) old := by
      simp only [new, plainWrite_word w s hpres hr]
      exact writtenWord_bit _ r tidy x _ f hf b ⟨hlo, hhi⟩
    rw [hnew]
    cases f.acc <;> simp [writtenBit]
  case reserved =>
    simp only [new, plainWrite_word w s hpres hr]
    exact writtenWord_reserved _ r tidy x _ b fun g hg hb => by have := hres g hg; omega
  case read =>
    rw [readClear_word s hr]
    exact readLeaves_bit r tidy _ _ f hf b ⟨hlo, hhi⟩

/-! ### The state after reset (R13) -/

/-- A key that a sparse map does not list reads as the default. -/
theorem sparse_get_unlisted {α : Type} (d : Nat → α) (m : List (Nat × α)) (a : Nat) (h : ∀ e ∈ m, e.1 ≠ a) :
    Sparse.get d m a = d a := by
  have hnone : m.find? (fun e => e.1 == a) = none := by simpa [List.find?_eq_none] using h
  simp only [Sparse.get, hnone]

/-- Only the date and the flags of the backup block stand apart from their Reset column (R537). -/
theorem reset_word (a : Nat) (hdate : a ≠ 0x20020004) (hflags : a ≠ 0x20020018) : State.reset.word a = resetWord a := by
  refine sparse_get_unlisted resetWord State.reset.regs a fun e he => ?_
  rcases List.mem_pair.1 he with rfl | rfl
  · exact hdate.symm
  · exact hflags.symm

theorem resetWord_id : resetWord 0x20000000 = 0x52805756 := by decide +kernel

theorem resetWord_revision : resetWord 0x20000004 = 0xA1 := by decide +kernel

/-- Settles O53: the registers by their Reset column, the rest as the state after reset writes it out. -/
theorem resetLeavesStatedValues : Obligations.ResetLeavesStatedValues := by
  refine ⟨rfl, reset_word, rfl, rfl, ?_, ?_, rfl, rfl, rfl, rfl, rfl, rfl, rfl, rfl, rfl, rfl, rfl, rfl⟩
  · rw [reset_word _ (by decide) (by decide), resetWord_id]
  · rw [reset_word _ (by decide) (by decide), resetWord_revision]

end Sys2Proof.Machine
end

section
/-!
SUPPORT. The statements of 01_architecture.md: the timers and handovers of Stile, and the steps of the loader.
-/

namespace Sys2Proof.Machine

/-! ### The effect of a command -/

/-- The effect of a command may be given by any state equal to it. -/
theorem exec_next_of_eq {c : Instr} {dt : Nat} {s u v : State} (hexec : exec c s = .next (after dt s u)) (h : u = v) :
    exec c s = .next (after dt s v) := h ▸ hexec

/-! ### Instants judged by a standby (R373) -/

theorem judgeBeacon_standby (pan at_ : Nat) {u : State} (h : u.mode = .standby) :
    judgeBeacon pan at_ u = judgeInstant at_ ((u.beaconFor pan at_).map (fun b => b.2.1)).isSome
      (instantJudged pan at_ ((u.beaconFor pan at_).map (fun b => b.2.1)) u) :=
  if_pos (beq_iff_eq.2 h)

theorem judgeBeacon_elsewhere (pan at_ : Nat) {u : State} (h : u.mode ≠ .standby) : judgeBeacon pan at_ u = u :=
  if_neg (mt beq_iff_eq.1 h)

/-! ### Stile's timers and handovers (R356 to R376) -/

/-- Settles O24: each timer and each step of a handover by the branch of its command that the hypotheses choose. -/
theorem stileTimersAndHandoversTakeEffect : Obligations.StileTimersAndHandoversTakeEffect := by
  refine ⟨?heartSend, ?electSend, ?electionTimeout, ?laneLoss, ?resendTimeout, ?timeTransfer, ?beaconInstant,
    ?supervisionInstant, ?handoverWrite, ?handoverTask, ?handoverInstant, ?oldPrimaryYield, ?takeoverComplete⟩
  case heartSend =>
    intro dt s t hruns hdue
    exact exec_next_of_eq rfl (if_pos (Bool.and_eq_true_iff.2 ⟨hruns, hdue⟩))
  case electSend =>
    intro dt s t hruns hlink helected hmatch hdue
    have hguard : (t.stlRuns && t.stl.link && !t.stl.elected && !t.stl.mismatch &&
        t.passed t.stl.electSent msCycles) = true := by
      rw [hruns, hlink, helected, hmatch, hdue]; rfl
    exact exec_next_of_eq rfl (if_pos hguard)
  case electionTimeout => exact fun dt s => exec_next_of_eq rfl rfl
  case laneLoss =>
    intro dt lane block s t u hruns hlane hup hlost
    have hguard : ¬(t.stlRuns = false ∨ 2 ≤ lane ∨
        (block = false ∧ t.passed (t.stlLane lane).last (30 * usCycles) = false)) := by
      rw [hruns]; rcases hlost with h | h <;> simp [h, hlane]
    have hdown : (!(t.stlLane lane).up) ≠ true := by rw [hup]; decide
    exact
      ⟨fun hother => exec_next_of_eq rfl ((if_neg hguard).trans ((if_neg hdown).trans (if_pos hother))),
        fun hother => exec_next_of_eq rfl ((if_neg hguard).trans ((if_neg hdown).trans
          (if_neg (Bool.not_eq_true _ |>.mpr hother))))⟩
  case resendTimeout => exact fun dt s hlink => exec_next_of_eq rfl (if_pos hlink)
  case timeTransfer =>
    intro dt s t n u hmode hdue
    have hguard : ¬(t.mode ≠ .standby ∨ t.passed t.stl.ttFrom (10 * msCycles) = false) := by simp [hmode, hdue]
    exact
      ⟨fun hn => exec_next_of_eq rfl ((if_neg hguard).trans (if_pos hn)),
        fun hn => exec_next_of_eq rfl ((if_neg hguard).trans (if_neg hn.ne'))⟩
  case beaconInstant =>
    intro dt pan at_ s t u found hmode hpan hruns hbeacons hdue
    have hguard : ¬(t.mode ≠ .standby ∨ 16 ≤ pan ∨ t.panRuns pan = false ∨ t.panBeacons pan = false) := by
      simp [hmode, hpan, hruns, hbeacons]
    have hexec : exec (.beaconInstantJudged dt pan) s = .next (after dt s (judgeBeacon pan at_ u)) :=
      exec_next_of_eq rfl ((if_neg hguard).trans (by rw [hdue]))
    exact
      ⟨fun h => exec_next_of_eq hexec (judgeBeacon_standby pan at_ h),
        fun h => exec_next_of_eq hexec (judgeBeacon_elsewhere pan at_ h)⟩
  case supervisionInstant =>
    intro dt s t pan span now u hen hspan hlast hruns
    have hguard : ¬(t.is STL_SUP_SUPEN = false ∨ span = 0 ∨ now ≤ t.stl.lastSup ∨ t.stlRuns = false) := by
      simp [hen, hspan.ne', hlast, hruns]
    refine ⟨fun x hmode hdue => ?judged, fun hmode hdue => ?undue, fun hmode hbook hpan hbeacons => ?answered⟩
    case judged => exact exec_next_of_eq rfl ((if_neg hguard).trans ((if_pos hmode).trans (by rw [hdue]; rfl)))
    case undue => exact exec_next_of_eq rfl ((if_neg hguard).trans ((if_pos hmode).trans (by rw [hdue])))
    case answered =>
      exact exec_next_of_eq rfl ((if_neg hguard).trans ((if_neg hmode).trans (if_pos (by rw [hbook, hpan, hbeacons]; rfl))))
  case handoverWrite =>
    intro dt acc w s t hserve hwrote
    exact exec_next_of_eq rfl ((writeRow_serve acc _ t w _ hserve).trans (if_pos hwrote))
  case handoverTask => exact fun dt s hqueued => exec_next_of_eq rfl (if_pos hqueued)
  case handoverInstant =>
    intro dt h s t u hh hreached hmoved
    have hguard : ¬(t.ts < h.h ∨ h.moved = true) := by simp [hreached, hmoved]
    have hmoves : exec (.handoverInstant dt) s = .next (after dt s
        (if h.giving = true then forEach (u.lnk.attempts.filter u.stoppable) dropAttempt u else u)) :=
      exec_next_of_eq rfl (by beta_reduce; rw [hh]; exact if_neg hguard)
    exact
      ⟨fun hgiving => exec_next_of_eq hmoves (if_pos hgiving),
        fun htaking => exec_next_of_eq hmoves (if_neg (Bool.not_eq_true _ |>.mpr htaking))⟩
  case oldPrimaryYield =>
    intro dt h s t u v x hh hgiving hdue hready
    have hguard : ¬(h.giving = false ∨ t.ts < h.h + 200 * usCycles ∨ t.yieldReady = false) := by
      simp [hgiving, hdue, hready]
    -- The names of the steps are written out, so that the two sides agree as they stand and neither is evaluated.
    exact exec_next_of_eq rfl (by
      beta_reduce
      rw [hh]
      exact (if_neg hguard).trans (by dsimp only [x, v, u, t]))
  case takeoverComplete =>
    intro dt s t hmode
    have hguard : ¬t.mode ≠ .takeover := not_not.2 hmode
    refine ⟨fun hh hlink hpeer => ?primary, fun hh hlink => ?solo, fun h m hh hm happlied => ?planned⟩
    case primary => exact exec_next_of_eq rfl ((if_neg hguard).trans (by rw [hh]; exact if_pos ⟨hlink, hpeer⟩))
    case solo =>
      have hdown : ¬(t.stl.link = true ∧ t.stl.peerMode = Mode.standby.code) := by rw [hlink]; simp
      exact exec_next_of_eq rfl ((if_neg hguard).trans (by rw [hh]; exact if_neg hdown))
    case planned =>
      exact exec_next_of_eq rfl ((if_neg hguard).trans (by rw [hh]; dsimp only; rw [hm]; exact if_pos happlied))

/-! ### The loader (R457 to R465) -/

theorem onlyIf_ne_zero (n : Nat) (f : State → State) (s : State) :
    onlyIf (n != 0) f s = if n = 0 then s else f s := by
  by_cases h : n = 0 <;> simp [onlyIf, h]

/-- Settles O39: each step of the loader by the branch of its command that the hypotheses choose. -/
theorem theLoaderStepsInOrder : Obligations.TheLoaderStepsInOrder := by
  refine ⟨?resetEnd, ?signatureVerified, ?sectionLoaded, ?loadTimeout, ?selftestJudge⟩
  case resetEnd =>
    intro dt backupBad vdd faults s t u v hends
    have hguard : ¬(!t.resetEnds) = true := by simp [hends]
    exact
      ⟨fun hscrapped => exec_next_of_eq rfl ((if_neg hguard).trans (if_pos hscrapped)),
        fun hlives hblank => exec_next_of_eq rfl ((if_neg hguard).trans ((if_neg hlives).trans (if_pos hblank))),
        fun hlives hmade => exec_next_of_eq rfl ((if_neg hguard).trans ((if_neg hlives).trans (if_neg hmade)))⟩
  case signatureVerified =>
    intro dt s t u hmode hstate
    exact exec_next_of_eq rfl (if_pos (by rw [hmode, hstate]; rfl))
  case sectionLoaded =>
    intro dt i nvm flashBad engine s t hmode hstate hi hnew hearlier
    have horder : ((List.range i).all fun k => t.secLoc k != t.secLoc i || t.cfg.done.elem k) = true := by
      simpa [List.all_eq_true, or_iff_not_imp_left] using hearlier
    have hguard : (t.mode == .load && t.get CFG_STAT_STATE == cfgSections && decide (i < t.nsec) && !t.cfg.done.elem i &&
        (List.range i).all fun k => t.secLoc k != t.secLoc i || t.cfg.done.elem k) = true := by
      simp only [Bool.and_eq_true]
      exact ⟨⟨⟨⟨beq_iff_eq.2 hmode, beq_iff_eq.2 hstate⟩, decide_eq_true hi⟩, by simpa using hnew⟩, horder⟩
    exact exec_next_of_eq rfl (if_pos hguard)
  case loadTimeout =>
    intro dt s t hmode hdue
    exact exec_next_of_eq rfl (if_pos (by rw [hmode, hdue]; rfl))
  case selftestJudge =>
    intro dt decFail s t f u v hmode hcal htested
    have hguard : (t.mode == .selftest && !t.rim.calibrating && t.cfg.tested.isNone) = true := by
      rw [hmode, hcal, htested]; rfl
    exact exec_next_of_eq rfl ((if_pos hguard).trans (by rw [onlyIf_ne_zero]))

end Sys2Proof.Machine
end

section
/-!
SUPPORT. The statements of 02_handshake_core_and_time_rim.md: the time rim and the reads of TS64, the voltage loop, the FIFOs and the
AGC of the radio rim, the causes of a reset, and the interrupt sources.
-/

namespace Sys2Proof.Machine

/-! ### The time rim (R66 to R72) -/

/-- A change of source in LOCKED goes through COAST (R69). -/
theorem changeSource_locked {s : State} (hst : s.tim.st = .locked) (hsrc : s.selectedSource ≠ s.tim.src) :
    changeSource s =
      enterTim .coast (modTim (fun x => { x with src := s.selectedSource, good := 0, bad := 0 }) s) := by
  simp only [changeSource, if_neg hsrc, modTim_tim, hst]

/-- The step that GO adds in FREE and ACQ, and the refusal elsewhere (R68). -/
theorem stepGo_wrote {w : Word} (s : State) (hgo : wrote w TIM_STEP_CMD_GO = true) :
    stepGo w s =
      let u := s.set TIM_STEP_CMD_GO 0
      if u.lock then raise TIM_STEP_CMD_REFUSED u
      else applyStep (signed 64 (u.get TIM_STEP_HI * 2 ^ 32 + u.get TIM_STEP_LO) * (2 ^ 40 : Nat)) u :=
  if_pos hgo

/-- Settles O1: each row of the time rim by the branch of its command that the hypotheses choose. -/
theorem timeRimTransitionsTakeEffect : Obligations.TimeRimTransitionsTakeEffect := by
  refine ⟨?lostInAcq, ?lostInLocked, ?coastExpiry, ?sourceChange, ?sourceWrite, ?stepTaken, ?stepRefused, ?tsLoRead,
    ?second, ?milli, ?capture⟩
  case lostInAcq =>
    intro dt s t hlost hst
    exact exec_next_of_eq rfl ((if_pos hlost).trans (by rw [hst]))
  case lostInLocked =>
    intro dt s t hlost hst
    exact exec_next_of_eq rfl ((if_pos hlost).trans (by rw [hst]))
  case coastExpiry =>
    intro dt s t hst hpassed
    exact exec_next_of_eq rfl (by beta_reduce; rw [hst]; exact if_pos hpassed)
  case sourceChange => exact fun dt s hst hsrc => exec_next_of_eq rfl (changeSource_locked hst hsrc)
  case sourceWrite => exact fun dt acc w s hserve => exec_next_of_eq rfl (writeRow_serve acc _ _ w _ hserve)
  case stepTaken =>
    intro dt acc w s t u hserve hgo hlock
    exact exec_next_of_eq rfl ((writeRow_serve acc _ t w _ hserve).trans
      ((stepGo_wrote _ hgo).trans (if_neg (by rw [hlock]; decide))))
  case stepRefused =>
    intro dt acc w s t u hserve hgo hlock
    exact exec_next_of_eq rfl ((writeRow_serve acc _ t w _ hserve).trans ((stepGo_wrote _ hgo).trans (if_pos hlock)))
  case tsLoRead => exact fun dt acc s hserve => exec_next_of_eq rfl (access_serve acc _ _ none _ hserve)
  case second => exact fun dt s hdue => exec_next_of_eq rfl (if_pos hdue)
  case milli => exact fun dt s hdue => exec_next_of_eq rfl (if_pos hdue)
  case capture => exact fun dt s hqueued => exec_next_of_eq rfl (if_pos hqueued)

/-! ### The two halves of a read of TS64 (R70) -/

/-- `TIM_TS_HI` is there on every variant, has no live field and no write-only one: it reads as it stands. -/
theorem readWord_tsHi (s : State) : s.readWord 0x20120014 = s.word 0x20120014 := by
  have hpresent : absentRegister s.variant 0x20120014 = false := by cases s.variant <;> decide
  have hbits : presentMask s.variant 0x20120014 = BitVec.allOnes 32 := by cases s.variant <;> decide
  have hread : readableMask 0x20120014 = BitVec.allOnes 32 := by decide +kernel
  have hlive : s.liveFields 0x20120014 = [] := rfl
  simp only [State.readWord, hpresent, hbits, hread, hlive, Bool.false_eq_true, if_false, BitVec.and_allOnes]
  rfl

/-- A field that fills its register makes up the word. -/
theorem word_set_whole (a v : Nat) (s : State) : (s.set ⟨a, 0, 32⟩ v).word a = BitVec.ofNat 32 v := by
  refine BitVec.eq_of_toNat_eq ?_
  have h := State.get_set_same ⟨a, 0, 32⟩ v s (Nat.le_refl 32)
  have hlt := ((s.set ⟨a, 0, 32⟩ v).word a).isLt
  simpa [State.get, extractBits, Nat.mod_eq_of_lt hlt] using h

/-- A read of `TIM_TS_HI` answers the word that stands there. -/
theorem readServe_tsHi (acc : Access) (s : State) : (readServe acc 0x20120014 s).resp = .data (s.word 0x20120014) := by
  rw [← readWord_tsHi]; rfl

/-- A served access to a register has 32 bits (R7). -/
theorem bytes_of_serve {acc : Access} {a : Nat} {write : Bool} {s : State} (h : verdict acc a write s = .serve) :
    acc.bytes = 4 := by
  by_contra hbytes
  have herror : verdict acc a write s = .error := if_pos (.inl hbytes)
  exact absurd (h.symm.trans herror) (by decide)

/-- Settles O45: the read of the low half leaves the high half in `TIM_TS_HI`, which the time that passes does not change. -/
theorem timeIsReadInTwoHalves : Obligations.TimeIsReadInTwoHalves := by
  intro dt later acc s t hlo
  obtain ⟨-, -, -, -, -, -, -, hread, -⟩ := timeRimTransitionsTakeEffect
  refine ⟨_, hread dt acc s hlo, rfl, fun hhi => ?_⟩
  have hwindow : 0x20120014 + acc.bytes ≤ 0x20140000 := by rw [bytes_of_serve hhi]; decide
  exact ⟨_, exec_registerRead_next ((busRead_window (by decide) hwindow).trans (access_serve acc _ _ none _ hhi)),
    (readServe_tsHi acc _).trans (congrArg Resp.data (word_set_whole 0x20120014 _ _))⟩

/-! ### The voltage loop (R42 to R55) -/

/-- An answer whose error code is right fails no check of it (R45). -/
theorem not_pecFailed (pec : Bool) : ¬(pec && !true) = true := by
  rw [Bool.not_true, Bool.and_false]; exact Bool.false_ne_true

/-- What the loop knows at its start: the exponent, and the voltage and status that the regulator answered (R46, R49). -/
def startRead (mode : Byte) (status vout : Nat) (s : State) : State :=
  let a := modVolt (fun v => { v with expo := voutExponent mode })
    (pmbus .readVout 0 (pmbus .statusWord 0 (pmbus .voutMode 0 s)))
  (a.set PWR_VL_VOUT_MV (voutMv a.volt.expo vout)).set PWR_VL_VOUT_STATUS status

/-- The start of a loop whose regulator answered without an error (R46, R49, R54). -/
theorem loopStart_answered (mode : Byte) (status vout : Nat) (s : State) :
    loopStart true true mode status vout s =
      let b := startRead mode status vout s
      if voutLinear mode = false then frozen 4 false b
      else if statusFault status then frozen 3 true b
      else if b.is PWR_VL_CFG_EN then commandCode codeMax .hold (modVolt (fun v => { v with state := .hold }) b)
      else modVolt (fun v => { v with state := .fixed }) (commandCode codeMax .fixed b) :=
  if_neg (not_pecFailed _)

/-- What a readback check leaves: the time of the next one, and the voltage and status that the regulator answered (R54). -/
def checkRead (status vout : Nat) (s : State) : State :=
  let a := modVolt (fun v => { v with
      checkAt := if s.scheduled then some (s.cycles + 10 * msCycles) else v.checkAt, alert := none })
    (pmbus .statusWord 0 (pmbus .readVout 0 s))
  (a.set PWR_VL_VOUT_MV (voutMv a.volt.expo vout)).set PWR_VL_VOUT_STATUS status

/-- A readback check that the regulator answered without an error (R54). -/
theorem readback_answered (status vout : Nat) (s : State) :
    readback true true status vout s =
      let b := checkRead status vout s
      if voutMismatch b.volt.expo vout b.volt.code then
        frozen 2 true (onlyIf (statusFault status) (raise (errFld 3)) b)
      else if statusFault status then frozen 3 true b
      else b :=
  if_neg (not_pecFailed _)

/-- The loop starts once the image is loaded (R49). -/
theorem exec_loopStart_loaded {dt : Nat} {ack pecOk : Bool} {mode : Byte} {status vout : Nat} {s : State}
    (hreset : (elapse dt s).mode ≠ .reset) (hload : (elapse dt s).mode ≠ .load)
    (hidle : (elapse dt s).volt.state = .idle) :
    exec (.loopStart dt ack pecOk mode status vout) s =
      .next (after dt s (loopStart ack pecOk mode status vout (elapse dt s))) := by
  refine exec_next_of_eq rfl (if_pos ?_)
  rw [hidle]
  split
  next h => exact absurd h hreset
  next h => exact absurd h hload
  next => rfl

/-- An emergency of a running loop (R51). -/
theorem emergency_running {s : State} (h : s.volt.running = true) :
    emergency s =
      modVolt (fun v => { v with state := .emerg }) (commandCode codeMax .emerg (count PWR_VL_CNT_EMERGS 1 s)) :=
  if_pos h

/-- A running loop steps up where a canary reads below UP and none is an emergency; the dwell restarts (R50, R51). -/
theorem reactToSlack_up {s : State} (hdown : s.minSlack < s.get PWR_VL_THRESH_DOWN) (hrun : s.volt.running = true)
    (hcalm : s.slackEmergency = false) (hup : s.minSlack < s.get PWR_VL_THRESH_UP) :
    reactToSlack s =
      let u := restartDwell s
      commandCode (min codeMax (u.volt.code + u.get PWR_VL_TIME_UPSTEP)) .up (count PWR_VL_CNT_UPS 1 u) := by
  have hstep : (count PWR_VL_CNT_UPS 1 (restartDwell s)).get PWR_VL_TIME_UPSTEP = s.get PWR_VL_TIME_UPSTEP :=
    count_get_apart _ _ 1 (restartDwell s) (by decide) (by decide)
  have hrestart : onlyIf (decide (s.minSlack < s.get PWR_VL_THRESH_DOWN)) restartDwell s = restartDwell s :=
    if_pos (decide_eq_true hdown)
  have hruns : (restartDwell s).volt.running = true := hrun
  have hcalms : (restartDwell s).slackEmergency = false := hcalm
  unfold reactToSlack
  rw [hrestart]
  exact (if_neg (by rw [hruns]; decide)).trans ((if_neg (by rw [hcalms]; decide)).trans
    ((if_pos hup).trans (by dsimp only; rw [hstep]; rfl)))

/-- The end of a running loop's write with no command waiting: CODE 70 follows where HOLDMAX asks for it (R50, R52). -/
theorem commandDone_running {s : State} (hrun : s.volt.running = true) (hnext : s.volt.next = none) :
    commandDone s =
      let u := modVolt (fun v => { v with
        inflight := none, dwellFrom := s.cycles, checkAt := some (s.cycles + 200 * usCycles), state := .hold }) s
      onlyIf (s.is PWR_VL_FORCE_HOLDMAX && decide (s.volt.code ≠ codeMax)) (startCommand codeMax .hold) u := by
  have hstate : modVolt (fun v => { v with
      inflight := none, dwellFrom := s.cycles, checkAt := some (s.cycles + 200 * usCycles),
      state := if v.running then .hold else v.state }) s = modVolt (fun v => { v with
      inflight := none, dwellFrom := s.cycles, checkAt := some (s.cycles + 200 * usCycles), state := .hold }) s := by
    simp only [modVolt, hrun, if_true]
  unfold commandDone
  rw [hstate]
  dsimp only [modVolt_volt]
  rw [hnext]
  rfl

/-- Settles O2: each cause of the voltage loop by the branch of its command that the hypotheses choose. -/
theorem voltageLoopObeysItsCauses : Obligations.VoltageLoopObeysItsCauses := by
  refine ⟨?loopStart, ?stepDown, ?stepUp, ?emergency, ?commandDone, ?startFault, ?nack, ?readbackCheck, ?alert,
    ?frozenRestart, ?holdmax, ?stallAlarm⟩
  case loopStart =>
    intro dt mode status vout s t a b hreset hload hidle hlinear hfault hen
    exact exec_next_of_eq (exec_loopStart_loaded hreset hload hidle) ((loopStart_answered mode status vout t).trans
      ((if_neg (by rw [hlinear]; decide)).trans ((if_neg (by rw [hfault]; decide)).trans (if_pos hen))))
  case stepDown => exact fun dt slacks s hmay => exec_next_of_eq rfl (if_pos hmay)
  case stepUp =>
    intro dt slacks s u hrun hcalm hup hdown
    exact exec_next_of_eq rfl (reactToSlack_up (s := readCanaries slacks (elapse dt s)) hdown hrun hcalm hup)
  case emergency =>
    intro dt slacks s u hemergency hrun
    exact exec_next_of_eq rfl ((if_pos hemergency).trans (emergency_running hrun))
  case commandDone =>
    intro dt c s t u hinflight hrun hnext
    have hdone : exec (.voutCommandDone dt true) s = .next (after dt s
        (onlyIf (t.is PWR_VL_FORCE_HOLDMAX && decide (t.volt.code ≠ codeMax)) (startCommand codeMax .hold) u)) :=
      exec_next_of_eq rfl (by beta_reduce; rw [hinflight]; exact commandDone_running hrun hnext)
    refine ⟨fun hnone => exec_next_of_eq hdone (if_neg ?_), fun hmax hcode => exec_next_of_eq hdone (if_pos ?_)⟩
    · rcases hnone with h | h <;> simp [h, codeMax]
    · simp [hmax, hcode, codeMax]
  case startFault =>
    intro dt status vout mode s t a b hreset hload hidle hlinear hfault
    exact exec_next_of_eq (exec_loopStart_loaded hreset hload hidle) ((loopStart_answered mode status vout t).trans
      ((if_neg (by rw [hlinear]; decide)).trans (if_pos hfault)))
  case nack =>
    intro dt c s t hinflight
    exact exec_next_of_eq rfl (by beta_reduce; rw [hinflight]; rfl)
  case readbackCheck =>
    intro dt status vout s t a b hdue
    have hread : exec (.readbackCheck dt true true status vout) s = .next (after dt s
        (if voutMismatch b.volt.expo vout b.volt.code then
          frozen 2 true (onlyIf (statusFault status) (raise (errFld 3)) b)
        else if statusFault status then frozen 3 true b
        else b)) :=
      exec_next_of_eq rfl ((if_pos hdue).trans (readback_answered status vout t))
    refine ⟨fun hmis hfault => ?mismatch, fun hmis hfault => ?both, fun hmis hfault => ?fault, fun hmis hfault => ?neither⟩
    case mismatch => exact exec_next_of_eq hread ((if_pos hmis).trans (by rw [hfault]; rfl))
    case both => exact exec_next_of_eq hread ((if_pos hmis).trans (by rw [hfault]; rfl))
    case fault => exact exec_next_of_eq hread ((if_neg (by rw [hmis]; decide)).trans (if_pos hfault))
    case neither =>
      exact exec_next_of_eq hread ((if_neg (by rw [hmis]; decide)).trans (if_neg (by rw [hfault]; decide)))
  case alert => exact fun dt s => exec_next_of_eq rfl rfl
  case frozenRestart =>
    intro dt acc w s t u hserve hwrote hfrozen
    exact exec_next_of_eq rfl ((writeRow_serve acc _ t w _ hserve).trans (if_pos (by rw [hwrote, hfrozen]; rfl)))
  case holdmax =>
    intro dt acc w s t u hserve hbefore hnow hrun
    exact exec_next_of_eq rfl ((writeRow_serve acc _ t w _ hserve).trans
      ((if_pos (by rw [hbefore, hnow]; rfl)).trans (if_pos hrun)))
  case stallAlarm => exact fun dt site s => exec_next_of_eq rfl rfl

/-! ### The FIFOs and the AGC (R57, R59, R76) -/

/-- Settles O3: each row of the FIFOs and the AGC by the branch of its command that the hypotheses choose. -/
theorem rimFifosAndAgcTakeEffect : Obligations.RimFifosAndAgcTakeEffect := by
  refine ⟨?overflow, ?gapEnd, ?underrun, ?stepDown, ?stepUp⟩
  case overflow =>
    intro dt port s t a b c d e hruns hon hnew
    exact exec_next_of_eq rfl (if_pos (by rw [hruns, hon, hnew]; rfl))
  case gapEnd =>
    intro dt port s t
    exact ⟨fun hopen => exec_next_of_eq rfl (if_pos hopen),
      fun hclosed => exec_next_of_eq rfl (if_neg (by rw [hclosed]; exact Bool.false_ne_true))⟩
  case underrun =>
    intro dt chain b s t u hair hstep
    exact exec_next_of_eq rfl (by beta_reduce; rw [hair]; exact if_pos hstep)
  case stepDown =>
    intro dt port clipped power s t u v hlive hattack hclipped hfree
    have hcount : onlyIf (decide (0 < clipped)) (count (clipFld port) 1) (showPower port power t) = u :=
      if_pos (decide_eq_true hclipped)
    have hlow : onlyIf (!u.farBelow port power) (restartLow port) u = v := by
      simp only [v, onlyIf]
      cases u.farBelow port power <;> rfl
    exact exec_next_of_eq rfl ((if_pos hlive).trans (by
      rw [hcount]; dsimp only; rw [hlow]; exact if_pos ⟨hattack, hclipped, hfree⟩))
  case stepUp =>
    intro dt port power s t u hlive
    refine ⟨fun hfar hraise hfree hdecayed => ?raised, fun hnear => ?near⟩
    case raised =>
      have hguard : ¬(u.raiseSuspended || u.gainFixed port || !u.decayed port) = true := by
        rw [hraise, hfree, hdecayed]; decide
      exact exec_next_of_eq rfl ((if_pos hlive).trans ((if_pos hfar).trans (if_neg hguard)))
    case near =>
      exact exec_next_of_eq rfl ((if_pos hlive).trans (if_neg (by rw [hnear]; exact Bool.false_ne_true)))

/-! ### The resets and their causes (R62, R97, R573 to R580) -/

/-- What the loss of power leaves (R574, R586). -/
theorem losePower_eq (u : State) :
    losePower u = { u with
      tap := State.reset.tap, lpw := { u.lpw with powerGood := false },
      tim := { u.tim with running := false, pllLock := false } } := rfl

/-- Settles O38: each cause of a reset by the branch of its command that the hypotheses choose. -/
theorem resetsComeFromTheirCauses : Obligations.ResetsComeFromTheirCauses := by
  refine ⟨?powerGood, ?supply, ?resetN, ?pll, ?rxlo⟩
  case powerGood =>
    intro dt s t hgood
    exact exec_next_of_eq rfl (if_neg (by rw [hgood]; exact Bool.false_ne_true))
  case supply =>
    intro dt mv rail s t u hgood hlow
    exact exec_next_of_eq rfl ((if_pos (by rw [hgood, decide_eq_true hlow]; rfl)).trans (losePower_eq u))
  case resetN =>
    intro dt s t
    exact ⟨fun hgood => exec_next_of_eq rfl (if_pos hgood), exec_next_of_eq rfl rfl⟩
  case pll =>
    intro dt tcxo s t v u hgood
    exact exec_next_of_eq rfl (if_pos hgood)
  case rxlo =>
    intro dt lost s t hlost hpassed
    exact exec_next_of_eq rfl (by beta_reduce; rw [hlost]; exact if_pos hpassed)

/-! ### The interrupt sources (R559) -/

/-- A flag and its enable bit, as fields of one bit. -/
theorem flagged_is (s : State) (stat en b : Nat) :
    s.flagged stat en b = (s.is ⟨stat, b, 1⟩ && s.is ⟨en, b, 1⟩) := rfl

/-- The run of one flag. -/
theorem anyFlagged_one (s : State) (stat en b : Nat) : s.anyFlagged stat en b b = s.flagged stat en b := by
  simp only [State.anyFlagged, Nat.add_sub_cancel_left, List.range_one, List.any_cons, List.any_nil, Bool.or_false, Nat.add_zero]

/-- A run of flags grows by its last. -/
theorem anyFlagged_succ (s : State) (stat en lo n : Nat) :
    s.anyFlagged stat en lo (lo + (n + 1)) = (s.anyFlagged stat en lo (lo + n) || s.flagged stat en (lo + (n + 1))) := by
  simp only [State.anyFlagged, show lo + (n + 1) + 1 - lo = n + 1 + 1 by omega, show lo + n + 1 - lo = n + 1 by omega,
    List.range_succ (n := n + 1), List.any_append, List.any_cons, List.any_nil, Bool.or_false]

section
variable (s : State) (stat en lo : Nat)

theorem anyFlagged_two : s.anyFlagged stat en lo (lo + 1) = (s.flagged stat en lo || s.flagged stat en (lo + 1)) :=
  (anyFlagged_succ s stat en lo 0).trans (by rw [Nat.add_zero, anyFlagged_one])

theorem anyFlagged_three : s.anyFlagged stat en lo (lo + 2) =
    (s.flagged stat en lo || s.flagged stat en (lo + 1) || s.flagged stat en (lo + 2)) :=
  (anyFlagged_succ s stat en lo 1).trans (by rw [anyFlagged_two])

theorem anyFlagged_four : s.anyFlagged stat en lo (lo + 3) =
    (s.flagged stat en lo || s.flagged stat en (lo + 1) || s.flagged stat en (lo + 2) || s.flagged stat en (lo + 3)) :=
  (anyFlagged_succ s stat en lo 2).trans (by rw [anyFlagged_three])

/-- A run of flags is raised exactly while the two fields it makes up have a bit in common. -/
theorem anyFlagged_iff_and_ne_zero (last : Nat) :
    s.anyFlagged stat en lo (lo + last) = true ↔
      s.get ⟨stat, lo, last + 1⟩ &&& s.get ⟨en, lo, last + 1⟩ ≠ 0 := by
  have hbit (k : Nat) : (s.get ⟨stat, lo, last + 1⟩ &&& s.get ⟨en, lo, last + 1⟩).testBit k =
      (decide (k < last + 1) && s.flagged stat en (lo + k)) := by
    have hword (w : Word) : w.toNat.testBit (lo + k) = bitAt w.toNat (lo + k) := Nat.testBit_eq_decide_div_mod_eq
    by_cases hk : k < last + 1 <;> simp [State.get, testBit_extractBits, hword, State.flagged, hk]
  have hany : s.anyFlagged stat en lo (lo + last) = true ↔ ∃ k, k < last + 1 ∧ s.flagged stat en (lo + k) = true := by
    simp only [State.anyFlagged, show lo + last + 1 - lo = last + 1 by omega, List.any_eq_true, List.mem_range]
  rw [hany]
  constructor
  · rintro ⟨k, hk, hf⟩ hzero
    have := hbit k
    simp [hzero, hk, hf] at this
  · intro hne
    obtain ⟨k, hk⟩ := Nat.exists_testBit_of_ne_zero hne
    exact ⟨k, by simpa [hbit k] using hk⟩
end

/-- Settles O46: each source is the run of flags, with their enables, that its rule names. -/
theorem interruptSourcesAreMapped : Obligations.InterruptSourcesAreMapped := by
  intro s on
  have one (stat en b : Nat) : s.anyFlagged stat en b b = on ⟨stat, b, 1⟩ ⟨en, b, 1⟩ := anyFlagged_one s stat en b
  have two := anyFlagged_two s
  have three := anyFlagged_three s
  have four := anyFlagged_four s
  have apart (stat en b c : Nat) : (s.anyFlagged stat en b b || s.anyFlagged stat en c c) =
      (on ⟨stat, b, 1⟩ ⟨en, b, 1⟩ || on ⟨stat, c, 1⟩ ⟨en, c, 1⟩) := congrArg₂ or (one stat en b) (one stat en c)
  have twoTwo (stat en b c : Nat) : (s.anyFlagged stat en b (b + 1) || s.anyFlagged stat en c (c + 1)) =
      (s.flagged stat en b || s.flagged stat en (b + 1) || s.flagged stat en c || s.flagged stat en (c + 1)) :=
    (congrArg₂ or (two stat en b) (two stat en c)).trans (Bool.or_assoc _ _ _).symm
  exact
    ⟨two _ _ _, one _ _ _, one _ _ _, one _ _ _, -- the time rim
      two _ _ _, two _ _ _, one _ _ _, three _ _ _, -- the radio rim
      flagged_is s _ _ 0, flagged_is s _ _ 1, flagged_is s _ _ 2, flagged_is s _ _ 3, -- the lane pool
      flagged_is s _ _ 4, flagged_is s _ _ 5, flagged_is s _ _ 6, flagged_is s _ _ 7,
      three _ _ _, two _ _ _, apart _ _ _ _, one _ _ _, -- the coding
      one _ _ _, one _ _ _, one _ _ _, one _ _ _, one _ _ _, one _ _ _, one _ _ _, -- Gorse
      two _ _ _, one _ _ _, two _ _ _, two _ _ _, -- the context store
      three _ _ _, four _ _ _, three _ _ _, four _ _ _, -- Stile
      one _ _ _, apart _ _ _ _, two _ _ _, three _ _ _, -- the DRAM controller
      one _ _ _, one _ _ _, one _ _ _, one _ _ _, one _ _ _, apart _ _ _ _, two _ _ _, one _ _ _, -- Lapwing
      twoTwo _ _ _ _, twoTwo _ _ _ _, one _ _ _, two _ _ _, -- the configuration
      anyFlagged_iff_and_ne_zero s _ _ 8 7, -- the page registers of Gorse
      fun b hb => by interval_cases b <;> exact flagged_is s 0x200F0030 0x200F0034 _, -- Sheaf
      fun b hb => by interval_cases b <;> exact flagged_is s 0x20070010 0x20070014 _⟩ -- Hedgerow

end Sys2Proof.Machine
end

section
/-!
SUPPORT. The statements of 03_radio_rim.md: the steps of a transmission, the calibrations, the run masks and the receive LO, and the
RF capture.
-/

namespace Sys2Proof.Machine

/-! ### The steps of a transmission (R84, R173, R178, R180) -/

/-- What the window of a booking that is due comes to, by the checks in order: the limit, the MPDU and its security, the synthesiser. -/
def windowOpened (chain : Nat) (loaded : Bool) (b : Booking) (s : State) : State :=
  let id := b.req.id
  if s.txLimit ≤ s.onAir.length then tuneNext chain (endBooking id .nochain s)
  else if loaded = false ∨ s.lnk.acks.any (fun a => a.booking == id && a.secure.isSome) = true then
    tuneNext chain (endBooking id .late s)
  else if (s.chain chain).locked ≠ b.req.ch ∨ s.domainOn (domTx0 + chain) = false then synthFail chain id s
  else
    let u := modBooking id (fun x => { x with step := 1, fem := true }) s
    forEach (u.blankedBy chain) dropPort u

/-- Below the limit, with its MPDU there and no Enh-Ack to secure, the window rests on the synthesiser (R178). -/
theorem windowOpened_secured {chain : Nat} {b : Booking} {s : State} (hlimit : s.onAir.length < s.txLimit)
    (hsecured : s.lnk.acks.any (fun a => a.booking == b.req.id && a.secure.isSome) = false) :
    windowOpened chain true b s =
      if (s.chain chain).locked ≠ b.req.ch ∨ s.domainOn (domTx0 + chain) = false then synthFail chain b.req.id s
      else
        let u := modBooking b.req.id (fun x => { x with step := 1, fem := true }) s
        forEach (u.blankedBy chain) dropPort u := by
  have hready : ¬(true = false ∨ s.lnk.acks.any (fun a => a.booking == b.req.id && a.secure.isSome) = true) := by
    rw [hsecured]; decide
  exact (if_neg hlimit.not_ge).trans (if_neg hready)

/-- The window of a chain's first booking is due once its lead and ramp have begun and the chain is not on air. -/
theorem exec_txWindowOpen_due {dt chain : Nat} {loaded : Bool} {b : Booking} {s : State}
    (hfirst : firstAfter 0 (((elapse dt s).bookingsOf chain []).filter (fun x => x.step == 0)) = some b)
    (hdue : (elapse dt s).step1 b.req.first ≤ (elapse dt s).cycles) (hair : (elapse dt s).airOf chain = none) :
    exec (.txWindowOpen dt chain loaded) s = .next (after dt s (windowOpened chain loaded b (elapse dt s))) := by
  have hguard : ¬((elapse dt s).cycles < (elapse dt s).step1 b.req.first ∨ ((elapse dt s).airOf chain).isSome = true) := by
    rw [hair]; simpa using hdue
  exact exec_next_of_eq rfl (by beta_reduce; rw [hfirst]; exact if_neg hguard)

/-- Settles O4: each step of a transmission by the branch of its command that the hypotheses choose. -/
theorem transmissionStepsRunInOrder : Obligations.TransmissionStepsRunInOrder := by
  refine ⟨?opened, ?beyondLimit, ?late, ?unlocked, ?rampUp, ?txStart, ?beaconStart, ?rampDown, ?txEnd, ?femReceive,
    ?desenseEnd, ?portUnblank⟩
  case opened =>
    intro dt chain b s t hfirst hdue hair hlimit hsecured hlocked hon
    exact exec_next_of_eq (exec_txWindowOpen_due hfirst hdue hair)
      ((windowOpened_secured hlimit hsecured).trans (if_neg (by rw [hlocked, hon]; simp)))
  case beyondLimit =>
    intro dt chain loaded b s t hfirst hdue hair hlimit
    exact exec_next_of_eq (exec_txWindowOpen_due hfirst hdue hair) (if_pos hlimit)
  case late =>
    intro dt chain loaded b s t hfirst hdue hair hlimit hlate
    exact exec_next_of_eq (exec_txWindowOpen_due hfirst hdue hair) ((if_neg hlimit.not_ge).trans (if_pos hlate))
  case unlocked =>
    intro dt chain b s t hfirst hdue hair hlimit hsecured hunlocked
    exact exec_next_of_eq (exec_txWindowOpen_due hfirst hdue hair)
      ((windowOpened_secured hlimit hsecured).trans (if_pos hunlocked))
  case rampUp =>
    intro dt chain b s t hair hstep hlead
    exact exec_next_of_eq rfl (by beta_reduce; rw [hair]; exact if_pos ⟨hstep, hlead⟩)
  case txStart =>
    intro dt chain diff b s t u hair hstep hchip hpan
    exact exec_next_of_eq rfl (by
      beta_reduce; rw [hair]; exact (if_pos ⟨hstep, hchip⟩).trans (by dsimp only; rw [hpan]))
  case beaconStart =>
    intro dt chain pan diff b s t u v hair hstep hchip hpan
    exact exec_next_of_eq rfl (by
      beta_reduce; rw [hair]; exact (if_pos ⟨hstep, hchip⟩).trans (by dsimp only; rw [hpan]))
  case rampDown =>
    intro dt chain b s t hair hstep he
    exact exec_next_of_eq rfl (by beta_reduce; rw [hair]; exact if_pos ⟨hstep, he⟩)
  case txEnd =>
    intro dt chain b s t u hair hstep hoff
    exact exec_next_of_eq rfl (by beta_reduce; rw [hair]; exact if_pos ⟨hstep, hoff⟩)
  case femReceive =>
    intro dt chain b s t hair hstep hlag
    exact exec_next_of_eq rfl (by beta_reduce; rw [hair]; exact if_pos ⟨hstep, hlag⟩)
  case desenseEnd =>
    intro dt chain b s t u near any hair hstep hdes hpassed
    exact exec_next_of_eq rfl (by beta_reduce; rw [hair]; exact if_pos ⟨hstep, hdes, hpassed⟩)
  case portUnblank =>
    intro dt chain b s t hair hstep hfem hdes hdue
    exact exec_next_of_eq rfl (by beta_reduce; rw [hair]; exact if_pos ⟨hstep, hfem, hdes, hdue⟩)

/-! ### Calibrations, run masks and the receive LO (R90 to R97) -/

/-- Settles O5: each row of the calibrations, the run masks and the LO by the branch of its command that the hypotheses choose. -/
theorem calibrationAndRunMasksTakeEffect : Obligations.CalibrationAndRunMasksTakeEffect := by
  refine ⟨?calibrationEnd, ?recalWrite, ?temperature, ?enabled, ?recalGrant, ?recalDone, ?rxportRequest, ?rxportDone, ?pilot,
    ?portRun, ?loUnlock, ?loRelock⟩
  case calibrationEnd =>
    intro dt rxFail txFail loFail iso calnf degrees s t rx tx keys a b c hcal
    exact exec_next_of_eq rfl (if_pos hcal)
  case recalWrite => exact fun dt acc w s hserve => exec_next_of_eq rfl (writeRow_serve acc _ _ w _ hserve)
  case temperature => exact fun dt chain deg s hchain hset hdelta => exec_next_of_eq rfl (if_pos ⟨hchain, hset, hdelta⟩)
  case enabled => exact fun dt chain s hchain howes => exec_next_of_eq rfl (if_pos ⟨hchain, howes⟩)
  case recalGrant =>
    exact fun dt chain s hchain hasked hfree halone => exec_next_of_eq rfl (if_pos ⟨hchain, hasked, hfree, halone⟩)
  case recalDone => exact fun dt chain ok iso degrees s hchain hrecal => exec_next_of_eq rfl (if_pos ⟨hchain, hrecal⟩)
  case rxportRequest => exact fun dt acc w s hserve => exec_next_of_eq rfl (writeRow_serve acc _ _ w _ hserve)
  case rxportDone =>
    intro dt p since ok s t a n b hport
    exact exec_next_of_eq rfl (by beta_reduce; rw [hport])
  case pilot => exact fun dt acc w s hserve => exec_next_of_eq rfl (writeRow_serve acc _ _ w _ hserve)
  case portRun => exact fun dt acc w s hserve => exec_next_of_eq rfl (writeRow_serve acc _ _ w _ hserve)
  case loUnlock =>
    intro dt s t u hlocked
    exact exec_next_of_eq rfl (if_neg (by rw [hlocked]; exact Bool.false_ne_true))
  case loRelock => exact fun dt s => exec_next_of_eq rfl rfl

/-! ### The RF capture (R98 to R101) -/

/-- A write of `RIM_CAP_CTRL` with START alone, while no capture is active (R100). -/
theorem capCtrlWrite_start {old w : Word} {s : State} (hactive : s.is RIM_CAP_STAT_ACTIVE = false)
    (hstart : wrote w RIM_CAP_CTRL_START = true) (htrig : wrote w RIM_CAP_CTRL_TRIG = false)
    (hstop : wrote w RIM_CAP_CTRL_STOP = false) :
    capCtrlWrite old w s =
      captureStart (((s.set RIM_CAP_CTRL_START 0).set RIM_CAP_CTRL_STOP 0).set RIM_CAP_CTRL_TRIG 0) := by
  simp only [capCtrlWrite, hactive, hstart, htrig, hstop, onlyIf, Bool.false_eq_true, if_true, if_false]

/-- Settles O6: each row of the capture by the branch of its command that the hypotheses choose. -/
theorem captureRunsBlockByBlock : Obligations.CaptureRunsBlockByBlock := by
  refine ⟨?start, ?ctrlWrite, ?stopTask, ?ends, ?trigTask, ?block⟩
  case start =>
    intro dt acc w s t a b c gains hserve hidle hstill hstart htrig hstop hsome hfour hsize
    have hfits : ¬(c.capPorts.length = 0 ∨ 4 < c.capPorts.length ∨ c.get RIM_CAP_SIZE_SIZE = 0) := by
      simp [hsome, hfour, hsize]
    exact exec_next_of_eq rfl ((writeRow_serve acc _ t w _ hserve).trans ((capCtrlWrite_start hidle hstart htrig hstop).trans
      ((if_neg (by rw [hstill]; exact Bool.false_ne_true)).trans (if_neg hfits))))
  case ctrlWrite =>
    intro dt acc w s t hserve
    have hrow : capCtrlRow acc w t = capCtrlWrite (t.word 0x200E00B0) w (written 0x200E00B0 w t) :=
      writeRow_serve acc _ t w _ hserve
    exact ⟨exec_next_of_eq rfl hrow, exec_next_of_eq rfl hrow, exec_next_of_eq rfl hrow⟩
  case stopTask => exact fun dt s hqueued hactive => exec_next_of_eq rfl ((if_pos hqueued).trans (if_pos hactive))
  case ends => exact fun t => ⟨rfl, rfl⟩
  case trigTask =>
    intro dt s t u hqueued hactive hring hfirst
    have hfires : (t.is RIM_CAP_STAT_ACTIVE && t.is RIM_CAP_CTRL_MODE && !t.is RIM_CAP_STAT_TRIGGERED) = true := by
      rw [hactive, hring, hfirst]; rfl
    exact exec_next_of_eq rfl ((if_pos hqueued).trans (congrArg (endTask 0x380) (if_pos hfires)))
  case block =>
    intro dt blocks s t u hactive hstill
    exact exec_next_of_eq rfl ((if_pos hactive).trans (if_pos hstill))

end Sys2Proof.Machine
end

section
/-!
SUPPORT. The statements of 04_air_interface.md: the way of a frame from its PHR through its payload symbols and its decoder to its
report.
-/

namespace Sys2Proof.Machine

/-! ### A payload symbol (R145) -/

/-- A payload symbol is due in a lane in PSDU that has not despread all of its frame's. -/
theorem payloadSymbol_due {l : Lane} (hst : l.st = .psdu) (hcount : l.count < payloadSymbols l.mode l.len) :
    ¬(l.st ≠ .psdu ∨ payloadSymbols l.mode l.len ≤ l.count) :=
  not_or.2 ⟨not_not.2 hst, hcount.not_ge⟩

/-- Settles O8: each step of a received frame by the branch of its command that the hypotheses choose. -/
theorem payloadReachesItsReport : Obligations.PayloadReachesItsReport := by
  refine ⟨?phrEnd, ?symbolTaken, ?signalLost, ?octetRelease, ?lastChip, ?lostEnd, ?fcsDecides, ?noDecoder, ?reportAccepted,
    ?decoderBlock, ?provisionalOctet, ?finalOctet, ?finalTraceback⟩
  case phrEnd =>
    intro dt n phr snr corrs s t l hst
    have hdue : ¬(t.lane n).st ≠ .phr := not_not.2 hst
    refine ⟨fun hstd hok => ?accepted, fun hext hok => ?bound, fun hbad => ?rejected⟩
    case accepted =>
      have hmode : ((t.lane n).mode == 0) = true := beq_iff_eq.2 hstd
      exact exec_next_of_eq rfl ((if_neg hdue).trans (by dsimp only; rw [hmode]; exact if_pos hok))
    case bound =>
      have hmode : ((t.lane n).mode == 0) = false := beq_eq_false_iff_ne.2 hext
      exact exec_next_of_eq rfl ((if_neg hdue).trans (by dsimp only; rw [hmode]; exact if_pos hok))
    case rejected =>
      have hno : (if ((t.lane n).mode == 0) = true then phrStdOk phr else phrExtOk phr) ≠ true := by
        simpa only [beq_iff_eq, ne_eq, Bool.not_eq_true] using hbad
      exact exec_next_of_eq rfl ((if_neg hdue).trans (if_neg hno))
  case symbolTaken =>
    intro dt n sym corr soft best h s t l low tracked hst hcount hheard
    exact exec_next_of_eq rfl ((if_neg (payloadSymbol_due hst hcount)).trans (if_neg hheard.not_ge))
  case signalLost =>
    intro dt n sym corr soft best h s t l hst hcount hweak hloss
    exact exec_next_of_eq rfl ((if_neg (payloadSymbol_due hst hcount)).trans
      (by dsimp only; rw [if_pos hweak]; exact if_pos hloss))
  case octetRelease =>
    intro dt n a b rest s t l o hdec hst hmode hsyms
    have hstreams : ¬(l.noDecoder = true ∨ (l.st ≠ .psdu ∧ l.st ≠ .final)) := by simp [hdec, hst]
    exact exec_next_of_eq rfl ((if_neg hstreams).trans ((if_pos hmode).trans (by rw [hsyms])))
  case lastChip => exact fun dt n s hst hcount => exec_next_of_eq rfl (if_pos ⟨hst, hcount⟩)
  case lostEnd => exact fun dt n s hst hend => exec_next_of_eq rfl (if_pos ⟨hst, hend⟩)
  case fcsDecides =>
    intro dt n s t l hst hdec hlen
    exact exec_next_of_eq rfl ((if_neg (not_not.2 hst)).trans
      ((if_neg (Bool.eq_false_iff.1 hdec)).trans (if_neg hlen.not_gt)))
  case noDecoder =>
    exact fun dt n s hst hdec => exec_next_of_eq rfl ((if_neg (not_not.2 hst)).trans (if_pos hdec))
  case reportAccepted => exact fun dt n s hst => exec_next_of_eq rfl (if_pos hst)
  case decoderBlock =>
    intro dt n c s t l u hsoft hdec hctx
    have hwhole : ¬(l.soft.length < 32 ∨ l.noDecoder = true) := by simp [hdec, hsoft]
    refine ⟨fun hroom => ?buffered, fun hfull => ?overflow⟩
    case buffered =>
      exact exec_next_of_eq rfl ((if_neg hwhole).trans (by dsimp only; rw [hctx]; exact if_neg hroom.not_ge))
    case overflow =>
      exact exec_next_of_eq rfl ((if_neg hwhole).trans (by dsimp only; rw [hctx]; exact if_pos hfull))
  case provisionalOctet =>
    intro dt n c s u l hctx hserved hlen
    exact exec_next_of_eq rfl (by dsimp only; rw [hctx]; exact if_pos ⟨hserved, hlen⟩)
  case finalOctet =>
    intro dt n c s u l hctx hserved hlen
    exact exec_next_of_eq rfl (by dsimp only; rw [hctx]; exact if_pos ⟨hserved, hlen⟩)
  case finalTraceback =>
    intro dt n c s u l bits fin traced hctx hst hsteps
    have hends : ¬(l.st ≠ .final ∨ c.steps < trellisLength l.len) := not_or.2 ⟨not_not.2 hst, hsteps.not_gt⟩
    exact exec_next_of_eq rfl (by dsimp only; rw [hctx]; exact if_neg hends)

end Sys2Proof.Machine
end

section
/-!
SUPPORT. The statements of 05_lane_pool.md: the noise windows, the detections and the lanes they take, the checkpoints, the SFD
timeout and the weights.
-/

namespace Sys2Proof.Machine

/-! ### What a detection and an SFD need (R137, R139, R143) -/

/-- A detection counts where its channel's detector runs, the metric holds, and no unconfirmed lane hides its timing. -/
theorem detection_counts {ch : Nat} {peaks : List (Nat × Sig)} {s : State} (hruns : s.detects ch = true)
    (hholds : s.metricHolds ch peaks = true) (hshown : s.timingHidden ch peaks = false) :
    ¬((!s.detects ch || !s.metricHolds ch peaks || s.timingHidden ch peaks) = true) := by
  rw [hruns, hholds, hshown]; decide

/-- An SFD counts in a lane in SFDS that has none yet, up to 160 µs after the detection. -/
theorem sfd_counts {l : Lane} {sfd at_ : Nat} (hst : l.st = .sfds) (hfirst : l.sfd = false) (hsfd : sfd = 0xA7 ∨ sfd = 0x5C)
    (hsoon : at_ ≤ l.detected + 10 * symCycles) :
    ¬(l.st ≠ .sfds ∨ l.sfd = true ∨ (sfd ≠ 0xA7 ∧ sfd ≠ 0x5C) ∨ l.detected + 10 * symCycles < at_) := by
  simp [hst, hfirst, hsoon, ← not_or, hsfd]

/-- Settles O7: each row of the lane pool by the branch of its command that the hypotheses choose. -/
theorem detectionClaimsAndReleasesLanes : Obligations.DetectionClaimsAndReleasesLanes := by
  refine ⟨?windowEnd, ?reseedWrite, ?reseedTask, ?freeTaken, ?channelPreempted, ?channelFull, ?poolPreempted, ?poolFull,
    ?estEnd, ?sfdFound, ?sfdTimeout, ?weights⟩
  case windowEnd => exact fun dt quiet s hended => exec_next_of_eq rfl (if_neg hended)
  case reseedWrite =>
    exact fun dt acc w s hserve hreseed => exec_next_of_eq rfl ((writeRow_serve acc _ _ w _ hserve).trans (if_pos hreseed))
  case reseedTask => exact fun dt s hqueued => exec_next_of_eq rfl (if_pos hqueued)
  case freeTaken =>
    intro dt ch n timings sigs s t peaks hruns hholds hshown hfew hfree
    exact exec_next_of_eq rfl ((if_neg (detection_counts hruns hholds hshown)).trans
      ((if_neg hfew.not_ge).trans (by rw [hfree])))
  case channelPreempted =>
    intro dt ch n timings sigs s t peaks hruns hholds hshown hfour hweak
    exact exec_next_of_eq rfl ((if_neg (detection_counts hruns hholds hshown)).trans
      ((if_pos (not_lt.1 hfour)).trans (by rw [hweak])))
  case channelFull =>
    intro dt ch timings sigs s t peaks hruns hholds hshown hfour hnone
    exact exec_next_of_eq rfl ((if_neg (detection_counts hruns hholds hshown)).trans
      ((if_pos (not_lt.1 hfour)).trans (by rw [hnone])))
  case poolPreempted =>
    intro dt ch n timings sigs s t peaks hruns hholds hshown hfew hbusy hweak
    exact exec_next_of_eq rfl ((if_neg (detection_counts hruns hholds hshown)).trans
      ((if_neg hfew.not_ge).trans (by rw [hbusy, hweak])))
  case poolFull =>
    intro dt ch timings sigs s t peaks hruns hholds hshown hfew hbusy hnone
    exact exec_next_of_eq rfl ((if_neg (detection_counts hruns hholds hshown)).trans
      ((if_neg hfew.not_ge).trans (by rw [hbusy, hnone])))
  case estEnd => exact fun dt n timing h offset s hst => exec_next_of_eq rfl (if_neg (not_not.2 hst))
  case sfdFound =>
    intro dt n sfd back snr s t ended hurt u hst hfirst hsfd hsoon
    exact exec_next_of_eq rfl (if_neg (sfd_counts hst hfirst hsfd hsoon))
  case sfdTimeout =>
    intro dt n s t hunconfirmed hnone hpassed
    have hlate : ((t.lane n).unconfirmed && !(t.lane n).sfd && t.passed (t.lane n).detected (10 * symCycles)) = true := by
      rw [hunconfirmed, hnone, hpassed]; rfl
    exact exec_next_of_eq rfl (if_pos hlate)
  case weights =>
    intro dt n s t hidle hest hlost
    exact exec_next_of_eq rfl (if_neg (not_or.2 ⟨hidle, not_or.2 ⟨hest, hlost⟩⟩))

end Sys2Proof.Machine
end

section
/-!
SUPPORT. The statements of 06_coding_and_transmit.md: the bookings and cancels of the transmit path, its outcomes, and the power
domains with their transitions and the accesses that wait for them.
-/

namespace Sys2Proof.Machine

/-! ### Bookings and cancels (R173, R174, R180, R181) -/

section
variable {r : BookReq} {s : State} (hahead : (count COD_CNT_TXREQ 1 s).cycles < (count COD_CNT_TXREQ 1 s).step1 r.first)
include hahead

/-- A booking whose instant of step 1 lies ahead goes to the chain chosen for it. -/
theorem serveBooking_placed {k : Nat} (hchain : (count COD_CNT_TXREQ 1 s).chooseChain r [] = some k) :
    serveBooking r s = place r k (count COD_CNT_TXREQ 1 s) :=
  (if_neg hahead.not_ge).trans (by rw [hchain])

variable (hnone : (count COD_CNT_TXREQ 1 s).chooseChain r [] = none)
include hnone

/-- Where no chain takes it, it displaces the fewest later classes that make room (R181). -/
theorem serveBooking_displacing {ids : List Nat} {k : Nat}
    (hover : (count COD_CNT_TXREQ 1 s).displacement r []
      (((count COD_CNT_TXREQ 1 s).candidates r.cls).map (fun b => b.req.id)) = some (ids, k)) :
    serveBooking r s = placeOver r k ids (count COD_CNT_TXREQ 1 s) :=
  (if_neg hahead.not_ge).trans (by rw [hnone, hover])

/-- Where none make room, it is refused with NOCHAIN (R180). -/
theorem serveBooking_refused
    (hfull : (count COD_CNT_TXREQ 1 s).displacement r []
      (((count COD_CNT_TXREQ 1 s).candidates r.cls).map (fun b => b.req.id)) = none) :
    serveBooking r s = giveOutcome r.id .nochain (count COD_CNT_TXREQ 1 s) :=
  (if_neg hahead.not_ge).trans (by rw [hnone, hfull])
end

/-- BOOKING serves the next request that the cancels leave. -/
theorem exec_booking_next {dt : Nat} {r : BookReq} {s : State}
    (hnext : (serveCancels (elapse dt s)).nextRequest = some r) :
    exec (.booking dt) s = .next (after dt s (serveBooking r
      (modCod (fun p => { p with asked := p.asked.filter (fun q => q.id != r.id) }) (serveCancels (elapse dt s))))) :=
  exec_next_of_eq rfl (by dsimp only; rw [hnext])

/-- CANCEL takes the first of the cancels handed over. -/
theorem exec_cancel_first {dt id : Nat} {ids : List Nat} {s : State} (hfirst : (elapse dt s).cod.cancels = id :: ids) :
    exec (.cancel dt) s = .next (after dt s
      (cancelBooking id (modCod (fun p => { p with cancels := ids }) (elapse dt s)))) :=
  exec_next_of_eq rfl (by dsimp only; rw [hfirst])

/-- The cancel of a request that is not served yet has an effect before the instant of its step 1. -/
theorem cancelBooking_asked {id : Nat} {r : BookReq} {s : State} (hasked : s.cod.asked.find? (fun r => r.id == id) = some r)
    (hahead : s.cycles < s.step1 r.first) :
    cancelBooking id s = giveOutcome id .cancelled (count COD_CNT_TXREQ 1
      (modCod (fun p => { p with asked := p.asked.filter (fun q => q.id != id) }) s)) := by
  rw [cancelBooking, hasked]
  exact if_neg hahead.not_ge

/-- The cancel of a booking that is placed on a chain. -/
theorem cancelBooking_placed {id : Nat} {b : Booking} {s : State}
    (hasked : s.cod.asked.find? (fun r => r.id == id) = none)
    (hplaced : s.cod.placed.find? (fun b => b.req.id == id) = some b) :
    cancelBooking id s = if s.beforeStep1 b then tuneNext b.chain (endBooking id .cancelled s) else s := by
  rw [cancelBooking, hasked, hplaced]

/-! ### Outcomes (R174, R202, R206, R209, R211) -/

theorem ackOutcome_of_ne_sent (a : AckBooking) {o : TxOutcome} (s : State) (ho : o ≠ .sent) :
    ackOutcome a o s =
      if a.released then
        count LNK_CNT_ACKW_TXFAIL 1 (modLnk (fun l => { l with acks := l.acks.filter (fun x => x.booking != a.booking) }) s)
      else modLnk (fun l => { l with acks := l.acks.map (fun x =>
        if x.booking = a.booking then { x with failed := true } else x) }) s := by
  cases o with
  | sent => exact absurd rfl ho
  | _ => rfl

theorem beaconOutcome_of_ne_sent (b : BeaconBooking) {o : TxOutcome} (s : State) (ho : o ≠ .sent) :
    beaconOutcome b o s = beaconMissed b.pan
      (modLnk (fun l => { l with bookings := l.bookings.filter (fun x => x.booking != b.booking) }) s) := by
  cases o with
  | sent => exact absurd rfl ho
  | _ => rfl

/-- An attempt's outcome other than SENT and UNDERRUN counts as a busy channel (R206). -/
theorem attemptOutcome_busy (a : Attempt) (first : Nat) {o : TxOutcome} (s : State) (hsent : o ≠ .sent)
    (hunder : o ≠ .underrun) : attemptOutcome a first o s = channelBusy a s := by
  cases o with
  | sent => exact absurd rfl hsent
  | underrun => exact absurd rfl hunder
  | _ => rfl

/-- A sent beacon that asks for no acknowledgement is counted and succeeds. -/
theorem attemptOutcome_beacon {a : Attempt} (first : Nat) (s : State) (har : a.ar = false) (hfor : a.for_ = .beacon) :
    attemptOutcome a first .sent s = attemptSucceeded a (count LNK_CNT_BCNSENT 1 (countTry a s)) := by
  simp only [attemptOutcome, har, hfor, beq_self_eq_true, onlyIf_true, Bool.false_eq_true, if_false, if_true]

/-- Any other attempt sent without asking for an acknowledgement keeps its channel's gap and succeeds. -/
theorem attemptOutcome_withoutAck {a : Attempt} (first : Nat) (s : State) (har : a.ar = false) (hfor : a.for_ ≠ .beacon) :
    attemptOutcome a first .sent s = attemptSucceeded a (keepGap (s.get (LNK_PANn_CFG_CH a.pan))
      (first + airCycles a.mode a.mpdu + ifsCycles a.mpdu) (countTry a s)) := by
  simp only [attemptOutcome, har, beq_eq_false_iff_ne.2 hfor, onlyIf_false, hfor, Bool.false_eq_true, if_false]

section
variable {dt id : Nat} {o : TxOutcome} {s : State} (hnext : (elapse dt s).nextOutcome = some (id, o))
include hnext

/-- An outcome reaches the acknowledgement booked under its number. -/
theorem exec_txOutcome_ack {a : AckBooking}
    (hack : (takeOutcome (id, o) (elapse dt s)).lnk.acks.find? (fun x => x.booking == id) = some a) :
    exec (.txOutcome dt) s = .next (after dt s (ackOutcome a o (takeOutcome (id, o) (elapse dt s)))) :=
  exec_next_of_eq rfl (by dsimp only; rw [hnext]; dsimp only; rw [hack])

variable (hnoack : (takeOutcome (id, o) (elapse dt s)).lnk.acks.find? (fun x => x.booking == id) = none)
include hnoack

/-- An outcome reaches the beacon booked under its number. -/
theorem exec_txOutcome_beacon {b : BeaconBooking}
    (hbeacon : (takeOutcome (id, o) (elapse dt s)).lnk.bookings.find? (fun x => x.booking == id) = some b) :
    exec (.txOutcome dt) s = .next (after dt s (beaconOutcome b o (takeOutcome (id, o) (elapse dt s)))) :=
  exec_next_of_eq rfl (by dsimp only; rw [hnext]; dsimp only; rw [hnoack, hbeacon])

/-- An outcome reaches the attempt booked under its number. -/
theorem exec_txOutcome_attempt {a : Attempt} {first : Nat}
    (hnobeacon : (takeOutcome (id, o) (elapse dt s)).lnk.bookings.find? (fun x => x.booking == id) = none)
    (hattempt : (takeOutcome (id, o) (elapse dt s)).lnk.attempts.find? (Attempt.bookedAs id) = some a)
    (hphase : a.phase = .booked id first) :
    exec (.txOutcome dt) s = .next (after dt s
      (linkSettle (attemptOutcome a first o (takeOutcome (id, o) (elapse dt s))))) :=
  exec_next_of_eq rfl (by
    dsimp only; rw [hnext]; dsimp only; rw [hnoack, hnobeacon]; dsimp only; rw [hattempt]; dsimp only; rw [hphase])
end

/-- Settles O9: each request by the branch of its command that the hypotheses choose, each outcome by what was booked under it. -/
theorem transmitPathServesItsRequests : Obligations.TransmitPathServesItsRequests := by
  refine ⟨?booking, ?cancelAsked, ?cancelPlaced, ?synthLock, ?txHalt, ?ack, ?beacon, ?attempt⟩
  case booking =>
    intro dt r s t u hnext
    have hserves := exec_booking_next hnext
    exact ⟨fun hpast => exec_next_of_eq hserves (if_pos hpast),
      fun k hahead hchain => exec_next_of_eq hserves (serveBooking_placed hahead hchain),
      fun ids k hahead hnone hover => exec_next_of_eq hserves (serveBooking_displacing hahead hnone hover),
      fun hahead hnone hfull => exec_next_of_eq hserves (serveBooking_refused hahead hnone hfull)⟩
  case cancelAsked =>
    exact fun dt id ids r s hfirst hasked hahead =>
      exec_next_of_eq (exec_cancel_first hfirst) (cancelBooking_asked hasked hahead)
  case cancelPlaced =>
    intro dt id ids b s t u hfirst hasked hplaced
    have hcancels := exec_next_of_eq (exec_cancel_first hfirst) (cancelBooking_placed hasked hplaced)
    exact ⟨fun hbefore => exec_next_of_eq hcancels (if_pos hbefore),
      fun hfrom => exec_next_of_eq hcancels (if_neg (Bool.eq_false_iff.1 hfrom))⟩
  case synthLock =>
    intro dt chain ch at_ s t htuning hlocked
    exact exec_next_of_eq rfl (by dsimp only; rw [htuning]; exact if_pos hlocked)
  case txHalt => exact fun dt s hqueued => exec_next_of_eq rfl (if_pos hqueued)
  case ack =>
    intro dt id o a s t u v hnext hack
    have hreaches := exec_txOutcome_ack hnext hack
    refine ⟨fun hsent hpoll => ?sent, fun i hsent hpoll => ?polled, fun hfailed hout => ?released, fun hfailed hheld => ?held⟩
    case sent => subst hsent; exact exec_next_of_eq hreaches (by dsimp only [ackOutcome]; rw [hpoll])
    case polled => subst hsent; exact exec_next_of_eq hreaches (by dsimp only [ackOutcome]; rw [hpoll])
    case released => exact exec_next_of_eq hreaches ((ackOutcome_of_ne_sent a u hfailed).trans (if_pos hout))
    case held =>
      exact exec_next_of_eq hreaches ((ackOutcome_of_ne_sent a u hfailed).trans (if_neg (Bool.eq_false_iff.1 hheld)))
  case beacon =>
    intro dt id o b s t u hnext hnoack hbeacon v
    have hreaches := exec_txOutcome_beacon hnext hnoack hbeacon
    refine ⟨fun hsent => ?sent, fun hfailed => exec_next_of_eq hreaches (beaconOutcome_of_ne_sent b u hfailed)⟩
    case sent => subst hsent; exact exec_next_of_eq hreaches rfl
  case attempt =>
    intro dt id first o a s t u hnext hnoack hnobeacon hattempt hphase last stop
    have hreaches := exec_txOutcome_attempt hnext hnoack hnobeacon hattempt hphase
    refine ⟨fun hsent har => ?waits, fun hsent har hfor => ?beaconSent, fun hsent har hfor => ?unacked, fun hunder => ?underran,
      fun hsent hunder => exec_next_of_eq hreaches (congrArg linkSettle (attemptOutcome_busy a first u hsent hunder))⟩
    case waits => subst hsent; exact exec_next_of_eq hreaches (congrArg linkSettle (if_pos har))
    case beaconSent => subst hsent; exact exec_next_of_eq hreaches (congrArg linkSettle (attemptOutcome_beacon first u har hfor))
    case unacked => subst hsent; exact exec_next_of_eq hreaches (congrArg linkSettle (attemptOutcome_withoutAck first u har hfor))
    case underran => subst hunder; exact exec_next_of_eq hreaches rfl

/-! ### Domains, their transitions and the accesses that wait (R502 to R511, R516) -/

/-- An entry leaves the domain in its target, off without its contents, and a transmit chain without its lock (R178, R503). -/
theorem enterState_eq (n target : Nat) (s : State) :
    enterState n target s =
      let u := ((dropTrans n s).set (PWR_DOMn_STATE n) target).set (PWR_DOMn_TRANS n) 0
      let y := if target = 0 then domainLose n u else u
      if 34 ≤ n then unlockChain (n - 34) y else y := by
  simp only [enterState, onlyIf, beq_iff_eq, decide_eq_true_eq]
  rfl

/-- What a domain's write of PWR_DOMn through the bus does when it is served. -/
theorem domRow_serve {acc : Access} {n : Nat} (w : Word) {s : State} (hserve : verdict acc (domAddr n) true s = .serve) :
    domRow acc n w s = domSet acc n (s.word (domAddr n)) w (written (domAddr n) w s) :=
  writeRow_serve acc _ s w _ hserve

/-- Settles O34: each row of the power domains by the branch of its command that the hypotheses choose. -/
theorem powerDomainsMoveAsAsked : Obligations.PowerDomainsMoveAsAsked := by
  refine ⟨?reqWrite, ?idle, ?entryDone, ?domainWake, ?wake, ?busTimeout⟩
  case reqWrite =>
    intro dt n acc w s t hdomain hserve
    have hrow (w : Word) : onlyIf (decide (n < domainCount)) (domRow acc n w) t =
        domSet acc n (t.word (domAddr n)) w (written (domAddr n) w t) :=
      (if_pos (decide_eq_true hdomain)).trans (domRow_serve w hserve)
    exact ⟨exec_next_of_eq rfl (hrow w), exec_next_of_eq rfl (hrow (w ||| 0x80000))⟩
  case idle => exact fun dt n s henters => exec_next_of_eq rfl (if_pos henters)
  case entryDone =>
    intro dt n x s t u y v htrans hentry
    have hdone : exec (.domainEntryDone dt n) s = .next (after dt s (entryDone n x.target x.again t)) :=
      exec_next_of_eq rfl (by dsimp only; rw [htrans]; exact if_neg hentry)
    have henters : groupEntered n (enterState n x.target t) = v := congrArg (groupEntered n) (enterState_eq n x.target t)
    exact ⟨fun hrests => exec_next_of_eq hdone (by rw [hrests]; exact henters),
      fun c hagain => exec_next_of_eq hdone (by rw [hagain]; exact congrArg (beginWake n c) henters)⟩
  case domainWake =>
    intro dt n cause s t u
    refine ⟨fun hholds hpresent => ?holds, fun hnot => ?doesNot⟩
    case holds =>
      have hwakes : exec (.domainWake dt n cause) s = .next (after dt s (wakeFor n cause u)) :=
        exec_next_of_eq rfl (if_neg (by rw [hholds, hpresent]; decide))
      refine ⟨fun hstays hopen => ?begins, fun hrefused => ?groupOnly⟩
      case begins => exact exec_next_of_eq hwakes (if_neg (by rw [hstays, hopen]; decide))
      case groupOnly => exact exec_next_of_eq hwakes (if_pos (Bool.or_eq_true_iff.2 hrefused))
    case doesNot => exact exec_next_of_eq rfl (if_pos (by rw [hnot]; rfl))
  case wake =>
    intro dt n x s t u htrans htarget
    have hends : exec (.wake dt n) s = .next (after dt s (if u.domainOn n then serveDomain n u else u)) :=
      exec_next_of_eq rfl (congrArg (fun v : State => if v.domainOn n then serveDomain n v else v)
        (by rw [htrans]; exact if_pos htarget))
    exact ⟨fun hon => exec_next_of_eq hends (if_pos hon),
      fun hoff => exec_next_of_eq hends (if_neg (Bool.eq_false_iff.1 hoff))⟩
  case busTimeout =>
    intro dt s t
    have hspan : busTimeout = 64000 := rfl
    refine ⟨fun x hstalled => ?stalled, fun r a hnone hqueued hacc => ?queued⟩
    case stalled => exact exec_next_of_eq rfl (by dsimp only; rw [hspan, hstalled])
    case queued => exact exec_next_of_eq rfl (by dsimp only; rw [hspan, hnone]; dsimp only; rw [hqueued]; dsimp only; rw [hacc])

end Sys2Proof.Machine
end

section
/-!
SUPPORT. The statements of 07_link_sequencer.md: the decisions and releases of frames, the downstream queues, the channel access, the
beacons and registers of the link sequencer, the check units and the pacer, the priority of acknowledgements, and the interrupt
sources that these and other blocks raise.
-/

namespace Sys2Proof.Machine

/-! ### The priority of acknowledgements (R203) -/

/-- What an acknowledgement's priority rests on, in the order of R203: a smaller rank has priority. -/
def AckBooking.rank (a : AckBooking) : Natᵒᵈ ×ₗ Boolᵒᵈ ×ₗ Nat ×ₗ Nat :=
  toLex (OrderDual.toDual a.pri, toLex (OrderDual.toDual a.command, toLex (a.lastChip, a.lane)))

/-- Equal ranks are equal in all that the priority rests on. -/
theorem rank_eq_iff (a b : AckBooking) :
    a.rank = b.rank ↔ (a.pri, a.command, a.lastChip, a.lane) = (b.pri, b.command, b.lastChip, b.lane) := by
  simp [AckBooking.rank]

/-- Each criterion of the rank decides where those before it are equal. -/
theorem rank_lt_iff (a b : AckBooking) :
    a.rank < b.rank ↔ b.pri < a.pri ∨ a.pri = b.pri ∧ (b.command < a.command ∨ a.command = b.command ∧
      (a.lastChip < b.lastChip ∨ a.lastChip = b.lastChip ∧ a.lane < b.lane)) := by
  simp [AckBooking.rank, Prod.Lex.toLex_lt_toLex]

/-- Priority is the order of the ranks. -/
theorem over_iff_rank_lt (a b : AckBooking) : a.over b = true ↔ a.rank < b.rank := by
  rw [rank_lt_iff, AckBooking.over]
  split
  next hpri => simp [hpri]
  next hpri =>
    have hpri := not_not.1 hpri
    split
    next hcommand =>
      have hbool : ∀ x y : Bool, x ≠ y → (x = true ↔ y < x) := by decide
      simpa [hpri, hcommand] using hbool _ _ hcommand
    next hcommand =>
      have hcommand := not_not.1 hcommand
      split
      next hchip => simp [hpri, hcommand, hchip]
      next hchip => simp [hpri, hcommand, not_not.1 hchip]

/-- Settles O55: the order of the ranks is a strict linear order. -/
theorem ackPriorityIsTheOrderOfItsRule : Obligations.AckPriorityIsTheOrderOfItsRule := by
  intro a b c
  simp only [over_iff_rank_lt]
  refine ⟨fun hpri => ?higher, fun hpri ha hb => ?command, fun hpri hcommand hchip => ?earlier,
    fun hpri hcommand hchip hlane => ?lower, fun hdiffer => ?total, lt_trans, ?irreflexive⟩
  case higher => exact (rank_lt_iff a b).2 (.inl hpri)
  case command => exact (rank_lt_iff a b).2 (.inr ⟨hpri, .inl (by rw [ha, hb]; decide)⟩)
  case earlier => exact (rank_lt_iff a b).2 (.inr ⟨hpri, .inr ⟨hcommand, .inl hchip⟩⟩)
  case lower => exact (rank_lt_iff a b).2 (.inr ⟨hpri, .inr ⟨hcommand, .inr ⟨hchip, hlane⟩⟩⟩)
  case total =>
    have hne : a.rank ≠ b.rank := mt (rank_eq_iff a b).1 hdiffer
    rw [Bool.eq_iff_iff, Bool.not_eq_true', ← Bool.not_eq_true, over_iff_rank_lt, over_iff_rank_lt, not_lt]
    exact hne.le_iff_lt.symm
  case irreflexive => exact Bool.eq_false_iff.2 (mt (over_iff_rank_lt a a).1 (lt_irrefl _))

/-! ### More interrupt sources (R225, R352, R451, R517, R542, R543, R559, R560) -/

/-- Settles O47: each source is the run of flags, with their enables, that its rule names. -/
theorem moreInterruptSourcesAreMapped : Obligations.MoreInterruptSourcesAreMapped := by
  intro s on
  have one (stat en b : Nat) : s.anyFlagged stat en b b = on ⟨stat, b, 1⟩ ⟨en, b, 1⟩ := anyFlagged_one s stat en b
  have two := anyFlagged_two s
  have three := anyFlagged_three s
  exact
    ⟨one _ _ _, three _ _ _, three _ _ _, one _ _ _, two _ _ _, -- the flash and the OTP row
      three _ _ _, three _ _ _, one _ _ _, -- the journal
      one _ _ _, two _ _ _, two _ _ _, two _ _ _, -- the backup domain
      flagged_is s _ _ 0, flagged_is s _ _ 1, flagged_is s _ _ 2, flagged_is s _ _ 3, -- upstream
      flagged_is s _ _ 4, flagged_is s _ _ 5, flagged_is s _ _ 6, flagged_is s _ _ 7,
      flagged_is s _ _ 8, flagged_is s _ _ 9, flagged_is s _ _ 10, flagged_is s _ _ 11,
      flagged_is s _ _ 12, flagged_is s _ _ 13, flagged_is s _ _ 14, flagged_is s _ _ 15,
      fun b hb => by interval_cases b <;> exact flagged_is s 0x200B0020 0x200B0024 _, -- the link sequencer
      one _ _ _, three _ _ _, -- the power domains
      two _ _ _, three _ _ _, one _ _ _, two _ _ _, three _ _ _, -- the mains
      rfl, -- the voltage loop
      fun k hk => by interval_cases k <;> rfl, -- the application complex
      congrArg (s.is APP_INT_STAT_IRQ7 || ·) (three _ _ _)⟩

/-! ### The check units (R472 to R474) -/

/-- A write of `CHKu_CTRL` with GO alone, to a unit that is idle: during LOAD the loader alone starts it. -/
theorem chkCtrlWrite_go {acc : Access} {u : Nat} {fin : Bool} {w : Word} {s : State}
    (hgo : wrote w (CHKu_CTRL_GO u) = true) (habort : wrote w (CHKu_CTRL_ABORT u) = false)
    (hidle : (s.set (CHKu_CTRL_ABORT u) 0).chkRun u = none) :
    chkCtrlWrite acc u fin w s =
      let v := s.set (CHKu_CTRL_ABORT u) 0
      if v.mode == .load && acc.init != initLoader then v.set (CHKu_CTRL_GO u) 0
      else chkStart u acc (startTask (chkTask u) v) := by
  unfold chkCtrlWrite
  simp only [habort, hgo, Bool.false_eq_true, if_false, hidle, Option.isNone_none, Bool.and_self, if_true]

/-- A write of `CHKu_CTRL` with ABORT alone, to a unit that runs: it ends the run or meets its completion. -/
theorem chkCtrlWrite_abort {acc : Access} {u : Nat} {fin : Bool} {w : Word} {s : State} {r : ChkRun}
    (hgo : wrote w (CHKu_CTRL_GO u) = false) (habort : wrote w (CHKu_CTRL_ABORT u) = true)
    (hrun : (s.set (CHKu_CTRL_ABORT u) 0).chkRun u = some r) :
    chkCtrlWrite acc u fin w s =
      let v := s.set (CHKu_CTRL_ABORT u) 0
      let x := if fin = true then raise (CHKu_STAT_ABORT_LATE u) (chkComplete r v) else chkEnd u chkAborted v
      x.set (CHKu_CTRL_GO u) (flag (x.chkRun u).isSome) := by
  unfold chkCtrlWrite
  simp only [habort, hgo, Bool.false_and, Bool.false_eq_true, if_false, if_true, hrun]

/-- Octets that cannot be read end a run BUSERR. -/
theorem chkComplete_unread {r : ChkRun} {s v : State} (hread : engineRead r.acc r.addr r.len s = (none, v)) :
    chkComplete r s = chkEnd r.unit chkBuserr v := by
  unfold chkComplete
  rw [hread]

/-- Octets that can be read give the value, which is compared where CMPEN is set. -/
theorem chkComplete_read {r : ChkRun} {os : Octets} {s v : State}
    (hread : engineRead r.acc r.addr r.len s = (some os, v)) :
    chkComplete r s =
      chkEnd r.unit (if r.cmp && checkValue r.poly os != r.exp % 2 ^ checkWidth r.poly then chkMismatch else chkOk)
        ((v.set (CHKu_VAL_LO_VAL r.unit) (checkValue r.poly os)).set (CHKu_VAL_HI_VAL r.unit)
          (checkValue r.poly os / 2 ^ 32)) := by
  unfold chkComplete
  rw [hread]

/-! ### The pacer (R468, R469) -/

/-- No step of the pacer took place at this instant. -/
def State.paceStands (s : State) : Prop := ∀ (c : Nat) (adm : Word) (d : Bool), s.cfg.paced = some (c, adm, d) → c ≠ s.cycles

theorem paceStands_of_none {s : State} (h : s.cfg.paced = none) : s.paceStands := by
  intro c adm d hstep
  rw [h] at hstep
  cases hstep

theorem paceStands_of_ne {s : State} {c : Nat} {adm : Word} {d : Bool} (h : s.cfg.paced = some (c, adm, d))
    (hc : c ≠ s.cycles) : s.paceStands := by
  intro c' adm' d' hstep
  rw [h] at hstep
  cases hstep
  exact hc

/-- Without a step at this instant `LNK_ADM` stands. -/
theorem keepAdm_of_paceStands {s : State} (h : s.paceStands) : keepAdm s = s := by
  unfold keepAdm
  split
  next c adm d hstep => exact if_neg (h c adm d hstep)
  next => rfl

/-- Without a step at this instant there is none to undo. -/
theorem stepUndone_of_paceStands {s : State} (h : s.paceStands) : stepUndone s = s := by
  unfold stepUndone
  split
  next c adm d hstep => exact if_neg (h c adm d hstep)
  next => rfl

/-- A write of `CFG_PACECTL` with STOP. -/
theorem paceCtlWrite_stop {w : Word} (s : State) (hstop : wrote w CFG_PACECTL_STOP = true) :
    paceCtlWrite w s = pacerStop (keepAdm (s.set CFG_PACECTL_STOP 0)) := by
  unfold paceCtlWrite
  rw [hstop]
  rfl

/-- An active pacer stops. -/
theorem pacerStop_active {s : State} (h : s.paceStands) (hactive : s.is CFG_PACECTL_ACTIVE = true) :
    pacerStop s = raise CFG_INT_STAT_PACESTOP (s.set CFG_PACECTL_ACTIVE 0) := by
  unfold pacerStop
  rw [stepUndone_of_paceStands h]
  exact if_pos hactive

/-- `LNK_ADM` goes back to what it was before a step at this instant. -/
theorem keepAdm_stepped {s : State} {adm : Word} {d : Bool} (h : s.cfg.paced = some (s.cycles, adm, d)) :
    keepAdm s = changeMirrored admAddr (State.setWord admAddr adm) s := by
  unfold keepAdm
  rw [h]
  exact if_pos rfl

/-- A step at this instant is undone: the pacer is active again, and PACEDONE is as it was. -/
theorem stepUndone_stepped {s : State} {adm : Word} {d : Bool} (h : s.cfg.paced = some (s.cycles, adm, d)) :
    stepUndone s =
      ((modCfg (fun c => { c with paced := none }) s).set CFG_PACECTL_ACTIVE 1).set CFG_INT_STAT_PACEDONE (flag d) := by
  unfold stepUndone
  rw [h]
  exact if_pos rfl

/-- A pacer whose step at this instant is undone stops. -/
theorem pacerStop_stepped {s : State} {adm : Word} {d : Bool} (h : s.cfg.paced = some (s.cycles, adm, d)) :
    pacerStop s = raise CFG_INT_STAT_PACESTOP
      ((((modCfg (fun c => { c with paced := none }) s).set CFG_PACECTL_ACTIVE 1).set CFG_INT_STAT_PACEDONE (flag d)).set
        CFG_PACECTL_ACTIVE 0) := by
  unfold pacerStop
  rw [stepUndone_stepped h]
  refine if_pos ?_
  rw [State.is, State.get_set_apart _ _ _ _ (by decide) (by decide), State.get_set_same _ _ _ (by decide)]
  rfl

/-- Settles O31: each row of the check units and the pacer by the branch of its command that the hypotheses choose. -/
theorem checkUnitsAndThePacerTakeEffect : Obligations.CheckUnitsAndThePacerTakeEffect := by
  refine ⟨?start, ?startTask, ?abort, ?done, ?complete, ?step, ?stop, ?stepped⟩
  case start =>
    intro dt u acc w s t v hunit hserve hgo habort hidle
    have hstarts := exec_next_of_eq (c := .chkStart dt u (.write acc w)) rfl
      ((if_pos hunit).trans ((writeRow_serve acc _ t w _ hserve).trans (chkCtrlWrite_go hgo habort hidle)))
    exact ⟨fun hmode => exec_next_of_eq hstarts (if_neg (by rw [beq_eq_false_iff_ne.2 hmode]; exact Bool.false_ne_true)),
      fun hmode hother => exec_next_of_eq hstarts (if_pos (by rw [hmode, bne_iff_ne.2 hother]; rfl))⟩
  case startTask =>
    exact fun dt u s hunit hqueued hidle =>
      exec_next_of_eq rfl ((if_pos hunit).trans (if_pos (by rw [hqueued, hidle]; rfl)))
  case abort =>
    intro dt u acc w fin r s t v x hunit hserve hgo habort hrun
    exact exec_next_of_eq rfl
      ((if_pos hunit).trans ((writeRow_serve acc _ t w _ hserve).trans (chkCtrlWrite_abort hgo habort hrun)))
  case done => exact fun dt u r s hrun => exec_next_of_eq rfl (by dsimp only; rw [hrun])
  case complete =>
    intro r os s v
    refine ⟨chkComplete_unread, fun hread hequal => ?agrees, fun hread hcmp hdiffers => ?differs⟩
    case agrees =>
      rw [chkComplete_read hread, if_neg (by rcases hequal with h | h <;> simp [h])]
    case differs =>
      rw [chkComplete_read hread, if_pos (by simp [hcmp, hdiffers])]
  case step =>
    intro dt s t u hactive hpassed
    have hsteps : (t.is CFG_PACECTL_ACTIVE && t.passed t.cfg.pacerFrom (t.get CFG_PACE_STEP * msCycles)) = true := by
      rw [hactive, hpassed]; rfl
    exact ⟨fun hmore => exec_next_of_eq rfl ((if_pos hsteps).trans (if_neg hmore)),
      fun hlast => exec_next_of_eq rfl ((if_pos hsteps).trans (if_pos hlast))⟩
  case stop =>
    intro dt acc w s t u hserve hstop
    have hstops : exec (.pacerStop dt acc w) s = .next (after dt s (pacerStop (keepAdm u))) :=
      exec_next_of_eq rfl ((writeRow_serve acc _ t w _ hserve).trans (paceCtlWrite_stop _ hstop))
    have stands (h : u.paceStands) (hactive : u.is CFG_PACECTL_ACTIVE = true) : exec (.pacerStop dt acc w) s =
        .next (after dt s (raise CFG_INT_STAT_PACESTOP (u.set CFG_PACECTL_ACTIVE 0))) :=
      exec_next_of_eq hstops (by rw [keepAdm_of_paceStands h, pacerStop_active h hactive])
    exact ⟨fun hnone => stands (paceStands_of_none hnone), fun c adm d hpaced hc => stands (paceStands_of_ne hpaced hc),
      fun adm d hpaced => exec_next_of_eq hstops (congrArg pacerStop (keepAdm_stepped hpaced))⟩
  case stepped => exact fun adm d x => pacerStop_stepped

/-! ### Channel access (R206 to R209) -/

/-- The first chip of an attempt in a PAN whose back-off ends now: two periods on in a slotted PAN, else past CCA and turnaround. -/
def State.backoffFirst (t : State) (pan : Nat) : Nat :=
  let t0 := t.boundary pan t.cycles
  if t.panBeacons pan then t0 + 2 * backoffUnit else t0 + ccaCycles + turnaround

/-- The first chip of an attempt comes after its deadline. -/
def Attempt.missedBy (a : Attempt) (first : Nat) : Bool :=
  match a.deadline with
  | some d => decide (d < first)
  | none => false

/-- A frame that begins at `first`, its acknowledgement and its spacing end within the CAP. -/
def State.fitsCap (t : State) (pan : Nat) (a : Attempt) (first : Nat) : Bool :=
  let wait := if a.ar then t.get (LNK_PANn_TIME_ACKWAIT pan) * symCycles else 0
  match t.activeBeacon pan with
  | some (b, _) => decide (first + airCycles a.mode a.mpdu + wait + ifsCycles a.mpdu ≤ t.activeEnd pan b)
  | none => false

theorem missedBy_eq_false {a : Attempt} {first : Nat} (h : ∀ d : Nat, a.deadline = some d → first ≤ d) :
    a.missedBy first = false := by
  unfold Attempt.missedBy
  cases hd : a.deadline with
  | none => rfl
  | some d => exact decide_eq_false (h d hd).not_gt

theorem missedBy_eq_true {a : Attempt} {first deadline : Nat} (hdeadline : a.deadline = some deadline)
    (hpassed : deadline < first) : a.missedBy first = true := by
  rw [Attempt.missedBy, hdeadline]
  exact decide_eq_true hpassed

/-- BACKOFF_END acts on an attempt whose back-off is over and which may start, by its deadline, the CAP and the channel. -/
theorem exec_backoffEnd_due {dt pan stop : Nat} {who : AttemptFor} {a : Attempt} {s : State}
    (hattempt : (elapse dt s).attempt pan who = some a) (hphase : a.phase = .backoff stop)
    (hstop : stop ≤ (elapse dt s).cycles) (hruns : (elapse dt s).panRuns pan = true)
    (hbook : (elapse dt s).mayBook = true) (hacked : (elapse dt s).startAcked a = true) :
    exec (.backoffEnd dt pan who) s = .next (after dt s (
      let t := elapse dt s
      let ch := t.get (LNK_PANn_CFG_CH pan)
      let first := t.backoffFirst pan
      if a.missedBy first = true then linkSettle (dropAttempt a t)
      else if t.panBeacons pan = true ∧ (t.capOpen pan = false ∨ t.fitsCap pan a first = false) then t
      else if t.channelTaken ch a = true ∨ (a.for_ ≠ .beacon ∧ first < t.gapOf ch) then t
      else
        modAttempt a (fun x => { x with phase := .cca (t.boundary pan t.cycles + ccaCycles) t.cod.nextId first })
          (book (if a.for_ = .beacon then .beacon else .data) ch a.mode first (t.sigFor a.node) a.mpdu t))) := by
  have hdue : ¬((elapse dt s).cycles < stop ∨ (elapse dt s).panRuns pan = false ∨ (elapse dt s).mayBook = false ∨
      (elapse dt s).startAcked a = false) := by
    rw [hruns, hbook, hacked]
    simpa using hstop
  exact exec_next_of_eq rfl (by beta_reduce; rw [hattempt]; dsimp only; rw [hphase]; exact if_neg hdue)

/-- The end of a CCA acts on the attempt in it, once its window has passed. -/
theorem exec_ccaEnd_due {dt pan stop b first : Nat} {who : AttemptFor} {a : Attempt} {s : State} (p0 p1 p2 p3 : Nat)
    (hattempt : (elapse dt s).attempt pan who = some a) (hphase : a.phase = .cca stop b first)
    (hstop : stop ≤ (elapse dt s).cycles) :
    exec (.ccaEnd dt pan who p0 p1 p2 p3) s = .next (after dt s (
      let t := elapse dt s
      if t.ccaBusy pan (p0 + p1 + p2 + p3) = true ∨ t.bookingHolds b = false then
        linkSettle (channelBusy a (onlyIf (t.bookingHolds b) (cancel b) t))
      else if t.panBeacons pan = true ∧ 1 < a.cw then
        modAttempt a (fun x => { x with cw := a.cw - 1, phase := .cca (stop + backoffUnit) b first }) t
      else modAttempt a (fun x => { x with phase := .booked b first }) t)) :=
  exec_next_of_eq rfl (by beta_reduce; rw [hattempt]; dsimp only; rw [hphase]; exact if_neg hstop.not_gt)

/-- Settles O12: each row of the channel access by the branch of its command that the hypotheses choose. -/
theorem channelAccessFollowsCsma : Obligations.ChannelAccessFollowsCsma := by
  refine ⟨?starts, ?expires, ?ccaEnds⟩
  case starts =>
    intro dt pan stop who a s t ch t0 first wait hattempt hphase hstop hruns hbook hacked hdeadline hcap hfree hgap
    have hintime : ¬a.missedBy first = true := Bool.eq_false_iff.1 (missedBy_eq_false hdeadline)
    have hfits : ¬(t.panBeacons pan = true ∧ (t.capOpen pan = false ∨ t.fitsCap pan a first = false)) := by
      rintro ⟨hslotted, hcannot⟩
      obtain ⟨hopen, b, stop', hactive, hend⟩ := hcap hslotted
      have hfits : t.fitsCap pan a first = true := by
        rw [State.fitsCap, hactive]
        exact decide_eq_true hend
      rw [hopen, hfits] at hcannot
      exact absurd hcannot (by decide)
    have hclear : ¬(t.channelTaken ch a = true ∨ (a.for_ ≠ .beacon ∧ first < t.gapOf ch)) := by
      rintro (htaken | ⟨hdata, hsoon⟩)
      · exact Bool.false_ne_true (hfree.symm.trans htaken)
      · exact hgap.elim hdata hsoon.not_ge
    exact exec_next_of_eq (exec_backoffEnd_due hattempt hphase hstop hruns hbook hacked)
      ((if_neg hintime).trans ((if_neg hfits).trans (if_neg hclear)))
  case expires =>
    intro dt pan stop deadline who a s t hattempt hphase hstop hruns hbook hacked hdeadline hpassed
    have hfirst : t.backoffFirst pan =
        t.boundary pan t.cycles + (if t.panBeacons pan then 2 * backoffUnit else ccaCycles + turnaround) := by
      rw [State.backoffFirst, add_ite, Nat.add_assoc]
    exact exec_next_of_eq (exec_backoffEnd_due hattempt hphase hstop hruns hbook hacked)
      (if_pos (missedBy_eq_true hdeadline (hfirst ▸ hpassed)))
  case ccaEnds =>
    intro dt pan stop b first who a p0 p1 p2 p3 s t energy hattempt hphase hstop
    have hends := exec_ccaEnd_due p0 p1 p2 p3 hattempt hphase hstop
    have kept (hclear : t.ccaBusy pan energy = false) (hholds : t.bookingHolds b = true) :
        ¬(t.ccaBusy pan energy = true ∨ t.bookingHolds b = false) := by rw [hclear, hholds]; decide
    refine ⟨fun hbusy hholds => ?busy, fun hlost => ?lost, fun hclear hholds hslotted hcw => ?again,
      fun hclear hholds hlast => ?goes⟩
    case busy => exact exec_next_of_eq hends ((if_pos (.inl hbusy)).trans (by rw [hholds]; rfl))
    case lost => exact exec_next_of_eq hends ((if_pos (.inr hlost)).trans (by rw [hlost]; rfl))
    case again =>
      exact exec_next_of_eq hends ((if_neg (kept hclear hholds)).trans (if_pos ⟨hslotted, hcw⟩))
    case goes =>
      have hdone : ¬(t.panBeacons pan = true ∧ 1 < a.cw) := by
        rintro ⟨hslotted, hcw⟩
        exact hlast.elim (fun h => Bool.false_ne_true (h.symm.trans hslotted)) hcw.not_ge
      exact exec_next_of_eq hends ((if_neg (kept hclear hholds)).trans (if_neg hdone))

/-! ### Beacons and the registers of the link sequencer (R188, R210 to R216, R370, R469) -/

/-- A served write of a register that REG mirrors: STANDBY ignores it, any other mode writes and acts (R370). -/
theorem writeMirrored_serve {acc : Access} {a : Nat} {w : Word} {action : Word → State → State} {s : State}
    (hserve : verdict acc a true s = .serve) :
    writeMirrored acc a w action s =
      let u := { meetDomain (domainOfBlock (blockOf a)) s with resp := .ok }
      if u.mode = .standby then u else action (u.word a) (written a w s) :=
  access_serve acc a s (some w) _ hserve

/-- A beacon is booked ahead of its instant for a PAN that runs with beacons. -/
theorem beacon_due {t : State} {pan : Nat} (hruns : t.panRuns pan = true) (hbeacons : t.panBeacons pan = true)
    (hahead : t.nextInstant pan ≤ t.ts + 2 * msCycles) (hpan : pan < 16) :
    ¬(t.panRuns pan = false ∨ t.panBeacons pan = false ∨ t.ts + bookAhead < t.nextInstant pan ∨ 16 ≤ pan) := by
  simp [hruns, hbeacons, bookAhead, hahead, hpan]

/-- Settles O13: each row of the beacons and registers by the branch of its command that the hypotheses choose. -/
theorem beaconsAndLinkRegistersTakeEffect : Obligations.BeaconsAndLinkRegistersTakeEffect := by
  refine ⟨?booking, ?answer, ?periodEnd, ?panrun, ?adm, ?admNext⟩
  case booking =>
    intro dt pan s t at_ u nodes hruns hbeacons hahead hpan
    have hdue := beacon_due hruns hbeacons hahead hpan
    refine ⟨fun hmode hbook hspaced => ?booked, fun hmode => exec_next_of_eq rfl ((if_neg hdue).trans (if_pos hmode))⟩
    case booked =>
      have hapart : ¬(u.beaconTimes pan).any (fun c =>
          decide (u.cycles + (at_ - u.ts) < c + u.beaconInterval pan - msCycles)) = true := by
        intro hany
        obtain ⟨c, hc, hsoon⟩ := List.any_eq_true.1 hany
        have hlate := hspaced c hc
        have := of_decide_eq_true hsoon
        omega
      exact exec_next_of_eq rfl ((if_neg hdue).trans ((if_neg hmode).trans
        ((if_neg (by rw [hbook]; decide)).trans (if_neg hapart))))
  case answer =>
    intro dt pan s t u hasked hbook hruns hbeaconless hnone
    exact exec_next_of_eq rfl ((if_pos ⟨hasked, hbook⟩).trans ((if_pos ⟨hruns, hbeaconless⟩).trans
      (if_neg (by rw [hnone]; decide))))
  case periodEnd =>
    intro dt pan first stop s t hactive hend
    exact exec_next_of_eq rfl (by beta_reduce; rw [hactive]; exact if_pos hend)
  case panrun =>
    intro dt acc w s t hserve
    have hwrites := exec_next_of_eq (c := .panrunWrite dt acc w) rfl (writeMirrored_serve hserve)
    exact ⟨fun hmode => exec_next_of_eq hwrites (if_neg hmode), fun hmode => exec_next_of_eq hwrites (if_pos hmode)⟩
  case adm =>
    intro dt acc w s t hserve
    have hwrites := exec_next_of_eq (c := .admWrite dt acc w) rfl (writeMirrored_serve hserve)
    exact ⟨fun hmode => exec_next_of_eq hwrites (if_neg hmode), fun hmode => exec_next_of_eq hwrites (if_pos hmode)⟩
  case admNext => exact fun dt s hqueued => exec_next_of_eq rfl (if_pos hqueued)

/-! ### Downstream queues (R217 to R226, R269) -/

/-- DOWNSTREAM_START serves the next queue, where its head has started and not waited for a lookup. -/
theorem exec_downstreamStart_started {dt q : Nat} {ds : List (Nat × Nat)} {s : State}
    (hbook : (linkSettle (elapse dt s)).mayBook = true) (hnext : (linkSettle (elapse dt s)).nextQueue = some (q, ds))
    (hstarted : (startHead q (linkSettle (elapse dt s))).lnk.nextId ≠ (linkSettle (elapse dt s)).lnk.nextId) :
    exec (.downstreamStart dt) s = .next (after dt s (
      let v := forEach ds (fun e w => setDeficit e.1 e.2 w) (startHead q (linkSettle (elapse dt s)))
      linkSettle (modLnk (fun l => { l with
        lastServed := q, deficits := l.deficits.filter (fun e => !v.qEmpty e.1) }) v))) :=
  exec_next_of_eq rfl ((if_neg (by rw [hbook]; decide)).trans (by rw [hnext]; exact if_neg hstarted))

/-- What a node's POLL comes to once its acknowledgement has ended: the empty answer, the POLL that stands, or a held frame. -/
def pollAnswered (node stop pan : Nat) (t : State) : State :=
  let deadline := stop + t.get (LNK_PANn_TIME_INDWAIT pan) * 16 * symCycles
  let u := modLnk (fun l => { l with polls := l.polls.erase (node, stop, pan) }) t
  match u.heldFor node with
  | [] => if nrUsed (u.nodeRec node) then sendEmpty node pan deadline u else u
  | d :: more =>
    if (u.attemptOf d.id).isSome ∨ (u.inFlight d.queue).isSome ∨ d.ciOwed.isSome = true then
      onlyIf (decide (u.cycles < deadline)) (modLnk (fun l => { l with polls := (node, stop, pan) :: l.polls })) u
    else
      let e := u.heldSend d (!more.isEmpty)
      startDown e (some deadline) 0 (modDown d.id (fun _ => e) u)

/-- INDIRECT_SEND answers the POLL of a node once its acknowledgement has ended. -/
theorem exec_indirectSend_acked {dt node stop pan : Nat} {s : State}
    (hpoll : (elapse dt s).lnk.polls.find? (fun e => e.1 == node) = some (node, stop, pan))
    (hacked : stop ≤ (elapse dt s).cycles) :
    exec (.indirectSend dt node) s = .next (after dt s (pollAnswered node stop pan (elapse dt s))) :=
  exec_next_of_eq rfl (by beta_reduce; rw [hpoll]; exact if_neg hacked.not_gt)

/-- Settles O11: each row of the downstream queues by the branch of its command that the hypotheses choose. -/
theorem downstreamQueuesAreServed : Obligations.DownstreamQueuesAreServed := by
  refine ⟨?start, ?fill, ?abort, ?halt, ?polled, ?pollStands, ?pollEmpty, ?expiry⟩
  case start => exact fun dt q ds s hbook hnext hstarted => exec_downstreamStart_started hbook hnext hstarted
  case fill =>
    intro dt bad1 bad2 badRecord f s t u hnext hended
    have hended : ¬u.ctx.fills.elem f = true := Bool.eq_false_iff.1 hended
    exact
      ⟨fun hgood => exec_next_of_eq rfl (by
          beta_reduce; rw [hnext]; exact (if_neg hended).trans (if_neg (Bool.eq_false_iff.1 hgood))),
        fun hbad => exec_next_of_eq rfl (by beta_reduce; rw [hnext]; exact (if_neg hended).trans (if_pos hbad))⟩
  case abort => exact fun dt acc w s hserve => exec_next_of_eq rfl (writeRow_serve acc _ _ w _ hserve)
  case halt => exact fun dt s hqueued => exec_next_of_eq rfl (if_pos hqueued)
  case polled =>
    intro dt node stop pan d more s t deadline u e hpoll hacked hheld hattempt hflight howed
    have hfree : ¬((u.attemptOf d.id).isSome = true ∨ (u.inFlight d.queue).isSome = true ∨ d.ciOwed.isSome = true) := by
      simp [hattempt, hflight, howed]
    exact exec_next_of_eq (exec_indirectSend_acked hpoll hacked) (by
      unfold pollAnswered; dsimp only; rw [hheld]; exact if_neg hfree)
  case pollStands =>
    intro dt node stop pan d more s t deadline u hpoll hacked hheld hbusy
    have hwaits : exec (.indirectSend dt node) s = .next (after dt s (onlyIf (decide (u.cycles < deadline))
        (modLnk (fun l => { l with polls := (node, stop, pan) :: l.polls })) u)) :=
      exec_next_of_eq (exec_indirectSend_acked hpoll hacked) (by
      unfold pollAnswered; dsimp only; rw [hheld]; exact if_pos hbusy)
    exact ⟨fun hbefore => exec_next_of_eq hwaits (if_pos (decide_eq_true hbefore)),
      fun hpast => exec_next_of_eq hwaits (if_neg (by simpa using hpast))⟩
  case pollEmpty =>
    intro dt node stop pan s t deadline u hpoll hacked hheld hused
    exact exec_next_of_eq (exec_indirectSend_acked hpoll hacked) (by
      unfold pollAnswered; dsimp only; rw [hheld]; exact if_pos hused)
  case expiry => exact fun dt s => exec_next_of_eq rfl rfl

/-! ### Decisions, the mirror cut-off and acknowledgements (R189 to R197, R209) -/

/-- What a frame whose turn has come comes to, by its ruling and by the device's authority over it (R189, R370). -/
def ruled (f : RxFrame) (t : State) : State :=
  match t.decideFrame f with
  | .wait => t
  | .drop => dropInbox f t
  | .ack => t
  | .decide code queue pan node =>
    match t.decidesAs (t.tsBack (t.cycles - f.lastChip)) with
    | some true => decideNow f code queue pan node t
    | some false => standbyHears f code node t
    | none => dropInbox f t

/-- What an acknowledgement that answers an attempt leaves of its counter: a secured one is heard as its node's (R209). -/
def ackHeard (m : Mhr) (a : Attempt) (u : State) : State :=
  match a.node with
  | some i => if m.secured then heardCounter i m.counter u else u
  | none => u

theorem ackHeard_plain {m : Mhr} {a : Attempt} (u : State) (h : a.node = none ∨ m.secured = false) : ackHeard m a u = u := by
  unfold ackHeard
  split
  next i hnode =>
    have hplain : m.secured = false := h.resolve_left (by rw [hnode]; exact Option.some_ne_none i)
    exact if_neg (Bool.eq_false_iff.1 hplain)
  next => rfl

theorem ackHeard_secured {m : Mhr} {a : Attempt} {i : Nat} (u : State) (hnode : a.node = some i) (hsecured : m.secured = true) :
    ackHeard m a u = heardCounter i m.counter u := by
  unfold ackHeard
  rw [hnode]
  exact if_pos hsecured

section
variable {dt lane : Nat} {f : RxFrame} {s : State}
  (hframe : (elapse dt s).inbox.find? (fun x => x.lane == lane) = some f)
include hframe

/-- DECISION takes the frame of a lane once no earlier frame of its source waits (R194). -/
theorem exec_decision_turn (hturn : (elapse dt s).earlierWaits f = false) :
    exec (.decision dt lane) s = .next (after dt s (ruled f (elapse dt s))) :=
  exec_next_of_eq rfl (by beta_reduce; rw [hframe]; exact if_neg (Bool.eq_false_iff.1 hturn))

variable {m : Mhr} (hack : (elapse dt s).decideFrame f = .ack) (hmhr : parseMhr f.mpdu = some m)
include hack hmhr

/-- An acknowledgement that answers an attempt ends its wait. -/
theorem exec_ackMatch_answer {a : Attempt}
    (hanswers : (dropInbox f (elapse dt s)).lnk.attempts.find? ((dropInbox f (elapse dt s)).ackAnswers f m) = some a) :
    exec (.ackMatch dt lane) s = .next (after dt s (linkSettle (attemptSucceeded a
      (keepGap f.ch (f.lastChip + ifsCycles a.mpdu) (ackHeard m a (dropInbox f (elapse dt s))))))) :=
  exec_next_of_eq rfl (by beta_reduce; rw [hframe]; dsimp only; rw [hack, hmhr]; dsimp only; rw [hanswers]; rfl)

/-- An acknowledgement that answers none is dropped. -/
theorem exec_ackMatch_unanswered
    (hanswers : (dropInbox f (elapse dt s)).lnk.attempts.find? ((dropInbox f (elapse dt s)).ackAnswers f m) = none) :
    exec (.ackMatch dt lane) s = .next (after dt s (dropInbox f (elapse dt s))) :=
  exec_next_of_eq rfl (by beta_reduce; rw [hframe]; dsimp only; rw [hack, hmhr]; dsimp only; rw [hanswers])
end

/-! ### Gorse requests of the link sequencer (R235 to R238) -/

/-- A downstream frame with its key, and with a value of its counter in the auxiliary security header (R221, R235). -/
def Down.counted (d : Down) (key : Octets) (counter : Nat) : Down :=
  { d with
    counter := counter,
    plain := patch d.plain (d.hdrLen - (if descCtl d.desc ctlIep then 2 else 0) - (5 + keyIdLen (descKim d.desc)) + 1)
      (le 4 counter),
    key := key }

section
variable {q : Nat} {d : Down} {s : State} (hdown : s.lnk.down.find? (fun x => x.queue == q && x.needsKey) = some d)
  (hrun : s.is SEC_CTRL_RUN = true) (hcontext : s.hasContext (.tx q) = true) (hslot : s.slotMoved d = false)
include hdown hrun hcontext hslot

/-- A downstream frame without a valid key completes ABORTED. -/
theorem secTx_nokey (hkey : s.outKey (descKim d.desc) (descSlot d.desc) d.node = none) :
    secTx q s = linkSettle (complete d stAborted (nokey s)) := by
  have hserved : ¬(s.is SEC_CTRL_RUN = false ∨ s.hasContext (.tx q) = false) := by rw [hrun, hcontext]; decide
  rw [secTx, hdown]
  exact (if_neg hserved).trans ((if_neg (Bool.eq_false_iff.1 hslot)).trans (by rw [hkey]))

/-- A downstream frame with a key and a reserved counter value takes it, is secured and made ready. -/
theorem secTx_secured {key os : Octets} {space : Space}
    (hkwk : s.sec.kwk.isSome = true) (hkey : s.outKey (descKim d.desc) (descSlot d.desc) d.node = some (key, space))
    (hleft : s.spaceExhausted space = false) (hready : s.spaceReady space = true)
    (hseal : (takeCounter space (count SEC_CNT_TX 1 s)).2.seal
      (d.counted key (takeCounter space (count SEC_CNT_TX 1 s)).1) = some os) :
    secTx q s =
      let c := takeCounter space (count SEC_CNT_TX 1 s)
      let e := d.counted key c.1
      frameReady d.id (modDown d.id (fun x => { x with
        counter := e.counter, plain := e.plain, key := e.key, mpdu := os }) c.2) := by
  have hserved : ¬(s.is SEC_CTRL_RUN = false ∨ s.hasContext (.tx q) = false) := by rw [hrun, hcontext]; decide
  have hwrapped : ¬s.sec.kwk.isNone = true := by simpa [Option.isSome_iff_ne_none] using hkwk
  rw [secTx, hdown]
  refine (if_neg hserved).trans ((if_neg (Bool.eq_false_iff.1 hslot)).trans ?_)
  rw [hkey]
  refine (if_neg hwrapped).trans ((if_neg (Bool.eq_false_iff.1 hleft)).trans
    ((if_neg (by rw [hready]; decide)).trans ?_))
  dsimp only
  unfold Down.counted at hseal
  rw [hseal]
  rfl
end

/-- A received frame whose source is a known node gets its verdict. -/
theorem secRx_known {lane i : Nat} {f : RxFrame} {m : Mhr} {s : State}
    (hframe : s.inbox.find? (fun x => x.lane == lane) = some f) (hmhr : parseMhr f.mpdu = some m) (htype : m.type ≠ tyAck)
    (hnode : f.look = .hit i) (hsecured : m.secured = true) (hfirst : f.verdict = none) :
    secRx lane s =
      let r := rxRequest i f.gens (f.readPan % 16) m f.mpdu s
      { r.2 with inbox := r.2.inbox.map (fun g => if g = f then { g with verdict := some r.1 } else g) } := by
  rw [secRx, hframe]
  dsimp only
  rw [hmhr]
  dsimp only
  rw [if_neg htype, hnode]
  dsimp only
  rw [if_pos ⟨hsecured, hfirst⟩, if_neg htype]

/-- An Enh-Ack that holds a context is secured, or withheld where its key has changed or is not usable. -/
theorem secEack_served {b n gen : Nat} {a : AckBooking} {r : BookReq} {m : Mhr} {s : State}
    (hack : s.lnk.acks.find? (fun a => a.booking == b) = some a) (hsecure : a.secure.isSome = true)
    (hslot : a.slot = some (n, gen)) (hasked : s.cod.asked.find? (fun r => r.id == b) = some r)
    (hmhr : parseMhr r.mpdu = some m) (hcontext : s.hasContext (.eack b) = true) :
    secEack b s =
      if s.genMoved [(n, gen)] n = true then withholdAck b (keyChanged s)
      else if s.keyUsable n = false then withholdAck b (nokey s)
      else
        let os := secureOctets (s.slot n).key (ccmNonce (s.panEui a.pan) m.counter m.level) m.level
          (r.mpdu.take (r.mpdu.length - micLen m.level)) []
        let put (x : BookReq) : BookReq := if x.id = b then { x with mpdu := os } else x
        modLnk (fun l => { l with acks := l.acks.map (fun x => if x.booking = b then { x with secure := none } else x) })
          (modCod (fun c => { c with
            asked := c.asked.map put, placed := c.placed.map (fun x => { x with req := put x.req }) }) s) := by
  obtain ⟨x, hx⟩ := Option.isSome_iff_exists.1 hsecure
  rw [secEack, hack]
  dsimp only
  rw [hx]
  dsimp only
  rw [hasked]
  dsimp only
  rw [hmhr]
  dsimp only
  rw [hslot]
  exact if_neg (by rw [hcontext]; decide)

/-- Settles O10: each row of the decisions, releases and Gorse requests by the branch of its command that the hypotheses choose. -/
theorem framesAreDecidedAndReleased : Obligations.FramesAreDecidedAndReleased := by
  refine ⟨?decided, ?dropped, ?cutOff, ?answered, ?unanswered, ?unacked, ?tx, ?txNokey, ?rx, ?eack⟩
  case decided =>
    intro dt lane code queue pan node f s t hframe hturn hdecide
    have hruled (v : State) (h : ruled f t = v) : exec (.decision dt lane) s = .next (after dt s v) :=
      exec_next_of_eq (exec_decision_turn hframe hturn) h
    exact ⟨fun hours => hruled _ (by unfold ruled; rw [hdecide]; dsimp only; rw [hours]),
      fun htheirs => hruled _ (by unfold ruled; rw [hdecide]; dsimp only; rw [htheirs]),
      fun hnobodys => hruled _ (by unfold ruled; rw [hdecide]; dsimp only; rw [hnobodys])⟩
  case dropped =>
    intro dt lane f s t hframe hturn hdrop
    exact exec_next_of_eq (exec_decision_turn hframe hturn) (by unfold ruled; rw [hdrop])
  case cutOff =>
    intro dt d s t u hnext hpassed
    exact exec_next_of_eq rfl (by beta_reduce; rw [hnext]; exact if_neg hpassed.not_gt)
  case answered =>
    intro dt lane f m a s t u hframe hack hmhr hanswers
    have hends := exec_ackMatch_answer hframe hack hmhr hanswers
    exact ⟨fun hplain => exec_next_of_eq hends (by rw [ackHeard_plain _ hplain]),
      fun i hnode hsecured => exec_next_of_eq hends (by rw [ackHeard_secured _ hnode hsecured]; rfl)⟩
  case unanswered =>
    exact fun dt lane f m s hframe hack hmhr hnone => exec_ackMatch_unanswered hframe hack hmhr hnone
  case unacked =>
    intro dt start stop a s t hover hphase
    exact exec_next_of_eq rfl (by beta_reduce; rw [hover]; dsimp only; rw [hphase])
  case tx =>
    intro dt q space d key os s t c plain hdown hrun hcontext hslot hkwk hkey hleft hready hseal
    exact exec_next_of_eq rfl (secTx_secured hdown hrun hcontext hslot hkwk hkey hleft hready hseal)
  case txNokey =>
    exact fun dt q d s hdown hrun hcontext hslot hkey => exec_next_of_eq rfl (secTx_nokey hdown hrun hcontext hslot hkey)
  case rx =>
    exact fun dt lane i f m s hframe hmhr htype hnode hsecured hfirst =>
      exec_next_of_eq rfl (secRx_known hframe hmhr htype hnode hsecured hfirst)
  case eack =>
    intro dt b n gen a r m s t os put hack hsecure hslot hasked hmhr hcontext
    have hserves : exec (.secRequest dt (.eack b)) s = .next (after dt s (secEack b t)) := exec_next_of_eq rfl rfl
    have hserved := secEack_served hack hsecure hslot hasked hmhr hcontext
    refine ⟨fun hsame husable => ?sealed, fun hmoved => ?changed, fun hsame hunusable => ?unusable⟩
    case sealed =>
      exact exec_next_of_eq hserves (hserved.trans
        ((if_neg (Bool.eq_false_iff.1 hsame)).trans (if_neg (by rw [husable]; decide))))
    case changed => exact exec_next_of_eq hserves (hserved.trans (if_pos hmoved))
    case unusable =>
      exact exec_next_of_eq hserves (hserved.trans ((if_neg (Bool.eq_false_iff.1 hsame)).trans (if_pos hunusable)))

end Sys2Proof.Machine
end

section
/-!
SUPPORT. The statements of 08_security.md: the writes of a page's PGn_CTRL and the completion of its operation, the reservations of
counter blocks, and the alarms of Gorse with their clearing.
-/

namespace Sys2Proof.Machine

/-! ### Writes of PGn_CTRL (R257, R258) -/

section
variable {dt n : Nat} {acc : Access} {finished : Bool} {w : Word} {c : Instr} {s u v : State}

/-- A write of a field leaves the operation of a page under way. -/
@[simp] theorem State.pageRun_set (f : Fld) (x k : Nat) (s : State) : (s.set f x).pageRun k = s.pageRun k := by
  rw [State.pageRun, State.set_sec, State.pageRun]

/-- GO of a page without an operation. -/
theorem pageCtrlWrite_go (hidle : u.pageRun n = none) (hgo : wrote w (PGn_CTRL_GO n) = true)
    (habort : wrote w (PGn_CTRL_ABORT n) = false) (hclear : wrote w (PGn_CTRL_CLEAR n) = false)
    (hv : pageGo acc n (u.set (PGn_CTRL_CLEAR n) 0) = v) :
    pageCtrlWrite acc n finished w u =
      (v.set (PGn_CTRL_ABORT n) 0).set (PGn_CTRL_GO n) (flag (v.pageRun n).isSome) := by
  rw [pageCtrlWrite, hidle, hgo, habort, hclear, ← hv]
  rfl

/-- CLEAR of a page without an operation. -/
theorem pageCtrlWrite_clear (hidle : u.pageRun n = none) (hgo : wrote w (PGn_CTRL_GO n) = false)
    (hclear : wrote w (PGn_CTRL_CLEAR n) = true) (hv : pageClear n u = v) :
    pageCtrlWrite acc n finished w u =
      ((v.set (PGn_CTRL_CLEAR n) 0).set (PGn_CTRL_ABORT n) 0).set (PGn_CTRL_GO n) (flag (v.pageRun n).isSome) := by
  rw [pageCtrlWrite, hidle, hgo, hclear, ← hv, Option.isSome_none, Bool.and_false]
  rfl

/-- ABORT of the operation of a page. -/
theorem pageCtrlWrite_abort {r : PageRun} (hrun : u.pageRun n = some r) (hgo : wrote w (PGn_CTRL_GO n) = false)
    (habort : wrote w (PGn_CTRL_ABORT n) = true) (hclear : wrote w (PGn_CTRL_CLEAR n) = false)
    (hv : pageAbort n finished (u.set (PGn_CTRL_CLEAR n) 0) = v) :
    pageCtrlWrite acc n finished w u = v.set (PGn_CTRL_GO n) (flag (v.pageRun n).isSome) := by
  rw [pageCtrlWrite, hrun, hgo, habort, hclear, ← hv]
  rfl

theorem pageAbort_running {r : PageRun} (hrun : u.pageRun n = some r) :
    pageAbort n finished u =
      if finished then (pageComplete r false false u).set (PGn_STAT_ABORT_LATE n) 1 else pageEnd n pgAborted u := by
  rw [pageAbort, hrun]

/-- A command that writes PGn_CTRL, by the effect of the write that is served. -/
theorem exec_page_served (hc : exec c s = .next (after dt s (pageRow acc n w finished (elapse dt s))))
    (hserve : verdict acc (pageCtrlAddr n) true (elapse dt s) = .serve)
    (hv : pageCtrlWrite acc n finished w (written (pageCtrlAddr n) w (elapse dt s)) = v) :
    exec c s = .next (after dt s v) :=
  exec_next_of_eq hc ((writeRow_serve acc _ _ w _ hserve).trans hv)

end

/-- Settles O14: each write of PGn_CTRL by the branches of GO, CLEAR and ABORT that the hypotheses choose. -/
theorem pageOperationsStartAsWritten : Obligations.PageOperationsStartAsWritten := by
  refine ⟨?go, ?clear, ?abort⟩
  case go =>
    intro dt page acc w s t a u done hserve hidle hgo habort hclear
    have goes {c : Instr} {v : State} (hv : pageGo acc page u = v)
        (hc : exec c s = .next (after dt s (pageRow acc page w false t))) : exec c s = .next (after dt s (done v)) :=
      exec_page_served hc hserve (pageCtrlWrite_go hidle hgo habort hclear hv)
    refine ⟨fun hgood hmay => ?started, fun hgood hdenied => ?denied, fun hbad => ?badarg⟩
    case started =>
      have starts {c : Instr} :=
        goes (c := c) ((if_neg (Bool.eq_false_iff.1 hgood)).trans (if_neg (Bool.eq_false_iff.1 hmay)))
      exact ⟨fun _ => starts rfl, fun _ => starts rfl, fun _ => starts rfl, fun _ => starts rfl, fun _ => starts rfl,
        fun _ => starts rfl, fun _ => starts rfl, fun _ => starts rfl, fun _ => starts rfl⟩
    case denied => exact goes ((if_neg (Bool.eq_false_iff.1 hgood)).trans (if_pos hdenied)) rfl
    case badarg => exact goes (if_pos hbad) rfl
  case clear =>
    intro dt page acc w s t a u z hserve hidle hgo hclear
    have hfree : ¬(u.pageRun page).isSome = true := by rw [hidle]; decide
    exact exec_page_served rfl hserve (pageCtrlWrite_clear hidle hgo hclear (if_neg hfree))
  case abort =>
    intro dt page acc w finished r s t a u v hserve hrun hgo habort hclear
    have hruns : u.pageRun page = some r := (State.pageRun_set _ _ _ _).trans hrun
    exact exec_page_served rfl hserve (pageCtrlWrite_abort hrun hgo habort hclear (pageAbort_running hruns))

/-! ### The completion of a page operation (R255, R257, R258) -/

/-- AES-ECB makes one block of its input and touches neither tag nor slot. -/
theorem pageCompute_ecb {v : State} {n : Nat} (r : PageRun) (input : Octets) (hop : v.get (PGn_OP_OP n) = 3) :
    v.pageCompute n r input = { result := pgDone, out := aes (v.pageKey n) input, tag := none, write := none } := by
  simp only [State.pageCompute, hop]

theorem pageInput_ecb {v : State} {n : Nat} (hop : v.get (PGn_OP_OP n) = 3) : v.pageInput n = 16 := by
  simp only [State.pageInput, hop]

/-- AES-ECB of a page key whose block is read and written ends DONE. -/
theorem pageComplete_ecb {r : PageRun} {input : Octets} {a b s : State} (hslot : r.slot = none)
    (hop : (s.pageView r).get (PGn_OP_OP r.page) = 3)
    (hread : engineRead r.acc ((s.pageView r).pageSrc r.page) 16 s = (some input, a))
    (hout : (aes ((s.pageView r).pageKey r.page) input).isEmpty = false)
    (hwrite : engineWrite r.acc ((s.pageView r).pageDst r.page) (aes ((s.pageView r).pageKey r.page) input)
      (count SEC_CNT_FBOPS ((s.pageView r).pageBlocks r.page) a) = (true, b)) :
    pageComplete r false false s = pageEnd r.page pgDone b := by
  simp only [pageComplete, hslot, pageInput_ecb hop, hread, pageCompute_ecb r input hop, hout, hwrite, Bool.not_true,
    Bool.false_eq_true, OfNat.ofNat_ne_zero, if_false]

/-! ### Writes of SEC_CTRL and of SEC_ALARM (R252, R254) -/

/-- Where RUN is not set, a write of SEC_CTRL does what ZEROISE asks alone. -/
theorem secCtrlWrite_stopped {old w : Word} {u : State} (hwrote : wrote w SEC_CTRL_RUN = false)
    (hstopped : u.is SEC_CTRL_RUN = false) :
    secCtrlWrite old w u =
      (if wrote w SEC_CTRL_ZEROISE then startTask 0x240 (fireSw u) else u).set SEC_CTRL_ZEROISE 0 := by
  simp only [secCtrlWrite, hwrote, hstopped, Bool.false_and, Bool.false_eq_true, if_false]

/-- A source that is not active leaves its bit as the write left it. -/
theorem alarmClear_inactive {old : Word} {katFail : Nat} {u : State} (hbefore : old.toNat % 64 ≠ 0)
    (hleft : u.get ⟨0x20090010, 0, 6⟩ = 0) :
    alarmClear old 0 katFail u =
      modSec (fun g => { g with cleared := true }) (knownAnswerTest katFail (deriveKwk
        (modSec (fun g => { g with live := 0 }) (u.set ⟨0x20090010, 0, 6⟩ 0)))) := by
  have hinactive (k : Nat) : bitAt 0 k = false := by simp [bitAt]
  have hkept (l : List Nat) (v : Nat) :
      l.foldl (fun v k => if bitAt 0 k && bitAt (old.toNat % 64) k then v ||| 2 ^ k else v) v = v := by
    simp [hinactive]
  rw [alarmClear]
  rw [hkept, hleft]
  exact if_pos ⟨hbefore, rfl⟩

/-- Settles O15: each row of the reservations, page completions and alarms by the branch of its command that the hypotheses choose. -/
theorem gorseAlarmsAndReservationsTakeEffect : Obligations.GorseAlarmsAndReservationsTakeEffect := by
  refine ⟨?durable, ?retry, ?done, ?ecb, ?alarm, ?ctrl, ?zeroise, ?rebuilt, ?task, ?clear⟩
  case durable =>
    intro dt r s t u hready
    exact exec_next_of_eq rfl (by beta_reduce; rw [hready])
  case retry => exact fun dt s => exec_next_of_eq rfl rfl
  case done =>
    intro dt fault memErr r s t hnext
    exact exec_next_of_eq rfl (by beta_reduce; rw [hnext])
  case ecb =>
    intro dt r input a b s t n v c hnext hslot hop hread hout hwrite
    exact exec_next_of_eq rfl (by beta_reduce; rw [hnext]; dsimp only; rw [pageComplete_ecb hslot hop hread hout hwrite])
  case alarm =>
    intro dt source live s t u houtside harmed
    have hsw : source ≠ 5 := by omega
    have hfires : ((t.alarms.elem source || decide (source < 4)) &&
        (source == 5 || bitAt (t.get ⟨0x20090018, 0, 6⟩) source)) = true := by
      rw [decide_eq_true houtside, harmed, Bool.or_true, Bool.or_true]; rfl
    exact exec_next_of_eq rfl ((if_pos hfires).trans
      ((if_neg (fun h => hsw h.1)).trans (by rw [alarmFires, if_neg hsw])))
  case ctrl =>
    intro dt acc w s t hserve
    have hwritten := writeRow_serve acc _ t w (secCtrlWrite (t.word 0x20090000) w) hserve
    exact ⟨exec_next_of_eq rfl hwritten, exec_next_of_eq rfl hwritten, exec_next_of_eq rfl hwritten⟩
  case zeroise => exact fun old w u hwrote hstopped => secCtrlWrite_stopped hwrote hstopped
  case rebuilt =>
    intro old w u hzeroise hran hrun hcleared n v
    simp only [secCtrlWrite, hzeroise, hran, hrun, hcleared, Bool.not_true, Bool.and_false, Bool.false_and, Bool.and_self,
      Bool.false_eq_true, if_false, if_true]
    rfl
  case task => exact fun dt s hqueued => exec_next_of_eq rfl (if_pos hqueued)
  case clear =>
    intro dt katFail acc w s t u v hserve hbefore hleft
    exact exec_next_of_eq rfl ((writeRow_serve acc _ t w _ hserve).trans (alarmClear_inactive hbefore hleft))

end Sys2Proof.Machine
end

section
/-!
SUPPORT. The statements of 09_context_store.md and 10_sheaf.md: the lookups, write-backs and quarantine of the context store, its
command channels, and the frames, batches and windows of Sheaf.
-/

namespace Sys2Proof.Machine

/-! ### Lookups, write-backs and quarantine (R265, R268, R269, R271, R275) -/

theorem ctxCtrlWrite_flush {w : Word} (s : State) (hflush : wrote w CTX_CTRL_FLUSH = true) :
    ctxCtrlWrite w s = contextFlush (startTask 0x280 s) := if_pos hflush

/-- Settles O16: each row of the lookups, write-backs and quarantine by the branch of its command that the hypotheses choose. -/
theorem lookupsAndWriteBacksTakeEffect : Obligations.LookupsAndWriteBacksTakeEffect := by
  refine ⟨?lookup, ?due, ?flushWrite, ?flushTask, ?buffered, ?hot, ?quarantine⟩
  case lookup =>
    intro dt lane s t k u hwaits
    have hguard : ¬(!t.lookupWaits lane) = true := by rw [hwaits]; decide
    exact ⟨fun hnone => exec_next_of_eq rfl ((if_neg hguard).trans (if_pos hnone)),
      fun n h hkey hhit => exec_next_of_eq rfl
        ((if_neg hguard).trans ((if_neg (Bool.eq_false_iff.1 hkey)).trans (by rw [hhit]))),
      fun hkey hmiss => exec_next_of_eq rfl
        ((if_neg hguard).trans ((if_neg (Bool.eq_false_iff.1 hkey)).trans (by rw [hmiss])))⟩
  case due => exact fun dt i s hdue => exec_next_of_eq rfl (if_pos hdue)
  case flushWrite =>
    exact fun dt acc w s hserve hflush =>
      exec_next_of_eq rfl ((writeRow_serve acc _ _ w _ hserve).trans (ctxCtrlWrite_flush _ hflush))
  case flushTask => exact fun dt s hqueued => exec_next_of_eq rfl (if_pos hqueued)
  case buffered =>
    intro dt node at_ os ok s t hbuffered
    refine ⟨fun hstored => exec_next_of_eq rfl ?stored, fun hrefused => exec_next_of_eq rfl ?refused⟩
    case stored =>
      dsimp only
      rw [hbuffered]
      exact (if_pos hstored).trans (by simp only [enginePut_cycles, count_cycles]; rfl)
    case refused =>
      dsimp only
      rw [hbuffered]
      exact if_neg (Bool.eq_false_iff.1 hrefused)
  case hot =>
    intro dt node n h ok s t hunbuffered hhot hwriting left
    have hbusy : ¬(!h.writing) = true := by rw [hwriting]; decide
    refine ⟨fun hstored => exec_next_of_eq rfl ?stored, fun hrefused => exec_next_of_eq rfl ?refused⟩
    case stored =>
      dsimp only
      rw [hunbuffered]
      dsimp only
      rw [hhot]
      exact (if_neg hbusy).trans ((if_pos hstored).trans (by simp only [enginePut_cycles, count_cycles]; rfl))
    case refused =>
      dsimp only
      rw [hunbuffered]
      dsimp only
      rw [hhot]
      exact (if_neg hbusy).trans (if_neg (Bool.eq_false_iff.1 hrefused))
  case quarantine =>
    intro dt pan a since rest s t holdest hpassed
    exact exec_next_of_eq rfl (by dsimp only; rw [holdest]; exact if_pos hpassed)

/-! ### The command channels (R282 to R285) -/

section
variable {acc : Access} {ch : Nat} {w : Word} {ecc : Bool} {s : State} (hserve : verdict acc (cmdAddr ch) true s = .serve)
include hserve

/-- A served write of a channel that has a command is ignored and counted. -/
theorem cmdWrite_busy
    (hbusy : State.is { meetDomain (domainOfBlock (blockOf (cmdAddr ch))) s with resp := .ok }
      (chanFld ch CTX_RESA_BUSY) = true) :
    cmdWrite acc ch w ecc s =
      count CTX_CNT_CMDREJ 1 { meetDomain (domainOfBlock (blockOf (cmdAddr ch))) s with resp := .ok } :=
  (access_serve acc _ s (some w) _ hserve).trans (if_pos hbusy)

/-- A served GO of a channel without a command captures the registers. -/
theorem cmdWrite_go
    (hidle : State.is { meetDomain (domainOfBlock (blockOf (cmdAddr ch))) s with resp := .ok }
      (chanFld ch CTX_RESA_BUSY) = false)
    (hgo : wrote w CTX_CMDA_GO = true) :
    cmdWrite acc ch w ecc s = cmdStart ch ecc (written (cmdAddr ch) w s) :=
  (access_serve acc _ s (some w) _ hserve).trans ((if_neg (Bool.eq_false_iff.1 hidle)).trans (if_pos hgo))
end

/-- What the step of a command does whose gate is met and that has no reset under way. -/
theorem cmdStep_judged {c : CtxCmd} {s : State} (hfirst : s.ctx.cmds.find? (fun c => c.result.isNone) = some c)
    (hacked : s.ackedM c.gate = true) (hticket : c.ticket = none) :
    cmdStep s =
      if s.cmdVerdict c ≠ ctxOk then cmdResult c (s.cmdVerdict c) s
      else if s.cmdResets c then
        jnlOffer recIreset c.node (modCmd c.chan (fun x => { x with ticket := some s.jnl.nextTicket }) s)
      else cmdApply c s := by
  rw [cmdStep, hfirst]
  exact (if_neg (by rw [hacked]; decide)).trans (by rw [hticket])

/-- Settles O17: each write of CTX_CMDx by the branches of BUSY and GO, and each step of a command by its verdict. -/
theorem contextCommandsRunAsWritten : Obligations.ContextCommandsRunAsWritten := by
  refine ⟨?go, ?busy, ?done, ?step⟩
  case go =>
    intro dt ch acc w ecc s t a u op hch hserve hgo hidle
    have starts {c : Instr} (hc : exec c s = .next (after dt s (cmdWrite acc (ch % 2) w ecc t))) :
        exec c s = .next (after dt s u) :=
      exec_next_of_eq hc (by rw [Nat.mod_eq_of_lt hch]; exact cmdWrite_go hserve hidle hgo)
    exact ⟨fun _ => starts rfl, fun _ => starts rfl, fun _ => starts rfl, fun _ => starts rfl, fun _ => starts rfl,
      fun _ => starts rfl, fun _ => starts rfl, fun _ => starts rfl, fun _ => starts rfl, fun _ => starts rfl,
      fun _ => starts rfl⟩
  case busy =>
    intro dt ch acc w ecc s t a u hch hserve hbusy
    exact exec_next_of_eq rfl (by rw [Nat.mod_eq_of_lt hch]; exact cmdWrite_busy hserve hbusy)
  case done =>
    intro dt r c s t hfirst hresult
    exact exec_next_of_eq rfl (by dsimp only; rw [hfirst]; dsimp only; rw [hresult]; rfl)
  case step =>
    intro c s hfirst hacked hticket
    have hjudged := cmdStep_judged hfirst hacked hticket
    exact ⟨fun hbad => hjudged.trans (if_pos hbad),
      fun hok hplain => hjudged.trans ((if_neg (not_not.2 hok)).trans (if_neg (Bool.eq_false_iff.1 hplain))),
      fun hok hresets => hjudged.trans ((if_neg (not_not.2 hok)).trans (if_pos hresets))⟩

/-! ### Frames, batches and windows of Sheaf (R290, R297, R305, R312, R313) -/

section
variable {err : Bool} {lost : Bool × Bool} {f : ShfFrame} {s u : State} (hhead : s.shf.input.head? = some f)
  (hfree : s.shf.rawWait = none)
include hhead hfree

/-- A frame at the head that a flow takes, or that is discarded, is done. -/
theorem processFrame_flow (hroute : routeFrame f err lost (count SHF_CNT_IN 1 s) = (none, u)) :
    processFrame err lost s = frameDone f u := by
  rw [processFrame, hhead, hfree]
  dsimp only
  rw [hroute]

/-- A frame at the head that goes to a raw queue is written there, or waits where the queue is full. -/
theorem processFrame_raw {q : Nat} (hroute : routeFrame f err lost (count SHF_CNT_IN 1 s) = (some q, u)) :
    processFrame err lost s =
      if u.qFull (48 + q) then modShf (fun h => { h with rawWait := some (48 + q) }) u
      else frameDone f (writeRaw f (48 + q) u) := by
  rw [processFrame, hhead, hfree]
  dsimp only
  rw [hroute]
end

theorem windowDue_of_next {stop : Nat} {s : State} (hnext : s.nextWindow = some stop) (hruns : s.shadowSheaf = false)
    (hpassed : stop + ticksPerSecond / 5 ≤ s.ts) : s.windowDue = some stop := by
  simp [State.windowDue, hnext, hruns, hpassed]

theorem shfCtrlWrite_flush {w : Word} (s : State) (hflush : wrote w SHF_CTRL_FLUSH = true) :
    shfCtrlWrite w s = sheafFlush (startTask 0x3C0 s) := if_pos hflush

theorem writeWaiting_room {cls bseq : Nat} {os : Octets} {flushed : Bool} {s : State}
    (hwaiting : (s.batchClass cls).waiting = some (os, bseq, flushed)) (hroom : s.qFull (32 + cls) = false) :
    writeWaiting cls s = writeBatch cls bseq os (setClass cls { s.batchClass cls with waiting := none } s) := by
  rw [writeWaiting, hwaiting]
  exact if_neg (Bool.eq_false_iff.1 hroom)

theorem writeWaitingRaw_room {q : Nat} {f : ShfFrame} {s : State} (hwaits : s.shf.rawWait = some q)
    (hhead : s.shf.input.head? = some f) (hroom : s.qFull q = false) :
    writeWaitingRaw s = frameDone f (writeRaw f q s) := by
  rw [writeWaitingRaw, hwaits, hhead]
  exact if_neg (Bool.eq_false_iff.1 hroom)

/-- Settles O18: each row of Sheaf by the branch of its command that the hypotheses choose. -/
theorem sheafProcessesFramesAndBatches : Obligations.SheafProcessesFramesAndBatches := by
  refine ⟨?process, ?rawRoom, ?age, ?flushWrite, ?flushTask, ?flushDone, ?window, ?waiting, ?rebuild⟩
  case process =>
    intro dt err lost f raw u s t hruns hhead hfree hroute
    have htakes : exec (.sheafProcess dt err lost) s = .next (after dt s (processFrame err lost t)) :=
      exec_next_of_eq rfl (if_neg (Bool.eq_false_iff.1 hruns))
    refine ⟨fun hflow => ?flow, fun q hraw hroom => ?room, fun q hraw hfull => ?full⟩
    case flow => subst hflow; exact exec_next_of_eq htakes (processFrame_flow hhead hfree hroute)
    case room =>
      subst hraw
      exact exec_next_of_eq htakes ((processFrame_raw hhead hfree hroute).trans (if_neg (Bool.eq_false_iff.1 hroom)))
    case full => subst hraw; exact exec_next_of_eq htakes ((processFrame_raw hhead hfree hroute).trans (if_pos hfull))
  case rawRoom => exact fun dt q f s hwaits hhead hroom => exec_next_of_eq rfl (writeWaitingRaw_room hwaits hhead hroom)
  case age =>
    intro dt cls s t b hruns hcls hdue
    have hguard : ¬(t.shadowSheaf = true ∨ 16 ≤ cls ∨ decide (b.firstAt + b.wait * 320000 ≤ t.ts) = false) := by
      simp [hruns, hcls, hdue]
    exact exec_next_of_eq rfl (if_neg hguard)
  case flushWrite =>
    exact fun dt acc w s hserve hflush =>
      exec_next_of_eq rfl ((writeRow_serve acc _ _ w _ hserve).trans (shfCtrlWrite_flush _ hflush))
  case flushTask => exact fun dt s hqueued => exec_next_of_eq rfl (if_pos hqueued)
  case flushDone =>
    intro dt s t hflushing hnone
    exact exec_next_of_eq rfl (if_pos (by rw [hflushing, hnone]; rfl))
  case window =>
    intro dt stop s t hnext hruns hpassed
    exact exec_next_of_eq rfl (by dsimp only; rw [windowDue_of_next hnext hruns hpassed])
  case waiting =>
    exact fun dt cls bseq os flushed s hcls hwaiting hroom =>
      exec_next_of_eq rfl ((if_pos hcls).trans (writeWaiting_room hwaiting hroom))
  case rebuild =>
    intro dt badHeader bad s t r hmode hjournal hdram htable
    exact exec_next_of_eq rfl (if_pos (by rw [hmode, hjournal, hdram, htable]; rfl))

end Sys2Proof.Machine
end

section
/-!
SUPPORT. The statement about the field codes of 10_sheaf.md: the difference of EXACT, the step of BOUNDED and what is reconstructed.
-/

namespace Sys2Proof.Machine

/-! ### The difference of EXACT (R302) -/

theorem fieldBytes_pos (f : Nat) : 0 < fieldBytes f := Nat.two_pow_pos _

theorem natCast_twos (width : Nat) (z : Int) : (twos width z : Int) = z % ((2 ^ width : Nat) : Int) :=
  Int.toNat_of_nonneg (Int.emod_nonneg _ (mod_cast (Nat.two_pow_pos width).ne'))

/-- Reading the two's complement code of an integer as signed is the library's balanced remainder. -/
theorem signed_twos {width : Nat} (hwidth : 0 < width) (z : Int) : signed width (twos width z) = z.bmod (2 ^ width) := by
  obtain ⟨n, rfl⟩ := Nat.exists_eq_succ_of_ne_zero hwidth.ne'
  have hcode : ((twos (n + 1) z % 2 ^ (n + 1) : Nat) : Int) = z % ((2 ^ (n + 1) : Nat) : Int) := by
    rw [Int.natCast_emod, natCast_twos, Int.emod_emod]
  have hhalf : 2 ^ (n + 1) = 2 * 2 ^ n := Nat.pow_succ'
  have hlow : twos (n + 1) z % 2 ^ (n + 1) < 2 ^ n ↔
      z % ((2 ^ (n + 1) : Nat) : Int) < (((2 ^ (n + 1) : Nat) : Int) + 1) / 2 := by omega
  simp only [signed, Nat.succ_eq_add_one, Nat.add_sub_cancel, Int.bmod_def, hlow, hcode]

theorem bmod_two_pow_range {width : Nat} (hwidth : 0 < width) (z : Int) :
    -(2 ^ (width - 1) : Int) ≤ z.bmod (2 ^ width) ∧ z.bmod (2 ^ width) < 2 ^ (width - 1) := by
  have hhalf : ((2 ^ width : Nat) : Int) = 2 * 2 ^ (width - 1) :=
    mod_cast (Nat.two_pow_pred_mul_two hwidth).symm.trans (Nat.mul_comm ..)
  have hlow := Int.le_bmod (x := z) (Nat.two_pow_pos width)
  have hhigh := Int.bmod_lt (x := z) (Nat.two_pow_pos width)
  omega

theorem codeField_exact {r : Octets} (hmode : ruleMode r = modeExact) (j : Nat) (x xr : Int) (st : Nat) :
    let w := fieldBytes (ruleField r j)
    let c := riceCode w st (zigzag ((x - xr).bmod (2 ^ (8 * w)))) x
    codeField r j x xr st = (c.1, x, c.2.1, c.2.2) := by
  intro w c
  have hwidth : 0 < 8 * w := Nat.mul_pos (by decide) (fieldBytes_pos _)
  exact (if_pos hmode).trans (by rw [signed_twos hwidth])

/-! ### The step and the reconstruction of BOUNDED (R303) -/

theorem sub_step_within {eps : Int} (heps : 0 ≤ eps) (v : Int) :
    v - (v + eps) / (2 * eps + 1) * (2 * eps + 1) ≤ eps ∧ (v + eps) / (2 * eps + 1) * (2 * eps + 1) - v ≤ eps := by
  have hpos : 0 < 2 * eps + 1 := by omega
  have hsplit := Int.ediv_mul_add_emod (v + eps) (2 * eps + 1)
  have hlow := Int.emod_nonneg (v + eps) hpos.ne'
  have hhigh := Int.emod_lt_of_pos (v + eps) hpos
  omega

theorem codeField_bounded {r : Octets} (hmode : ruleMode r ≠ modeExact) (j : Nat) (x xr : Int) (st : Nat) :
    let q : Int := 2 * (ruleEps r j : Nat) + 1
    let i := (x - xr + (ruleEps r j : Nat)) / q
    let c := riceCode (fieldBytes (ruleField r j)) st (zigzag i) x
    codeField r j x xr st = (c.1, if c.2.2 then x else xr + i * q, c.2.1, c.2.2) := by
  intro q i c
  have hfloor : (x - xr + (ruleEps r j : Nat)).fdiv q = i := Int.fdiv_eq_ediv_of_nonneg _ (by omega)
  exact (if_neg hmode).trans (by rw [hfloor])

/-- Settles O58: in EXACT the difference is the balanced remainder of the samples' difference; in BOUNDED the rounding of the step
leaves a remainder within eps, and an escape leaves none. -/
theorem fieldsAreCodedWithinTheirBound : Obligations.FieldsAreCodedWithinTheirBound := by
  intro r j st x xr w c eps q i
  refine ⟨fun hmode => ?exact, fun hmode => ?bounded⟩
  case exact =>
    have hcode : c = _ := codeField_exact hmode j x xr st
    have hwidth : 0 < 8 * w := Nat.mul_pos (by decide) (fieldBytes_pos _)
    obtain ⟨hlow, hhigh⟩ := bmod_two_pow_range hwidth (x - xr)
    rw [hcode]
    exact ⟨rfl, (x - xr).bmod (2 ^ (8 * w)), hlow, hhigh,
      Int.emod_eq_zero_of_dvd (mod_cast Int.dvd_self_sub_bmod (x := x - xr) (m := 2 ^ (8 * w))), rfl⟩
  case bounded =>
    have hcode : c = _ := codeField_bounded hmode j x xr st
    have heps : 0 ≤ eps := Int.natCast_nonneg _
    have hwithin : x - xr - i * q ≤ eps ∧ i * q - (x - xr) ≤ eps := sub_step_within heps (x - xr)
    cases hescape : (riceCode w st (zigzag i) x).2.2 with
    | true =>
      have hexact : c = ((riceCode w st (zigzag i) x).1, x, (riceCode w st (zigzag i) x).2.1, true) := by
        rw [hcode, hescape]; rfl
      rw [hexact]
      refine ⟨rfl, ?_, ?_, fun _ => rfl, nofun, fun _ => rfl⟩ <;> simpa using heps
    | false =>
      have hstepped : c = ((riceCode w st (zigzag i) x).1, xr + i * q, (riceCode w st (zigzag i) x).2.1, false) := by
        rw [hcode, hescape]; rfl
      rw [hstepped]
      refine ⟨rfl, ?_, ?_, nofun, fun _ => rfl, fun hzero => ?_⟩ <;> dsimp only <;> omega

end Sys2Proof.Machine
end

section
/-!
SUPPORT. The statements of 14_dram.md on places and memories and of 20_application_complex.md and 21_pins_electrical.md: the gateways,
claims and timers of the harts, the places of DRAM and the memories, the application SRAM and the test access port.
-/

namespace Sys2Proof.Machine

/-! ### The gateways (R558) -/

/-- Once the gateways have settled, every raised source has its ID pending or claimed. -/
theorem settle_gatewaysFollow (s : State) : (settle s).gatewaysFollow := by
  intro k hk hraised
  cases hclaimed : s.idClaimed (k + 1) with
  | true => exact .inl hclaimed
  | false =>
    exact .inr ((mem_settle_pendingIds s (k + 1)).2 ⟨k.succ_pos, by omega, .inr ⟨k, hk, hraised, hclaimed, rfl⟩⟩)

/-- The gateways make only IDs from 1 to 128 pending. -/
theorem settle_idsExist (s : State) : (settle s).idsExist := by
  intro i hi
  obtain ⟨hpos, hlt, -⟩ := (mem_settle_pendingIds s i).1 hi
  exact ⟨hpos, by omega⟩

/-- Settles O51: a command ends in `after`, which settles the gateways and whose queue, variant and instant none of them reads. -/
theorem stepKeepsTheGateways : Obligations.StepKeepsTheGateways := by
  intro s t hfollow hexist hstep
  rcases step_cases s with ⟨-, hidle⟩ | ⟨c, rest, dt, u, -, hnext⟩
  · obtain rfl : s = t := Host.Outcome.next.inj (hidle.symm.trans hstep)
    exact ⟨hfollow, hexist⟩
  · obtain rfl : after dt { s with pending := rest } u = t := Host.Outcome.next.inj (hnext.symm.trans hstep)
    exact ⟨settle_gatewaysFollow u, settle_idsExist u⟩

theorem reset_raises_nothing : ∀ k < 128, State.reset.sourceRaised k = false := by decide +kernel

/-- Settles O52: after reset no source is raised, nothing is pending and every memory is blank. -/
theorem resetHasTheGateways : Obligations.ResetHasTheGateways :=
  ⟨fun k hk hraised => absurd hraised (by rw [reset_raises_nothing k hk]; decide),
    fun _ hi => absurd hi List.not_mem_nil, by decide⟩

/-! ### The ID a claim gives (R558) -/

/-- A claim gives `b` no later than `i`: a higher priority, or the same and no higher number. -/
def State.claimsFirst (s : State) (b i : Nat) : Prop :=
  s.plicPriority i < s.plicPriority b ∨ (s.plicPriority i = s.plicPriority b ∧ b ≤ i)

/-- The better of the best ID so far, 0 while there is none, and the next one. -/
def State.claimStep (s : State) (b i : Nat) : Nat :=
  if b = 0 ∨ s.plicPriority b < s.plicPriority i ∨ (s.plicPriority b = s.plicPriority i ∧ i < b) then i else b

theorem plicBest_eq (s : State) (ctx : Nat) : s.plicBest ctx = (s.plicReady ctx).foldl s.claimStep 0 := rfl

theorem State.claimsFirst.trans {s : State} {a b c : Nat} (hab : s.claimsFirst a b) (hbc : s.claimsFirst b c) :
    s.claimsFirst a c := by
  unfold State.claimsFirst at *; omega

theorem State.claimsFirst_refl (s : State) (i : Nat) : s.claimsFirst i i := .inr ⟨rfl, le_rfl⟩

theorem claimStep_first (s : State) (b i : Nat) :
    (s.claimStep b i = i ∧ (b ≠ 0 → s.claimsFirst i b)) ∨ (s.claimStep b i = b ∧ b ≠ 0 ∧ s.claimsFirst b i) := by
  unfold State.claimStep State.claimsFirst
  split <;> omega

/-- The best of a list and a start that is 0 or an ID: one of them, and before every other. -/
theorem foldl_claimStep_first (s : State) (l : List Nat) (b : Nat) (hpos : ∀ i ∈ l, 0 < i) :
    (l.foldl s.claimStep b = b ∨ l.foldl s.claimStep b ∈ l) ∧
      (b ≠ 0 → s.claimsFirst (l.foldl s.claimStep b) b) ∧ ∀ i ∈ l, s.claimsFirst (l.foldl s.claimStep b) i := by
  induction l generalizing b with
  | nil => exact ⟨.inl rfl, fun _ => s.claimsFirst_refl b, fun i hi => absurd hi List.not_mem_nil⟩
  | cons i l ih =>
    obtain ⟨hi, hl⟩ := List.forall_mem_cons.1 hpos
    obtain ⟨hmem, hfirst, hrest⟩ := ih (s.claimStep b i) hl
    simp only [List.foldl_cons, List.mem_cons, forall_eq_or_imp]
    rcases claimStep_first s b i with ⟨hstep, hbetter⟩ | ⟨hstep, hb, hbetter⟩ <;> rw [hstep] at hmem hfirst hrest ⊢
    · have hnext := hfirst hi.ne'
      exact ⟨.inr hmem, fun hb => hnext.trans (hbetter hb), hnext, hrest⟩
    · exact ⟨hmem.imp_right .inr, hfirst, (hfirst hb).trans hbetter, hrest⟩

/-- A fold over IDs that comes to 0 started at 0 and met none. -/
theorem foldl_claimStep_zero (s : State) (l : List Nat) (b : Nat) (hpos : ∀ i ∈ l, 0 < i)
    (hzero : l.foldl s.claimStep b = 0) : l = [] ∧ b = 0 := by
  induction l generalizing b with
  | nil => exact ⟨rfl, hzero⟩
  | cons i l ih =>
    obtain ⟨hi, hl⟩ := List.forall_mem_cons.1 hpos
    obtain ⟨-, hstep⟩ := ih (s.claimStep b i) hl hzero
    rcases claimStep_first s b i with ⟨heq, -⟩ | ⟨heq, hb, -⟩ <;> omega

theorem mem_plicReady (s : State) (ctx i : Nat) :
    i ∈ s.plicReady ctx ↔ i ∈ s.app.pendingIds ∧ s.plicEnabled ctx i = true ∧ s.plicThreshold ctx < s.plicPriority i := by
  simp [State.plicReady]

/-- Settles O56: the fold of `plicBest` keeps the first in the order of claims, and no ID is 0. -/
theorem claimTakesTheBest : Obligations.ClaimTakesTheBest := by
  intro s ctx hexist ready
  have hpos : ∀ i ∈ s.plicReady ctx, 0 < i := fun i hi => (hexist i ((mem_plicReady s ctx i).1 hi).1).1
  obtain ⟨hmem, -, hfirst⟩ := foldl_claimStep_first s (s.plicReady ctx) 0 hpos
  rw [← plicBest_eq] at hmem hfirst
  refine ⟨⟨fun hzero i hi => ?_, fun hnone => ?_⟩, fun hsome => ?_⟩
  · have hempty := (foldl_claimStep_zero s (s.plicReady ctx) 0 hpos (plicBest_eq s ctx ▸ hzero)).1
    exact List.not_mem_nil (hempty ▸ (mem_plicReady s ctx i).2 hi)
  · rcases hmem with hzero | hin
    · exact hzero
    · exact absurd ((mem_plicReady s ctx _).1 hin) (hnone _)
  · rcases hmem with hzero | hin
    · exact absurd hzero hsome
    · exact ⟨(mem_plicReady s ctx _).1 hin, fun i hi => hfirst i ((mem_plicReady s ctx i).2 hi)⟩

/-! ### Claims, timers and software interrupts (R548, R558, R560) -/

theorem mayUseContext_of {acc : Access} {ctx : Nat} (h : ctx = 2 → acc.init = 4) : mayUseContext acc ctx = true := by
  by_cases hctx : ctx = 2 <;> simp [mayUseContext, hctx, h, initLapwing]

/-- A change that keeps the idle times of the cores' domains changes nothing but when these were last used. -/
theorem keepPending_uses (f : State → State) (x : State) :
    ∃ uses : List (Nat × Nat), keepPending f x = modPwr (fun p => { p with lastUse := uses }) (f x) := by
  have hone (b : Bool) (d : Nat) (t : State) :
      ∃ uses : List (Nat × Nat), onlyIf b (useDomain d) t = modPwr (fun p => { p with lastUse := uses }) t := by
    cases b with
    | false => exact ⟨t.pwr.lastUse, rfl⟩
    | true => exact ⟨_, rfl⟩
  obtain ⟨u0, h0⟩ := hone (x.hartPending 0 && !(f x).hartPending 0) 8 (f x)
  obtain ⟨u1, h1⟩ := hone (x.hartPending 1 && !(modPwr (fun p => { p with lastUse := u0 }) (f x)).hartPending 1) 9
    (modPwr (fun p => { p with lastUse := u0 }) (f x))
  refine ⟨u1, ?_⟩
  simp only [keepPending, forEach_cons, forEach_nil, Nat.add_zero, h0, Nat.reduceAdd, h1]
  rfl

theorem plicClaim_none {s : State} {ctx : Nat} (h : s.plicBest ctx = 0) : plicClaim ctx s = answerWord 0 s := by
  simp only [plicClaim, h, if_true]
  rfl

theorem plicClaim_best {s : State} {ctx : Nat} (h : s.plicBest ctx ≠ 0) :
    plicClaim ctx s = answerWord (BitVec.ofNat 32 (s.plicBest ctx))
      (keepPending (fun x => { x with app := { x.app with
        pendingIds := x.app.pendingIds.filter (fun i => i != s.plicBest ctx),
        claimed := x.app.claimed ++ [(s.plicBest ctx, ctx)] } }) s) := by
  simp only [plicClaim, if_neg h]

/-- Settles O40: each row of the interrupt controller and the timers by the branch of its command that the hypotheses choose. -/
theorem interruptsAreClaimedAndTimed : Obligations.InterruptsAreClaimedAndTimed := by
  refine ⟨?claim, keepPending_uses, ?complete, ?compare, ?task, ?swirq, ?mtip⟩
  case claim =>
    intro dt ctx acc s t hbytes hctx huser
    have hform : ¬(acc.bytes ≠ 4 ∨ 3 ≤ ctx) := by omega
    have hclaims : exec (.plicClaim dt acc ctx) s = .next (after dt s (plicClaim ctx t)) :=
      exec_next_of_eq rfl ((if_neg hform).trans (if_pos (mayUseContext_of huser)))
    exact ⟨fun hnone => exec_next_of_eq hclaims (plicClaim_none hnone),
      fun hbest => exec_next_of_eq hclaims (plicClaim_best hbest)⟩
  case complete =>
    intro dt ctx acc w s t hbytes hctx huser
    have hform : ¬(acc.bytes ≠ 4 ∨ 3 ≤ ctx) := by omega
    exact exec_next_of_eq rfl ((if_neg hform).trans (if_pos (mayUseContext_of huser)))
  case compare =>
    intro dt core acc w s t u v h hcore hserve
    exact exec_next_of_eq rfl ((if_pos hcore).trans (writeRow_serve acc _ t w _ hserve))
  case task =>
    intro dt k s t hk hqueued
    exact exec_next_of_eq rfl (if_pos (by rw [hqueued, decide_eq_true hk]; rfl))
  case swirq =>
    intro dt k acc w s t u hserve
    exact exec_next_of_eq rfl (writeRow_serve acc _ t w _ hserve)
  case mtip =>
    intro dt core s t u hcore hreached
    exact
      ⟨fun hlocked => exec_next_of_eq rfl ((if_pos ⟨hcore, hreached⟩).trans (if_pos hlocked)),
        fun hopen => exec_next_of_eq rfl ((if_pos ⟨hcore, hreached⟩).trans (if_neg (Bool.eq_false_iff.1 hopen)))⟩

/-! ### The application SRAM (R547, R556) -/

section
variable {acc : Access} {a d : Nat} {op : SramOp} {ecc : SramEcc} {s t : State}

/-- An access to a bank that serves it comes to its word. -/
theorem sramAccess_served (hform : sramForm acc a op = true)
    (hadmits : targetAdmits (.sram (a - 0x10000000)) acc (sramWrites op) t.mode = true)
    (hwall : t.firewall acc (sramWrites op) a acc.bytes = none)
    (hopen : t.domainLocked (10 + (a - 0x10000000) / 0x40000) = false)
    (hon : t.domainReady (10 + (a - 0x10000000) / 0x40000) = true) :
    sramAccess acc a op ecc t =
      sramCoded acc (a - 0x10000000) op ecc (meetDomain (10 + (a - 0x10000000) / 0x40000) t) := by
  simp only [sramAccess, hform, hadmits, hwall, hopen, hon, Bool.not_true, Bool.or_self, Bool.false_eq_true, if_false, if_true]

/-- An access within the window is one of the SRAM. -/
theorem exec_sram {dt : Nat} (hlow : 0x10000000 ≤ a) (hhigh : a < 0x10200000) :
    exec (.appSramAccess dt acc a op ecc) s = .next (after dt s (sramAccess acc a op ecc (elapse dt s))) :=
  exec_next_of_eq rfl (if_pos ⟨hlow, hhigh⟩)

theorem sramCoded_unread (o : Nat) (h : sramReads op acc = false) : sramCoded acc o op ecc t = sramServe acc o op t := by
  simp [sramCoded, h]

theorem sramCoded_clean (o : Nat) : sramCoded acc o op .clean t = sramServe acc o op t := by
  cases h : sramReads op acc <;> simp [sramCoded, h]

theorem sramCoded_double (o : Nat) (h : sramReads op acc = true) :
    sramCoded acc o op .double t = errorResponse (logDouble (o / 4) t) := by
  simp [sramCoded, h]

end

theorem sram_base_add {a : Nat} (h : 0x10000000 ≤ a) : 0x10000000 + (a - 0x10000000) = a := by omega

/-- Settles O41: each operation on a bank that serves it, by what the code finds. -/
theorem theApplicationSramServesItsOperations : Obligations.TheApplicationSramServesItsOperations := by
  intro dt a acc s t d u old h hlow hhigh hopen hon
  have hbase := sram_base_add hlow
  have serves {op : SramOp} {ecc : SramEcc} {v : State} (hform : sramForm acc a op = true)
      (hadmits : targetAdmits (.sram (a - 0x10000000)) acc (sramWrites op) t.mode = true)
      (hwall : t.firewall acc (sramWrites op) a acc.bytes = none)
      (hv : sramCoded acc (a - 0x10000000) op ecc u = v) :
      exec (.appSramAccess dt acc a op ecc) s = .next (after dt s v) :=
    exec_next_of_eq (exec_sram hlow hhigh) ((sramAccess_served hform hadmits hwall hopen hon).trans hv)
  refine ⟨?read, ?write, ?reserve, ?conditional, ?atomic⟩
  case read =>
    intro ecc hform hadmits hwall
    refine ⟨?clean, ?double⟩
    case clean => rintro rfl; exact serves hform hadmits hwall (sramCoded_clean _)
    case double => rintro rfl; exact serves hform hadmits hwall (sramCoded_double _ rfl)
  case write =>
    intro v hform hbytes hadmits hwall
    exact serves hform hadmits hwall ((sramCoded_clean _).trans (by simp only [sramServe, hbase, hbytes]))
  case reserve =>
    intro hform hadmits hwall
    exact serves hform hadmits hwall ((sramCoded_clean _).trans (by simp only [sramServe, hbase]; rfl))
  case conditional =>
    intro v ecc hform hadmits hwall
    have hcoded : sramCoded acc (a - 0x10000000) (.sc v) ecc u = sramServe acc (a - 0x10000000) (.sc v) u :=
      sramCoded_unread _ rfl
    refine ⟨fun hheld => ?stores, fun hlost => ?fails⟩
    case stores =>
      exact serves hform hadmits hwall (hcoded.trans (by simp only [sramServe, hbase]; exact if_pos hheld))
    case fails =>
      exact serves hform hadmits hwall (hcoded.trans (by simp only [sramServe, hbase]; exact if_neg hlost))
  case atomic =>
    intro f v hform hadmits hwall
    exact serves hform hadmits hwall ((sramCoded_clean _).trans (by simp only [sramServe, hbase]; rfl))

/-! ### The test access port (R561, R586, R587) -/

/-- An opcode of no other instruction selects BYPASS. -/
theorem irOf_unlisted {n : Nat} (h : n ≠ 0x00 ∧ n ≠ 0x02 ∧ n ≠ 0x03 ∧ n ≠ 0x04 ∧ n ≠ 0x10 ∧ n ≠ 0x11) : irOf n = 0x1F :=
  if_neg (by simp only [irExtest, irSample, irClamp, irHighz, irDtmcs, irDmi]; omega)

section
variable {op addr : Nat} {data : Word} {s : State} (hfree : s.tap.dmiOp ≠ 2)
include hfree

theorem dmiAccess_closed (hclosed : s.debugModuleOpen = false) :
    dmiAccess op addr data s = modTap (fun t => { t with dmiOp := 2 }) s := by
  simp only [dmiAccess, if_neg hfree, hclosed, Bool.not_false, if_true]

variable (hopen : s.debugModuleOpen = true)
include hopen

theorem dmiAccess_read (hop : op % 4 = 1) : dmiAccess op addr data s = dmiRead addr (sbSettle s) := by
  simp only [dmiAccess, if_neg hfree, hopen, hop, Bool.not_true, Bool.false_eq_true, if_false]

theorem dmiAccess_write (hop : op % 4 = 2) : dmiAccess op addr data s = dmiWrite addr data (sbSettle s) := by
  simp only [dmiAccess, if_neg hfree, hopen, hop, Bool.not_true, Bool.false_eq_true, if_false]

theorem dmiAccess_other (h1 : op % 4 ≠ 1) (h2 : op % 4 ≠ 2) : dmiAccess op addr data s = sbSettle s := by
  have hop : op % 4 = 0 ∨ op % 4 = 3 := by omega
  rcases hop with hop | hop <;>
    simp only [dmiAccess, if_neg hfree, hopen, hop, Bool.not_true, Bool.false_eq_true, if_false]

end

/-- Settles O42: each scan by its instruction, each DMI access by the branch that the hypotheses choose. -/
theorem theTapScansTheSelectedRegister : Obligations.TheTapScansTheSelectedRegister := by
  refine ⟨?boundary, ?bypass, ?dtmcs, ?dmi⟩
  case boundary => exact fun dt capture tdi s => ⟨exec_next_of_eq rfl rfl, exec_next_of_eq rfl rfl⟩
  case bypass =>
    intro dt opcode tdi s t
    refine ⟨exec_next_of_eq rfl rfl, exec_next_of_eq rfl rfl, fun hbits h0 h2 h3 h4 h10 h11 => ?_⟩
    exact exec_next_of_eq rfl (by
      beta_reduce
      rw [Nat.mod_eq_of_lt hbits, irOf_unlisted ⟨h0, h2, h3, h4, h10, h11⟩]
      rfl)
  case dtmcs =>
    intro dt w s t u v
    refine ⟨fun h16 h17 => exec_next_of_eq rfl (if_neg ?_), fun hclears => exec_next_of_eq rfl (if_pos ?_)⟩
    · rw [h16, h17]; decide
    · exact Bool.or_eq_true_iff.2 hclears
  case dmi =>
    intro dt op addr data s t u
    exact
      ⟨fun hkept => exec_next_of_eq rfl (if_pos hkept),
        fun hfree hclosed => exec_next_of_eq rfl (dmiAccess_closed (s := u) hfree hclosed),
        fun hfree hopen =>
          ⟨fun h1 => exec_next_of_eq rfl (dmiAccess_read (s := u) hfree hopen h1),
            fun h2 => exec_next_of_eq rfl (dmiAccess_write (s := u) hfree hopen h2),
            fun h1 h2 => exec_next_of_eq rfl (dmiAccess_other (s := u) hfree hopen h1 h2)⟩⟩

end Sys2Proof.Machine
end

section
/-!
SUPPORT. The statements of 14_dram.md on places and on writes by a 40-bit address.
-/

namespace Sys2Proof.Machine

/-! ### Where an offset lies (R401) -/

theorem dramRows_cases (s : State) : s.dramRows = 65536 ∨ s.dramRows = 131072 := by
  unfold State.dramRows; split <;> simp

theorem dramRows_pos (s : State) : 0 < s.dramRows := by rcases dramRows_cases s with h | h <;> omega

/-- The visible offsets are the blocks of all ranks: 112 blocks a row. -/
theorem visible_eq (s : State) : s.visible = 256 * (112 * s.dramRows * s.dramRanks) := by
  unfold State.visible State.dramRows State.dramRanks
  cases s.is DMC_CFG_DENSITY <;> cases s.is DMC_CFG_RANKS <;> rfl

theorem dramPlace_slot (s : State) (o : Nat) :
    (s.dramPlace o).slot = if s.get DMC_CFG_ORDER = 1 then o / 256 % 14 else o / 256 / 8 % 14 := rfl

/-- The bank of a block in a row, by the order. -/
theorem dramPlace_bank (s : State) (o : Nat) :
    (s.dramPlace o).bank =
      if s.get DMC_CFG_ORDER = 1 then o / 256 / 14 % 8
      else if s.get DMC_CFG_ORDER = 2 then (o / 256 % 8) ^^^ ((s.dramPlace o).row % 8) else o / 256 % 8 := by
  simp only [State.dramPlace]
  split
  case h_1 h => rw [if_pos h]
  case h_2 h => rw [if_neg (by rw [h]; decide), if_pos h]
  case h_3 h1 h2 => rw [if_neg h1, if_neg h2]

theorem xor_lt_eight {a b : Nat} (ha : a < 8) (hb : b < 8) : a ^^^ b < 8 := Nat.xor_lt_two_pow (n := 3) ha hb

/-- The slot and the bank of a block decide it within its row. -/
theorem block_of_place {s : State} {o p : Nat} (h : s.dramPlace p = s.dramPlace o) :
    p / 256 % 112 = o / 256 % 112 := by
  have hslot : (s.dramPlace p).slot = (s.dramPlace o).slot := congrArg DramPlace.slot h
  have hbank : (s.dramPlace p).bank = (s.dramPlace o).bank := congrArg DramPlace.bank h
  have hrow : (s.dramPlace p).row = (s.dramPlace o).row := congrArg DramPlace.row h
  rw [dramPlace_slot, dramPlace_slot] at hslot
  rw [dramPlace_bank, dramPlace_bank, hrow] at hbank
  by_cases h1 : s.get DMC_CFG_ORDER = 1
  · simp only [h1, if_true] at hslot hbank
    omega
  · simp only [h1, if_false] at hslot hbank
    have hlow : p / 256 % 8 = o / 256 % 8 := by
      split at hbank
      · exact Nat.xor_left_injective hbank
      · exact hbank
    omega

/-- The row and the rank of a block decide which 112 blocks it is among. -/
theorem rows_of_place {s : State} {o p : Nat} (h : s.dramPlace p = s.dramPlace o) :
    p / 256 / 112 = o / 256 / 112 := by
  have hrow : p / 256 / 112 % s.dramRows = o / 256 / 112 % s.dramRows := congrArg DramPlace.row h
  have hrank : p / 256 / (112 * s.dramRows) = o / 256 / (112 * s.dramRows) := congrArg DramPlace.rank h
  rw [← Nat.div_div_eq_div_mul, ← Nat.div_div_eq_div_mul] at hrank
  rw [← Nat.div_add_mod (p / 256 / 112) s.dramRows, hrow, hrank, Nat.div_add_mod]

/-- Settles O57: slot and bank give the block in its row, row and rank the row, and the channel the half. -/
theorem dramPlacesFollowTheirOrder : Obligations.DramPlacesFollowTheirOrder := by
  intro s o p b x
  have hbank := dramPlace_bank s o
  have hslot := dramPlace_slot s o
  refine ⟨rfl, rfl, rfl, fun h0 => ?bank, fun h1 => ?row, fun h2 => ?hash, ?channel, ?slot, ?banks,
    Nat.mod_lt _ (dramRows_pos s), fun hvisible => ?ranks, fun hsame => ?apart⟩
  case bank => exact ⟨hslot.trans (by simp [h0, b]), hbank.trans (by simp [h0, b])⟩
  case row => exact ⟨hslot.trans (by simp [h1, b]), hbank.trans (by simp [h1, b])⟩
  case hash => exact ⟨hslot.trans (by simp [h2, b]), hbank.trans (by simp [h2, b, x])⟩
  case channel => show o % 256 / 128 < 2; omega
  case slot => rw [hslot]; split <;> omega
  case banks =>
    rw [hbank]
    split
    · omega
    split
    · exact xor_lt_eight (by omega) (by omega)
    · omega
  case ranks =>
    rw [visible_eq] at hvisible
    show o / 256 / (112 * s.dramRows) < s.dramRanks
    have := dramRows_pos s
    rw [Nat.div_lt_iff_lt_mul (by omega), Nat.div_lt_iff_lt_mul (by omega), Nat.mul_comm s.dramRanks]
    omega
  case apart =>
    have hchannel : p % 256 / 128 = o % 256 / 128 := congrArg DramPlace.channel hsame
    have hblock := block_of_place hsame
    have hrows := rows_of_place hsame
    omega

/-! ### Writes by a 40-bit address (R399, R547, R552) -/

/-- A run read back gives the values written. -/
theorem get_putRun_same (os : Octets) (m : List Host.Cell) (a k : Nat) (h : k < os.length) :
    Sparse.get blankByte (Sparse.putRun blankByte m a os) (a + k) = os.getD k 0 := by
  induction os generalizing m a k with
  | nil => exact absurd h (Nat.not_lt_zero k)
  | cons v os ih =>
    rw [Sparse.putRun]
    cases k with
    | zero =>
      rw [Sparse.get_putRun_other _ _ _ _ _ (by omega), Nat.add_zero, Sparse.get_put_same]
      rfl
    | succ k =>
      rw [Nat.add_comm k, ← Nat.add_assoc, ih _ _ _ (Nat.succ_lt_succ_iff.1 h), Nat.add_comm 1]
      rfl

theorem canonical_iff (s : State) :
    s.canonical = true ↔ Sparse.wf resetWord s.regs = true ∧ s.memoriesWf := by
  simp only [State.canonical, State.memoriesWf, Bool.and_eq_true, and_assoc]

/-- A write of memory keeps the canonical form of the registers. -/
theorem memPut_regs_wf (a : Nat) (os : Octets) {s : State} (h : Sparse.wf resetWord s.regs = true) :
    Sparse.wf resetWord (memPut a os s).regs = true := by
  rcases memPut_cases a os s with ⟨o, -, hput⟩ | ⟨o, -, hput⟩ | ⟨o, -, hput⟩ | ⟨-, -, hput⟩ | ⟨-, -, hput⟩ <;> rw [hput]
  case inr.inr.inr.inl => exact set_wf _ _ s h
  all_goals exact h

section
variable {a o : Nat} {os : Octets} {s : State}

theorem memPut_dram (h : s.locate a os.length = some (.dram, o)) : memPut a os s = dramPut o os s := by
  rw [memPut, h]

theorem memPut_sram (h : s.locate a os.length = some (.sram, o)) :
    memPut a os s = clearReservations a os.length { s with sram := Sparse.putRun blankByte s.sram o os } := by
  rw [memPut, h]

theorem memPut_lpwSram (h : s.locate a os.length = some (.lpwSram, o)) :
    memPut a os s = { s with lpwSram := Sparse.putRun blankByte s.lpwSram o os } := by
  rw [memPut, h]

theorem memPut_nowhere (h : s.locate a os.length = none) :
    memPut a os s = onlyIf (!s.namesMemory a os.length) (raise DMC_INT_STAT_ADDRERR) s := by
  rw [memPut, h]

end

/-- Settles O59: the memory that the address names takes the run, and every write keeps the canonical form. -/
theorem memoryWritesKeepTheRest : Obligations.MemoryWritesKeepTheRest := by
  intro a os s hcanonical
  obtain ⟨hregs, hmemories⟩ := (canonical_iff s).1 hcanonical
  refine ⟨(canonical_iff _).2 ⟨memPut_regs_wf a os hregs, memPut_wf a os s hmemories⟩, fun o h => ?dram, fun o h => ?sram,
    fun o h => ?lpwSram, fun h => ⟨fun hnames => ?dead, fun hnames => ?nothing⟩⟩
  case dram =>
    rw [memPut_dram h]
    exact ⟨get_putRun_same os s.dram o, Sparse.get_putRun_other blankByte os s.dram o, rfl, rfl, rfl⟩
  case sram =>
    rw [memPut_sram h]
    exact ⟨get_putRun_same os s.sram o, Sparse.get_putRun_other blankByte os s.sram o, rfl, rfl, rfl⟩
  case lpwSram =>
    rw [memPut_lpwSram h]
    exact ⟨get_putRun_same os s.lpwSram o, Sparse.get_putRun_other blankByte os s.lpwSram o, rfl, rfl, rfl⟩
  case dead => rw [memPut_nowhere h, hnames]; rfl
  case nothing => rw [memPut_nowhere h, hnames]; rfl

end Sys2Proof.Machine
end

section
/-!
SUPPORT. The statements of 11_upstream.md: the ports with their links and management transactions, frames and segments received,
messages sent and the indices of rings.
-/

namespace Sys2Proof.Machine

/-! ### Links, MDIO and the next hop (R319 to R324) -/

/-- A write of `UPL_MDIOp_CMD` with GO while no transaction is under way starts one. -/
theorem mdioWrite_go {acc : Access} {p : Nat} {w : Word} {t : State} (hserve : verdict acc (mdioAddr p) true t = .serve)
    (hidle : t.is (UPL_MDIOp_CMD_GO p) = false) (hgo : wrote w (UPL_MDIOp_CMD_GO 0) = true) :
    mdioWrite acc p w t =
      modUpl (fun x => { x with mdio := x.mdio ++ [(p, ((written (mdioAddr p) w t).word (mdioAddr p)).toNat,
        (written (mdioAddr p) w t).get (UPL_MDIOp_DATA_DATA p))] }) (written (mdioAddr p) w t) :=
  (writeRow_serve acc _ t w _ hserve).trans (if_pos (by rw [hidle, hgo]; rfl))

/-- Settles O19: each event of a port by the branch of its command that the hypotheses choose. -/
theorem upstreamPortsFollowTheirLinks : Obligations.UpstreamPortsFollowTheirLinks := by
  refine ⟨?up, ?down, ?revert, ?mdioGo, ?mdioDone, ?resolve, ?tries⟩
  case up =>
    intro dt p signalled s t u n v hp hruns hdown
    have hport : p % 2 = p := Nat.mod_eq_of_lt hp
    have hguard : ¬(!t.ethRuns p || t.portUp p || !true) = true := by rw [hruns, hdown]; decide
    have hcomes : exec (.linkUp dt p signalled true) s =
        .next (after dt s (if v.portUp (1 - p) then v else becomeActive p v)) :=
      exec_next_of_eq rfl (by dsimp only; rw [hport]; exact if_neg hguard)
    exact ⟨fun hother => exec_next_of_eq hcomes (if_pos hother),
      fun hother => exec_next_of_eq hcomes (if_neg (Bool.eq_false_iff.1 hother))⟩
  case down =>
    intro dt p s t u hp hup
    have hgoes : exec (.linkDown dt p) s = .next (after dt s (linkDown p t)) :=
      exec_next_of_eq rfl (by dsimp only; rw [Nat.mod_eq_of_lt hp]; exact if_pos hup)
    exact ⟨fun hother => exec_next_of_eq hgoes (if_neg (Bool.eq_false_iff.1 hother)),
      fun hother hactive => exec_next_of_eq hgoes ((if_pos hother).trans (if_pos hactive)),
      fun hother hidle => exec_next_of_eq hgoes ((if_pos hother).trans (if_neg hidle))⟩
  case revert =>
    intro dt p s t hpref hrevert hup hidle hpassed
    subst hpref
    exact exec_next_of_eq rfl (if_pos (by rw [hrevert, hup, hpassed, bne_iff_ne.2 hidle]; rfl))
  case mdioGo =>
    intro dt p acc w s t u v hp hserve hidle hgo
    have starts {c : Instr} (hc : exec c s = .next (after dt s (mdioWrite acc (p % 2) w t))) :
        exec c s = .next (after dt s v) :=
      exec_next_of_eq hc (by rw [Nat.mod_eq_of_lt hp]; exact mdioWrite_go hserve hidle hgo)
    exact ⟨fun _ _ => starts rfl, fun _ => starts rfl, fun _ => starts rfl, fun _ _ => starts rfl⟩
  case mdioDone =>
    intro dt p cmd data value s t u v hp hruns
    refine exec_next_of_eq rfl ?_
    dsimp only
    rw [Nat.mod_eq_of_lt hp, hruns]
    have hp : p = 0 ∨ p = 1 := by omega
    rcases hp with rfl | rfl <;> rfl
  case resolve =>
    intro dt s t hup hdue
    exact exec_next_of_eq rfl (if_pos (by rw [hup, hdue]; rfl))
  case tries =>
    intro dt s t hdue
    have hguard (h : t.upl.tries ≠ 0) : ¬(t.upl.tries = 0 ∨ t.passed t.upl.triedAt secCycles = false) := by simp [h, hdue]
    exact ⟨fun hfew => exec_next_of_eq rfl ((if_neg (hguard (by omega))).trans (if_pos (show t.upl.tries < 3 by omega))),
      fun hlast => exec_next_of_eq rfl ((if_neg (hguard (by omega))).trans (if_neg (show ¬t.upl.tries < 3 by omega)))⟩

/-! ### Frames received (R321, R327) -/

/-- The filter of R327, which a frame that arrives whole and is no PAUSE frame passes. -/
def filterFrame (p : Nat) (body : Octets) (s : State) : State :=
  match s.untag body with
  | none => filtered s
  | some (dst, src, type, os) =>
    if !s.macTaken dst type then filtered s
    else if type = 0x0806 then arpReceive p os s
    else if type = s.ipType then ipReceive p src os s
    else if type = 0x88F7 ∧ s.get UPL_PTP_CFG_TRANSPORT = 0 ∧ s.ptpRuns = true ∧ p = s.get UPL_STAT_ACTIVE then
      ptpReceive os (accepted p s)
    else filtered s

/-- A frame that arrives whole at a port with its link up. -/
def receiveFrame (p : Nat) (frame : Octets) (code : Bool) (s : State) : State :=
  let body := frame.take (frame.length - 4)
  if code || decide (frame.length < 64 ∨ 1522 < frame.length) || leAt frame (frame.length - 4) 4 != crc32 body then
    count UPL_CNT_RXERR 1 s
  else if beAt body 12 2 = 0x8808 ∧ beAt body 14 2 = 1 ∧ (body.take 6 = [0x01, 0x80, 0xC2, 0, 0, 1] ∨ body.take 6 = s.mac) then
    pauseReceive p (body.drop 14) s
  else filterFrame p body s

theorem exec_ethernetReceive {dt p : Nat} {frame : Octets} {code : Bool} {s : State} (hp : p < 2)
    (hup : (elapse dt s).portUp p = true) :
    exec (.ethernetReceive dt p frame code) s = .next (after dt s (receiveFrame p frame code (elapse dt s))) :=
  exec_next_of_eq rfl (by
    dsimp only
    rw [Nat.mod_eq_of_lt hp]
    exact if_neg (by rw [hup]; decide))

section
variable {p type : Nat} {body dst src os : Octets} {s : State}

theorem filterFrame_untagged (h : s.untag body = none) : filterFrame p body s = count UPL_CNT_FILTER 1 s := by
  rw [filterFrame, h]; rfl

variable (h : s.untag body = some (dst, src, type, os))
include h

theorem filterFrame_untaken (htaken : s.macTaken dst type = false) : filterFrame p body s = count UPL_CNT_FILTER 1 s := by
  rw [filterFrame, h]
  exact if_pos (by rw [htaken]; rfl)

theorem filterFrame_taken (htaken : s.macTaken dst type = true) :
    filterFrame p body s =
      if type = 0x0806 then arpReceive p os s
      else if type = s.ipType then ipReceive p src os s
      else if type = 0x88F7 ∧ s.get UPL_PTP_CFG_TRANSPORT = 0 ∧ s.ptpRuns = true ∧ p = s.get UPL_STAT_ACTIVE then
        ptpReceive os (accepted p s)
      else count UPL_CNT_FILTER 1 s := by
  rw [filterFrame, h]
  exact if_neg (by rw [htaken]; decide)

end

/-! ### Segments (R339, R340) -/

section
variable {m : Octets} {w : SeqWindow} {s : State}

theorem downSegment_good (hok : s.headerOk m = true) (htakes : s.acceptsDown (octAt m 2) = true) :
    downSegment m s =
      match s.windowFor (octAt m 2) with
      | none => joinSegment (octAt m 2) (beAt m 4 4) m (setWindow { queue := octAt m 2, high := beAt m 4 4, marks := [] } s)
      | some w =>
        if diff32 (beAt m 4 4) w.high ≤ -64 then count UPL_CNT_STALE 1 s
        else
          match w.marks.find? (fun e => e.1 == beAt m 4 4) with
          | some (_, true) => raise UPL_INT_STAT_ORPHAN (count UPL_CNT_ORPHAN 1 s)
          | some (_, false) => count UPL_CNT_DUPSEG 1 s
          | none => joinSegment (octAt m 2) (beAt m 4 4) m
              (if 0 < diff32 (beAt m 4 4) w.high then setWindow { w with high := beAt m 4 4 } s else s) := by
  rw [downSegment, if_neg (by rw [hok]; decide)]
  exact (if_neg (by rw [htakes]; decide)).trans rfl

theorem downSegment_new (hok : s.headerOk m = true) (htakes : s.acceptsDown (octAt m 2) = true)
    (hwindow : s.windowFor (octAt m 2) = none) :
    downSegment m s =
      joinSegment (octAt m 2) (beAt m 4 4) m (setWindow { queue := octAt m 2, high := beAt m 4 4, marks := [] } s) := by
  rw [downSegment_good hok htakes, hwindow]

variable (hok : s.headerOk m = true) (htakes : s.acceptsDown (octAt m 2) = true)
  (hwindow : s.windowFor (octAt m 2) = some w)
include hok htakes hwindow

theorem downSegment_stale (h : diff32 (beAt m 4 4) w.high ≤ -64) : downSegment m s = count UPL_CNT_STALE 1 s := by
  rw [downSegment_good hok htakes, hwindow]
  exact if_pos h

theorem downSegment_marked {e : Nat × Bool} (h : -64 < diff32 (beAt m 4 4) w.high)
    (hmark : w.marks.find? (fun e => e.1 == beAt m 4 4) = some e) :
    downSegment m s =
      if e.2 then raise UPL_INT_STAT_ORPHAN (count UPL_CNT_ORPHAN 1 s) else count UPL_CNT_DUPSEG 1 s := by
  rw [downSegment_good hok htakes, hwindow]
  dsimp only
  rw [if_neg h.not_ge, hmark]
  obtain ⟨seq, timeout⟩ := e
  cases timeout <;> rfl

theorem downSegment_next (h : -64 < diff32 (beAt m 4 4) w.high)
    (hmark : w.marks.find? (fun e => e.1 == beAt m 4 4) = none) :
    downSegment m s = joinSegment (octAt m 2) (beAt m 4 4) m
      (if 0 < diff32 (beAt m 4 4) w.high then setWindow { w with high := beAt m 4 4 } s else s) := by
  rw [downSegment_good hok htakes, hwindow]
  dsimp only
  rw [if_neg h.not_ge, hmark]

end

/-! ### The indices of rings (R332) -/

section
variable {q : Nat} {w : Word} {s : State}

theorem piWrite_error (hsoft : s.piIsSoftwares q = true) (h : s.qLimit q < ringDistance w.toNat (s.qCi q)) :
    piWrite q w s = ringError s := by
  rw [piWrite, if_neg (by rw [hsoft]; decide)]
  exact if_pos h

theorem piWrite_management (h : ringDistance w.toNat (s.qCi 62) ≤ s.qLimit 62) :
    piWrite 62 w s = s.set (UPL_Qn_PI_PI 62) w.toNat := by
  rw [piWrite, if_neg (by simp [State.piIsSoftwares])]
  exact (if_neg h.not_gt).trans (if_pos rfl)

theorem piWrite_downstream (hsoft : s.piIsSoftwares q = true) (hq : q ≠ 62)
    (h : ringDistance w.toNat (s.qCi q) ≤ s.qLimit q) :
    piWrite q w s =
      let n := ringDistance w.toNat (s.nextPi q)
      let grows := decide (n ≤ s.qLimit q)
      let v := if grows then mirrorEntries q (s.nextPi q) n s else s
      let gate := if grows && v.mirrors then some (v.stl.mseq - 1) else none
      ringSettle (modUpl (fun x => { x with
        entering := x.entering ++ [{ queue := q, pi := w.toNat, down := none, gate := gate }] }) v) := by
  rw [piWrite, if_neg (by rw [hsoft]; decide)]
  exact (if_neg h.not_gt).trans (if_neg hq)

theorem ciWrite_error (hq : (56 ≤ q ∧ q ≤ 61) ∨ q = 63) (h : s.qLimit q < ringDistance (s.qPi q) w.toNat) :
    ciWrite q w s = ringError s := (if_pos hq).trans (if_pos h)

theorem ciWrite_moves (hq : (56 ≤ q ∧ q ≤ 61) ∨ q = 63) (h : ringDistance (s.qPi q) w.toNat ≤ s.qLimit q) :
    ciWrite q w s = gatesSettle (s.set (UPL_Qn_CI_CI q) w.toNat) := (if_pos hq).trans (if_neg h.not_gt)

end

/-- Settles O20: each row of the messages by the branch of its command that the hypotheses choose. -/
theorem upstreamMessagesMoveAsTheRulesSay : Obligations.UpstreamMessagesMoveAsTheRulesSay := by
  refine ⟨?frame, ?header, ?window, ?timeout, ?send, ?sent, ?timer, ?ctrl, ?task, ?pi62, ?pi, ?ci⟩
  case frame =>
    intro dt p frame code s t body pause hp hup
    have hreceives := exec_ethernetReceive (frame := frame) (code := code) hp hup
    refine ⟨fun hbad => ?bad, fun hcode hlong hshort hfcs => ?whole⟩
    case bad =>
      have hguard : (code || decide (frame.length < 64 ∨ 1522 < frame.length) ||
          leAt frame (frame.length - 4) 4 != crc32 body) = true := by
        simp only [Bool.or_eq_true, decide_eq_true_eq, bne_iff_ne]; tauto
      exact exec_next_of_eq hreceives (if_pos hguard)
    case whole =>
      have hguard : ¬(code || decide (frame.length < 64 ∨ 1522 < frame.length) ||
          leAt frame (frame.length - 4) 4 != crc32 body) = true := by
        simp only [Bool.or_eq_true, decide_eq_true_eq, bne_iff_ne]; rw [hcode]; simp [hfcs, hlong, hshort]
      have filters {v : State} (hpause : ¬pause) (hv : filterFrame p body t = v) :
          exec (.ethernetReceive dt p frame code) s = .next (after dt s v) :=
        exec_next_of_eq hreceives ((if_neg hguard).trans ((if_neg hpause).trans hv))
      refine ⟨fun hpause => exec_next_of_eq hreceives ((if_neg hguard).trans (if_pos hpause)),
        fun hpause hnone => filters hpause (filterFrame_untagged hnone), ?typed⟩
      intro dst src os type hpause htag ptp
      have takes (htaken : t.macTaken dst type = true) := filterFrame_taken (p := p) htag htaken
      exact ⟨fun huntaken => filters hpause (filterFrame_untaken htag huntaken),
        fun htaken harp => filters hpause ((takes htaken).trans (if_pos harp)),
        fun htaken harp hip => filters hpause ((takes htaken).trans ((if_neg harp).trans (if_pos hip))),
        fun htaken harp hip hptp =>
          filters hpause ((takes htaken).trans ((if_neg harp).trans ((if_neg hip).trans (if_pos hptp)))),
        fun htaken harp hip hptp =>
          filters hpause ((takes htaken).trans ((if_neg harp).trans ((if_neg hip).trans (if_neg hptp))))⟩
  case header =>
    intro dt m s t
    refine ⟨fun hbad => exec_next_of_eq rfl (if_pos ?_), fun hok hrefuses => exec_next_of_eq rfl ?_,
      fun hok htakes hnew => exec_next_of_eq rfl (downSegment_new hok htakes hnew)⟩
    · rw [hbad]; rfl
    · exact (if_neg (by rw [hok]; decide)).trans (if_pos (by rw [hrefuses]; rfl))
  case window =>
    intro dt m w s t d mark hok htakes hwindow
    exact ⟨fun hstale => exec_next_of_eq rfl (downSegment_stale hok htakes hwindow hstale),
      fun e hfresh hmark => exec_next_of_eq rfl (downSegment_marked hok htakes hwindow hfresh hmark),
      fun hfresh hmark => exec_next_of_eq rfl (downSegment_next hok htakes hwindow hfresh hmark)⟩
  case timeout =>
    intro dt r s t hopen
    exact exec_next_of_eq rfl (by dsimp only; rw [hopen])
  case send =>
    intro dt s t hidle hreset hload
    have hguard : ¬(t.upl.sending.isSome || !t.sendsManagement) = true := by
      rw [hidle, State.sendsManagement]; simp [hreset, hload]
    exact exec_next_of_eq rfl (if_neg hguard)
  case sent =>
    intro dt port frames msg s t u hsending
    refine ⟨fun q hmsg => ?queue, fun ts lock hmsg => ?status, fun c hmsg => ?compl, fun r hmsg => ?reply⟩ <;>
      subst hmsg <;> exact exec_next_of_eq rfl (by dsimp only; rw [hsending])
  case timer => exact fun dt s hspan hdue => exec_next_of_eq rfl (if_pos ⟨hspan, hdue⟩)
  case ctrl => exact fun dt acc w s hserve => exec_next_of_eq rfl (writeRow_serve acc _ _ w _ hserve)
  case task => exact fun dt s hqueued => exec_next_of_eq rfl (if_pos hqueued)
  case pi62 =>
    intro dt acc w s t u used hserve
    have hserved : exec (.piWrite dt acc 62 w) s = .next (after dt s (piWrite 62 w u)) :=
      exec_next_of_eq rfl (access_serve acc _ t (some w) _ hserve)
    exact ⟨fun hfull => exec_next_of_eq hserved (piWrite_error (by simp [State.piIsSoftwares]) hfull),
      fun hroom => exec_next_of_eq hserved (piWrite_management hroom)⟩
  case pi =>
    intro dt q acc w s t u n grows v gate hq hsoft hserve
    have hmod : q % 64 = q := Nat.mod_eq_of_lt (by omega)
    have hserved : exec (.piWrite dt acc q w) s = .next (after dt s (piWrite q w u)) :=
      exec_next_of_eq rfl (by rw [hmod]; exact access_serve acc _ t (some w) _ hserve)
    exact ⟨fun hfull => exec_next_of_eq hserved (piWrite_error hsoft hfull),
      fun hroom => exec_next_of_eq hserved (piWrite_downstream hsoft (by omega) hroom)⟩
  case ci =>
    intro dt q acc w s t u used hq hserve
    have hmod : q % 64 = q := Nat.mod_eq_of_lt (by omega)
    have hserved : exec (.ciWrite dt acc q w) s = .next (after dt s (ciWrite q w u)) :=
      exec_next_of_eq rfl (by rw [hmod]; exact access_serve acc _ t (some w) _ hserve)
    exact ⟨fun hfull => exec_next_of_eq hserved (ciWrite_error hq hfull),
      fun hroom => exec_next_of_eq hserved (ciWrite_moves hq hroom)⟩

end Sys2Proof.Machine
end

section
/-!
SUPPORT. The statement of 11_upstream.md on PTP: the master and the measurements against it.
-/

namespace Sys2Proof.Machine

/-- What a delay does by the mean path delay it leads to: an outlier is counted, the first one gives the offset too (R350). -/
def takeDelay (first : Bool) (mean : Option Int) (s : State) : State :=
  match mean with
  | none => count UPL_CNT_DLYOUT 1 s
  | some dm =>
    if first then formOffset ((modPtp (fun p => { p with dm := some dm }) s).set UPL_PTP_MPD_DM (offsetNs dm))
    else (modPtp (fun p => { p with dm := some dm }) s).set UPL_PTP_MPD_DM (offsetNs dm)

section
variable {m : Octets} {s : State}

/-! ### The measurements (R348 to R351) -/

/-- The guard of every measurement: the message is taken, it is the master's, and the port synchronises. -/
theorem ptp_measures {type len : Nat} (htakes : s.ptpTakes m type len = true) (hmaster : s.fromMaster m = true)
    (hsyncs : s.ptpSynchronises = true) :
    ¬(!s.ptpTakes m type len || !s.fromMaster m || !s.ptpSynchronises) = true := by
  rw [htakes, hmaster, hsyncs]; decide

theorem ptpOnSync_measures (htakes : s.ptpTakes m ptpSync 44 = true) (hmaster : s.fromMaster m = true)
    (hsyncs : s.ptpSynchronises = true) :
    ptpOnSync m s =
      let t2 := tickTime ((s.ts : Int) - s.getInt UPL_PTP_ASYM_INGRESS)
      if ptpTwoStep m then
        modPtp (fun p => { p with sync := some (ptpSeq m, t2, ptpCorrection m, s.cycles) })
          (s.set UPL_PTP_STAT_TWOSTEP (flag (ptpTwoStep m)))
      else syncMeasured (ptpStamp m) t2 (ptpCorrection m) (s.set UPL_PTP_STAT_TWOSTEP (flag (ptpTwoStep m))) :=
  if_neg (ptp_measures htakes hmaster hsyncs)

theorem ptpOnFollowUp_measures {seq when_ : Nat} {t2 cs : Int} (htakes : s.ptpTakes m ptpFollowUp 44 = true)
    (hmaster : s.fromMaster m = true) (hsyncs : s.ptpSynchronises = true)
    (hsync : s.upl.ptp.sync = some (seq, t2, cs, when_)) (hseq : seq = ptpSeq m) (hsoon : s.cycles ≤ when_ + secCycles) :
    ptpOnFollowUp m s = syncMeasured (ptpStamp m) t2 (cs + ptpCorrection m) (modPtp (fun p => { p with sync := none }) s) := by
  rw [ptpOnFollowUp, if_neg (ptp_measures htakes hmaster hsyncs), hsync]
  exact if_pos ⟨hseq, hsoon⟩

section
variable {seq : Nat} {t1 t2 t3 cs : Int} (htakes : s.ptpTakes m ptpDelayResp 54 = true) (hmaster : s.fromMaster m = true)
  (hsyncs : s.ptpSynchronises = true) (hreq : s.upl.ptp.req = some (seq, t3)) (hmeas : s.upl.ptp.meas = some (t1, t2, cs))
  (hseq : seq = ptpSeq m) (hport : slice m 44 10 = s.portIdentity)
include htakes hmaster hsyncs hreq hmeas hseq hport

/-- A Delay_Resp to the request under way, by what its delay makes of the mean. -/
theorem ptpOnDelayResp_mean {u : State} {mean : Option Int} (hu : modPtp (fun p => { p with req := none, logReq := ptpInterval m }) s = u)
    (hmean : meanDelay s.upl.ptp.dm (((t2 - t1 - cs) + (ptpStamp m - t3 - ptpCorrection m)) / 2) (u.get UPL_PTP_SERVO_DLYOUT)
      (u.get UPL_PTP_CFG_DLYSHIFT) = mean) :
    ptpOnDelayResp m s = takeDelay s.upl.ptp.dm.isNone mean u := by
  subst hu hmean
  rw [ptpOnDelayResp, if_neg (ptp_measures htakes hmaster hsyncs), hreq, hmeas]
  exact (if_pos ⟨hseq, hport⟩).trans rfl

end

/-! ### The master (R349) -/

theorem ptpOnAnnounce_takes (htakes : s.ptpTakes m ptpAnnounce 64 = true) (hgood : s.announceRefused m = false) :
    ptpOnAnnounce m s =
      if (s.foreignOf m).isNone && decide (4 ≤ (s.foreignRest m).length) then s
      else selectMaster (modPtp (fun p => { p with foreign := s.foreignRest m ++ [s.foreignFrom m] }) s) :=
  if_neg (by rw [htakes, hgood]; decide)

end

/-- Settles O21: each message of PTP by the branch of its command that the hypotheses choose. -/
theorem ptpMeasuresAgainstTheMaster : Obligations.PtpMeasuresAgainstTheMaster := by
  refine ⟨?announce, ?timeout, ?sync, ?followUp, ?delayReq, ?delayResp⟩
  case announce =>
    intro dt m s t htakes
    refine ⟨fun hrefused => exec_next_of_eq rfl (if_pos ?_), fun hgood hroom => exec_next_of_eq rfl ?_,
      fun hgood hnew hfull => exec_next_of_eq rfl ?_⟩
    · rw [hrefused, Bool.or_true]
    · refine (ptpOnAnnounce_takes htakes hgood).trans (if_neg ?_)
      simpa only [Bool.and_eq_true, Option.isNone_iff_eq_none, decide_eq_true_eq, not_and, not_le] using hroom
    · exact (ptpOnAnnounce_takes htakes hgood).trans (if_pos (by rw [hnew, decide_eq_true hfull]; rfl))
  case timeout =>
    intro dt port f s t hmaster hforeign hpassed
    exact exec_next_of_eq rfl (by dsimp only; rw [hmaster]; dsimp only; rw [hforeign]; exact if_pos hpassed)
  case sync =>
    intro dt m s t t2 htakes hmaster hsyncs
    have hmeasures := ptpOnSync_measures htakes hmaster hsyncs
    refine ⟨fun htwo => exec_next_of_eq rfl (hmeasures.trans ?_), fun hone => exec_next_of_eq rfl (hmeasures.trans ?_)⟩
    · rw [htwo]; rfl
    · rw [hone]; rfl
  case followUp =>
    intro dt seq when_ t2 cs m s t htakes hmaster hsyncs hsync hseq hsoon
    exact exec_next_of_eq rfl (ptpOnFollowUp_measures htakes hmaster hsyncs hsync hseq hsoon)
  case delayReq =>
    intro dt s t ticks seq u hsyncs hfree
    exact exec_next_of_eq rfl (if_neg (by rw [hsyncs, hfree]; decide))
  case delayResp =>
    intro dt seq t1 t2 t3 cs m s t d u mean htakes hmaster hsyncs hreq hmeas hseq hport
    have htaken : exec (.delayResp dt m) s = .next (after dt s (takeDelay t.upl.ptp.dm.isNone mean u)) :=
      exec_next_of_eq rfl (ptpOnDelayResp_mean htakes hmaster hsyncs hreq hmeas hseq hport rfl rfl)
    refine ⟨fun hout => exec_next_of_eq htaken (by rw [hout]; rfl), fun dm hdm => ⟨fun hfirst => ?first, fun hlater => ?later⟩⟩
    case first => exact exec_next_of_eq htaken (by rw [hdm]; exact if_pos (Option.isNone_iff_eq_none.2 hfirst))
    case later => exact exec_next_of_eq htaken (by rw [hdm]; exact if_neg (mt Option.isNone_iff_eq_none.1 hlater))

end Sys2Proof.Machine
end

section
/-!
SUPPORT. The statements of 12_pair_operation.md: the frames of Stile by their kinds, and the records and items that a standby takes.
-/

namespace Sys2Proof.Machine

/-! ### Frames (R356) -/

section
variable {lane : Nat} {f : Octets} {kind : Octets → Bool} {take : Octets → State → State} {s : State}
  (hruns : s.stlRuns = true) (hlane : lane < 2)
include hruns hlane

theorem receive_guard : ¬(s.stlRuns = false ∨ 2 ≤ lane) := by rw [hruns]; simp [hlane]

theorem receive_bad (hbad : frameValid f = false) :
    receive lane f kind take s = count STL_CNT_CRCERR 1 (modStlLane lane (fun l => { l with run := 0 }) s) :=
  (if_neg (receive_guard hruns hlane)).trans (if_pos hbad)

variable (hvalid : frameValid f = true)
include hvalid

theorem receive_valid : receive lane f kind take s = if kind f then take (framePayload f) s else s :=
  (if_neg (receive_guard hruns hlane)).trans (if_neg (by rw [hvalid]; decide))

theorem receive_kind (hkind : kind f = true) : receive lane f kind take s = take (framePayload f) s :=
  (receive_valid hruns hlane hvalid).trans (if_pos hkind)

/-- A frame whose kind of itself has no effect has none. -/
theorem receive_idle (hidle : take (framePayload f) s = s) : receive lane f kind take s = s := by
  rw [receive_valid hruns hlane hvalid, hidle, ite_self]

end

theorem ofType_of {f : Octets} {k : Nat} (h : octAt f 0 = k) : ofType k f = true := beq_iff_eq.2 h

theorem ofCmd_of {f : Octets} {c : Nat} (htype : octAt f 0 = tyCmd) (h : octAt f 8 = c) : ofCmd c f = true :=
  Bool.and_eq_true_iff.2 ⟨beq_iff_eq.2 htype, beq_iff_eq.2 h⟩

theorem ofRecord_of {f : Octets} {k : Nat} (htype : octAt f 0 = tyCommit) (h : octAt f 8 = k) : ofRecord k f = true :=
  Bool.and_eq_true_iff.2 ⟨beq_iff_eq.2 htype, beq_iff_eq.2 h⟩

theorem ofItem_of {f : Octets} {k : Nat} (htype : octAt f 0 = tyBulk) (h : octAt f 8 = k) : ofItem k f = true :=
  Bool.and_eq_true_iff.2 ⟨beq_iff_eq.2 htype, beq_iff_eq.2 h⟩

/-! ### Control frames (R358 to R376) -/

theorem takeElect_open {e : Octets} {s : State} (hlink : s.stl.link = true) (helected : s.stl.elected = false)
    (hmatch : s.stl.mismatch = false) :
    takeElect e s =
      let u := (s.set STL_PEER_EUI_LO_EUI (leAt e 20 4)).set STL_PEER_EUI_HI_EUI (leAt e 24 4)
      if u.pairs e then judgeSelftest (elect e u) else mismatched u :=
  if_neg (by rw [hlink, helected, hmatch]; decide)

theorem takeYieldDone_taking {h : StlHandover} {p : Octets} {s : State} (hh : s.stl.handover = some h)
    (htaking : h.giving = false) :
    takeYieldDone p s = modStl (fun x => { x with handover := some { h with lastMseq := some (leAt p 12 4) } }) s := by
  rw [takeYieldDone, hh]
  exact if_neg (Bool.eq_false_iff.1 htaking)

/-- Settles O22: each control frame by its kind and by the branch of its effect that the hypotheses choose. -/
theorem stileControlFramesAreTaken : Obligations.StileControlFramesAreTaken := by
  intro dt lane f s t p hruns hlane
  refine ⟨fun hbad => exec_next_of_eq rfl (receive_bad hruns hlane hbad),
    fun hvalid htype => exec_next_of_eq rfl (receive_kind hruns hlane hvalid (ofType_of htype)),
    fun hvalid htype => exec_next_of_eq rfl (receive_kind hruns hlane hvalid (ofType_of htype)), ?elect, ?cmd⟩
  case elect =>
    intro hvalid htype hlink helected hmatch u
    have hjudged : exec (.elect dt lane f) s =
        .next (after dt s (if u.pairs p then judgeSelftest (elect p u) else mismatched u)) :=
      exec_next_of_eq rfl ((receive_kind hruns hlane hvalid (ofType_of htype)).trans (takeElect_open hlink helected hmatch))
    exact ⟨fun hpairs => exec_next_of_eq hjudged (if_pos hpairs),
      fun hparts => exec_next_of_eq hjudged (if_neg (Bool.eq_false_iff.1 hparts))⟩
  case cmd =>
    intro hvalid htype
    have takes {c : Nat} (take : Octets → State → State) (h : octAt f 8 = c) :
        receive lane f (ofCmd c) take t = take p t := receive_kind hruns hlane hvalid (ofCmd_of htype h)
    exact ⟨fun hcmd hmay => exec_next_of_eq rfl ((takes _ hcmd).trans (if_pos hmay)),
      fun hcmd hdenied => exec_next_of_eq rfl ((takes _ hcmd).trans (if_neg (Bool.eq_false_iff.1 hdenied))),
      fun hcmd hmode hsync hlink => exec_next_of_eq rfl ((takes _ hcmd).trans (if_pos ⟨hmode, hsync, hlink⟩)),
      fun h hcmd hh htaking => exec_next_of_eq rfl ((takes _ hcmd).trans (takeYieldDone_taking hh htaking)),
      fun hcmd => exec_next_of_eq rfl (takes _ hcmd)⟩

/-! ### Records and items (R367 to R371) -/

section
variable {f p : Octets} {content : List SnapItem} {s : State}

/-- Over a link whose election has ended the records of a frame are taken in sequence. -/
theorem takeCommit_linked (hlink : s.stl.link = true) (helected : s.stl.elected = true) :
    takeCommit f p s = takeSequenced (recordsOf (leAt f 4 4) (p.length / 32) p) s :=
  if_pos (by rw [hlink, helected]; rfl)

theorem takeCommit_unelected (helected : s.stl.elected = false) : takeCommit f p s = s :=
  if_neg (by rw [helected, Bool.and_false]; decide)

theorem takeBulk_linked (hlink : s.stl.link = true) (helected : s.stl.elected = true) :
    takeBulk f content p s = takeSequenced
      [{ bulk := true, seq := leAt f 4 4, payload := p, last := bitAt (octAt f 1) 0, content := content }] s :=
  if_pos (by rw [hlink, helected]; rfl)

theorem takeBulk_unelected (helected : s.stl.elected = false) : takeBulk f content p s = s :=
  if_neg (by rw [helected, Bool.and_false]; decide)

end

/-- The next record in order waits while its item has not come. -/
theorem applyReady_waits {n : Nat} {h : StlHeld} {s : State}
    (hnext : s.stl.held.find? (fun h => !h.bulk && h.seq == s.stl.applied) = some h) (hready : s.recordReady h.payload = false) :
    applyReady (n + 1) s = s := by
  rw [applyReady, hnext]
  exact if_pos (by rw [hready]; rfl)

/-- The next record in order is applied once its item has come. -/
theorem applyReady_applies {n : Nat} {h : StlHeld} {s : State}
    (hnext : s.stl.held.find? (fun h => !h.bulk && h.seq == s.stl.applied) = some h) (hready : s.recordReady h.payload = true) :
    applyReady (n + 1) s = applyReady n
      (count STL_CNT_COMMIT 1 ((quietly (applyKind (h.seq % 2 ^ 32) h.payload)
        (modStl (fun p => { p with held := p.held.erase h, applied := p.applied + 1 }) s)).set STL_MSEQ_MSEQ h.seq)) := by
  rw [applyReady, hnext]
  exact if_neg (by rw [hready]; decide)

theorem applyReg_newer {m : Nat} {r : Octets} {s : State} (hmirrored : mirroredRegister (leAt r 4 4) = true)
    (hnewer : s.newer regOther (leAt r 4 4) m = true) :
    applyReg m r s = s.setWord (leAt r 4 4) (BitVec.ofNat 32 (leAt r 8 4)) :=
  if_pos (by rw [hmirrored, hnewer]; rfl)

section
variable {h : StlHeld} {s : State} (hkind : octAt h.payload 0 ≠ itemSnap) (hfirst : s.stl.partial_ = none)
include hkind hfirst

/-- A first part of an item that does not end in it is kept. -/
theorem bulkIn_part (hlast : h.last = false) :
    bulkIn h s = modStl (fun p => { p with partial_ := some (h.seq % 2 ^ 32, h.payload.drop 16) }) s := by
  simp only [bulkIn, if_neg hkind, hlast, hfirst, Bool.not_false, if_true]

/-- An item in one frame takes effect by its kind. -/
theorem bulkIn_whole (hlast : h.last = true) :
    bulkIn h s =
      let u := modStl (fun p => { p with partial_ := none }) s
      if octAt h.payload 0 = itemJsum then mergeSummary (h.payload.drop 16) u
      else if octAt h.payload 0 = itemSnapend then endSnap u
      else modStl (fun p => { p with
        items := p.items ++ [{ kind := octAt h.payload 0, first := h.seq % 2 ^ 32, data := h.payload.drop 16 }] }) u := by
  simp only [bulkIn, if_neg hkind, hlast, hfirst, Bool.not_true, Bool.false_eq_true, if_false]

end

/-- Settles O23: records and items by their frames, the record next in order by its readiness, each kind by its own effect. -/
theorem mirroredRecordsAreTakenInOrder : Obligations.MirroredRecordsAreTakenInOrder := by
  refine ⟨?commit, ?bulk, ?unelected, ?ready, ?register, ?kinds, ?items, ?joined⟩
  case commit =>
    intro dt lane f s t p u hruns hlane hvalid htype hlink helected
    have takes {k : Nat} {c : Instr} (hk : octAt f 8 = k)
        (hc : exec c s = .next (after dt s (receive lane f (ofRecord k) (takeCommit f) t))) : exec c s = .next (after dt s u) :=
      exec_next_of_eq hc
        ((receive_kind hruns hlane hvalid (ofRecord_of htype hk)).trans (takeCommit_linked hlink helected))
    exact ⟨fun h => takes h rfl, fun h => takes h rfl, fun h => takes h rfl, fun h => takes h rfl, fun h => takes h rfl,
      fun h => takes h rfl, fun h => takes h rfl, fun h => takes h rfl, fun h => takes h rfl, fun h => takes h rfl,
      fun h => takes h rfl, fun h => takes h rfl, fun h => takes h rfl, fun h => takes h rfl⟩
  case bulk =>
    intro dt lane f content s t u hruns hlane hvalid htype hlink helected
    have takes {k : Nat} {pieces : List SnapItem} {c : Instr} (hk : octAt f 8 = k)
        (hc : exec c s = .next (after dt s (receive lane f (ofItem k) (takeBulk f pieces) t))) :
        exec c s = .next (after dt s (u pieces)) :=
      exec_next_of_eq hc ((receive_kind hruns hlane hvalid (ofItem_of htype hk)).trans (takeBulk_linked hlink helected))
    exact ⟨fun h => takes h rfl, fun h => takes h rfl, fun h => takes h rfl, fun h => takes h rfl, fun h => takes h rfl,
      fun h => takes h rfl⟩
  case unelected =>
    intro dt lane f s t hruns hlane hvalid helected
    exact ⟨exec_next_of_eq rfl (receive_idle hruns hlane hvalid (takeCommit_unelected helected)),
      exec_next_of_eq rfl (receive_idle hruns hlane hvalid (takeBulk_unelected helected))⟩
  case ready => exact fun n h s hnext => ⟨applyReady_waits hnext, applyReady_applies hnext⟩
  case register =>
    intro m r s hkind hmirrored hnewer
    rw [applyKind, hkind]
    exact applyReg_newer hmirrored hnewer
  case kinds =>
    intro m r s
    refine ⟨?_, ?_, fun h d hd => ?released, ?_, ?_, ?_, ?_, ?_, ?_, ?_, ?_, ?_, ?_, ?_⟩
    case released => simp only [applyKind, h, hd]
    all_goals intro h; simp only [applyKind, h]
  case items =>
    intro h s data u
    refine ⟨fun hsnap => if_pos hsnap, fun hkind hfirst => ⟨bulkIn_part hkind hfirst, fun hlast => ?whole⟩⟩
    have hwhole := bulkIn_whole hkind hfirst hlast
    refine ⟨fun hjsum => hwhole.trans (if_pos hjsum), fun hend => hwhole.trans ?_, fun hkept => hwhole.trans ?_⟩
    · exact (if_neg (by rw [hend]; decide)).trans (if_pos hend)
    · have hother : octAt h.payload 0 ≠ itemJsum ∧ octAt h.payload 0 ≠ itemSnapend := by
        rcases hkept with hk | hk | hk <;> rw [hk] <;> decide
      exact (if_neg hother.1).trans (if_neg hother.2)
  case joined => exact fun dt s hmode hsync hstep => exec_next_of_eq rfl (if_pos ⟨hmode, hsync, hstep⟩)

end Sys2Proof.Machine
end

section
/-!
SUPPORT. The statements of 13_hedgerow.md and 14_dram.md: events on their way to tasks, the requests of DRAM and its upkeep.
-/

namespace Sys2Proof.Machine

/-! ### Events, channels and tasks (R384 to R393) -/

section
variable {h : HdgHeld} {s : State}

/-- The event passed on leaves its channel with a hop more. -/
theorem passEvent_eq :
    passEvent h s =
      let u := raiseTo (HDG_CHn_STAT_HOPMAX h.ch) (h.hop + 1)
        (followPend h.ch (modHdg (fun x => { x with held := x.held.erase h }) s))
      if 8 ≤ h.hop + 1 then loopDrop h.ch u
      else modHdg (fun x => { x with legs := x.legs ++ h.dests.map (fun d =>
        { task := d, ch := h.ch, producer := h.producer, seq := h.seq, hop := h.hop + 1 }) }) u := rfl

end

section
variable {task hop : Nat} {s : State}

/-- No trigger has started a run within an arbitration interval. -/
theorem start_not_recent (h : ∀ c : Nat, (s.task task).start = some c → c + 3 < s.cycles) :
    ¬(s.task task).start.any (fun c => decide (s.cycles ≤ c + arbCycles)) = true := by
  cases hstart : (s.task task).start with
  | none => exact Bool.false_ne_true
  | some c =>
    have hapart := h c hstart
    exact mt of_decide_eq_true (show ¬s.cycles ≤ c + 3 by omega)

theorem trigger_idle (hidle : (s.task task).busy = false)
    (hapart : ∀ c : Nat, (s.task task).start = some c → c + 3 < s.cycles) :
    trigger task hop s = setTask { s.task task with busy := true, queued := true, hop := hop, start := some s.cycles } s :=
  (if_neg (start_not_recent hapart)).trans (if_pos (by rw [hidle]; rfl))

theorem trigger_coalesces {c : Nat} (hstart : (s.task task).start = some c) (hsoon : s.cycles ≤ c + 3) :
    trigger task hop s = setTask { s.task task with
      coalesce := true, ccount := min ((s.task task).ccount + 1) 255,
      hop := if (s.task task).busy then max (s.task task).hop hop else (s.task task).hop } s :=
  if_pos (by rw [hstart]; exact decide_eq_true hsoon)

theorem trigger_overruns (hbusy : (s.task task).busy = true)
    (hapart : ∀ c : Nat, (s.task task).start = some c → c + 3 < s.cycles) :
    trigger task hop s = raise HDG_INT_STAT_OVERRUN (setTask { s.task task with
      overrun := true, ocount := min ((s.task task).ocount + 1) 255 } s) :=
  (if_neg (start_not_recent hapart)).trans (if_neg (by rw [hbusy]; decide))

end

/-- Settles O25: each row of Hedgerow by the branch of its command that the hypotheses choose. -/
theorem hedgerowCarriesEventsToTasks : Obligations.HedgerowCarriesEventsToTasks := by
  refine ⟨?arrival, ?full, ?delivery, ?trigger, ?fire⟩
  case arrival =>
    intro dt e rest s t hfirst
    exact exec_next_of_eq rfl (by dsimp only; rw [hfirst]; rfl)
  case full => exact fun e sw n s hfull => if_pos hfull
  case delivery =>
    intro dt ch h s t u v hpending
    have hpasses : exec (.eventDelivery dt ch) s =
        .next (after dt s (deliverLegs (passEvent h t).hdg.legs.length (passEvent h t))) :=
      exec_next_of_eq rfl (by dsimp only; rw [hpending])
    refine ⟨fun hfew => exec_next_of_eq hpasses ?_, fun hmany => exec_next_of_eq hpasses ?_⟩
    · rw [passEvent_eq, if_neg (by omega)]
    · rw [passEvent_eq, if_pos hmany]
  case trigger => exact fun task hop s => ⟨trigger_idle, fun c => trigger_coalesces, trigger_overruns⟩
  case fire =>
    intro dt acc hi w s t u chans hserve
    have hserved : exec (.fire dt acc hi w) s = .next (after dt s (fireWrite acc hi w u)) :=
      exec_next_of_eq rfl (access_serve acc _ t (some w) _ hserve)
    exact ⟨fun hmay => exec_next_of_eq hserved (if_pos hmay),
      fun hdenied => exec_next_of_eq hserved (if_neg (Bool.eq_false_iff.1 hdenied))⟩

/-! ### DRAM requests (R399 to R409) -/

section
variable {len : Nat} {data : Option Octets} {s : State}

theorem dramRequest_engine {port a o : Nat} (hport : port ≤ 7) (hlen : requestLength len data ≠ 0)
    (hread : port = 0 → data = none) (ho : s.dramOffset a = some o) :
    dramRequest (.engine port a) len data s =
      if o + requestLength len data ≤ s.visible then arriveRequest port o len data none s
      else refuseRequest false (raise DMC_INT_STAT_ADDRERR s) := by
  have hguard : ¬(7 < port ∨ requestLength len data = 0 ∨ (port = 0 ∧ data.isSome)) := by
    rintro (h | h | ⟨hzero, hsome⟩)
    · omega
    · exact hlen h
    · rw [hread hzero] at hsome; exact absurd hsome (by decide)
  rw [dramRequest]
  exact (if_neg hguard).trans (by rw [ho])

section
variable {a o : Nat} {acc : Access} (hroute : s.route a (requestLength len data) = .dram o)
  (hlen : requestLength len data ≠ 0)
include hroute hlen

theorem dramRequest_bus_beyond (h : s.visible < o + requestLength len data) :
    dramRequest (.bus acc a) len data s = refuseRequest true (raise DMC_INT_STAT_ADDRERR s) := by
  rw [dramRequest, hroute]
  exact (if_neg hlen).trans (if_pos h)

variable (hvisible : o + requestLength len data ≤ s.visible)
include hvisible

theorem dramRequest_bus_refused {w : Nat}
    (hwall : s.firewall acc data.isSome (dramBase + o) (requestLength len data) = some w) :
    dramRequest (.bus acc a) len data s = errorResponse (firewallRefusal acc data.isSome (dramBase + o) w s) := by
  rw [dramRequest, hroute]
  exact (if_neg hlen).trans ((if_neg hvisible.not_gt).trans (by rw [hwall]))

theorem dramRequest_bus_passes (hwall : s.firewall acc data.isSome (dramBase + o) (requestLength len data) = none) :
    dramRequest (.bus acc a) len data s =
      if s.domainLocked domDmc then errorResponse (domainError 0 domDmc acc.init s)
      else arriveRequest 7 o len data (some acc) s := by
  rw [dramRequest, hroute]
  exact (if_neg hlen).trans ((if_neg hvisible.not_gt).trans (by rw [hwall]))

end
end

/-- Settles O26: each row of the requests by the branch of its command that the hypotheses choose. -/
theorem dramRequestsAreServedInOrder : Obligations.DramRequestsAreServedInOrder := by
  refine ⟨?engine, ?bus, ?issue, ?waits, ?scrub⟩
  case engine =>
    intro dt port a o len data s t n hport hlen hread ho
    have harrives := dramRequest_engine hport hlen hread ho
    exact ⟨fun hvisible => exec_next_of_eq rfl (harrives.trans (if_pos hvisible)),
      fun hbeyond => exec_next_of_eq rfl (harrives.trans (if_neg hbeyond.not_ge))⟩
  case bus =>
    intro dt a o len acc data s t n hroute hlen
    refine ⟨fun hbeyond => exec_next_of_eq rfl (dramRequest_bus_beyond hroute hlen hbeyond),
      fun hvisible => ⟨fun w hwall => exec_next_of_eq rfl (dramRequest_bus_refused hroute hlen hvisible hwall),
        fun hwall hlocked => exec_next_of_eq rfl ?locked, fun hwall hopen => exec_next_of_eq rfl ?queued⟩⟩
    case locked => exact (dramRequest_bus_passes hroute hlen hvisible hwall).trans (if_pos hlocked)
    case queued => exact (dramRequest_bus_passes hroute hlen hvisible hwall).trans (if_neg (Bool.eq_false_iff.1 hopen))
  case issue =>
    intro dt errors s t hworks
    refine ⟨fun r hchoice => exec_next_of_eq rfl ((if_pos hworks).trans ?_),
      fun k hchoice => exec_next_of_eq rfl ((if_pos hworks).trans ?_),
      fun hchoice hread => exec_next_of_eq rfl ((if_pos hworks).trans ?_)⟩
    · rw [hchoice]
    · rw [hchoice]
    · rw [hchoice]
      exact if_neg (Bool.eq_false_iff.1 hread)
  case waits =>
    intro dt id r s t hfound hport
    refine ⟨fun hhalf => exec_next_of_eq rfl ?_, fun hlate hnew => exec_next_of_eq rfl ?_⟩
    · dsimp only
      rw [hfound]
      exact if_pos ⟨hport, hhalf⟩
    · dsimp only
      rw [hfound]
      exact if_pos ⟨hport, hnew, hlate⟩
  case scrub =>
    intro dt s t u hworks hhours hqueue hforced
    have hguard : (t.dramWorks && t.get DMC_SCRUB_HOURS != 0 && t.dmc.queue.isEmpty && t.dmc.forced.isEmpty) = true := by
      rw [hworks, hqueue, hforced, bne_iff_ne.2 hhours]; rfl
    exact ⟨exec_next_of_eq rfl (if_pos hguard), fun b => exec_next_of_eq rfl (if_pos hguard)⟩

/-! ### Training, refresh and self-refresh (R410 to R419) -/

section
variable {rank : Nat} {s : State} (hruns : s.refreshes = true) (hrank : rank < s.dramRanks)
include hruns hrank

theorem refreshDue_on_rank :
    refreshDue rank s =
      if s.earlyOf rank ≠ 0 then setEarly rank (s.earlyOf rank - 1) s
      else if s.dmc.queue.any (fun r => r.port == 0 && s.rankOf r == rank) then
        let n := min 8 (s.get (postField rank) + 1)
        let u := s.set (postField rank) n
        if n = 8 ∧ u.dmc.forced.all (fun f => f.1 != rank) then
          modDmc (fun d => { d with forced := d.forced ++ [(rank, d.nextId)] }) u
        else u
      else closeRows rank s :=
  if_pos (by rw [hruns, decide_eq_true hrank]; rfl)

end

section
variable {w : Word} {s : State}

theorem dmcCtrlWrite_sr (hsr : wrote w DMC_CTRL_SR = true) (hsrx : wrote w DMC_CTRL_SRX = false) :
    dmcCtrlWrite w s =
      if s.mode.needsDram then refuseSelfRefresh s
      else if s.get DMC_STAT_STATE = dmcSelfref then s.set DMC_CTRL_SR 0
      else modDmc (fun d => { d with entering := true }) s := by
  simp only [dmcCtrlWrite, hsr, hsrx, if_true, Bool.false_eq_true, if_false]

theorem dmcCtrlWrite_srx (hsr : wrote w DMC_CTRL_SR = false) (hsrx : wrote w DMC_CTRL_SRX = true)
    (hstate : s.get DMC_STAT_STATE = dmcSelfref) : dmcCtrlWrite w s = exitSelfRefresh s := by
  simp only [dmcCtrlWrite, hsr, hsrx, hstate, if_true, Bool.false_eq_true, if_false]

end

/-- Settles O27: each row of the upkeep by the branch of its command that the hypotheses choose. -/
theorem dramUpkeepAndSelfRefreshTakeEffect : Obligations.DramUpkeepAndSelfRefreshTakeEffect := by
  refine ⟨?failed, ?passed, ?zerofill, ?refresh, ?mr4, ?maintenance, ?ctrl, ?auto, ?entered, ?exited⟩
  case failed =>
    intro dt k ch mr4 s t hlow hhigh hstate
    have hstep : (k - 1) % 7 + 1 = k := by omega
    refine exec_next_of_eq rfl (congrArg loadEnds ((if_pos hstate).trans ?_))
    dsimp only
    rw [hstep]
  case passed => exact fun dt mr4 s hstate => exec_next_of_eq rfl (congrArg loadEnds (if_pos hstate))
  case zerofill => exact fun dt s hstate => exec_next_of_eq rfl (if_pos hstate)
  case refresh =>
    intro dt rank s t n hruns hrank
    have hdue : exec (.refreshDue dt rank) s = _ := exec_next_of_eq rfl (refreshDue_on_rank hruns hrank)
    refine ⟨fun hearly => exec_next_of_eq hdue (if_pos hearly), fun hnone hreads => ⟨fun hfew => ?postponed, fun height hfree => ?forced⟩,
      fun hnone hquiet => ?issued⟩
    case postponed =>
      exact exec_next_of_eq hdue ((if_neg (not_not.2 hnone)).trans ((if_pos hreads).trans (if_neg (fun h => hfew.ne h.1))))
    case forced =>
      exact exec_next_of_eq hdue ((if_neg (not_not.2 hnone)).trans ((if_pos hreads).trans (if_pos ⟨height, hfree⟩)))
    case issued =>
      exact exec_next_of_eq hdue ((if_neg (not_not.2 hnone)).trans (if_neg (Bool.eq_false_iff.1 hquiet)))
  case mr4 =>
    intro dt w s t hstate
    have hguard : (t.get DMC_STAT_STATE == dmcReady || t.get DMC_STAT_STATE == dmcZerofill) = true := by
      simpa only [Bool.or_eq_true, beq_iff_eq] using hstate
    exact exec_next_of_eq rfl (if_pos hguard)
  case maintenance =>
    intro dt reading s t hmay
    refine ⟨exec_next_of_eq rfl (if_pos hmay), fun hsmall => exec_next_of_eq rfl (if_neg ?_),
      fun hlarge => exec_next_of_eq rfl (if_pos ?_)⟩
    · rw [hmay, decide_eq_false hsmall.not_gt]; decide
    · rw [hmay, decide_eq_true hlarge]; rfl
  case ctrl =>
    intro dt acc w s t u hserve
    have hwritten := writeRow_serve acc _ t w (dmcCtrlWrite w) hserve
    refine ⟨fun hsr hsrx => ⟨fun hneeds => ?refused, fun hfree hstate => ?enters⟩, fun hsr hsrx hstate => ?exits⟩
    case refused => exact exec_next_of_eq rfl (hwritten.trans ((dmcCtrlWrite_sr hsr hsrx).trans (if_pos hneeds)))
    case enters =>
      exact exec_next_of_eq rfl (hwritten.trans ((dmcCtrlWrite_sr hsr hsrx).trans
        ((if_neg (Bool.eq_false_iff.1 hfree)).trans (if_neg hstate))))
    case exits => exact exec_next_of_eq rfl (hwritten.trans (dmcCtrlWrite_srx hsr hsrx hstate))
  case auto =>
    intro dt s t hauto hstate hfree hqueue hidle
    exact exec_next_of_eq rfl (if_pos (by rw [hauto, hstate, hfree, hqueue, hidle]; rfl))
  case entered =>
    intro dt s t hentering hstate hqueue
    exact exec_next_of_eq rfl (if_pos (by rw [hentering, hstate, hqueue]; rfl))
  case exited =>
    intro dt s t hexiting hstate
    exact exec_next_of_eq rfl (if_pos (by rw [hexiting, hstate]; rfl))

end Sys2Proof.Machine
end

section
/-!
SUPPORT. The statements of 15_nonvolatile.md on the flash and the one-time row: the commands of FLS_CMD by their OP, the ends of
operations, reads of the flash window and programmings.
-/

namespace Sys2Proof.Machine

/-! ### Writes of FLS_CMD (R426) -/

section
variable {acc : Access} {srcErr finished : Bool} {w : Word} {u : State} (hgo : wrote w FLS_CMD_GO = true)
include hgo

/-- PROGRAM, ERASE, UNLOCK, LOCK and SETREGION are ignored while another operation runs. -/
theorem flsCmdWrite_rejected (hop : u.get FLS_CMD_OP ∈ [1, 2, 6, 7, 8])
    (hbusy : u.fls.op.isSome = true ∨ u.fls.prot.isSome = true) :
    flsCmdWrite acc srcErr finished w u = raise FLS_INT_STAT_CMDREJ (flsStatus u) := by
  simp only [List.mem_cons, List.not_mem_nil, or_false] at hop
  rcases hop with hop | hop | hop | hop | hop <;>
    simp only [flsCmdWrite, hgo, hop, Bool.or_eq_true, hbusy, Bool.not_true, Bool.false_eq_true, if_false, if_true]

section
variable (hop : u.fls.op = none) (hprot : u.fls.prot = none)
include hop hprot

theorem flsCmdWrite_program (h : u.get FLS_CMD_OP = 1) :
    flsCmdWrite acc srcErr finished w u = flsProgram acc srcErr u := by
  simp [flsCmdWrite, hgo, h, hop, hprot]

theorem flsCmdWrite_erase (h : u.get FLS_CMD_OP = 2) : flsCmdWrite acc srcErr finished w u = flsErase acc u := by
  simp [flsCmdWrite, hgo, h, hop, hprot]

theorem flsCmdWrite_unlock (h : u.get FLS_CMD_OP = 6) : flsCmdWrite acc srcErr finished w u = flsUnlock acc u := by
  simp [flsCmdWrite, hgo, h, hop, hprot]

theorem flsCmdWrite_lock (h : u.get FLS_CMD_OP = 7) : flsCmdWrite acc srcErr finished w u = flsLock acc u := by
  simp [flsCmdWrite, hgo, h, hop, hprot]

theorem flsCmdWrite_setRegion (h : u.get FLS_CMD_OP = 8) :
    flsCmdWrite acc srcErr finished w u = flsSetRegion acc u := by
  simp [flsCmdWrite, hgo, h, hop, hprot]

end

theorem flsCmdWrite_suspend (h : u.get FLS_CMD_OP = 3) :
    flsCmdWrite acc srcErr finished w u = clearPassword (flsSuspend u) := by
  simp only [flsCmdWrite, hgo, h, Bool.not_true, Bool.false_eq_true, if_false]

theorem flsCmdWrite_resume (h : u.get FLS_CMD_OP = 4) :
    flsCmdWrite acc srcErr finished w u = clearPassword (flsResume u) := by
  simp only [flsCmdWrite, hgo, h, Bool.not_true, Bool.false_eq_true, if_false]

theorem flsCmdWrite_abort (h : u.get FLS_CMD_OP = 5) :
    flsCmdWrite acc srcErr finished w u = clearPassword (flsAbort finished u) := by
  simp only [flsCmdWrite, hgo, h, Bool.not_true, Bool.false_eq_true, if_false]

theorem flsCmdWrite_undefined (h : u.get FLS_CMD_OP = 0 ∨ 8 < u.get FLS_CMD_OP) :
    flsCmdWrite acc srcErr finished w u = flsEnd flsBadarg u := by
  simp only [flsCmdWrite, hgo, Bool.not_true, Bool.false_eq_true, if_false]
  split
  case h_9 => rfl
  all_goals omega

end

/-! ### The commands (R429 to R436) -/

section
variable {acc : Access} {u : State}

theorem flsProgram_protected {srcErr : Bool} (h : u.flsMayChange acc (u.get FLS_CMD_BLOCK) = false) :
    flsProgram acc srcErr u = flsEnd flsProtected u := if_pos (by rw [h]; rfl)

theorem flsErase_busy (h : u.fls.susp.isSome = true) : flsErase acc u = flsEnd flsBusy u := if_pos h

theorem flsErase_protected (hsusp : u.fls.susp = none) (h : u.flsMayChange acc (u.get FLS_CMD_BLOCK) = false) :
    flsErase acc u = flsEnd flsProtected u :=
  (if_neg (by rw [hsusp]; decide)).trans (if_pos (by rw [h]; rfl))

theorem flsErase_offers (hsusp : u.fls.susp = none) (h : u.flsMayChange acc (u.get FLS_CMD_BLOCK) = true) :
    flsErase acc u = flsRun (.erase (u.get FLS_CMD_BLOCK) u.jnl.nextTicket false)
      (jnlOffer recErase (payIntent (u.get FLS_CMD_BLOCK) 0 false) u) :=
  (if_neg (by rw [hsusp]; decide)).trans (if_neg (by rw [h]; decide))

theorem flsSuspend_running {b ticket : Nat} (h : u.fls.op = some (.erase b ticket true)) :
    flsSuspend u = flsStatus (modFls (fun f => { f with op := none, susp := some (.erase b ticket true) }) u) := by
  rw [flsSuspend, h]

theorem flsResume_suspended {e : FlsOp} (hop : u.fls.op = none) (hsusp : u.fls.susp = some e) :
    flsResume u = staleVerified e.block (flsStatus
      (modFls (fun f => { f with op := some e, susp := none, since := u.cycles }) u)) := by
  rw [flsResume, hop, hsusp]

theorem flsAbort_erase {b ticket : Nat} {started : Bool} (h : u.fls.op = some (.erase b ticket started)) :
    flsAbort false u = abortOp (.erase b ticket started) 0x140 (modFls (fun f => { f with op := none }) u) := by
  rw [flsAbort, h]
  rfl

theorem flsUnlock_lockout (h : 8 ≤ u.get FLS_STAT_FAILS) :
    flsUnlock acc u = raise FLS_INT_STAT_LOCKOUT (flsEnd flsLockout u) := if_pos h

theorem flsUnlock_runs (hfails : u.get FLS_STAT_FAILS < 8) (hmay : u.flsMayUnlock acc (u.get FLS_CMD_REGION) = true) :
    flsUnlock acc u = clearPassword (flsProtRun (.unlock (u.get FLS_CMD_REGION) u.flsPassword) u) :=
  (if_neg hfails.not_ge).trans (if_neg (by rw [hmay]; decide))

theorem flsLock_locks (hmay : u.flsMayUnlock acc (u.get FLS_CMD_REGION) = true) :
    flsLock acc u = flsEnd flsDone (modFls (fun f => { f with unlocked := f.unlocked.filter (· != u.get FLS_CMD_REGION) }) u) :=
  if_neg (by rw [hmay]; decide)

theorem flsSetRegion_stranger (h : acc.init ≠ initLapwing) : flsSetRegion acc u = flsEnd flsProtected u := if_pos (.inl h)

/-- Lapwing may set a region that is not valid, or that is unlocked. -/
theorem flsSetRegion_allowed (hinit : acc.init = initLapwing)
    (h : (u.flsRegion (u.get FLS_CMD_REGION)).valid = false ∨ u.flsLocked (u.get FLS_CMD_REGION) = false) :
    ¬(acc.init ≠ initLapwing ∨
      ((u.flsRegion (u.get FLS_CMD_REGION)).valid = true ∧ u.flsLocked (u.get FLS_CMD_REGION) = true)) := by
  rcases h with h | h <;> simp [hinit, h]

theorem flsSetRegion_reversed (hinit : acc.init = initLapwing) (hvalid : (u.flsRegion (u.get FLS_CMD_REGION)).valid = false)
    (h : u.get FLS_REGWR_END < u.get FLS_REGWR_START) : flsSetRegion acc u = flsEnd flsBadarg u :=
  (if_neg (flsSetRegion_allowed hinit (.inl hvalid))).trans (if_pos (.inl h))

theorem flsSetRegion_runs (hinit : acc.init = initLapwing)
    (hmay : (u.flsRegion (u.get FLS_CMD_REGION)).valid = false ∨ u.flsLocked (u.get FLS_CMD_REGION) = false)
    (horder : u.get FLS_REGWR_START ≤ u.get FLS_REGWR_END)
    (hapart : ∀ q : Nat, q < 4 → q ≠ u.get FLS_CMD_REGION → (u.flsRegion q).valid = true →
      (u.flsRegion q).stop < u.get FLS_REGWR_START ∨ u.get FLS_REGWR_END < (u.flsRegion q).start) :
    flsSetRegion acc u = clearPassword (flsProtRun (.setRegion (u.get FLS_CMD_REGION)
      { start := u.get FLS_REGWR_START, stop := u.get FLS_REGWR_END, wp := u.is FLS_REGWR_WP, rp := u.is FLS_REGWR_RP,
        core := u.is FLS_REGWR_CORE, valid := u.is FLS_REGWR_VALID, password := u.flsPassword }) u) := by
  refine (if_neg (flsSetRegion_allowed hinit hmay)).trans (if_neg ?_)
  rintro (hreversed | hoverlaps)
  · exact horder.not_gt hreversed
  · simp only [List.any_eq_true, List.mem_range, Bool.and_eq_true, bne_iff_ne, decide_eq_true_eq] at hoverlaps
    obtain ⟨q, hq, ⟨hother, hvalid⟩, hstart, hstop⟩ := hoverlaps
    rcases hapart q hq hother hvalid with h | h <;> omega

end

/-- Settles O28: each OP of FLS_CMD by the branch of its command that the hypotheses choose. -/
theorem flashCommandsActByTheirOp : Obligations.FlashCommandsActByTheirOp := by
  intro dt acc w srcErr s t u op hserve hgo
  have served {c : Instr} {srcErr finished : Bool} {v : State} (hv : flsCmdWrite acc srcErr finished w u = v)
      (hc : exec c s = .next (after dt s (flsCmdRow acc w srcErr finished t))) : exec c s = .next (after dt s v) :=
    exec_next_of_eq hc ((writeRow_serve acc _ t w _ hserve).trans hv)
  refine ⟨fun hbusy => ?busy, fun hop hprot => ?free, fun b ticket h hruns => ?suspend, fun e h hop hsusp => ?resume,
    fun b ticket started h hruns => ?abort, fun h => served (flsCmdWrite_undefined hgo h) rfl⟩
  case busy =>
    have rejects {c : Instr} {srcErr : Bool} (h : op ∈ [1, 2, 6, 7, 8])
        (hc : exec c s = .next (after dt s (flsCmdRow acc w srcErr false t))) := served (flsCmdWrite_rejected hgo h hbusy) hc
    refine ⟨fun h => rejects ?_ rfl, fun h => rejects ?_ rfl, fun h => rejects ?_ rfl, fun h => rejects ?_ rfl,
      fun h => rejects ?_ rfl⟩ <;> rw [h] <;> decide
  case free =>
    have program (h : op = 1) := flsCmdWrite_program (acc := acc) (srcErr := srcErr) (finished := false) hgo hop hprot h
    have erase (h : op = 2) := flsCmdWrite_erase (acc := acc) (srcErr := false) (finished := false) hgo hop hprot h
    have unlock (h : op = 6) := flsCmdWrite_unlock (acc := acc) (srcErr := false) (finished := false) hgo hop hprot h
    have lock (h : op = 7) := flsCmdWrite_lock (acc := acc) (srcErr := false) (finished := false) hgo hop hprot h
    have set (h : op = 8) := flsCmdWrite_setRegion (acc := acc) (srcErr := false) (finished := false) hgo hop hprot h
    exact ⟨fun h hdenied => served ((program h).trans (flsProgram_protected hdenied)) rfl,
      fun h => served (program h) rfl,
      fun h hsusp => served ((erase h).trans (flsErase_busy hsusp)) rfl,
      fun h hsusp hdenied => served ((erase h).trans (flsErase_protected hsusp hdenied)) rfl,
      fun h hsusp hmay => served ((erase h).trans (flsErase_offers hsusp hmay)) rfl,
      fun h hfails => served ((unlock h).trans (flsUnlock_lockout hfails)) rfl,
      fun h hfails hmay => served ((unlock h).trans (flsUnlock_runs hfails hmay)) rfl,
      fun h hmay => served ((lock h).trans (flsLock_locks hmay)) rfl,
      fun h hinit => served ((set h).trans (flsSetRegion_stranger hinit)) rfl,
      fun h hinit hvalid horder => served ((set h).trans (flsSetRegion_reversed hinit hvalid horder)) rfl,
      fun h hinit hmay horder hapart => served ((set h).trans (flsSetRegion_runs hinit hmay horder hapart)) rfl⟩
  case suspend => exact served ((flsCmdWrite_suspend hgo h).trans (congrArg clearPassword (flsSuspend_running hruns))) rfl
  case resume => exact served ((flsCmdWrite_resume hgo h).trans (congrArg clearPassword (flsResume_suspended hop hsusp))) rfl
  case abort => exact served ((flsCmdWrite_abort hgo h).trans (congrArg clearPassword (flsAbort_erase hruns))) rfl

/-! ### Ends of operations, reads and the one-time row (R424, R429, R431, R435, R439) -/

/-- Settles O29: each end by the operation under way and by the branch of its command that the hypotheses choose. -/
theorem flashOperationsAndOtpEndAsWritten : Obligations.FlashOperationsAndOtpEndAsWritten := by
  refine ⟨?start, ?programmed, ?erased, ?compared, ?region, ?read, ?otpGo, ?otpDone⟩
  case start =>
    intro dt b p k data s t hintent
    exact ⟨fun hop => exec_next_of_eq rfl (by dsimp only; rw [hop]; exact if_pos hintent),
      fun hop => exec_next_of_eq rfl (by dsimp only; rw [hop]; exact if_pos hintent)⟩
  case programmed => exact fun dt b p data s hop => exec_next_of_eq rfl (by dsimp only; rw [hop]; rfl)
  case erased => exact fun dt b k s hop => exec_next_of_eq rfl (by dsimp only; rw [hop]; rfl)
  case compared =>
    intro dt r pwd s t u hprot hdue
    have hcompares : exec (.passwordCompareEnd dt) s = .next (after dt s
        (if (u.flsRegion r).password = pwd then
          flsEnd flsDone (modFls (fun f => { f with unlocked := r :: f.unlocked.filter (· != r) }) u)
        else raise FLS_INT_STAT_PWDFAIL (flsEnd flsPwdfail (u.set FLS_STAT_FAILS (min 8 (u.get FLS_STAT_FAILS + 1)))))) :=
      exec_next_of_eq rfl (by dsimp only; rw [hprot]; exact if_pos hdue)
    exact ⟨fun hright => exec_next_of_eq hcompares (if_pos hright), fun hwrong => exec_next_of_eq hcompares (if_neg hwrong)⟩
  case region => exact fun dt r g s hprot => exec_next_of_eq rfl (by dsimp only; rw [hprot])
  case read =>
    intro dt o n acc bad corrected s t
    refine ⟨fun hrefused => exec_next_of_eq rfl (if_pos hrefused), fun hwindow hopen => ?served⟩
    have hguard : ¬(0x800000 < o + n ∨ t.domainLocked domFls = true) := by
      rw [hopen]; simpa using hwindow
    exact ⟨fun w hwall => exec_next_of_eq rfl ((if_neg hguard).trans (by rw [hwall])),
      fun hwall => exec_next_of_eq rfl ((if_neg hguard).trans (by rw [hwall]))⟩
  case otpGo =>
    intro dt mv acc w s t u hserve hgo hidle
    exact exec_next_of_eq rfl ((writeRow_serve acc _ t w _ hserve).trans (if_pos (by rw [hgo, hidle]; rfl)))
  case otpDone =>
    intro dt w v ok s t fin hop
    refine ⟨fun hfree hok => ?written, fun hfree hbad => ?spoiled, fun r hrefused hr => ?refused⟩
    case written => subst hok; exact exec_next_of_eq rfl (by dsimp only; rw [hop]; dsimp only; rw [hfree]; rfl)
    case spoiled => subst hbad; exact exec_next_of_eq rfl (by dsimp only; rw [hop]; dsimp only; rw [hfree]; rfl)
    case refused => exact exec_next_of_eq rfl (by dsimp only; rw [hop]; dsimp only; rw [hrefused]; exact if_neg hr)

end Sys2Proof.Machine
end

section
/-!
SUPPORT. The statement of 15_nonvolatile.md on the journal: records accepted and durable, recovery, RESTATE, FORMAT and SLOT.
-/

namespace Sys2Proof.Machine

/-! ### Acceptance and durability (R441 to R446) -/

section
variable {r : JRec} {s : State} (hnext : s.jnlNextRecord = some (r, false))
include hnext

theorem journalRecord_refused (hready : s.jnlIsReady = false) :
    journalRecord s = onlyIf (r.type == recResv) (raise SEC_INT_STAT_RESVFAIL) (raise JNL_INT_STAT_REFUSED
      (modJnl (fun j => { j with offered := j.offered.drop 1, refused := r.ticket :: j.refused }) s)) := by
  rw [journalRecord, hnext]
  exact (if_pos (by rw [hready]; rfl)).trans (if_neg Bool.false_ne_true)

variable (hready : s.jnlIsReady = true)
include hready

theorem journalRecord_ready :
    journalRecord s =
      if s.sweepFull then sweep (raise JNL_INT_STAT_LAG s)
      else if (jnlCarry s).sweepFull then raise JNL_INT_STAT_LAG (jnlCarry s)
      else jnlTake r (jnlCarry (modJnl (fun j => { j with offered := j.offered.drop 1 }) s)) := by
  rw [journalRecord, hnext]
  exact if_neg (by rw [hready]; decide)

theorem journalRecord_lags (h : 512 ≤ s.sweepLag) : journalRecord s = sweep (raise JNL_INT_STAT_LAG s) :=
  (journalRecord_ready hnext hready).trans (if_pos (decide_eq_true h))

variable (hkeeps : s.sweepLag < 512)
include hkeeps

theorem journalRecord_carries (h : 512 ≤ (jnlCarry s).sweepLag) :
    journalRecord s = raise JNL_INT_STAT_LAG (jnlCarry s) :=
  (journalRecord_ready hnext hready).trans
    ((if_neg (mt of_decide_eq_true hkeeps.not_ge)).trans (if_pos (decide_eq_true h)))

theorem journalRecord_accepts (h : (jnlCarry s).sweepLag < 512) :
    journalRecord s = jnlTake r (jnlCarry (modJnl (fun j => { j with offered := j.offered.drop 1 }) s)) :=
  (journalRecord_ready hnext hready).trans
    ((if_neg (mt of_decide_eq_true hkeeps.not_ge)).trans (if_neg (mt of_decide_eq_true h.not_ge)))

end

/-- The words of the oldest accepted record are written, the second one of an intent excepted. -/
theorem recordDurable_oldest {p : Nat} {r : JRec} {rest : List (Nat × JRec)} {s : State}
    (h : s.jnl.accepted = (p, r) :: rest) :
    recordDurable s =
      let u := jnlPut (2 * (p % logSlots)) (recWord0 p r) (modJnl (fun j => { j with accepted := rest }) s)
      let v := if r.whole = true then jnlPut (2 * (p % logSlots) + 1) (recWord1 p r) u
        else modJnl (fun j => { j with intents := (r.ticket, p, r) :: j.intents }) u
      sweep (durableEffect r (onlyIf (p % logSlots == 0) (fun s => emit 0x181 0 (raise JNL_INT_STAT_WRAP s)) v)) := by
  rw [recordDurable, h]
  cases hwhole : r.whole <;> simp only [hwhole, Bool.not_true, Bool.not_false, Bool.false_eq_true, if_true, if_false]

/-! ### Recovery, RESTATE, FORMAT and SLOT (R443, R447 to R449) -/

theorem journalRecovery_failed (time : Nat) (s : State) :
    journalRecovery true time s = raise JNL_INT_STAT_RECDONE (s.set JNL_STAT_STATE jnlFailed) := by
  rw [journalRecovery]
  exact if_pos (Bool.true_or _)

section
variable {w : Word} {s : State}

theorem jnlCtrlWrite_restate (hrestate : wrote w JNL_CTRL_RESTATE = true) (hformat : wrote w JNL_CTRL_FORMAT = false)
    (hidle : s.jnl.restate = none) : jnlCtrlWrite w s = modJnl (fun j => { j with restate := some 0 }) s := by
  simp [jnlCtrlWrite, hrestate, hformat, hidle]

theorem jnlCtrlWrite_format (hrestate : wrote w JNL_CTRL_RESTATE = false) (hformat : wrote w JNL_CTRL_FORMAT = true)
    (hidle : s.jnl.formatting = false) :
    jnlCtrlWrite w s =
      if s.lifeCycle = lcBlank ∨ s.lifeCycle = lcMaker ∨ s.lifeCycle = lcReturn then
        modJnl (fun j => { j with formatting := true }) (s.set JNL_STAT_STATE jnlFormatting)
      else s.set JNL_CTRL_FORMAT 0 := by
  simp [jnlCtrlWrite, hrestate, hformat, hidle]

theorem slotCmdWrite_go {old : Word} (hslot : extractBits w 0 2 < 2) (hgo : wrote w JNL_SLOTCMD_GO = true)
    (hidle : s.jnl.slotTicket = none) :
    slotCmdWrite old w s = modJnl (fun j => { j with slotTicket := some s.jnl.nextTicket })
      (jnlOffer recSlot (paySlot (s.get JNL_SLOTCMD_SLOT) (s.get JNL_ISEQ_ISEQ)) s) :=
  (if_neg hslot.not_ge).trans (if_pos (by rw [hgo, hidle]; rfl))

end

/-- Settles O30: each row of the journal by the branch of its command that the hypotheses choose. -/
theorem journalRecordsReachTheirWords : Obligations.JournalRecordsReachTheirWords := by
  refine ⟨?accept, ?durable, ?recovery, ?ctrl, ?formatted, ?restated, ?slot⟩
  case accept =>
    intro dt r s t hnext
    refine ⟨fun hready hkeeps hroom => exec_next_of_eq rfl (journalRecord_accepts hnext hready hkeeps hroom),
      fun hready hlags => exec_next_of_eq rfl (journalRecord_lags hnext hready hlags),
      fun hready hkeeps hfull => exec_next_of_eq rfl (journalRecord_carries hnext hready hkeeps hfull),
      fun hready => ⟨fun hresv => exec_next_of_eq rfl ?reservation, fun hother => exec_next_of_eq rfl ?other⟩⟩
    case reservation => rw [journalRecord_refused hnext hready, beq_iff_eq.2 hresv]; rfl
    case other => rw [journalRecord_refused hnext hready, beq_eq_false_iff_ne.2 hother]; rfl
  case durable =>
    intro dt p r rest s t u v holdest
    have hwritten : exec (.recordDurable dt) s = _ := exec_next_of_eq rfl (recordDurable_oldest holdest)
    refine ⟨fun hinside => exec_next_of_eq hwritten ?inside, fun hwraps => exec_next_of_eq hwritten ?wraps⟩
    case inside => rw [beq_eq_false_iff_ne.2 hinside]; rfl
    case wraps => rw [beq_iff_eq.2 hwraps]; rfl
  case recovery =>
    intro dt time err s t hmode hstate hdram
    refine ⟨exec_next_of_eq rfl ?runs, fun herr => ?fails⟩
    case runs => exact if_pos (by rw [hmode, hstate, hdram]; rfl)
    case fails => subst herr; exact journalRecovery_failed time t
  case ctrl =>
    intro dt acc w s t u hserve
    have hwritten := writeRow_serve acc _ t w (jnlCtrlWrite w) hserve
    refine ⟨fun hrestate hformat hidle => exec_next_of_eq rfl (hwritten.trans (jnlCtrlWrite_restate hrestate hformat hidle)),
      fun hrestate hformat hidle => ⟨fun hmay => ?starts, fun hblank hmaker hreturn => ?cleared⟩⟩
    case starts =>
      exact exec_next_of_eq rfl (hwritten.trans ((jnlCtrlWrite_format hrestate hformat hidle).trans (if_pos hmay)))
    case cleared =>
      have hmay : ¬(u.lifeCycle = lcBlank ∨ u.lifeCycle = lcMaker ∨ u.lifeCycle = lcReturn) := by
        rintro (h | h | h)
        exacts [hblank h, hmaker h, hreturn h]
      exact exec_next_of_eq rfl (hwritten.trans ((jnlCtrlWrite_format hrestate hformat hidle).trans (if_neg hmay)))
  case formatted => exact fun dt s hformatting => exec_next_of_eq rfl (if_pos hformatting)
  case restated =>
    intro dt s t hrestate haccepted
    exact exec_next_of_eq rfl (by dsimp only; rw [hrestate]; exact if_pos ⟨rfl, haccepted⟩)
  case slot =>
    intro dt acc w s t u hserve
    have hwritten := writeRow_serve acc _ t w (slotCmdWrite (t.word 0x20060018) w) hserve
    exact ⟨fun hbad => exec_next_of_eq rfl (hwritten.trans (if_pos hbad)),
      fun hslot hgo hidle => exec_next_of_eq rfl (hwritten.trans (slotCmdWrite_go hslot hgo hidle))⟩

end Sys2Proof.Machine
end

section
/-!
SUPPORT. The statement of 17_lapwing.md on the resets that software asks for, the watchdogs and the sensors.
-/

namespace Sys2Proof.Machine

section
variable {w : Word} {s : State} (hkey : extractBits w 0 8 = 0x4B)
include hkey

theorem kickKey_eq_true : kickKey w = true := beq_iff_eq.2 hkey

theorem wdtKickWrite_inTime (h : (s.setWord 0x20030024 0).cycles < (s.setWord 0x20030024 0).wdtEnd) :
    wdtKickWrite w s = modLpw (fun l => { l with wdtFrom := (s.setWord 0x20030024 0).cycles, warned := false })
      (s.setWord 0x20030024 0) :=
  if_pos (by rw [kickKey_eq_true hkey, decide_eq_true h]; rfl)

theorem supKickWrite_other {acc : Access} {c : Nat} (h : acc.init ≠ (if c = 0 then initHart0 else initHart1)) :
    supKickWrite acc c w s = { s.setWord (supKickAddr c) 0 with resp := .error } :=
  if_pos (by rw [kickKey_eq_true hkey, bne_iff_ne.2 h]; rfl)

theorem supKickWrite_inTime {acc : Access} {c : Nat} (hinit : acc.init = (if c = 0 then initHart0 else initHart1))
    (h : (s.setWord (supKickAddr c) 0).cycles < (s.setWord (supKickAddr c) 0).supEnd c) :
    supKickWrite acc c w s = modLpw (fun l => { l with
      supFrom := (c, (s.setWord (supKickAddr c) 0).cycles) :: l.supFrom.filter (fun e => e.1 != c) })
      (s.setWord (supKickAddr c) 0) :=
  (if_neg (by rw [hinit, bne_self_eq_false, Bool.and_false]; exact Bool.false_ne_true)).trans
    (if_pos (by rw [kickKey_eq_true hkey, decide_eq_true h]; rfl))

end

theorem wdtKickWrite_late {w : Word} {s : State}
    (h : (s.setWord 0x20030024 0).wdtEnd ≤ (s.setWord 0x20030024 0).cycles) :
    wdtKickWrite w s = s.setWord 0x20030024 0 :=
  if_neg (by rw [decide_eq_false h.not_gt, Bool.and_false]; exact Bool.false_ne_true)

theorem supKickWrite_noKey {acc : Access} {c : Nat} {w : Word} {s : State} (h : extractBits w 0 8 ≠ 0x4B) :
    supKickWrite acc c w s = s.setWord (supKickAddr c) 0 := by
  have hkey : kickKey w = false := beq_eq_false_iff_ne.2 h
  simp only [supKickWrite, hkey, Bool.false_and, Bool.false_eq_true, if_false]

/-- Settles O32: each row by the branch of its command that the hypotheses choose. -/
theorem lapwingWatchesAndResets : Obligations.LapwingWatchesAndResets := by
  refine ⟨?reset, ?maker, ?kick, ?watchdog, ?supKick, ?supervisor, ?release, ?logMark, ?sensor⟩
  case reset =>
    intro dt acc w s t u hserve
    have hwritten := writeRow_serve acc rstCmdAddr t w (rstCmdWrite w) hserve
    exact ⟨fun hkey => exec_next_of_eq rfl (hwritten.trans (if_pos hkey)),
      fun hkey => exec_next_of_eq rfl (hwritten.trans (if_neg hkey))⟩
  case maker =>
    intro dt acc w s t x u hserve hkey
    exact exec_next_of_eq rfl ((writeRow_serve acc rstCmdAddr t x (rstCmdWrite x) hserve).trans (if_pos hkey))
  case kick =>
    intro dt acc w s t u hserve hkey
    have hwritten := writeRow_serve acc _ t w (wdtKickWrite w) hserve
    exact ⟨fun h => exec_next_of_eq rfl (hwritten.trans (wdtKickWrite_inTime hkey h)),
      fun h => exec_next_of_eq rfl (hwritten.trans (wdtKickWrite_late h))⟩
  case watchdog =>
    intro dt s t hpower hmode
    refine ⟨fun hwarned hfrom hto => exec_next_of_eq rfl (if_pos ?warns),
      fun hend => exec_next_of_eq rfl (if_pos ?expires)⟩
    case warns =>
      show (t.lpw.powerGood && !t.mode.romKicks && !t.lpw.warned && decide _) = true
      rw [hpower, hmode, hwarned, decide_eq_true ⟨hfrom, hto⟩]; rfl
    case expires =>
      show (t.lpw.powerGood && !t.mode.romKicks && decide _) = true
      rw [hpower, hmode, decide_eq_true hend]; rfl
  case supKick =>
    intro dt c acc w s t u hc hserve
    have hwritten : (if c < 2 then writeRow acc (supKickAddr c) w (supKickWrite acc c w) t else t) = _ :=
      (if_pos hc).trans (writeRow_serve acc _ t w (supKickWrite acc c w) hserve)
    exact ⟨fun hkey hinit h => exec_next_of_eq rfl (hwritten.trans (supKickWrite_inTime hkey hinit h)),
      fun hkey hinit => exec_next_of_eq rfl (hwritten.trans (supKickWrite_other hkey hinit)),
      fun hkey => exec_next_of_eq rfl (hwritten.trans (supKickWrite_noKey hkey))⟩
  case supervisor =>
    intro dt c s t hc htimeout hend
    exact exec_next_of_eq rfl
      (if_pos (by rw [decide_eq_true hc, bne_iff_ne.2 htimeout, decide_eq_true hend]; rfl))
  case release =>
    intro dt c acc w s t u hc hserve hbit hheld
    have hwritten : (if c < 2 then writeRow acc (supStatAddr c) w (heldWrite c w) t else t) = _ :=
      (if_pos hc).trans (writeRow_serve acc _ t w (heldWrite c w) hserve)
    exact exec_next_of_eq rfl (hwritten.trans
      (if_pos (show (bitAt w.toNat 4 && (u.hart c).state == .held) = true by rw [hbit, hheld]; rfl)))
  case logMark => exact fun dt s hqueued => exec_next_of_eq rfl (if_pos hqueued)
  case sensor =>
    intro dt temps mv s t v hot x u old new hpower
    have hruns : ¬(!t.lpw.powerGood) = true := by rw [hpower]; decide
    exact ⟨fun hnew => exec_next_of_eq rfl ((if_neg hruns).trans (if_pos hnew)),
      fun hnew => exec_next_of_eq rfl ((if_neg hruns).trans (if_neg hnew))⟩

end Sys2Proof.Machine
end

section
/-!
SUPPORT. The statement of 17_lapwing.md on updates, the NVM pass-through, the life cycle, tokens and debug windows.
-/

namespace Sys2Proof.Machine

/-! ### GO of LPW_UPD_CMD (R487, R488) -/

section
variable {w : Word} {s : State} (hgo : wrote w LPW_UPD_CMD_GO = true) (hidle : s.is LPW_UPD_STAT_BUSY = false)
  (hlc : s.lpw.lc = none)
include hgo hidle hlc

theorem updCmdWrite_verify (hop : s.get LPW_UPD_CMD_OP = 1) :
    updCmdWrite w s = modLpw (fun l => { l with verifying := true }) (raise LPW_UPD_STAT_BUSY s) := by
  simp only [updCmdWrite, hgo, hidle, hlc, hop, Bool.not_true, Bool.or_false, Option.isSome_none, Bool.false_eq_true,
    if_false]

theorem updCmdWrite_activate (hop : s.get LPW_UPD_CMD_OP = 2) : updCmdWrite w s = activate s := by
  simp only [updCmdWrite, hgo, hidle, hlc, hop, Bool.not_true, Bool.or_false, Option.isSome_none, Bool.false_eq_true,
    if_false]

theorem updCmdWrite_badarg (hop : s.get LPW_UPD_CMD_OP = 0 ∨ s.get LPW_UPD_CMD_OP = 3) :
    updCmdWrite w s = endUpdate updBadarg s := by
  rcases hop with hop | hop <;>
    simp only [updCmdWrite, hgo, hidle, hlc, hop, Bool.not_true, Bool.or_false, Option.isSome_none,
      Bool.false_eq_true, if_false]

end

/-! ### GO of LPW_SPIX_CMD (R486) -/

section
variable {old w : Word} {s : State} (hidle : s.lpw.spix = none) (hgo : wrote w LPW_SPIX_CMD_GO = true)
include hidle hgo

theorem spixCmdWrite_go :
    spixCmdWrite old w s =
      if s.mode.romKicks || s.get LPW_SPIX_CMD_ALEN == 1 then raise LPW_INT_STAT_REFUSED (s.set LPW_SPIX_CMD_GO 0)
      else
        let v := onlyIf (s.is LPW_SPIX_CMD_DIR) (fun t => t.set LPW_UPD_STAT_VERIFIED 0) s
        let buf := v.get LPW_SPIX_BUF_OFFSET
        raise LPW_SPIX_CMD_BUSY (modLpw (fun l => { l with
          spix := some ((v.word spixCmdAddr).toNat, v.get LPW_SPIX_ADDR_ADDR, buf),
          spixOut := if v.is LPW_SPIX_CMD_DIR then
            Sparse.getRun blankByte v.lpwSram buf (spixLen (v.word spixCmdAddr).toNat buf) else [] }) v) := by
  simp only [spixCmdWrite, hidle, hgo, Option.isSome_none, Bool.not_true, Bool.false_eq_true, if_false]

end

/-! ### GO of LPW_LC_CMD (R490) -/

theorem lcCmdWrite_go {w : Word} {s : State} (hgo : wrote w LPW_LC_CMD_GO = true) :
    lcCmdWrite w s =
      if s.is LPW_LC_STAT_BUSY = true then lcEnds lcBusy s
      else if lcAllowed s.lifeCycle (s.get LPW_LC_CMD_TARGET) = false then lcEnds lcNotallowed s
      else if s.lcReady (s.get LPW_LC_CMD_TARGET) = false then lcEnds lcPrecond s
      else beginTransition (s.get LPW_LC_CMD_TARGET) s := by
  simp only [lcCmdWrite, hgo, Bool.not_true, Bool.false_eq_true, if_false, Bool.not_eq_true']

/-! ### Tokens (R493, R494) -/

theorem tokenVia_write {acc : Access} {w : Word} {s : State} (hserve : verdict acc tokCmdAddr true s = .serve) :
    tokenVia (.write acc w) s = tokCmdWrite w (written tokCmdAddr w s) :=
  writeRow_serve acc _ s w (tokCmdWrite w) hserve

theorem tokenVia_queue {s : State} (hwaits : s.qEmpty 63 = false) (hmagic : s.message63.take 4 = tokenMagic) :
    tokenVia .queue s = tokenArrives (some s.message63) (qAdvanceCi 63 s) :=
  if_neg (by rw [hwaits, hmagic, bne_self_eq_false]; exact Bool.false_ne_true)

/-- The five rows that bring a token differ in nothing until the check ends. -/
theorem exec_token {dt : Nat} {via : TokenVia} {v s : State} (h : tokenVia via (elapse dt s) = v) :
    exec (.cdebug dt via) s = .next (after dt s v) ∧ exec (.returnToken dt via) s = .next (after dt s v) ∧
    exec (.scrap dt via) s = .next (after dt s v) ∧ exec (.mdebug dt via) s = .next (after dt s v) ∧
    exec (.remake dt via) s = .next (after dt s v) := by
  subst h
  exact ⟨rfl, rfl, rfl, rfl, rfl⟩

/-- Settles O33: each row by the branch of its command that the hypotheses choose. -/
theorem updatesTokensAndTheLifeCycleTakeEffect : Obligations.UpdatesTokensAndTheLifeCycleTakeEffect := by
  refine ⟨?update, ?verified, ?drained, ?spix, ?spixdone, ?lc, ?lcDone, ?token, ?tokdone, ?debugEnd⟩
  case update =>
    intro dt acc w s t u hserve hgo hidle hlc
    have hwritten := writeRow_serve acc updCmdAddr t w (updCmdWrite w) hserve
    exact ⟨fun hop => exec_next_of_eq rfl (hwritten.trans (updCmdWrite_verify hgo hidle hlc hop)),
      fun hop => exec_next_of_eq rfl (hwritten.trans (updCmdWrite_activate hgo hidle hlc hop)),
      fun hop => exec_next_of_eq rfl (hwritten.trans (updCmdWrite_badarg hgo hidle hlc hop))⟩
  case verified => exact fun dt nvm bad s hverifying => exec_next_of_eq rfl (if_pos hverifying)
  case drained =>
    intro dt since s t u hfrom hends
    have hguard : (t.updateDrained || t.passed since (20 * msCycles)) = true := Bool.or_eq_true_iff.2 hends
    refine ⟨fun hverified => exec_next_of_eq rfl ?stands, fun hstale => exec_next_of_eq rfl ?stale⟩
    case stands => dsimp only; rw [hfrom]; exact (if_pos hguard).trans (by rw [hverified]; rfl)
    case stale => dsimp only; rw [hfrom]; exact (if_pos hguard).trans (by rw [hstale]; rfl)
  case spix =>
    intro dt acc w s t u v hserve hidle hgo
    have hwritten := (writeRow_serve acc spixCmdAddr t w (spixCmdWrite (t.word spixCmdAddr) w) hserve).trans
      (spixCmdWrite_go hidle hgo)
    refine ⟨fun hrefused => exec_next_of_eq rfl (hwritten.trans (if_pos ?refused)),
      fun hmode halen => exec_next_of_eq rfl (hwritten.trans (if_neg ?starts))⟩
    case refused => exact Bool.or_eq_true_iff.2 (hrefused.imp_right beq_iff_eq.2)
    case starts => exact Bool.eq_false_iff.1 (Bool.or_eq_false_iff.2 ⟨hmode, beq_eq_false_iff_ne.2 halen⟩)
  case spixdone =>
    intro dt cmd addr buf data s t n u hspix
    refine exec_next_of_eq rfl ?_
    dsimp only
    rw [hspix]
    cases hdir : bitAt cmd 17
    case false => simp only [hdir, u, n, spixLen, Bool.false_eq_true, if_false]; rfl
    case true => simp only [hdir, u, if_true]; rfl
  case lc =>
    intro dt acc w target u v s t hu htarget hv hserve hgo
    have hwritten : writeRow acc lcCmdAddr w (lcCmdWrite w) t = v := by
      subst hu htarget hv
      exact (writeRow_serve acc lcCmdAddr t w (lcCmdWrite w) hserve).trans (lcCmdWrite_go hgo)
    exact ⟨fun _ => exec_next_of_eq rfl hwritten, fun _ => exec_next_of_eq rfl hwritten,
      fun _ => exec_next_of_eq rfl hwritten⟩
  case lcDone =>
    intro dt copies run s t u hlc
    refine ⟨fun hfew => exec_next_of_eq rfl ?fuse, fun hall => exec_next_of_eq rfl ?done⟩
    case fuse => dsimp only; rw [hlc]; exact if_pos hfew
    case done => dsimp only; rw [hlc]; exact if_neg hall.not_gt
  case token =>
    intro dt via v s t
    refine ⟨fun acc w hvia hserve hv => ?byWrite, fun hvia hwaits hmagic hv => ?byQueue⟩
    case byWrite => subst hvia hv; exact exec_token (tokenVia_write hserve)
    case byQueue => subst hvia hv; exact exec_token (tokenVia_queue hwaits hmagic)
  case tokdone =>
    intro dt s t u
    refine ⟨fun hnone => exec_next_of_eq rfl ?unread, fun os hsome =>
      ⟨fun hok => exec_next_of_eq rfl ?accepted, fun hbad => exec_next_of_eq rfl ?rejected⟩⟩
    case unread => dsimp only; rw [hnone]; exact if_neg (show ¬tokRead = tokOk by decide)
    case accepted =>
      dsimp only; rw [hsome]
      exact (if_pos hok).trans (congrArg (fun r => applyToken os (tokenEnds (tokType os) r u)) hok)
    case rejected => dsimp only; rw [hsome]; exact if_neg hbad
  case debugEnd =>
    intro dt what stop s t hopen hstop
    exact exec_next_of_eq rfl (by dsimp only; rw [hopen]; exact if_pos hstop)

end Sys2Proof.Machine
end

section
/-!
SUPPORT. The statement of 18_power_domains.md on the sleep groups.
-/

namespace Sys2Proof.Machine

/-! ### The course of a sleep group (R513, R514) -/

section
variable {g d : Nat} {s : State}

theorem groupNext_done (h : s.nextMember g = none) : groupNext g s = groupDone g s := by
  rw [groupNext, h]

theorem groupNext_member (h : s.nextMember g = some d) :
    groupNext g s = if s.get (PWR_GRPg_CTRL_TARGET g) = 2 then beginWake d (wakeCode .group) s
      else beginEntry d (s.get (PWR_GRPg_CTRL_TARGET g)) s := by
  rw [groupNext, h]

theorem groupEntered_goesOn (hgroup : s.groupOf d = some g) (hstate : s.get (PWR_GRPg_STAT_STATE g) = grpCommit)
    (htarget : s.get (PWR_GRPg_CTRL_TARGET g) ≠ 2) (hrefuser : s.get (PWR_GRPg_STAT_REFUSER g) = 0) :
    groupEntered d s = groupNext g (modPwr (fun p => { p with stopped := (g, d) :: p.stopped }) s) := by
  rw [groupEntered, hgroup]
  exact (if_neg (not_or.2 ⟨not_not.2 hstate, htarget⟩)).trans (if_pos hrefuser)

section
variable {n : Nat} (hstate : s.get (PWR_GRPg_STAT_STATE g) = grpCommit)
include hstate

theorem commitRest_done (h : s.nextMember g = none) : commitRest (n + 1) g s = groupDone g s := by
  rw [commitRest, if_neg (not_not.2 hstate), h]

theorem commitRest_member (h : s.nextMember g = some d) :
    commitRest (n + 1) g s = commitRest n g
      (if s.get (PWR_GRPg_CTRL_TARGET g) = 2 then groupWoken d (domainOnNow d 5 0 s)
        else groupEntered d (enterState d (s.get (PWR_GRPg_CTRL_TARGET g)) s)) := by
  rw [commitRest, if_neg (not_not.2 hstate), h]

end

section
variable {n : Nat} (hstate : s.get (PWR_GRPg_STAT_STATE g) = grpRestoring)
include hstate

theorem restoreRest_ends (h : s.pwr.stopped.find? (fun e => e.1 == g) = none) :
    restoreRest (n + 1) g s = restoreEnds g s := by
  rw [restoreRest, if_neg (not_not.2 hstate), h]

theorem restoreRest_member {e : Nat × Nat} (h : s.pwr.stopped.find? (fun e => e.1 == g) = some e) :
    restoreRest (n + 1) g s = restoreRest n g (groupWoken e.2 (domainOnNow e.2 5 0 s)) := by
  rw [restoreRest, if_neg (not_not.2 hstate), h]

end

end

/-! ### Writes of PWR_GRPg_CTRL (R512, R515) -/

section
variable {acc : Access} {g : Nat} {old w : Word} {s : State}

theorem grpCtrlWrite_go (hidle : bitAt old.toNat 31 = false) (hgo : wrote w (PWR_GRPg_CTRL_GO g) = true)
    (habort : wrote w (PWR_GRPg_CTRL_ABORT g) = false) :
    grpCtrlWrite acc g old w s =
      if s.get (PWR_GRPg_CTRL_TARGET g) = 3 ∨ s.members g = [] then
        domainError 3 0 acc.init (s.set (PWR_GRPg_CTRL_GO g) 0)
      else
        let v := ((((s.set (PWR_GRPg_STAT_STATE g) grpPrepare).set (PWR_GRPg_STAT_LATE g) 0).set
          (PWR_GRPg_STAT_ABORT_LATE g) 0).set (PWR_GRPg_STAT_REFUSER g) 0).set (PWR_GRPg_STAT_REASON g) 0
        forEach (v.members g) (fun d x =>
          if (x.groupOf d).isSome then x else (x.set (PWR_DOMn_INGRP d) 1).set (PWR_DOMn_GROUP d) g) v := by
  simp only [grpCtrlWrite, groupGo, hidle, hgo, habort, Bool.false_eq_true, if_false, if_true]

theorem grpCtrlWrite_abort (hbusy : bitAt old.toNat 31 = true) (habort : wrote w (PWR_GRPg_CTRL_ABORT g) = true) :
    grpCtrlWrite acc g old w s = groupAbort g (s.set (PWR_GRPg_CTRL_TARGET g) (extractBits old 0 2)) := by
  simp only [grpCtrlWrite, hbusy, habort, if_true]

/-- ABORT clears itself and acts by the state of the group it finds. -/
theorem groupAbort_eq :
    groupAbort g s =
      let v := s.set (PWR_GRPg_CTRL_ABORT g) 0
      if v.get (PWR_GRPg_STAT_STATE g) = grpPrepare then refuseGroup g 0x3E 7 false v
      else if v.get (PWR_GRPg_STAT_STATE g) = grpCommit then lateRefusal g 0x3E 7 v
      else if v.get (PWR_GRPg_STAT_STATE g) = grpDone ∧ v.pwr.doneAt.elem (g, v.cycles) = true then
        raise (PWR_GRPg_STAT_ABORT_LATE g) v
      else v := rfl

end

/-- Settles O35: each row by the branch of its command that the hypotheses choose; the course of a group by one step of its
recursion. -/
theorem sleepGroupsVoteAndCommit : Obligations.SleepGroupsVoteAndCommit := by
  refine ⟨?go, ?vote, ?course, ?commit, ?restore, ?restoreStep, ?abort⟩
  case go =>
    intro dt g acc w s t a u hserve hidle hgo habort
    have hwritten := (writeRow_serve acc a t w (grpCtrlWrite acc g (t.word a) w) hserve).trans
      (grpCtrlWrite_go hidle hgo habort)
    exact ⟨fun hbad => exec_next_of_eq rfl (hwritten.trans (if_pos hbad)),
      fun htarget hmembers => exec_next_of_eq rfl (hwritten.trans (if_neg (not_or.2 ⟨htarget, hmembers⟩)))⟩
  case vote =>
    intro dt g busy s t votes hstate
    refine ⟨fun htarget => exec_next_of_eq rfl ?on, fun htarget hvotes => exec_next_of_eq rfl ?agreed,
      fun d r htarget hfirst => exec_next_of_eq rfl ?refused⟩
    case on => exact (if_neg (not_not.2 hstate)).trans (if_pos htarget)
    case agreed =>
      refine (if_neg (not_not.2 hstate)).trans ((if_neg htarget).trans ?_)
      show (match (match votes.find? (fun v => v.2 != 1) with | some v => some v | none => votes.head?) with
        | some (d, r) => refuseGroup g d r false t
        | none => beginCommit g t) = _
      rw [hvotes]; rfl
    case refused =>
      refine (if_neg (not_not.2 hstate)).trans ((if_neg htarget).trans ?_)
      show (match (match votes.find? (fun v => v.2 != 1) with | some v => some v | none => votes.head?) with
        | some (d, r) => refuseGroup g d r false t
        | none => beginCommit g t) = _
      rw [hfirst]
  case course =>
    intro n g u target done
    refine ⟨groupNext_done, fun d hnext => ⟨fun htarget => ?wakes, fun htarget => ?enters⟩, commitRest_done,
      fun d hstate hnext => ⟨fun htarget => ?woken, fun htarget => ?entered⟩, fun d => groupEntered_goesOn⟩
    case wakes => exact (groupNext_member hnext).trans (if_pos htarget)
    case enters => exact (groupNext_member hnext).trans (if_neg htarget)
    case woken => exact (commitRest_member hstate hnext).trans (congrArg _ (if_pos htarget))
    case entered => exact (commitRest_member hstate hnext).trans (congrArg _ (if_neg htarget))
  case commit =>
    intro dt g s t hstate hrefuser
    exact exec_next_of_eq rfl (if_pos (by rw [hstate, hrefuser]; rfl))
  case restore =>
    intro dt g s t hstate
    have hnotCommit : ¬(t.get (PWR_GRPg_STAT_STATE g) == grpCommit && t.get (PWR_GRPg_STAT_REFUSER g) != 0) = true := by
      rw [hstate]; exact Bool.false_ne_true
    exact exec_next_of_eq rfl (congrArg (restoreRest (domainCount + 1) g) (if_neg hnotCommit))
  case restoreStep =>
    exact fun n g u hstate => ⟨restoreRest_ends hstate, fun e => restoreRest_member hstate⟩
  case abort =>
    intro dt g acc w s t a u v hserve hbusy habort
    have hwritten := (writeRow_serve acc a t w (grpCtrlWrite acc g (t.word a) w) hserve).trans
      ((grpCtrlWrite_abort hbusy habort).trans groupAbort_eq)
    have notIn {st st' : Nat} (h : v.get (PWR_GRPg_STAT_STATE g) = st) (hne : st ≠ st') :
        ¬v.get (PWR_GRPg_STAT_STATE g) = st' := h ▸ hne
    refine ⟨fun hst => exec_next_of_eq rfl (hwritten.trans ?prepare), fun hst => exec_next_of_eq rfl (hwritten.trans ?inCommit),
      fun hst hnow => exec_next_of_eq rfl (hwritten.trans ?doneNow),
      fun hst hbefore => exec_next_of_eq rfl (hwritten.trans ?doneBefore)⟩
    case prepare => exact if_pos hst
    case inCommit => exact (if_neg (notIn hst (by decide))).trans (if_pos hst)
    case doneNow =>
      exact (if_neg (notIn hst (by decide))).trans ((if_neg (notIn hst (by decide))).trans (if_pos ⟨hst, hnow⟩))
    case doneBefore =>
      exact (if_neg (notIn hst (by decide))).trans ((if_neg (notIn hst (by decide))).trans
        (if_neg fun h => Bool.eq_false_iff.1 hbefore h.2))

end Sys2Proof.Machine
end

section
/-!
SUPPORT. The statement of 18_power_domains.md on the mains sense, holdover and the last gasp.
-/

namespace Sys2Proof.Machine

/-! ### The first phase of LASTGASP (R534) -/

theorem gaspFollows_eq (s : State) :
    gaspFollows s =
      if s.mode = .lastgasp ∧ s.hold.gaspDrain = true ∧
          (s.gaspBusy = false ∨ s.passed s.hold.gaspFrom (5 * msCycles) = true) then
        chainsChanged (forEach s.lastgaspOff lockOff (modHold (fun h => { h with gaspDrain := false }) s))
      else s := by
  unfold gaspFollows
  split
  next hmode => simp only [hmode, true_and]
  next hmode => rw [if_neg fun h => hmode h.1]

theorem gaspFollows_otherwise {s : State} (h : s.mode ≠ .lastgasp ∨ s.hold.gaspDrain = false) : gaspFollows s = s := by
  rw [gaspFollows_eq, if_neg]
  rintro ⟨hmode, hdrain, -⟩
  exact h.elim (· hmode) (Bool.eq_false_iff.1 · hdrain)

theorem gaspFollows_waits {s : State} (hbusy : s.gaspBusy = true) (htime : s.passed s.hold.gaspFrom (5 * msCycles) = false) :
    gaspFollows s = s := by
  rw [gaspFollows_eq, if_neg]
  rintro ⟨-, -, hidle⟩
  exact hidle.elim (Bool.eq_false_iff.1 · hbusy) (Bool.eq_false_iff.1 htime)

/-- Settles O36: each row by the branch of its command that the hypotheses choose. -/
theorem mainsSenseActsOnItsValues : Obligations.MainsSenseActsOnItsValues := by
  refine ⟨?halfCycle, ?crossing, ?frequency, ?loss, ?restore, ?limit, ?gasp, ?follows⟩
  case halfCycle => exact fun dt uv s hen => exec_next_of_eq rfl (if_pos hen)
  case crossing => exact fun dt ago s hen => exec_next_of_eq rfl (if_pos hen)
  case frequency =>
    intro dt mhz s t u dev hen
    exact ⟨fun hfar hfresh => exec_next_of_eq rfl ((if_pos hen).trans ((if_pos hfar).trans (if_neg (Bool.eq_false_iff.1 hfresh)))),
      fun hfar hstands => exec_next_of_eq rfl ((if_pos hen).trans ((if_pos hfar).trans (if_pos hstands))),
      fun hnear => exec_next_of_eq rfl ((if_pos hen).trans (if_neg hnear.not_gt))⟩
  case loss =>
    intro dt shut s t u hen hlost hgone
    have hguard : (t.is PWR_MS_CFG_EN && !t.is PWR_MS_STAT_LOST && (shut || t.passed t.mains.zcAt t.twoCycles)) = true := by
      rw [hen, hlost, Bool.or_eq_true_iff.2 hgone]; rfl
    exact ⟨fun hstate => exec_next_of_eq rfl ((if_pos hguard).trans (if_pos hstate)),
      fun hgood hrestoring => exec_next_of_eq rfl ((if_pos hguard).trans (if_neg (not_or.2 ⟨hgood, hrestoring⟩)))⟩
  case restore =>
    intro dt s t u hstate hlost hstable
    have hwhole : exec (.restoreTimer dt) s = .next (after dt s
        (match u.mode with
        | .holdover =>
          if u.storeLow then toLastgasp (emit 0x047 0 (raise PWR_MH_INT_STAT_STORELOW u))
          else if u.holdLimit then toLastgasp u
          else enterMode 20 .solo u
        | _ => u)) := exec_next_of_eq rfl (if_pos ⟨hstate, hlost, hstable⟩)
    refine ⟨fun hmode => ?solo, fun hmode hlow => ?low, fun hmode hlow hlimit => ?overdue, fun hmode hlow hlimit => ?ends⟩
    case solo => rw [hwhole, hmode]
    case low => exact exec_next_of_eq hwhole (by rw [hmode]; exact if_pos hlow)
    case overdue =>
      exact exec_next_of_eq hwhole (by rw [hmode]; exact (if_neg (Bool.eq_false_iff.1 hlow)).trans (if_pos hlimit))
    case ends =>
      exact exec_next_of_eq hwhole (by
        rw [hmode]; exact (if_neg (Bool.eq_false_iff.1 hlow)).trans (if_neg (Bool.eq_false_iff.1 hlimit)))
  case limit =>
    intro dt s t hmode hlimit
    exact exec_next_of_eq rfl (by dsimp only; rw [hmode]; exact if_pos hlimit)
  case gasp =>
    intro dt s t u hmode
    refine ⟨fun hleft hdue => exec_next_of_eq rfl ?status, fun hexpired => exec_next_of_eq rfl ?expires⟩
    case status => dsimp only; rw [hmode]; exact if_pos ⟨hleft, hdue⟩
    case expires => dsimp only; rw [hmode]; exact if_pos hexpired
  case follows =>
    exact fun t => ⟨gaspFollows_otherwise, fun _ _ => gaspFollows_waits,
      fun hmode hdrain hends => (gaspFollows_eq t).trans (if_pos ⟨hmode, hdrain, hends⟩)⟩

end Sys2Proof.Machine
end

section
/-!
SUPPORT. The statement of 18_power_domains.md on the hold-up store, the backup domain and its calendar.
-/

namespace Sys2Proof.Machine

/-! ### Writes of PWR_HU_CTRL (R527) -/

section
variable {w : Word} {s : State}

theorem huCtrlWrite_bleed (hclr : wrote w PWR_HU_CTRL_CLRFAULT = false) (hbleed : wrote w PWR_HU_CTRL_BLEED = true)
    (hon : s.huState ≠ huOff) : huCtrlWrite w s = huOutputs (huEnter huBleed s) := by
  simp only [huCtrlWrite, hclr, hbleed, hon, Bool.false_eq_true, if_false, if_true]

theorem huCtrlWrite_clrfault (hclr : wrote w PWR_HU_CTRL_CLRFAULT = true) (hbleed : wrote w PWR_HU_CTRL_BLEED = false)
    (hfault : (s.set PWR_HU_CTRL_CLRFAULT 0).huState = huFault) (hcause : (s.set PWR_HU_CTRL_CLRFAULT 0).huCause = none)
    (hdown : (s.set PWR_HU_CTRL_CLRFAULT 0).bledDown = true) :
    huCtrlWrite w s = huOutputs (huEnter huWait (s.set PWR_HU_CTRL_CLRFAULT 0)) := by
  simp only [huCtrlWrite, hclr, hbleed, hfault, hcause, hdown, Bool.false_eq_true, and_self, if_false, if_true]

end

/-! ### GO of BKP_SET_CMD (R541) -/

theorem setCmdWrite_both {w : Word} {s : State} (hgo : wrote w BKP_SET_CMD_GO = true) (hidle : s.is BKP_SET_CMD_BUSY = false)
    (htime : wrote w BKP_SET_CMD_TIME = true) (hdate : wrote w BKP_SET_CMD_DATE = true) :
    setCmdWrite w s =
      if timeLegal (s.word 0x20020008).toNat && dateLegal (s.word 0x2002000C).toNat then
        raise BKP_SET_CMD_BUSY (modBkp (fun b => { b with
          setFrom := some s.cycles, setTime := some (s.word 0x20020008).toNat, setDate := some (s.word 0x2002000C).toNat }) s)
      else bkpFlag bkpInvalid (raise BKP_STAT_DATE_INVALID (s.set BKP_SET_CMD_GO 0)) := by
  simp only [setCmdWrite, hgo, hidle, htime, hdate, Bool.not_true, Bool.or_false, Bool.false_eq_true, if_false, if_true,
    reduceCtorEq, and_self, Option.all_some]

/-- Settles O37: each row by the branch of its command that the hypotheses choose. -/
theorem storeAndBackupActAtTheirInstants : Obligations.StoreAndBackupActAtTheirInstants := by
  refine ⟨fun _ _ _ _ _ => rfl, ?fetOpen, ?fetClose, ?delay, ?trip, ?service, ?ctrl, ?bleedFail, ?supply, ?por, ?second,
    fun _ _ => rfl, ?calendar, ?applied⟩
  case fetOpen =>
    intro dt vin bus s t u hpower hidc hbelow
    have hguard : (t.lpw.powerGood && t.is PWR_HU_STAT_IDC && decide (vin + 20 ≤ bus)) = true := by
      rw [hpower, hidc, decide_eq_true hbelow]; rfl
    exact ⟨fun hstate => exec_next_of_eq rfl ((if_pos hguard).trans (if_pos hstate)),
      fun hcharge hready => exec_next_of_eq rfl ((if_pos hguard).trans (if_neg (not_or.2 ⟨hcharge, hready⟩)))⟩
  case fetClose =>
    intro dt vin bus s t u hpower hidc habove
    have hguard : (t.lpw.powerGood && !t.is PWR_HU_STAT_IDC && decide (bus + 10 ≤ vin)) = true := by
      rw [hpower, hidc, decide_eq_true habove]; rfl
    exact ⟨fun hstate => exec_next_of_eq rfl ((if_pos hguard).trans (if_pos hstate)),
      fun hstate => exec_next_of_eq rfl ((if_pos hguard).trans (if_neg hstate))⟩
  case delay => exact fun dt s hwait hidc htime => exec_next_of_eq rfl (if_pos ⟨hwait, hidc, htime⟩)
  case trip =>
    intro dt shunt s t ma u v hcharge hon hover
    have htrips : exec (.chargeTrip dt shunt) s = _ := exec_next_of_eq rfl (if_pos ⟨hcharge, hon, hover⟩)
    exact ⟨fun hfew => exec_next_of_eq htrips (if_neg hfew.not_ge), fun hmany => exec_next_of_eq htrips (if_pos hmany)⟩
  case service =>
    intro dt low s t u
    refine ⟨fun hlow hon => exec_next_of_eq rfl ?bleeds, fun hhigh => exec_next_of_eq rfl ?stays⟩
    case bleeds => exact if_pos (show (low && u.huState != huOff) = true by rw [hlow, bne_iff_ne.2 hon]; rfl)
    case stays => exact if_neg (by rw [hhigh]; exact Bool.false_ne_true)
  case ctrl =>
    intro dt acc w s t u v hserve
    have hwritten := writeRow_serve acc huCtrlAddr t w (huCtrlWrite w) hserve
    exact ⟨fun hclr hbleed hon => exec_next_of_eq rfl (hwritten.trans (huCtrlWrite_bleed hclr hbleed hon)),
      fun hclr hbleed hfault hcause hdown =>
        exec_next_of_eq rfl (hwritten.trans (huCtrlWrite_clrfault hclr hbleed hfault hcause hdown))⟩
  case bleedFail =>
    exact fun dt s hstate hbled hfresh htime => exec_next_of_eq rfl (if_pos ⟨hstate, hbled, hfresh, htime⟩)
  case supply =>
    intro dt aon vbat s t
    refine ⟨fun hon haon hvbat => exec_next_of_eq rfl ((if_pos hon).trans (if_pos ⟨haon, hvbat⟩)),
      fun hoff hfalls => exec_next_of_eq rfl ((if_neg (Bool.eq_false_iff.1 hoff)).trans (if_pos hfalls)),
      fun hoff hvbat haon => exec_next_of_eq rfl ((if_neg (Bool.eq_false_iff.1 hoff)).trans (if_neg ?keeps))⟩
    case keeps => exact not_or.2 ⟨hvbat.not_gt, haon.not_gt⟩
  case por =>
    exact fun dt mv s => ⟨fun hlow => exec_next_of_eq rfl (if_pos (decide_eq_true hlow)),
      fun hhigh => exec_next_of_eq rfl (if_neg (mt of_decide_eq_true hhigh.not_gt))⟩
  case second =>
    intro dt s t u hset
    have hticks : exec (.rtcSecond dt) s = _ := exec_next_of_eq rfl (if_neg fun h => hset h.1)
    exact ⟨fun hno => exec_next_of_eq hticks (if_neg (Bool.eq_false_iff.1 hno)),
      fun hwraps => exec_next_of_eq hticks (if_pos hwraps)⟩
  case calendar =>
    intro dt acc w s t u time date hserve hgo hidle htime hdate
    have hwritten := (writeRow_serve acc setCmdAddr t w (setCmdWrite w) hserve).trans
      (setCmdWrite_both hgo hidle htime hdate)
    refine ⟨fun hlegalTime hlegalDate => exec_next_of_eq rfl (hwritten.trans (if_pos ?legal)),
      fun hillegal => exec_next_of_eq rfl (hwritten.trans (if_neg ?illegal))⟩
    case legal => exact Bool.and_eq_true_iff.2 ⟨hlegalTime, hlegalDate⟩
    case illegal =>
      intro h
      obtain ⟨hlegalTime, hlegalDate⟩ := Bool.and_eq_true_iff.1 h
      exact hillegal.elim (Bool.eq_false_iff.1 · hlegalTime) (Bool.eq_false_iff.1 · hlegalDate)
  case applied =>
    intro dt since s t hset
    exact exec_next_of_eq rfl (by dsimp only; rw [hset])

end Sys2Proof.Machine
end
